-- ==== Sys2Proof/Word.lean ====
section
/-! DEFINITION. Sys2Proof/Word.lean: the register word, the byte, and the place of a register field. -/
namespace Sys2Proof

/-- A 64-bit register or table word (R8, R11). -/
abbrev Word := BitVec 64

/-- A byte of a memory. -/
abbrev Byte := BitVec 8

/-- Where a register field lies: the register address A (R442) and its bits [hi:lo]. -/
structure Fld where
  addr : Nat
  hi : Nat
  lo : Nat
deriving DecidableEq, Repr

end Sys2Proof
end

