-- ==== Sys2Proof/Types.lean ====
section
/-! DEFINITION. Sys2Proof/Types.lean: the things that travel: flits, link control words, packets of the Ethernet ports, and
what the module emits to the outside. -/
namespace Sys2Proof

/-- One 400-byte flit (R126, R127, R156): header fields, the 384 payload bytes as one little-endian number (payload word
k is bits [256k+255:256k]), and trailer fields. `fmt` and `tag` are the scheduled header's, `lat`, `dest` and `age` the
loose header's. -/
structure Flit where
  cls : Nat := 0
  vc : Nat := 0
  epoch : Nat := 0
  mitten : Nat := 0
  fmt : Nat := 0
  tag : Nat := 0
  void : Bool := false
  poison : Bool := false
  origSeq : Nat := 0
  lat : Bool := false
  dest : Nat := 0
  age : Nat := 0
  payload : Nat := 0
  seq : Nat := 0
  resent : Bool := false
  moved : Bool := false
  carriedV : Bool := false
  carried : Nat := 0
deriving DecidableEq, Repr, Inhabited

/-- What the module sends to the outside, in order. -/
inductive Emission where
  /-- A flit departs on a link in a crown stitch: the 3,200 bits of its slot, lowest first (R126, R127). -/
  | flit (link stitch : Nat) (bits : Nat)
  /-- A link has sent a whole frame that started at a crown tick: the 10-bit symbols of each lane in the order sent (R122). Its
  slots hold the flits and LCWs above, and null flits elsewhere (R128). -/
  | frame (link tick : Nat) (lanes : List (List Nat))
  /-- A link in training sends a training frame (R144). -/
  | training (link : Nat) (bits : Nat)
  /-- A 192-bit link control word leaves on a link (R130). -/
  | lcw (link : Nat) (bits : Nat)
  /-- MSI-X vector 0 is sent (R405, R448). -/
  | msix
  /-- A PCIe request completes with Completer Abort (R11, R444). -/
  | completerAbort
  /-- SMBus returns the eight bytes of a register (R431). -/
  | smbusData (v : Word)
  /-- A UDP datagram leaves an Ethernet port, to an IPv4 or IPv6 address and UDP port (R327, R330). -/
  | udp (port : Nat) (v6 : Bool) (addr udpPort : Nat) (data : List Byte)
  /-- An ARP or ND answer leaves an Ethernet port (R329). -/
  | arpAnswer (port : Nat)
  /-- A PTP frame leaves an Ethernet port: messageType, domainNumber, SEQ, correctionField and the time it carries, in
  2^-16 ns (R356 to R358). -/
  | ptp (port msg domain seq : Nat) (corr : Int) (time : Nat)
  /-- The output seat reports to the intake seat that a slot reached MAX_NEW (R345). -/
  | slotReport (slot session request : Nat)
deriving DecidableEq, Repr

/-- The fields of a beacon that a BEACON_REQ or BEACON_RSP carries (R33). Stamps are 28 bits: 24 bits of crown and four
of fraction. -/
structure Beacon where
  seq : Nat
  stampA : Nat
  stampB : Nat
  state : Nat
  hops : Nat
  masterId : Nat
  holdDepth : Nat
  holdAge : Nat
  highIndex : Nat
  highSlice : Nat
deriving DecidableEq, Repr, Inhabited

/-- The stores of the die that the word code guards, HBM apart (R280). -/
inductive Store where
  /-- Tile SRAM words; `sramCell` is a word whose cells no longer hold what is written (R202). -/
  | sram
  | sramCell
  /-- The crossing buffers of a region (R57). -/
  | crossing
  /-- A band's send and receive queues, a link's transit hold, equaliser and combine operands (R75, R80, R83). -/
  | sendQueue
  | recvQueue
  | hold
  | equaliser
  | combine
  /-- A link's replay buffer, its far-link VC buffers, the turn buffer, the NI receive queues (R141, R154, R168, R172). -/
  | replay
  | vcBuf
  | turn
  | ni
  /-- A link's owed list, expecting list and programs (R92, R100, R103). -/
  | owed
  | expecting
  | program
  /-- The rank table and the versions of the route table (R159, R161). -/
  | rank
  | route
  /-- A stack's lead queues (R283), and the Bonnet's stores. -/
  | leadQueue
  | bonnet
deriving DecidableEq, Repr, Inhabited

/-- An error in a stored word: the store, its instance (link, region, physical tile, route version, stack), which queue of it and
which item, which word of the item, and the bits of the 36-byte codeword that have flipped. -/
structure Upset where
  store : Store
  inst : Nat
  queue : Nat
  item : Nat
  word : Nat
  mask : Nat
deriving DecidableEq, Repr, Inhabited

end Sys2Proof
end

