-- ==== Sys2Proof/Syntax.lean ====
section
/-! DEFINITION. Sys2Proof/Syntax.lean: the commands of the block, one constructor for each row of the opcode table, with the
operands the spec gives the operation or event. Stamps are crown or PTP times in the units the docstring names. -/
namespace Sys2Proof

/-- The NEGOTIATE fields a peer sends in its training frames (R144). -/
structure PeerFields where
  serial : Nat
  link : Nat
  seat : Nat
  width : Nat
  group : Nat
  expS : Nat
  expL : Nat
  fresh : Bool
deriving DecidableEq, Repr, Inhabited

/-- How an injected packet names its destination (R158, R159): by logical rank, by seat, or a management module by seat. -/
inductive Addr where
  | rank (r : Nat)
  | coord (m : Nat)
  | management (m : Nat)
deriving DecidableEq, Repr


/-- What an Ethernet frame carries (R327, R328): addresses are numbers; `csum` is none for a zero checksum. -/
inductive EthBody where
  | arp (request : Bool) (target : Nat)
  | nd (solicit : Bool) (target : Nat)
  | ptp
  | udp (v6 : Bool) (src dst sport dport : Nat) (csum : Option Bool) (data : List Byte)
  | other
deriving DecidableEq, Repr

/-- An arriving Ethernet frame (R327, R328): `good` says the FCS holds, no FEC codeword is uncorrectable and every word of it
reads back from the ingress buffer; `len` counts its bytes from destination address to FCS. -/
structure EthFrame where
  port : Fin 2
  good : Bool
  len : Nat
  dmac : Nat
  vlan : Option Nat
  body : EthBody
deriving DecidableEq, Repr

/-- A received PTP message (R356 to R360): messageType, domainNumber, source port identity, sequenceId, two-step flag,
correctionField and carried time in 2^-16 ns, the receive stamp of local monotonic in 2^-16 ns, the requesting port identity of a
response, logMessageInterval, and for an Announce the data set in the order the standard compares and its UTC offset. -/
structure PtpMsg where
  port : Fin 2
  kind : Nat
  domain : Nat
  source : Nat
  seq : Nat
  twoStep : Bool
  corr : Int
  time : Nat
  stamp : Nat
  reqSource : Nat
  log : Int
  dataset : List Nat
  utc : Nat
  utcValid : Bool
deriving DecidableEq, Repr

/-- One sample of every sensor (R429, R440): °C, hottest of each group: regions 0–15, the groups of PWR_TEMP_DIE from N to AON,
engines 0–5, stacks 0–7; coolant inlet and outlet; input voltage in 0.1 V, current in 0.01 A, power in W and its average over
1,000,000 ct. -/
structure Sensors where
  rgn : List Int
  die : List Int
  oe : List Int
  stack : List Int
  inlet : Int
  outlet : Int
  voltage : Nat
  current : Nat
  power : Nat
  average : Nat
deriving DecidableEq, Repr

/-- A command: one row of the table of operations and events. -/
inductive Instr where
  /-- REGISTER_WRITE (R8): A driver write to a register field that has no behaviour of its own sets or clears it by
  its access type, subject to R9 and R10. -/
  | registerWrite (bar2 : Bool) (o : Nat) (half : Option Bool) (v : Word)
  /-- COUNTER_CLEAR (R62): A write of 1 to an event counter's CLR sets COUNT and SAT to 0, before any event counted in
  the same cycle. -/
  | counterClear (o : Nat)
  /-- HWM_CLEAR (R410): A write of 1 to a high-water mark's clear field resets the mark to its clear value. -/
  | hwmClear (o : Nat)
  /-- BAR_ACCESS_ERROR (R11): A BAR0 or BAR2 request of a wrong size or alignment completes with Completer Abort and
  is recorded in GEN_ACC_ERR. -/
  | barAccessError (bar2 : Bool) (write : Bool) (o : Nat)
  /-- ROOT_PLL_LOCK (R26): The root PLL locks within 200 µs of REFCLK100 becoming valid, and PLL_LOCK is set. -/
  | rootPllLock
  /-- REFERENCE_LOST (R27): REFCLK100 shows no edge for 40 ns or goes more than 500 ppm off; REF_OK clears, the PLL
  holds and the crown enters HOLDOVER. -/
  | referenceLost
  /-- REFERENCE_RESTORED (R41): REFCLK100 becomes valid again and REF_OK is set. -/
  | referenceRestored
  /-- CRN_EN_SET (R41): A write setting CRN_CTRL.EN starts the crown at CRN_START as master or begins acquisition as
  child. -/
  | crnEnSet (role : Bool) (altEn : Bool)
  /-- CRN_EN_CLEAR (R41): A write clearing CRN_CTRL.EN puts the crown into FREE and cancels every armed action. -/
  | crnEnClear (role : Bool) (altEn : Bool)
  /-- BEACON_REQUEST_TIMER (R33): At every multiple of 4,096 ct a non-master module sends a beacon request stamped t1
  on its active parent link. -/
  | beaconRequestTimer
  /-- BEACON_REQ (R33): A parent receives a beacon request, stamps t2 and sends a response stamped t3 within 64 ct. -/
  | beaconReq (l : Fin 24) (b : Beacon) (t2 : Nat)
  /-- BEACON_RSP (R35): A child receives a beacon response, computes the offset, accepts or rejects the exchange and
  feeds the servo. -/
  | beaconRsp (l : Fin 24) (b : Beacon) (t4 : Nat)
  /-- BEACON_MISS (R36): No response with the matching SEQ arrives within 3,072 ct of a request, and the exchange
  counts as missed. -/
  | beaconMiss (dropped : Bool)
  /-- CROWN_LOCKED (R41): Sixteen consecutive accepted exchanges within 3/16 ct move the crown from ACQUIRING or
  HOLDOVER to LOCKED. -/
  | crownLocked
  /-- CROWN_DRIFT (R41): Four consecutive accepted exchanges above 3/16 ct move a LOCKED crown to ACQUIRING. -/
  | crownDrift
  /-- PARENT_LOST (R41): Four consecutive missed exchanges on the active parent link move a LOCKED crown to HOLDOVER. -/
  | parentLost
  /-- ALT_PARENT_SWITCH (R42): With ALT_EN set, at the next multiple of 4,096 ct after entering HOLDOVER the alternate
  link becomes the active parent. -/
  | altParentSwitch
  /-- MASTER_RELOCK (R41): A master in HOLDOVER returns to LOCKED after REF_OK and PLL_LOCK have held for 65,536 ct. -/
  | masterRelock
  /-- HOLD_LIMIT_REACHED (R44): A non-master module in HOLDOVER reports a hold age that reaches CRN_HOLD.HOLD_LIMIT
  and raises CROWN_UNLOCK. -/
  | holdLimitReached
  /-- ACQ_LIMIT_REACHED (R44): No LOCKED within CRN_HOLD.ACQ_LIMIT exchanges of entering ACQUIRING raises
  CROWN_UNLOCK. -/
  | acqLimitReached
  /-- MONITOR_TIMER (R39): Every 65,536 ct a running crown starts a monitor exchange on every trained in-mitten link
  that is not its parent. -/
  | monitorTimer
  /-- DROOP_DETECTED (R47): A region's droop monitor sees its supply fall below threshold, and the region stretches
  its next period or steps its divider. -/
  | droopDetected (g : Fin 17)
  /-- DROOP_STEP_RETURN (R48): After 100,000 ct without a droop detection the region returns one divider toward
  N_TARGET. -/
  | droopStepReturn (g : Fin 16)
  /-- THERMAL_STEP_TIMER (R49): Every 10,000 ct while a region sensor holds at or above 105 °C the region steps one
  divider slower, up to N = 20. -/
  | thermalStepTimer (g : Fin 16)
  /-- DIVIDER_RESTORE_STEP (R49): Every 10,000 ct after a cause clears the region steps one divider faster toward the
  divider the causes allow. -/
  | dividerRestoreStep (g : Fin 16)
  /-- DIVIDER_STEP_RESUME (R50): After its 24 ct stop a stepping region resumes on a crown tick at the divider the
  active causes require and resets its estimate. -/
  | dividerStepResume (g : Fin 17)
  /-- RGN_CLK_WRITE (R65): A write to RGN_CLK is checked against the grade and RUN, refused with CFG_ERR or
  WR_REFUSED, or applied through divider steps. -/
  | rgnClkWrite (g : Fin 16) (target : Nat) (floor : Nat)
  /-- ESTIMATE_CORRECTION (R53): At each crown multiple of 64 every running region and the Bonnet set their crown
  estimate to the crown and record the error. -/
  | estimateCorrection
  /-- STITCH_SEND (R102): At each stitch a link sends, by R102's order, a LOOSE flit, a replay flit, its oldest ready
  owed flit, or the action of its own send entry. -/
  | stitchSend (l : Fin 24)
  /-- LANDING_STITCH (R74): At a landing stitch the land entry joins the expecting list and its paired flit is
  released to its queue, hold, fan-out or combine. -/
  | landingStitch (l : Fin 24)
  /-- LATE_LANDING (R103): A waiting expecting entry lands in the first stitch in which its late flit is present. -/
  | lateLanding (l : Fin 24)
  /-- UNEXPECTED_ARRIVAL (R78): At the start of stitch a + D an arrival with no expecting entry left to pair raises
  STITCH_MISMATCH UNEXPECTED and is discarded. -/
  | unexpectedArrival (l : Fin 24)
  /-- DEPOSIT (R83): The Palm deposits a flit to a send queue, bound by count to its QUEUE entry, or it is discarded
  on overrun. -/
  | deposit (l : Fin 24) (q : Fin 8)
  /-- DEPOSIT_READY (R84): A deposit becomes ready 64 ct after its last word entered the send queue. -/
  | depositReady (l : Fin 24) (q : Fin 8)
  /-- BANK_VERIFY (R92): A write of 1 to CUF_CTRL.VERIFY in manual mode starts verification of the shadow bank set, or
  is refused. -/
  | bankVerify
  /-- VERIFY_DONE (R92): Verification ends after 1.5 × N ct, setting VERIFY_OK or VERIFY_FAIL and CUF_VERIFY_ERR. -/
  | verifyDone
  /-- BANK_ARM (R95): A write of 1 to CUF_CTRL.ARM arms the verified shadow set, or is refused. -/
  | bankArm
  /-- AUTO_FILL_DONE (R95): In automatic mode the Cuff finishes filling the shadow set from the program store and
  starts its verification. -/
  | autoFillDone
  /-- STITCH_TABLE_WRITE (R93): A BAR2 write to a stitch program entry is applied to a shadow bank or refused, and
  clears VERIFY_OK. -/
  | stitchTableWrite (l : Fin 24) (dir : Fin 2) (bank : Fin 2) (p : Fin 32768) (v : Word)
  /-- BANK_CFG_WRITE (R93): A write to CUF_BANK_CFG is applied, or ignored with CFG_ERR or WR_REFUSED. -/
  | bankCfgWrite (n : Fin 65536) (phase : Fin 32)
  /-- QUEUE_CFG_WRITE (R99): A write to LNK_SQ_CFG or LNK_RQ_CFG whose capacities exceed 64 units or arrive while RUN
  is 1 is ignored and flagged. -/
  | queueCfgWrite (l : Fin 24) (rq : Bool) (v : Word)
  /-- CUF_RUN_SET (R98): Setting CUF_CTRL.RUN enables scheduled traffic and locks the RW-while-RUN=0 registers. -/
  | cufRunSet
  /-- CUF_RUN_CLEAR (R98): Clearing CUF_CTRL.RUN stops scheduled sending, empties queues, holds and lists, clears band
  moves and makes a fresh start of every link. -/
  | cufRunClear
  /-- SEAM_OPEN (R306): At a seam tick the armed bank set swaps in, the opening segment is committed and the next
  fetch opens. -/
  | seamOpen (fetched : Bool)
  /-- SEAM_CHECK (R115): At seam tick plus grace each module checks lag, ops and seam reports and passes or raises one
  seam fault. -/
  | seamCheck
  /-- SCHEDULED_FLIT_RX (R77): An accepted scheduled flit is paired in the equaliser with its expecting land entry and
  checked in order. -/
  | scheduledFlitRx (l : Fin 24) (slot : BitVec 3200)
  /-- LOOSE_FLIT_RX (R171): A received loose flit with the expected sequence number is offered to the router and taken
  or refused. -/
  | looseFlitRx (l : Fin 24) (slot : BitVec 3200)
  /-- NULL_FLIT_RX (R129): An unerrored null flit is discarded without further effect. -/
  | nullFlitRx (l : Fin 24) (slot : BitVec 3200)
  /-- ERRORED_SLOT (R138): A flit slot fails CRC, lies in an uncorrectable codeword or has reserved class, and a NAK
  episode opens. -/
  | erroredSlot (l : Fin 24) (depart : Nat) (codewords : List Nat)
  /-- LCW_RECEIVED (R130): A received LCW is CRC-checked and its ACK, NAK, seam report and carry fields are applied,
  or it is discarded whole. -/
  | lcwReceived (l : Fin 24) (w : Nat) (errored : Bool)
  /-- IDENT (R132): A received IDENT LCW updates the neighbour's serial, link, seat and mitten for discovery and R94. -/
  | ident (l : Fin 24) (serial : Word) (link : Fin 32) (seat : Fin 4096) (mitten : Fin 4096)
  /-- CREDIT (R172): A received CREDIT LCW adds the freed-slot differences to the sender's far-link VC credits. -/
  | credit (l : Fin 24) (counts : List Nat)
  /-- REQ_QUICK (R149): A TRAIN REQ_QUICK request is received, collisions are resolved, and an accepted request starts
  a quick retrain. -/
  | reqQuick (l : Fin 24) (serial : Word) (link : Fin 32) (width : Fin 16) (group : Fin 8)
  /-- REQ_FULL (R149): A TRAIN REQ_FULL request is received and, once accepted, starts a full training. -/
  | reqFull (l : Fin 24) (serial : Word) (link : Fin 32) (width : Fin 16) (group : Fin 8)
  /-- REQ_WIDTH (R149): A TRAIN REQ_WIDTH request is received and, once accepted, returns the link to NEGOTIATE. -/
  | reqWidth (l : Fin 24) (serial : Word) (link : Fin 32) (width : Fin 16) (group : Fin 8)
  /-- TRAIN_ACCEPT (R149): An ACCEPT for an outstanding TRAIN request arrives and both ends follow that request. -/
  | trainAccept (l : Fin 24)
  /-- TRAIN_REQUEST_TIMEOUT (R149): A TRAIN request unanswered for 4,096 ct is sent again, and after four sends a full
  training starts. -/
  | trainRequestTimeout (l : Fin 24)
  /-- LCW_TRANSMIT (R133): Each LCW slot carries the first pending item by R133's order with the current ACK, NAK and
  seam fields. -/
  | lcwTransmit (l : Fin 24)
  /-- REPLAY_START (R139): After turnaround a sender acting on a NAK with a new NNUM starts a go-back-N replay from
  the NAK's number. -/
  | replayStart (l : Fin 24) (c : Fin 2)
  /-- REPLAY_TIMER (R140): The oldest unacknowledged flit is neither ACKed nor NAKed 2 × FLIGHT + 34 st after its last
  departure and a timer replay starts. -/
  | replayTimer (l : Fin 24) (c : Fin 2)
  /-- LINK_ENABLE (R145): Setting LNK_CTRL.EN takes the link from DISABLED to DETECT. -/
  | linkEnable (l : Fin 24)
  /-- LINK_DISABLE (R145): Clearing LNK_CTRL.EN takes the link to DISABLED from any state. -/
  | linkDisable (l : Fin 24)
  /-- LINK_RETRAIN (R149): A write of 1 to LNK_CTRL.RETRAIN sends a TRAIN request of kind MODE. -/
  | linkRetrain (l : Fin 24)
  /-- SIGNAL_DETECT (R145): Signal on a receive lane takes the link from DETECT to EQUALIZE. -/
  | signalDetect (l : Fin 24)
  /-- EQUALIZE_DONE (R146): Every lane is judged good or bad and the peer's training frames are received; the end
  proposes a width. -/
  | equalizeDone (l : Fin 24) (lock : BitVec 8) (symbols : List Nat)
  /-- NEGOTIATE_DONE (R147): Proposals are exchanged, a width agreed, roles resolved and the peer's expected numbers
  learned, including FRESH. -/
  | negotiateDone (l : Fin 24) (frame : BitVec 192)
  /-- ALIGN_DONE (R145): Frame lock on the agreed lanes in both directions takes the link to MEASURE. -/
  | alignDone (l : Fin 24) (group : Fin 8) (markers : List (BitVec 64))
  /-- MEASURE_DONE (R147): Both ends report MEASURE done; FLIGHT is recorded and the link reaches UP. -/
  | measureDone (l : Fin 24) (flightOut : Fin 4096) (flightBack : Fin 4096)
  /-- TRAINING_TIMEOUT (R145): A training state exceeds its time limit, escalating a quick retrain to full, or a full
  training to FAILED. -/
  | trainingTimeout (l : Fin 24)
  /-- FAILED_WAIT_END (R144): The 10 ms wait in FAILED ends and the link enters DETECT. -/
  | failedWaitEnd (l : Fin 24)
  /-- RX_LOCK_LOST (R145): An UP link loses receive lock and starts a quick retrain, raising LINK_LOST LOCK. -/
  | rxLockLost (l : Fin 24)
  /-- TRAINING_FRAME_RX (R145): Training frames arrive where frames were expected and the link leaves UP for a quick
  retrain. -/
  | trainingFrameRx (l : Fin 24)
  /-- LANE_ERROR (R148): An UP lane loses lock or exceeds THRESH in a window; it is marked bad and REQ_WIDTH is sent. -/
  | laneError (l : Fin 24) (lane : Fin 8) (lostLock : Bool) (symbols : Nat)
  /-- MEMBER_ACK_TIMEOUT (R150): A spare-mode member's oldest flit is uncovered 2 × FLIGHT + 18 st after departure
  despite live LCWs, and the member is declared failed. -/
  | memberAckTimeout (l : Fin 24)
  /-- RX_DOWN_PERIOD_END (R151): After 4,096 ct of RX_DOWN on a failed member, the member starts a full training. -/
  | rxDownPeriodEnd (l : Fin 24)
  /-- LOOSE_INJECT (R159): An NI injects a loose packet, resolving its destination, reserving reply slots and stamping
  PKT, BORN and EPOCH, or refuses it. -/
  | looseInject (vc : Fin 8) (addr : Addr) (dstQ : Fin 256) (srcRank : Fin 65536) (rtag : Fin 65536) (replyN : Fin 256) (hdr : BitVec 144) (data : Nat)
  /-- LATTICE_ASSIGN (R165): In each LOOSE stitch the router ejects, sends, deflects, buffers, forces or discards its
  lattice candidates by priority. -/
  | latticeAssign
  /-- BUSY_INJECT (R177): A queued BUSY reply for a bounced request is injected toward its source once the NI accepts
  it. -/
  | busyInject
  /-- RESERVATION_TIMEOUT (R177): A reply reservation still held 500,000 ct after its request is released. -/
  | reservationTimeout (rtag : Fin 65536)
  /-- OPP_SUPPRESS_END (R169): 2,048 st after a refusal a link again sends turn-buffer, far or injected packets
  opportunistically. -/
  | oppSuppressEnd (l : Fin 24)
  /-- RANK_TABLE_WRITE (R158): A BAR2 write to a rank-table entry is applied, or ignored while RUN is 1. -/
  | rankTableWrite (r : Fin 4096) (v : Word)
  /-- ROUTE_TABLE_WRITE (R182): A write to a route-table entry is applied, or ignored for the active version, early
  writes or inconsistent entries. -/
  | routeTableWrite (epoch : Fin 2) (dest : Fin 4096) (v : Word)
  /-- EPOCH_ARM (R183): A write of 1 to RTE_EPOCH.ARM arms a switch at RTE_EPOCH_TICK, or is refused or reported LATE. -/
  | epochArm
  /-- EPOCH_SWITCH (R183): At the armed tick INJECT toggles, RTE_LAST_SWITCH takes the tick and ARMED clears. -/
  | epochSwitch
  /-- DESCRIPTOR_FETCH (R246): A descriptor enters the op queue and its launch tick is resolved from SEG and OFS. -/
  | descriptorFetch
  /-- MATMUL (R256): The MATMUL operation launches after the launch checks and computes C = A·Bᵀ in every active tile. -/
  | matmul
  /-- MATMUL_ACC (R256): MATMUL_ACC launches and accumulates onto the entries in place. -/
  | matmulAcc
  /-- CONV2D (R257): CONV2D launches and computes a convolution as MATMUL over a streamed im2col. -/
  | conv2d
  /-- ATTEND (R258): ATTEND launches and computes one attention head per tile over key blocks. -/
  | attend
  /-- SOFTMAX (R259): SOFTMAX launches and writes the row softmax of its input. -/
  | softmax
  /-- NORM (R260): NORM launches and writes the RMS or layer norm of each row. -/
  | norm
  /-- ELEMENT (R261): ELEMENT launches and applies function FUNC element by element. -/
  | elementOp
  /-- REDUCE (R262): REDUCE launches and reduces along a tile, row or column axis. -/
  | reduce
  /-- TRANSPOSE (R263): TRANSPOSE launches and writes the transposed matrix within each tile. -/
  | transpose
  /-- GATHER (R266): GATHER launches and copies indexed table rows. -/
  | gather
  /-- SCATTER_ADD (R267): SCATTER_ADD launches and adds source rows into indexed table rows. -/
  | scatterAdd
  /-- TOPK (R268): TOPK launches and selects the k largest values and their indices per row. -/
  | topk
  /-- DISPATCH (R270): DISPATCH launches, places token choices into expert slots, drops or spills overflow and
  deposits every slot. -/
  | dispatch
  /-- COMBINE (R271): COMBINE launches and rebuilds each token's output from the weighted slot results. -/
  | combine
  /-- CONVERT (R264): CONVERT launches and converts elements between formats by the rounding mode. -/
  | convert
  /-- COPY (R265): COPY launches and moves words between HBM and SRAM or within SRAM. -/
  | copy
  /-- SEAM_WAIT (R272): SEAM_WAIT launches and completes at the tick of its segment's closing seam. -/
  | seamWait
  /-- STAGING_DONE (R210): Every STAGE word of a descriptor has been written. -/
  | stagingDone
  /-- OP_COMPLETE (R207): Every active region reports its active tiles finished and the controller sees the op
  complete. -/
  | opComplete
  /-- PALM_STOP (R217): A write of 1 to PLM_CTRL.STOP halts further launches. -/
  | palmStop
  /-- LINER_LOAD (R205): A write of 1 to PLM_CTRL.LINER_LOAD starts copying the RAM Liner into force, or is refused. -/
  | linerLoad
  /-- LINER_LOAD_DONE (R205): The 2,048 ct Liner copy completes and LINER_OK is set. -/
  | linerLoadDone
  /-- TILE_WATCHDOG (R219): A sequencer misses four consecutive heartbeats of 1,024 region cycles and the tile fails. -/
  | tileWatchdog (t : Fin 4096) (cause : Fin 3)
  /-- HBM_WRITE_BACK (R281): A corrected HBM word is written back to the stack within 4,096 ct. -/
  | hbmWriteBack (w : Nat)
  /-- SCRUB_BURST (R282): Every HBM_SCRUB.INTERVAL ct the scrub reads one burst on each channel, correcting or
  poisoning its words. -/
  | scrubBurst (k : Fin 8) (upsets : List (Nat × BitVec 8)) (defects : List Nat) (stores : List Upset)
  /-- REFRESH (R285): Each channel refreshes all banks for 350 ct every 3,900 ct, or every 1,950 ct at 85 °C and
  above. -/
  | refresh (k : Fin 8) (channel : Fin 32)
  /-- PERIODIC_TRAINING (R285): Each channel trains for 200 ct every 2^20 ct and may set RETRAIN_DUE. -/
  | periodicTraining (k : Fin 8) (channel : Fin 32) (below : Bool)
  /-- HBM_RETRAIN_REQUEST (R289): A write of 1 to HBM_CTRL.RETRAIN starts a retrain at once, makes it pending for an
  idle run, or is refused. -/
  | hbmRetrainRequest (k : Fin 8) (full : Bool) (seam : Bool) (scrub : Bool)
  /-- HBM_RETRAIN_DONE (R288): A retrain completes and the stack returns to UP. -/
  | hbmRetrainDone (k : Fin 8)
  /-- HBM_RETRAIN_TIMEOUT (R288): A retrain fails or exceeds its limit; the stack becomes FAILED and ECC_UNCORRECTABLE
  STACK is raised. -/
  | hbmRetrainTimeout (k : Fin 8)
  /-- HBM_CAP_WRITE (R292): A write to HBM_CAP is applied, or ignored with CFG_ERR when BONNET + OTHER would exceed
  40. -/
  | hbmCapWrite (k : Fin 8) (other : Fin 256) (bonnet : Fin 256)
  /-- LOAD_OPEN (R310): The LDR OPEN command opens a load and enters RECEIVING. -/
  | loadOpen
  /-- LOAD_CLOSE (R310): The LDR CLOSE command returns the load state to EMPTY while RUN is 0. -/
  | loadClose
  /-- LOAD_VERIFY (R311): The LDR VERIFY command takes a COMPLETE load into VERIFYING. -/
  | loadVerify
  /-- LOAD_VERIFY_DONE (R311): The device's image checks end and the load becomes VERIFIED or REFUSED. -/
  | loadVerifyDone
  /-- ADMIT (R310): The LDR ADMIT command admits a VERIFIED image while RUN is 0. -/
  | admitLoad
  /-- IMAGE_ARM (R314): The LDR ARM command arms the image start at LDR_START_TICK, or sets LATE or ARM_ERR. -/
  | imageArm
  /-- CONVERT_START_TIME (R315): The LDR CONVERT command converts LDR_START_PTP to a crown tick rounded up to 64, or
  sets CONV_ERR. -/
  | convertStartTime (domain : Bool)
  /-- REFUSE (R317): The LDR REFUSE command enters REFUSED with the loader's refusal record. -/
  | refuse
  /-- IMAGE_START (R45): At the armed start tick a LOCKED module starts the image, or returns to VERIFIED with
  START_FAIL. -/
  | imageStart (fetched : Bool)
  /-- CHUNK_PART (R321): A VC 6 chunk part arrives, is relayed to children, and assembled; a completed chunk is CRC-
  checked and stored. -/
  | chunkPart
  /-- CHUNK_SUBMIT (R323): A write to LDR_CHUNK submits the BAR2 chunk window's contents as a chunk. -/
  | chunkSubmit (chunk : Fin 16777216) (crc : BitVec 32)
  /-- BCAST (R322): The LDR BCAST command makes the source send every chunk down the tree and begin repair rounds. -/
  | bcast
  /-- BCAST_SETTLE_END (R322): The source's settle time ends and it sends ROUND_END down the tree. -/
  | bcastSettleEnd
  /-- REPORT_WAIT_END (R322): The source's report wait ends; it resends missing chunks, ends the rounds or raises
  LOAD_INCOMPLETE. -/
  | reportWaitEnd
  /-- ROUND_END (R322): A module receives ROUND_END and reports its missing chunks, or enters INCOMPLETE after round
  8. -/
  | roundEnd
  /-- REPORT (R322): The source receives a REPORT of missing chunk ranges from a module. -/
  | report
  /-- FW_START (R324): The LDR FW_START command distributes a verified firmware bundle to sequencers and cores lacking
  firmware. -/
  | fwStart
  /-- FW_CHUNK_SEND (R324): Every 256 ct the LDR sends one firmware chunk to all receivers. -/
  | fwChunkSend (lost : List Nat)
  /-- FW_REPAIR (R324): The LDR FW_REPAIR command unicasts every missing firmware chunk to each receiver lacking it. -/
  | fwRepair (lost : List (Nat × Nat))
  /-- FRAME_DROPPED (R328): An Ethernet frame fails an ingress check and is dropped or treated as a stranger. -/
  | frameDropped (f : EthFrame)
  /-- ARP_ND_REQUEST (R329): An ARP request or ND solicitation for the port's address is answered within the rate
  limit. -/
  | arpNdRequest (f : EthFrame)
  /-- REQUEST (R339): A BRP REQUEST fragment passes the checks, claims a slot and pages at first fragment, or draws a
  NAK. -/
  | request (f : EthFrame)
  /-- CANCEL (R352): A BRP CANCEL ends a waiting request at once or marks a running one CANCEL in the next record. -/
  | cancel (f : EthFrame)
  /-- RESEND (R346): A BRP RESEND resends retained tokens with new nonces, or draws NAK GONE. -/
  | resend (f : EthFrame)
  /-- BULK_ACK (R349): A BULK_ACK advances the bytes acknowledged in order of a bulk transfer. -/
  | bulkAck (f : EthFrame)
  /-- FORWARDED_DATAGRAM (R336): A HOME seat receives a forwarded datagram on VC 5 and handles it as an arrival of its
  own session. -/
  | forwardedDatagram (sess : Fin 4096) (data : List Byte)
  /-- ASM_TIMEOUT (R341): A request's assembly timer reaches ASM_TIMEOUT; the request is discarded with NAK TIMEOUT. -/
  | asmTimeout (slot : Fin 256)
  /-- WINDOW_CLOSE (R342): At each window close the intake seat assigns every slot a state and writes the window
  record. -/
  | windowClose
  /-- WINDOW_RECORD_DONE (R343): The last word of the window record is written and BON_WINDOW.DONE is set. -/
  | windowRecordDone
  /-- MIRROR_READ (R343): At MIRROR_OFS a MEMBER or OUTPUT seat reads its record copy and updates its page table. -/
  | mirrorRead
  /-- RECORD_DEADLINE_CHECK (R344): At close + RECORD_DEADLINE the LDR finds DONE 0, raises IMAGE_REFUSED BONNET
  RECORD and ends scheduled traffic from the next seam. -/
  | recordDeadlineCheck
  /-- TOKEN_OUTPUT (R345): At close + OUT_OFS the output seat sends TOKENS datagrams for the record's active slots. -/
  | tokenOutput
  /-- SESSION_TABLE_WRITE (R334): A BAR2 write to a session entry is applied while CLOSED, or refused. -/
  | sessionTableWrite (sess : Fin 4096) (w : Fin 8) (v : Word)
  /-- SESSION_OPEN (R335): The session OPEN command checks latency, duplicates and format, and opens the session or
  refuses it. -/
  | sessionOpen (sess : Fin 4096)
  /-- SESSION_CLOSE (R351): The session CLOSE command closes the session at once, discarding assembly and cancelling
  running slots. -/
  | sessionClose (sess : Fin 4096)
  /-- BULK_START (R349): BON_BULK_CTRL.START starts a bulk checkpoint transfer. -/
  | bulkStart (sess : Fin 4096) (rate : Fin 65536)
  /-- BULK_ABORT (R349): BON_BULK_CTRL.ABORT ends the transfer with cause ABORT. -/
  | bulkAbort
  /-- BULK_TIMEOUT (R349): 1,000,000 ct without progress resends from the first unacknowledged datagram, and the ninth
  fails with RETRIES. -/
  | bulkTimeout
  /-- ETH_PORT_UP (R346): An Ethernet port's link comes up and held TOKENS datagrams leave. -/
  | ethPortUp (p : Fin 2)
  /-- SYNC (R360): A PTP Sync from the followed master is stamped and feeds the domain servo. -/
  | sync (m : PtpMsg)
  /-- FOLLOW_UP (R360): A PTP Follow_Up supplies t1 for a two-step Sync. -/
  | followUp (m : PtpMsg)
  /-- DELAY_RESP (R360): A PTP Delay_Resp supplies t4 and completes an end-to-end exchange. -/
  | delayResp (m : PtpMsg)
  /-- PDELAY_REQ (R358): A PTP Pdelay_Req is answered with Pdelay_Resp, and Follow_Up in two-step form, within
  1,000,000 ct. -/
  | pdelayReq (m : PtpMsg) (sent : Nat)
  /-- PDELAY_RESP (R360): A PTP Pdelay_Resp supplies peer-exchange times. -/
  | pdelayResp (m : PtpMsg)
  /-- PDELAY_RESP_FOLLOW_UP (R360): A PTP Pdelay_Resp_Follow_Up supplies t3′ and completes a peer exchange. -/
  | pdelayRespFollowUp (m : PtpMsg)
  /-- ANNOUNCE (R356): A PTP Announce is qualified and enters master selection, which may start acquisition. -/
  | announce (m : PtpMsg)
  /-- PTP_FRAME_DROP (R357): A PTP frame over the rate limit, of an unsupported type, domain or port, or from an
  unfollowed master is dropped. -/
  | ptpFrameDrop (m : PtpMsg)
  /-- DOMAIN_ENABLE (R362): Setting TIME_DOM_CFG.EN takes a domain from OFF to LISTENING. -/
  | domainEnable (d : Fin 2) (v : Word)
  /-- DOMAIN_DISABLE (R362): Clearing TIME_DOM_CFG.EN takes a domain to OFF. -/
  | domainDisable (d : Fin 2) (v : Word)
  /-- SYNC_TIMEOUT (R362): Four Sync intervals without a Sync from the followed master return the domain to LISTENING. -/
  | syncTimeout (d : Fin 2)
  /-- ANNOUNCE_TIMEOUT (R362): announceReceiptTimeout intervals without Announce return the domain to LISTENING. -/
  | announceTimeout (d : Fin 2)
  /-- OUTPUT_RESET (R363): A write of 1 to TIME_CTRL.OUT_RESET puts output time into INVALID. -/
  | outputReset
  /-- OUTPUT_SELECT (R364): A driver write to TIME_CTRL.SEL moves output time to the new domain through d, or into
  HOLDOVER. -/
  | outputSelect (sel : Bool)
  /-- TIME_CAPTURE (R375): A write of 1 to TIME_CTRL.CAPTURE samples the five bases together into TIME_CAP_*. -/
  | timeCapture
  /-- BRIDGE_SAMPLE (R366): At every multiple of 65,536 ct the module samples its bases against the crown and updates
  their rates. -/
  | bridgeSample
  /-- BRIDGE_SEND (R368): At every multiple of 2^20 ct a BRIDGE_TX module sends a bridge message to its children. -/
  | bridgeSend
  /-- BRIDGE_MESSAGE (R369): A received bridge message is accepted or discarded and, if accepted, relayed and used as
  output source. -/
  | bridgeMessage
  /-- BRIDGE_STALE (R370): The last accepted bridge message becomes 2^24 ct old and the bridge is stale. -/
  | bridgeStale
  /-- TP_ARM (R372): A write of 1 to TIME_TP_CTRL.ARM checks a generator's configuration and arms it, or sets CFG_ERR
  or LATE. -/
  | tpArm (i : Fin 4) (v : Word)
  /-- TP_STOP (R373): A write of 1 to TIME_TP_CTRL.STOP disarms the generator at once. -/
  | tpStop (i : Fin 4)
  /-- TP_EDGE (R371): A generator's edge fires in the first crown cycle at or after its due time in BASE. -/
  | tpEdge (i : Fin 4)
  /-- TP_PULSE_END (R371): A TP_OUT pin returns inactive after WIDTH ct. -/
  | tpPulseEnd (i : Fin 4)
  /-- TP_BASE_STEP (R373): A generator's base steps or becomes invalid; past due edges are MISSED or WAIT_BASE is set. -/
  | tpBaseStep (i : Fin 4)
  /-- AON_POWER_GOOD (R376): AON power becomes good and bring-up phase 1 runs: PLL lock, NVM copy choice and PLAN and
  SETTINGS load. -/
  | aonPowerGood (pll : Bool)
  /-- BOOT_GO (R377): A write of 1 to GEN_BOOT_CTRL.GO, or AUTO_GO, starts phase 2 in cold or warm mode. -/
  | bootGo (mode : Bool) (allow : Bool)
  /-- DOMAIN_POWER_GOOD (R423): A domain group reaches power-good and the next group, or phases 3 to 5, start. -/
  | domainPowerGood
  /-- DOMAIN_POWER_TIMEOUT (R423): A domain misses its power-good limit and bring-up stops with STOP_CAUSE DOMAIN. -/
  | domainPowerTimeout
  /-- BIST_DONE (R384): Phase 3 ends with every failing tile marked in PLM_BIST. -/
  | bistDone (failed : List Nat)
  /-- HBM_TRAINING_DONE (R376): Phase 4 training of all eight stacks ends. -/
  | hbmTrainingDone (failed : BitVec 8)
  /-- LINER_BUILD (R385): Phase 6 builds the Liner RAM copy from NVM and BIST and loads it. -/
  | linerBuild
  /-- DISCOVERY_EVAL (R388): A link reaching or leaving UP, changing width or receiving a new IDENT has its discovery
  result evaluated. -/
  | discoveryEval (l : Fin 24)
  /-- DISCOVERY_END (R390): Phase 8 ends at GEN_DISC_WAIT or once no REQUIRED link is PENDING. -/
  | discoveryEnd
  /-- READINESS_REPORT (R391): Phase 9 sets READY, READY_DEGRADED or NOT_READY from the shortfalls. -/
  | readinessReport
  /-- REDISCOVER (R390): A write of 1 to GEN_BOOT_CTRL.REDISCOVER runs phases 8 and 9 again while RUN is 0. -/
  | rediscover (mode : Bool) (allow : Bool)
  /-- NVM_READ (R382): The NVM READ command copies a sector into NVM_BUF. -/
  | nvmRead (sect : Fin 16) (copy : Fin 2) (index : Fin 65536)
  /-- NVM_OPEN (R382): The NVM OPEN command takes the unchosen copy of a section as the open copy. -/
  | nvmOpen (sect : Fin 16) (length : BitVec 32)
  /-- NVM_WRITE (R382): The NVM WRITE command erases and programs one data sector of the open copy. -/
  | nvmWrite (sect : Fin 16) (index : Fin 65536)
  /-- NVM_COMMIT (R382): The NVM COMMIT command checks, CRCs and writes the header so the open copy becomes chosen. -/
  | nvmCommit (sect : Fin 16)
  /-- NVM_ABORT (R382): The NVM ABORT command closes the open copy without change. -/
  | nvmAbort (sect : Fin 16)
  /-- NVM_APPEND (R382): The NVM APPEND command programs a record into the next LOG slot. -/
  | nvmAppend (sect : Fin 16)
  /-- STORE_LIVE (R382): The NVM STORE_LIVE command writes a whole section from its live source and commits it. -/
  | storeLive (sect : Fin 16)
  /-- NVM_COMMAND_DONE (R382): A running NVM command completes and sets RESULT. -/
  | nvmCommandDone (good : Bool)
  /-- PALM_RESET (R393): A Palm reset clears the Palm regions and op queue and halts the image while forwarding
  continues. -/
  | palmReset
  /-- SERVICE_RESET (R393): A Service reset clears the Bonnet and its stores while forwarding continues. -/
  | serviceReset
  /-- CUFF_RESET (R393): A Cuff reset clears the Cuff, every link leaves UP, RUN clears and phases 5, 8 and 9 run
  again. -/
  | cuffReset
  /-- MODULE_WARM_RESET (R393): A module warm reset clears everything outside AON and NVM and reruns bring-up from
  phase 2. -/
  | moduleWarmReset
  /-- POWER_ON_RESET (R393): A power-on reset clears everything but NVM and reruns bring-up from phase 1. -/
  | powerOnReset
  /-- PERST (R394): PERST_N resets only the PCIe endpoint and its BAR decode state. -/
  | perst
  /-- ALARM_RECEIVED (R407): An accepted alarm packet with a new key stops or pends the image, is captured and is
  forwarded. -/
  | alarmReceived
  /-- FLT_HEAD_WRITE (R403): A write to FLT_HEAD advances the driver read index, or is refused past the tail. -/
  | fltHeadWrite (idx : Fin 2048)
  /-- FAULT_MAX_CLR (R430): A write of 1 to FLT_STATUS.MAX_CLR clears ANY and MAX_CLASS and releases a fault-driven
  FAULT_N. -/
  | faultMaxClr
  /-- SNAPSHOT (R411): A write of 1 to FLT_SNAP.GO copies a block instance's counters into FLT_SNAP_WIN in one cycle. -/
  | snapshot (block : Fin 256) (inst : Fin 256)
  /-- TELEMETRY_REPORT (R412): At the seat's report tick the module samples its counters and sends four VC 7 report
  packets. -/
  | telemetryReport
  /-- TELEMETRY_SINK (R414): A sink writes an ejected VC 7 packet with DST_Q 0xF1 into its ring, or discards it when
  full. -/
  | telemetrySink
  /-- IN_ARM_BREAK (R417): IN_ARM breaks and the input switch opens within 100 µs. -/
  | inArmBreak
  /-- INPUT_START (R418): IN_ARM, PWR_EN and 350 V have held together for 10 ms and pre-charge begins. -/
  | inputStart
  /-- PRECHARGE_DONE (R418): Pre-charge completes, the input switch closes and the power-on reset is released. -/
  | prechargeDone
  /-- PRECHARGE_TIMEOUT (R418): Pre-charge is incomplete at 200 ms; the switch opens and a retry follows after 1 s. -/
  | prechargeTimeout
  /-- SUPPLY_WARN (R421): The input stays below 340 V for 200 ct; SUPPLY_WARN is raised, EFFECTIVE halves and regions
  step to N_FLOOR. -/
  | supplyWarn (voltage : Fin 65536)
  /-- SUPPLY_WARN_CLEAR (R422): The input holds above 348 V for 1 ms and recovery begins. -/
  | supplyWarnClear
  /-- BUDGET_RECOVERY_STEP (R422): Every 10,000 ct of recovery EFFECTIVE rises by ⌈GRADE / 20⌉ until it reaches GRADE. -/
  | budgetRecoveryStep
  /-- POWER_FAIL (R419): The input stays below 310 V for 200 ct; the domains lose power and AON is held in reset. -/
  | powerFail
  /-- OVERVOLTAGE (R419): The input stays above 420 V for 200 ct and the input switch opens. -/
  | overvoltage
  /-- OVERCURRENT (R419): The input current exceeds its limits and the input switch opens until PWR_EN has been low
  for 100 ms. -/
  | overcurrent
  /-- PWR_EN_LOW (R426): PWR_EN low for 1 ms removes power from the domains and holds AON in power-on reset. -/
  | pwrEnLow
  /-- DOMAIN_SHUTDOWN (R425): After a MODULE_FATAL record's alarm wait the domains are switched off in order and
  SHUTDOWN is set. -/
  | domainShutdown
  /-- PALM_OFF (R424): A write to PWR_CTRL.PALM_OFF removes or restores power to PD00–PD15 while RUN is 0. -/
  | palmOff (off : Bool) (mask : BitVec 8)
  /-- STACK_OFF (R424): A write to PWR_CTRL.STACK_OFF removes or restores power to single stacks while RUN is 0. -/
  | stackOff (mask : BitVec 8) (palm : Bool)
  /-- COOL_OK_HIGH (R428): COOL_OK has been high for 1 ms; the filtered signal goes high and the Palm domains may
  power. -/
  | coolOkHigh
  /-- COOL_OK_LOW (R428): COOL_OK has been low for 1 ms; with the Palm powered, COOLANT is raised. -/
  | coolOkLow
  /-- SENSOR_SAMPLE (R429): Every 1,000 ct the device samples every temperature sensor and acts on each group's
  hottest. -/
  | sensorSample (x : Sensors)
  /-- SMBUS_BLOCK_WRITE (R431): SMBus Block Write command 0x81 sets the register offset to read. -/
  | smbusBlockWrite (o : BitVec 32)
  /-- SMBUS_BLOCK_READ (R431): SMBus Block Read command 0x80 returns the 8 bytes of the register at the last offset. -/
  | smbusBlockRead
  /-- MGMT_READ (R452): A mitten 0 management READ request returns the named registers or entries in a RESPONSE. -/
  | mgmtRead
  /-- MGMT_WRITE (R453): A mitten 0 management WRITE applies its values to M-marked targets in one cycle, or is
  refused whole. -/
  | mgmtWrite
  /-- MGMT_DISCARD (R453): A management request whose MITTEN is not 0 is discarded without response and counted. -/
  | mgmtDiscard
  /-- MSIX_UNMASK (R448): Unmasking MSI-X vector 0 sends it if its pending bit is set. -/
  | msixUnmask (enable : Bool)
  /-- PORT_DOWN (R362): A Bonnet Ethernet port's link goes down; domains tied to it return to LISTENING and TOKENS
  datagrams for it are kept. -/
  | portDown (p : Fin 2)
  /-- COOL_OK_GLITCH (R428): COOL_OK returns high after a low shorter than the 1,000,000 ct filter, and the low is
  counted in PWR_COOL_GLITCH_CNT. -/
  | coolOkGlitch
  /-- DELAY_REQ (R358): The time unit sends its own Delay_Req (end-to-end) or Pdelay_Req (peer-to-peer) on a domain's
  port and stamps its departure. -/
  | delayReq (d : Fin 2) (sent : Nat)
deriving DecidableEq, Repr

end Sys2Proof
end

