-- ==== Sys2Proof/Config.lean ====
section
/-! DEFINITION. Sys2Proof/Config.lean: what an implementation fixes and the spec leaves open. Every constant here has no
body: no proof can see its value, and a claim holds whatever it is. Each is named in the assumption log. -/
namespace Sys2Proof.Config

/-- Free value: the trim the servo sets after an accepted exchange (R35 gives no gains), in units of 2^-32, before the
bound of R28; applied to the state's free counter. -/
opaque servoTrim : Nat → Int

/-- Free value: the integral term of the servo after an accepted exchange (R35, R38), in units of 2^-32; applied to the state's
free counter. -/
opaque servoIntegral : Nat → Int

/-- Free value: whether a trim correction that falls between two sixteenths is rounded up (R36 states no rounding). -/
opaque correctionRoundUp : Int → Bool

/-- Free value: whether an offset that falls between two sixteenths is rounded up (R35 states no rounding). -/
opaque offsetRoundUp : Int → Bool

/-- Free value: the route-word bits of a BUSY reply that R177 does not state (DST_Q in [7:0], SRC_RANK above it, endpoint
header from bit 32); applied to the state's free counter. -/
opaque busyWord : Nat → Nat

/-- Free value: which of several far-link heads that could use one stitch is taken (R169, R174); applied to the state's
free counter. -/
opaque farPick : Nat → Nat

/-- Free value: what R261 leaves open of a function table's result, for a function number and an FP32 input: which FP32 number within
two units in the last place of the exact value it is, or, where no exact value is stated, its bits. -/
opaque fnTable : Nat → Nat → BitVec 32

/-- Free value: the byte of a RAW output element (no rule states a conversion to RAW), by element index. -/
opaque rawElem : Nat → Nat

/-- Free value: a word that TRANSPOSE writes when its extents overlap (R263 bars it and states no result); applied to the state's
free counter and the word's number. -/
opaque overlapWord : Nat → Nat → Nat

/-- Free value: the lead queue of 0 to 11 that a Palm read passes, modulo 12 (R283 gives these twelve to the Palm together); applied to
the state's free counter. -/
opaque leadQueue : Nat → Nat

/-- Free value: how far a read fills its lead queue, less 1, modulo the words that can stand in it (R283 states no timing); applied to
the state's free counter. -/
opaque leadFill : Nat → Nat

/-- Free value: the tile whose data an uncorrectable word of a crossing buffer carried, modulo the op's tiles in the region (R57, R280);
applied to the state's free counter. -/
opaque crossTile : Nat → Nat

/-- Free value: the scale byte of an output block that holds a poisoned element (R239, R252 state none), by block index. -/
opaque poisonScale : Nat → Nat

/-- Free value: what R270 leaves open of a slot-map entry, by choice number: the slot of a choice that is not placed in
[15:0], the expert of a poisoned one above it. -/
opaque slotMapOpen : Nat → Nat

/-- Free value: what stands for a poisoned word in a spilled row's packet (R197, R270, R279), by word number. -/
opaque spilledPoison : Nat → Nat

/-- Free value: a domain servo's rate after an exchange (R361 gives no gains), before the bound of ±500 ppm; applied to the
state's free counter; in 2^-32. -/
opaque domRate : Nat → Int

/-- Free value: a base's rate against the crown from its last samples (R366 does not state the computation), in 2^-32; applied
to four times the tick of the newest sample plus the base's number. -/
opaque bridgeRate : Nat → Int

/-- Free value: a source rate estimate of output time (R364 does not state it), in 2^-32; applied to the state's free
counter. -/
opaque rateEstimate : Nat → Int

/-- Free value: announceReceiptTimeout (R362; no register holds it). -/
opaque announceReceiptTimeout : Nat

/-- Free value: a link's own pipeline latencies as it measures them in MEASURE (R144 gives no value), by link. -/
opaque pipeLatency : Nat → Nat

/-- Free value: the hash of a source address into 4,096 buckets (R329 names none). -/
opaque srcHash : Nat → Nat

/-- Free value: bytes of the Bonnet's working area that retained output takes (R337, R346 give no layout). -/
opaque areaRetained : Nat

/-- Free value: the endpoint header of a forwarded part (R336 states none), by part number. -/
opaque fwdHeader : Nat → Nat

/-- Free value: the CAL section's data (R380: the layout belongs to the device), byte by index. -/
opaque calByte : Nat → Nat

/-- Free value: LENGTH of the CAL section the device stores (R380). -/
opaque calLength : Nat

/-- Free value: a capture temperature in °C of a CAL copy the driver wrote (R380 gives no layout): by the CRC-32 of its data and
by number, 0 the hottest junction, then the stacks. -/
opaque calTemp : Nat → Nat → Int

/-- Free value: the CAL latency of a port (R359, R383): port p's INGRESS at 2 p, EGRESS at 2 p + 1. -/
opaque calLatency : Nat → Nat

end Sys2Proof.Config
end

