-- ==== Sys2Proof/Machine/Bits.lean ====
section
/-! DEFINITION. Sys2Proof/Machine/Bits.lean: bit fields of words and numbers, two's complement, and little-endian bytes. -/
namespace Sys2Proof

/-- The value of bits [hi:lo] of a word, as a number. -/
def fget (x : Word) (hi lo : Nat) : Nat := x.toNat / 2 ^ lo % 2 ^ (hi + 1 - lo)

/-- The word `x` with bits [hi:lo] replaced by the low bits of `v`. -/
def fset (x : Word) (hi lo v : Nat) : Word :=
  BitVec.ofNat 64
    (x.toNat % 2 ^ lo + 2 ^ lo * (v % 2 ^ (hi + 1 - lo)) + 2 ^ (hi + 1) * (x.toNat / 2 ^ (hi + 1)))

/-- The bits of its register that a field covers. -/
def Fld.bits (f : Fld) : Nat := 2 ^ f.lo * (2 ^ (f.hi + 1 - f.lo) - 1)

/-- Bits [hi:lo] of a number (a packet or descriptor wider than a word). -/
def nbits (x hi lo : Nat) : Nat := x / 2 ^ lo % 2 ^ (hi + 1 - lo)

/-- One bit of a number. -/
def nbit (x i : Nat) : Bool := x / 2 ^ i % 2 == 1

/-- A number read as a two's-complement value of `w` bits. -/
def toSigned (w x : Nat) : Int :=
  if x % 2 ^ w < 2 ^ (w - 1) then ((x % 2 ^ w : Nat) : Int) else ((x % 2 ^ w : Nat) : Int) - 2 ^ w

/-- The two's-complement field of `w` bits that holds an integer. -/
def ofSigned (w : Nat) (i : Int) : Nat := (i % (2 ^ w : Int)).toNat

/-- 1 for true, 0 for false. -/
def b2n (b : Bool) : Nat := if b then 1 else 0

/-- `x` clamped into [lo, hi]. -/
def clampI (lo hi x : Int) : Int := if x < lo then lo else if hi < x then hi else x

/-- Little-endian bytes of a number. -/
def leBytes : Nat → Nat → List Byte
  | 0, _ => []
  | n + 1, x => BitVec.ofNat 8 x :: leBytes n (x / 256)

/-- The number little-endian bytes spell. -/
def ofLeBytes : List Byte → Nat
  | [] => 0
  | b :: bs => b.toNat + 256 * ofLeBytes bs

end Sys2Proof
end

