-- ==== Sys2Proof/Machine/Map.lean ====
section
/-! DEFINITION. Sys2Proof/Machine/Map.lean: the one sparse container of the model. A map is a list of (key, value)
pairs with strictly rising keys and no entry equal to what an unlisted key reads as; `d` says what that is. Memories are
the case with byte values (`Host.Cell`), the register file the case with 64-bit words. -/
namespace Sys2Proof.Machine

/-- A sparse map. -/
abbrev SMap (α : Type) := List (Nat × α)

/-- What key `k` reads as. -/
def SMap.get {α : Type} (d : Nat → α) (m : SMap α) (k : Nat) : α :=
  match m.find? (fun p => p.1 == k) with
  | some p => p.2
  | none => d k

/-- Insert an entry before the first larger key. -/
def SMap.insert {α : Type} (k : Nat) (v : α) : SMap α → SMap α
  | [] => [(k, v)]
  | p :: m => if k < p.1 then (k, v) :: p :: m else p :: SMap.insert k v m

/-- The map without key `k`. -/
def SMap.erase {α : Type} (m : SMap α) (k : Nat) : SMap α := m.filter (fun p => p.1 != k)

/-- Write key `k`: an entry equal to the default is not kept. -/
def SMap.set {α : Type} [DecidableEq α] (d : Nat → α) (m : SMap α) (k : Nat) (v : α) : SMap α :=
  if v = d k then SMap.erase m k else SMap.insert k v (SMap.erase m k)

/-- Drop every key that satisfies `p` (those keys read as the default again). -/
def SMap.clear {α : Type} (m : SMap α) (p : Nat → Bool) : SMap α := m.filter (fun e => !p e.1)

/-- The keys rise strictly. -/
def SMap.rising {α : Type} : SMap α → Bool
  | [] => true
  | p :: m => m.all (fun q => p.1 < q.1) && SMap.rising m

/-- The canonical form: keys strictly rising, no entry equal to what an unlisted key reads as. -/
def SMap.wf {α : Type} [DecidableEq α] (d : Nat → α) (m : SMap α) : Bool :=
  SMap.rising m && m.all (fun p => p.2 != d p.1)

/-- A byte memory: a list of cells; an unlisted address reads as zero (log entry 2). -/
abbrev Memory := List Host.Cell

/-- What a byte of memory that nothing has written reads as (log entry 2). -/
def Memory.dflt : Nat → Byte := fun _ => 0

/-- The canonical form of a memory. -/
def Memory.wf (m : Memory) : Bool := SMap.wf Memory.dflt m

/-- Read one byte. -/
def Memory.read (m : Memory) (a : Nat) : Byte := SMap.get Memory.dflt m a

/-- Write one byte. -/
def Memory.write (m : Memory) (a : Nat) (b : Byte) : Memory := SMap.set Memory.dflt m a b

/-- Read `n` bytes from `a` upward. -/
def Memory.readBytes (m : Memory) (a : Nat) : Nat → List Byte
  | 0 => []
  | n + 1 => m.read a :: Memory.readBytes m (a + 1) n

/-- Write bytes from `a` upward. -/
def Memory.writeBytes (m : Memory) (a : Nat) : List Byte → Memory
  | [] => m
  | b :: bs => Memory.writeBytes (m.write a b) (a + 1) bs

end Sys2Proof.Machine
end

