-- ==== Sys2Proof/Machine/Regs.lean ====
section
/-! DEFINITION. Sys2Proof/Machine/Regs.lean: every register of the register index (R449) and every field of it, at the
register address A of R442 and R445, with the access types of R8 and the reset values. `j` is the block's instance
(link, region, stack), `k` the element of a register array. -/
namespace Sys2Proof.Reg

/-- GEN_ID (18_register_reference.md). -/
def GEN_ID : Nat := 0x0
/-- RO, reset fuses: Guntauf's PCI-SIG vendor ID, as in configuration space -/
def GEN_ID_PCI_VENDOR : Fld := ⟨GEN_ID, 63, 48⟩
/-- RO, reset 0x0C1A: Device ID of the Clarok module, as in configuration space -/
def GEN_ID_PCI_DEVICE : Fld := ⟨GEN_ID, 47, 32⟩
/-- RO, reset fuses: Silicon stepping -/
def GEN_ID_STEP : Fld := ⟨GEN_ID, 23, 16⟩
/-- RO, reset 1: Version of the register map of this manual -/
def GEN_ID_MAP : Fld := ⟨GEN_ID, 7, 0⟩
/-- GEN_FUSE (18_register_reference.md). -/
def GEN_FUSE : Nat := 0x8
/-- RO, reset fuses: Grade (R2) -/
def GEN_FUSE_GRADE : Fld := ⟨GEN_FUSE, 1, 0⟩
/-- GEN_ACC_ERR (18_register_reference.md). -/
def GEN_ACC_ERR : Nat := 0x10
/-- W1C, reset 0: An access was refused since VALID was last clear; the other fields hold the first -/
def GEN_ACC_ERR_VALID : Fld := ⟨GEN_ACC_ERR, 63, 63⟩
/-- W1C, reset 0: A further access was refused while VALID was 1 -/
def GEN_ACC_ERR_OVERRUN : Fld := ⟨GEN_ACC_ERR, 62, 62⟩
/-- RO, reset 0: 0 PCIe BAR0, 1 PCIe BAR2, 2 SMBus, 3 management -/
def GEN_ACC_ERR_PATH : Fld := ⟨GEN_ACC_ERR, 61, 60⟩
/-- RO, reset 0: 1 SIZE: size or alignment (R11, R444); 2 OFF: domain off or in reset (R446); 3 MGMT: management write refused (R453) -/
def GEN_ACC_ERR_KIND : Fld := ⟨GEN_ACC_ERR, 59, 58⟩
/-- RO, reset 0: 1 for a write -/
def GEN_ACC_ERR_WRITE : Fld := ⟨GEN_ACC_ERR, 57, 57⟩
/-- RO, reset 0: BAR0 or BAR2 offset of the access -/
def GEN_ACC_ERR_OFFSET : Fld := ⟨GEN_ACC_ERR, 26, 0⟩
/-- GEN_SERIAL (15_bringup_and_discovery.md). -/
def GEN_SERIAL : Nat := 0x100
/-- RO, reset IDENTITY: Module serial (R383) -/
def GEN_SERIAL_SERIAL : Fld := ⟨GEN_SERIAL, 63, 0⟩
/-- GEN_BOOT_CTRL (15_bringup_and_discovery.md). -/
def GEN_BOOT_CTRL : Nat := 0x108
/-- W1S, reset 0: 1 runs phases 8 and 9 (R390); reads 0 -/
def GEN_BOOT_CTRL_REDISCOVER : Fld := ⟨GEN_BOOT_CTRL, 4, 4⟩
/-- RWS, reset SETTINGS: 1 permits READY_DEGRADED (R391) -/
def GEN_BOOT_CTRL_ALLOW_DEGRADED : Fld := ⟨GEN_BOOT_CTRL, 3, 3⟩
/-- RWS, reset SETTINGS: 0 cold, 1 warm (R379) -/
def GEN_BOOT_CTRL_MODE : Fld := ⟨GEN_BOOT_CTRL, 2, 2⟩
/-- W1S, reset 0: 1 starts phase 2 (R377); reads 0 -/
def GEN_BOOT_CTRL_GO : Fld := ⟨GEN_BOOT_CTRL, 0, 0⟩
/-- GEN_BOOT_STATUS (15_bringup_and_discovery.md). -/
def GEN_BOOT_STATUS : Nat := 0x110
/-- RO, reset 0: Phase running, 1–9; 0 waiting for GO or ended -/
def GEN_BOOT_STATUS_PHASE : Fld := ⟨GEN_BOOT_STATUS, 63, 60⟩
/-- RO, reset 0: 0 BRINGUP, 1 READY, 2 READY_DEGRADED, 3 NOT_READY -/
def GEN_BOOT_STATUS_READY : Fld := ⟨GEN_BOOT_STATUS, 59, 58⟩
/-- RO, reset 1: R379 -/
def GEN_BOOT_STATUS_FAULT_SINCE_READY : Fld := ⟨GEN_BOOT_STATUS, 57, 57⟩
/-- W1C, reset 0: A result changed after phase 9 (R390) -/
def GEN_BOOT_STATUS_DISC_CHANGED : Fld := ⟨GEN_BOOT_STATUS, 56, 56⟩
/-- RO, reset 0: A link is EXTRA -/
def GEN_BOOT_STATUS_EXTRA_SEEN : Fld := ⟨GEN_BOOT_STATUS, 55, 55⟩
/-- RO, reset 0: Waiting for GO, FW_START or a repair -/
def GEN_BOOT_STATUS_WAIT_DRIVER : Fld := ⟨GEN_BOOT_STATUS, 54, 54⟩
/-- RO, reset 0: Waiting for COOL_OK -/
def GEN_BOOT_STATUS_WAIT_COOL : Fld := ⟨GEN_BOOT_STATUS, 53, 53⟩
/-- W1C, reset 0: A command was ignored (R377, R390, R396) -/
def GEN_BOOT_STATUS_WR_REFUSED : Fld := ⟨GEN_BOOT_STATUS, 52, 52⟩
/-- RO, reset 0: Warm conditions that failed (R379) -/
def GEN_BOOT_STATUS_WARM_REFUSED : Fld := ⟨GEN_BOOT_STATUS, 51, 48⟩
/-- RO, reset 0: Shortfalls by bit (R391) -/
def GEN_BOOT_STATUS_SHORT : Fld := ⟨GEN_BOOT_STATUS, 45, 40⟩
/-- RO, reset 0: 0 none, 1 PLL, 2 IDENTITY, 3 DOMAIN -/
def GEN_BOOT_STATUS_STOP_CAUSE : Fld := ⟨GEN_BOOT_STATUS, 39, 36⟩
/-- RO, reset 0: The last bring-up ran warm -/
def GEN_BOOT_STATUS_WARM_RAN : Fld := ⟨GEN_BOOT_STATUS, 32, 32⟩
/-- RO, reset 0: BAD bits set by the device (R385, R386); stops at 255 -/
def GEN_BOOT_STATUS_LINER_NEW : Fld := ⟨GEN_BOOT_STATUS, 31, 24⟩
/-- GEN_RESET (15_bringup_and_discovery.md). -/
def GEN_RESET : Nat := 0x118
/-- W1S, reset 0: 1 starts the reset of KIND; reads 0 -/
def GEN_RESET_GO : Fld := ⟨GEN_RESET, 8, 8⟩
/-- RW, reset 0: 1 Palm, 2 Service, 3 Cuff, 4 module warm, 5 power-on (R393); others ignored -/
def GEN_RESET_KIND : Fld := ⟨GEN_RESET, 2, 0⟩
/-- GEN_RESET_STATUS (15_bringup_and_discovery.md). -/
def GEN_RESET_STATUS : Nat := 0x120
/-- RO, reset 5: Class of the last reset -/
def GEN_RESET_STATUS_LAST : Fld := ⟨GEN_RESET_STATUS, 63, 60⟩
/-- RO, reset 4: 1 driver, 2 input below 310 V, 3 PWR_EN, 4 AON power-up -/
def GEN_RESET_STATUS_SOURCE : Fld := ⟨GEN_RESET_STATUS, 59, 56⟩
/-- GEN_PLAN_SEAT (15_bringup_and_discovery.md). -/
def GEN_PLAN_SEAT : Nat := 0x128
/-- RWS, reset PLAN: This module's seat (R387) -/
def GEN_PLAN_SEAT_SEAT : Fld := ⟨GEN_PLAN_SEAT, 11, 0⟩
/-- GEN_DISC (15_bringup_and_discovery.md). -/
def GEN_DISC : Nat := 0x130
/-- RO, reset 0: Result changes after phase 9; stops at 255 -/
def GEN_DISC_CHANGES : Fld := ⟨GEN_DISC, 63, 56⟩
/-- RO, reset 0: Links PENDING -/
def GEN_DISC_PENDING : Fld := ⟨GEN_DISC, 52, 48⟩
/-- RO, reset 0: Links EXTRA -/
def GEN_DISC_EXTRA : Fld := ⟨GEN_DISC, 44, 40⟩
/-- RO, reset 0: Links SWAPPED -/
def GEN_DISC_SWAPPED : Fld := ⟨GEN_DISC, 36, 32⟩
/-- RO, reset 0: Links WRONG_NEIGHBOUR -/
def GEN_DISC_WRONG : Fld := ⟨GEN_DISC, 28, 24⟩
/-- RO, reset 0: Links ABSENT -/
def GEN_DISC_ABSENT : Fld := ⟨GEN_DISC, 20, 16⟩
/-- RO, reset 0: Links DEGRADED -/
def GEN_DISC_DEGRADED : Fld := ⟨GEN_DISC, 12, 8⟩
/-- RO, reset 0: Links MATCH -/
def GEN_DISC_MATCH : Fld := ⟨GEN_DISC, 4, 0⟩
/-- GEN_DISC_WAIT (15_bringup_and_discovery.md). -/
def GEN_DISC_WAIT : Nat := 0x138
/-- RWS, reset 1,000: Phase 8 limit in warm mode, in units of 1,000,000 ct -/
def GEN_DISC_WAIT_WARM : Fld := ⟨GEN_DISC_WAIT, 63, 32⟩
/-- RWS, reset 5,000: Phase 8 limit in cold mode, in units of 1,000,000 ct -/
def GEN_DISC_WAIT_COLD : Fld := ⟨GEN_DISC_WAIT, 31, 0⟩
/-- GEN_PHASE_TIME (15_bringup_and_discovery.md). -/
def GEN_PHASE_TIME (k : Nat) : Nat := 0x180 + 8 * k
/-- RO, reset 0: The phase ran in the last bring-up -/
def GEN_PHASE_TIME_RAN (k : Nat) : Fld := ⟨GEN_PHASE_TIME k, 63, 63⟩
/-- RO, reset 0: Duration in ct, waits excluded (R378) -/
def GEN_PHASE_TIME_DURATION (k : Nat) : Fld := ⟨GEN_PHASE_TIME k, 39, 0⟩
/-- GEN_COLD_CNT (02_crown_and_clocking.md). -/
def GEN_COLD_CNT : Nat := 0x200
/-- GEN_WARM_CNT (02_crown_and_clocking.md). -/
def GEN_WARM_CNT : Nat := 0x208
/-- PWR_CTRL (17_power_cooling_electrical.md). -/
def PWR_CTRL : Nat := 0x100000
/-- RW, reset 0: Bit s removes power from stack s (R424); RW while RUN = 0 -/
def PWR_CTRL_STACK_OFF : Fld := ⟨PWR_CTRL, 15, 8⟩
/-- RW, reset 0: Removes power from PD00–PD15 (R424); RW while RUN = 0 -/
def PWR_CTRL_PALM_OFF : Fld := ⟨PWR_CTRL, 0, 0⟩
/-- PWR_STATUS (17_power_cooling_electrical.md). -/
def PWR_STATUS : Nat := 0x100008
/-- W1C, reset 0: A PWR_CTRL write was ignored -/
def PWR_STATUS_WR_REFUSED : Fld := ⟨PWR_STATUS, 10, 10⟩
/-- RO, reset 0: 0 NORMAL, 1 WARN, 2 RECOVER (R421, R422) -/
def PWR_STATUS_INPUT : Fld := ⟨PWR_STATUS, 9, 8⟩
/-- RO, reset 0: Domains off after MODULE_FATAL (R425) -/
def PWR_STATUS_SHUTDOWN : Fld := ⟨PWR_STATUS, 5, 5⟩
/-- RO, reset 1: IN_ARM sensed -/
def PWR_STATUS_IN_ARM : Fld := ⟨PWR_STATUS, 4, 4⟩
/-- RO, reset 1: PWR_EN level -/
def PWR_STATUS_PWR_EN : Fld := ⟨PWR_STATUS, 3, 3⟩
/-- RO, reset 0: Filtered COOL_OK (R428) -/
def PWR_STATUS_COOL_FILT : Fld := ⟨PWR_STATUS, 2, 2⟩
/-- RO, reset 0: COOL_OK level -/
def PWR_STATUS_COOL_OK : Fld := ⟨PWR_STATUS, 1, 1⟩
/-- PWR_INPUT (17_power_cooling_electrical.md). -/
def PWR_INPUT : Nat := 0x100010
/-- RO, reset 0: Input power, W -/
def PWR_INPUT_POWER : Fld := ⟨PWR_INPUT, 63, 48⟩
/-- RO, reset 0: Input current, 0.01 A -/
def PWR_INPUT_CURRENT : Fld := ⟨PWR_INPUT, 47, 32⟩
/-- RO, reset 0: Input voltage, 0.1 V -/
def PWR_INPUT_VOLTAGE : Fld := ⟨PWR_INPUT, 15, 0⟩
/-- PWR_INPUT_HWM (17_power_cooling_electrical.md). -/
def PWR_INPUT_HWM : Nat := 0x100018
/-- WO, reset 0: Writing 1 sets MIN_VOLTAGE to 0xFFFF and the maxima to 0 -/
def PWR_INPUT_HWM_HWM_CLR : Fld := ⟨PWR_INPUT_HWM, 63, 63⟩
/-- RO, reset 0: Largest 1,000,000 ct average, W -/
def PWR_INPUT_HWM_MAX_POWER : Fld := ⟨PWR_INPUT_HWM, 47, 32⟩
/-- RO, reset 0: 0.01 A -/
def PWR_INPUT_HWM_MAX_CURRENT : Fld := ⟨PWR_INPUT_HWM, 31, 16⟩
/-- RO, reset 0xFFFF: 0.1 V -/
def PWR_INPUT_HWM_MIN_VOLTAGE : Fld := ⟨PWR_INPUT_HWM, 15, 0⟩
/-- PWR_DOMAIN (17_power_cooling_electrical.md). -/
def PWR_DOMAIN : Nat := 0x100020
/-- RO, reset 0: Bit n: PDn power-good -/
def PWR_DOMAIN_PGOOD : Fld := ⟨PWR_DOMAIN, 61, 32⟩
/-- RO, reset 0: Bit n: PDn switched on -/
def PWR_DOMAIN_ON : Fld := ⟨PWR_DOMAIN, 29, 0⟩
/-- PWR_FAULTN (17_power_cooling_electrical.md). -/
def PWR_FAULTN : Nat := 0x100028
/-- RO, reset 1: FAULT_N driven low (R430) -/
def PWR_FAULTN_ASSERTED : Fld := ⟨PWR_FAULTN, 63, 63⟩
/-- RW, reset 1: NOT_READY asserts FAULT_N -/
def PWR_FAULTN_READY_EN : Fld := ⟨PWR_FAULTN, 3, 3⟩
/-- RW, reset 4: Lowest record class that asserts FAULT_N -/
def PWR_FAULTN_CLASS : Fld := ⟨PWR_FAULTN, 2, 0⟩
/-- PWR_COOL (17_power_cooling_electrical.md). -/
def PWR_COOL : Nat := 0x100030
/-- RO, reset 0: Coolant outlet, °C -/
def PWR_COOL_OUTLET : Fld := ⟨PWR_COOL, 15, 8⟩
/-- RO, reset 0: Coolant inlet, °C -/
def PWR_COOL_INLET : Fld := ⟨PWR_COOL, 7, 0⟩
/-- PWR_TEMP_MAX (17_power_cooling_electrical.md). -/
def PWR_TEMP_MAX : Nat := 0x100038
/-- WO, reset 0: Writing 1 sets HWM to TEMP -/
def PWR_TEMP_MAX_HWM_CLR : Fld := ⟨PWR_TEMP_MAX, 63, 63⟩
/-- RO, reset 0: 0–15 region, 16–19 Cuff N, E, S, W, 20 far block, 21 Bonnet, 22 AON, 24–29 engine 0–5, 32–39 stack 0–7 -/
def PWR_TEMP_MAX_SOURCE : Fld := ⟨PWR_TEMP_MAX, 23, 16⟩
/-- RO, reset 0: Highest since clear, °C -/
def PWR_TEMP_MAX_HWM : Fld := ⟨PWR_TEMP_MAX, 15, 8⟩
/-- RO, reset 0: Hottest sensor now, °C -/
def PWR_TEMP_MAX_TEMP : Fld := ⟨PWR_TEMP_MAX, 7, 0⟩
/-- PWR_TEMP_RGN (17_power_cooling_electrical.md). -/
def PWR_TEMP_RGN (k : Nat) : Nat := 0x100100 + 8 * k
/-- WO, reset 0: Writing 1 sets HWM to TEMP -/
def PWR_TEMP_RGN_HWM_CLR (k : Nat) : Fld := ⟨PWR_TEMP_RGN k, 63, 63⟩
/-- RO, reset 0: Highest since clear, °C -/
def PWR_TEMP_RGN_HWM (k : Nat) : Fld := ⟨PWR_TEMP_RGN k, 15, 8⟩
/-- RO, reset 0: Hottest sensor of the group, °C -/
def PWR_TEMP_RGN_TEMP (k : Nat) : Fld := ⟨PWR_TEMP_RGN k, 7, 0⟩
/-- PWR_TEMP_OE (17_power_cooling_electrical.md). -/
def PWR_TEMP_OE (k : Nat) : Nat := 0x100180 + 8 * k
/-- WO, reset 0: Writing 1 sets HWM to TEMP -/
def PWR_TEMP_OE_HWM_CLR (k : Nat) : Fld := ⟨PWR_TEMP_OE k, 63, 63⟩
/-- RO, reset 0: Highest since clear, °C -/
def PWR_TEMP_OE_HWM (k : Nat) : Fld := ⟨PWR_TEMP_OE k, 15, 8⟩
/-- RO, reset 0: Hottest sensor of the group, °C -/
def PWR_TEMP_OE_TEMP (k : Nat) : Fld := ⟨PWR_TEMP_OE k, 7, 0⟩
/-- PWR_TEMP_DIE (17_power_cooling_electrical.md). -/
def PWR_TEMP_DIE : Nat := 0x1001B0
/-- RO, reset 0: °C -/
def PWR_TEMP_DIE_AON : Fld := ⟨PWR_TEMP_DIE, 55, 48⟩
/-- RO, reset 0: °C -/
def PWR_TEMP_DIE_BONNET : Fld := ⟨PWR_TEMP_DIE, 47, 40⟩
/-- RO, reset 0: Cuff far block, °C -/
def PWR_TEMP_DIE_FAR : Fld := ⟨PWR_TEMP_DIE, 39, 32⟩
/-- RO, reset 0: Cuff side W, °C -/
def PWR_TEMP_DIE_W : Fld := ⟨PWR_TEMP_DIE, 31, 24⟩
/-- RO, reset 0: Cuff side S, °C -/
def PWR_TEMP_DIE_S : Fld := ⟨PWR_TEMP_DIE, 23, 16⟩
/-- RO, reset 0: Cuff side E, °C -/
def PWR_TEMP_DIE_E : Fld := ⟨PWR_TEMP_DIE, 15, 8⟩
/-- RO, reset 0: Cuff side N, °C -/
def PWR_TEMP_DIE_N : Fld := ⟨PWR_TEMP_DIE, 7, 0⟩
/-- PWR_WARN_CNT (02_crown_and_clocking.md). -/
def PWR_WARN_CNT : Nat := 0x100200
/-- PWR_COOL_GLITCH_CNT (02_crown_and_clocking.md). -/
def PWR_COOL_GLITCH_CNT : Nat := 0x100208
/-- PWR_THERM_CNT (02_crown_and_clocking.md). -/
def PWR_THERM_CNT : Nat := 0x100210
/-- CRN_CTRL (02_crown_and_clocking.md). -/
def CRN_CTRL : Nat := 0x200000
/-- RW, reset 0: 1 allows the alternate parent link (R42) -/
def CRN_CTRL_ALT_EN : Fld := ⟨CRN_CTRL, 2, 2⟩
/-- RW, reset 0: 0 child, 1 crown master. A write takes ROLE unless EN is 1 both before and after it: a write that leaves EN at 1 leaves ROLE unchanged, and a write that sets EN to 0 takes its ROLE value -/
def CRN_CTRL_ROLE : Fld := ⟨CRN_CTRL, 1, 1⟩
/-- RW, reset 0: 1 starts the crown per R41; 0 enters FREE -/
def CRN_CTRL_EN : Fld := ⟨CRN_CTRL, 0, 0⟩
/-- CRN_STATUS (02_crown_and_clocking.md). -/
def CRN_STATUS : Nat := 0x200008
/-- RO, reset 0: Consecutive accepted exchanges; stops at 0xFFFF -/
def CRN_STATUS_GOOD_RUN : Fld := ⟨CRN_STATUS, 47, 32⟩
/-- RO, reset 0: Hold age, units of 4,096 ct -/
def CRN_STATUS_HOLD_AGE : Fld := ⟨CRN_STATUS, 27, 16⟩
/-- RO, reset 0: Hops from the crown master -/
def CRN_STATUS_HOPS : Fld := ⟨CRN_STATUS, 12, 8⟩
/-- RO, reset 0: As reported in this module's beacons -/
def CRN_STATUS_HOLD_DEPTH : Fld := ⟨CRN_STATUS, 7, 6⟩
/-- RO, reset 0: 1 when the alternate link is the active parent -/
def CRN_STATUS_ON_ALT : Fld := ⟨CRN_STATUS, 5, 5⟩
/-- RO, reset 0: 1 while the crown runs -/
def CRN_STATUS_RUNNING : Fld := ⟨CRN_STATUS, 4, 4⟩
/-- RO, reset 0: Reference valid (R27) -/
def CRN_STATUS_REF_OK : Fld := ⟨CRN_STATUS, 3, 3⟩
/-- RO, reset 0: Root PLL locked -/
def CRN_STATUS_PLL_LOCK : Fld := ⟨CRN_STATUS, 2, 2⟩
/-- RO, reset 0b00: Lock state (R40) -/
def CRN_STATUS_STATE : Fld := ⟨CRN_STATUS, 1, 0⟩
/-- CRN_NOW (02_crown_and_clocking.md). -/
def CRN_NOW : Nat := 0x200010
/-- RO, reset 0: Crown counter in ct; 0 in FREE -/
def CRN_NOW_CROWN : Fld := ⟨CRN_NOW, 63, 0⟩
/-- CRN_START (02_crown_and_clocking.md). -/
def CRN_START : Nat := 0x200018
/-- RW, reset 0: Start value in ct for a master -/
def CRN_START_START : Fld := ⟨CRN_START, 63, 0⟩
/-- CRN_PARENT (02_crown_and_clocking.md). -/
def CRN_PARENT : Nat := 0x200020
/-- RW, reset 0: Module ID of the crown master from the plan -/
def CRN_PARENT_MASTER_ID : Fld := ⟨CRN_PARENT, 27, 16⟩
/-- RW, reset 0: Alternate parent link index, 0–23 -/
def CRN_PARENT_ALT : Fld := ⟨CRN_PARENT, 12, 8⟩
/-- RW, reset 0: Parent link index, 0–23 -/
def CRN_PARENT_PRI : Fld := ⟨CRN_PARENT, 4, 0⟩
/-- CRN_OFFSET (02_crown_and_clocking.md). -/
def CRN_OFFSET : Nat := 0x200028
/-- WO, reset 0: Writing 1 sets HWM and MON_MAX to 0 -/
def CRN_OFFSET_HWM_CLR : Fld := ⟨CRN_OFFSET, 48, 48⟩
/-- RO, reset 0: Largest monitor magnitude, unsigned sixteenths -/
def CRN_OFFSET_MON_MAX : Fld := ⟨CRN_OFFSET, 47, 32⟩
/-- RO, reset 0: Largest accepted parent-offset magnitude, unsigned sixteenths -/
def CRN_OFFSET_HWM : Fld := ⟨CRN_OFFSET, 31, 16⟩
/-- RO, reset 0: Last accepted offset, signed sixteenths -/
def CRN_OFFSET_OFFSET : Fld := ⟨CRN_OFFSET, 15, 0⟩
/-- CRN_TRIM (02_crown_and_clocking.md). -/
def CRN_TRIM : Nat := 0x200030
/-- RO, reset 0: Signed trim in units of 2^-32; magnitude never above 2^20 (R28) -/
def CRN_TRIM_TRIM : Fld := ⟨CRN_TRIM, 31, 0⟩
/-- CRN_HOLD (02_crown_and_clocking.md). -/
def CRN_HOLD : Nat := 0x200038
/-- RW, reset 0x400: Exchanges allowed in ACQUIRING (1,024; 4,194,304 ct) -/
def CRN_HOLD_ACQ_LIMIT : Fld := ⟨CRN_HOLD, 27, 16⟩
/-- RW, reset 0x080: Hold limit, units of 4,096 ct; 0 acts as 1 -/
def CRN_HOLD_HOLD_LIMIT : Fld := ⟨CRN_HOLD, 11, 0⟩
/-- CRN_BCN_MISS (02_crown_and_clocking.md). -/
def CRN_BCN_MISS : Nat := 0x200040
/-- CRN_BCN_REJECT (02_crown_and_clocking.md). -/
def CRN_BCN_REJECT : Nat := 0x200048
/-- CRN_MON_EXCESS (02_crown_and_clocking.md). -/
def CRN_MON_EXCESS : Nat := 0x200050
/-- CRN_ASYM (02_crown_and_clocking.md). -/
def CRN_ASYM (k : Nat) : Nat := 0x200100 + 8 * k
/-- RW, reset 0: Signed fibre asymmetry in sixteenths (R34) -/
def CRN_ASYM_ASYM (k : Nat) : Fld := ⟨CRN_ASYM k, 15, 0⟩
/-- TIME_CTRL (14_network_time.md). -/
def TIME_CTRL : Nat := 0x300000
/-- RW, reset 100: Slew limit in 0.1 ppm, 1–100; 0 acts as 1, above 100 as 100 -/
def TIME_CTRL_SLEW : Fld := ⟨TIME_CTRL, 22, 16⟩
/-- W1S, reset 0: 1 samples the five bases together into TIME_CAP_*; reads 0 -/
def TIME_CTRL_CAPTURE : Fld := ⟨TIME_CTRL, 7, 7⟩
/-- W1S, reset 0: 1 makes output time INVALID (R363); reads 0 -/
def TIME_CTRL_OUT_RESET : Fld := ⟨TIME_CTRL, 6, 6⟩
/-- RW, reset 0: Forward accepted bridge messages (R368) -/
def TIME_CTRL_BRIDGE_RELAY : Fld := ⟨TIME_CTRL, 5, 5⟩
/-- RW, reset 0: Originate bridge messages (R368) -/
def TIME_CTRL_BRIDGE_TX : Fld := ⟨TIME_CTRL, 4, 4⟩
/-- RW, reset 1: Automatic switch of SEL (R364) -/
def TIME_CTRL_AUTO : Fld := ⟨TIME_CTRL, 3, 3⟩
/-- RW, reset 0: 0 PTP-A, 1 PTP-B; set by the device under AUTO -/
def TIME_CTRL_SEL : Fld := ⟨TIME_CTRL, 2, 2⟩
/-- RW, reset 0: 0 the domains, 1 the bridge -/
def TIME_CTRL_OUT_SRC : Fld := ⟨TIME_CTRL, 1, 1⟩
/-- RW, reset 0: 1 keeps output time; 0 holds it INVALID -/
def TIME_CTRL_EN : Fld := ⟨TIME_CTRL, 0, 0⟩
/-- TIME_STATUS (14_network_time.md). -/
def TIME_STATUS : Nat := 0x300008
/-- RO, reset 0xFFFF: Age of the last accepted bridge, units of 2^16 ct; stops at 0xFFFF -/
def TIME_STATUS_BRIDGE_AGE : Fld := ⟨TIME_STATUS, 63, 48⟩
/-- W1C, reset 0: A CONVERT was refused (R367) -/
def TIME_STATUS_CONV_ERR : Fld := ⟨TIME_STATUS, 11, 11⟩
/-- RO, reset 3: Source in use: 0 PTP-A, 1 PTP-B, 2 bridge, 3 none -/
def TIME_STATUS_ON : Fld := ⟨TIME_STATUS, 9, 8⟩
/-- RO, reset 0: 0 INVALID, 1 TRACKING, 2 HOLDOVER -/
def TIME_STATUS_OUT_STATE : Fld := ⟨TIME_STATUS, 7, 6⟩
/-- RO, reset 0: State of domain B (R361) -/
def TIME_STATUS_DOM_B : Fld := ⟨TIME_STATUS, 3, 2⟩
/-- RO, reset 0: State of domain A (R361) -/
def TIME_STATUS_DOM_A : Fld := ⟨TIME_STATUS, 1, 0⟩
/-- TIME_CAP_CROWN (14_network_time.md). -/
def TIME_CAP_CROWN : Nat := 0x300010
/-- RO, reset 0: Value at the last CAPTURE, in the base's unit; 0 for a base not valid -/
def TIME_CAP_CROWN_VALUE : Fld := ⟨TIME_CAP_CROWN, 63, 0⟩
/-- TIME_CAP_OUT (14_network_time.md). -/
def TIME_CAP_OUT : Nat := 0x300018
/-- RO, reset 0: Value at the last CAPTURE, in the base's unit; 0 for a base not valid -/
def TIME_CAP_OUT_VALUE : Fld := ⟨TIME_CAP_OUT, 63, 0⟩
/-- TIME_CAP_A (14_network_time.md). -/
def TIME_CAP_A : Nat := 0x300020
/-- RO, reset 0: Value at the last CAPTURE, in the base's unit; 0 for a base not valid -/
def TIME_CAP_A_VALUE : Fld := ⟨TIME_CAP_A, 63, 0⟩
/-- TIME_CAP_B (14_network_time.md). -/
def TIME_CAP_B : Nat := 0x300028
/-- RO, reset 0: Value at the last CAPTURE, in the base's unit; 0 for a base not valid -/
def TIME_CAP_B_VALUE : Fld := ⟨TIME_CAP_B, 63, 0⟩
/-- TIME_CAP_MONO (14_network_time.md). -/
def TIME_CAP_MONO : Nat := 0x300030
/-- RO, reset 0: Value at the last CAPTURE, in the base's unit; 0 for a base not valid -/
def TIME_CAP_MONO_VALUE : Fld := ⟨TIME_CAP_MONO, 63, 0⟩
/-- TIME_OUT_OFS (14_network_time.md). -/
def TIME_OUT_OFS : Nat := 0x300038
/-- RO, reset 0: Signed d, in sixteenths of a nanosecond (R363) -/
def TIME_OUT_OFS_D : Fld := ⟨TIME_OUT_OFS, 47, 0⟩
/-- TIME_DOM_CFG (14_network_time.md). -/
def TIME_DOM_CFG (k : Nat) : Nat := 0x300040 + 32 * k
/-- RW, reset 100: Lock threshold, ns (R362) -/
def TIME_DOM_CFG_LOCK_NS (k : Nat) : Fld := ⟨TIME_DOM_CFG k, 47, 32⟩
/-- RW, reset 0: domainNumber -/
def TIME_DOM_CFG_DOMAIN (k : Nat) : Fld := ⟨TIME_DOM_CFG k, 31, 24⟩
/-- RW, reset 0: 0 IEEE 802.3, 1 UDP IPv4, 2 UDP IPv6; 3 reserved, and a write of it is ignored and sets CFG_ERR of TIME_TP_STATUS of no generator but TIME_STATUS is unchanged -/
def TIME_DOM_CFG_TRANSPORT (k : Nat) : Fld := ⟨TIME_DOM_CFG k, 19, 18⟩
/-- RW, reset 0: 0 end-to-end, 1 peer-to-peer -/
def TIME_DOM_CFG_DELAY (k : Nat) : Fld := ⟨TIME_DOM_CFG k, 17, 17⟩
/-- RW, reset 1: Own messages in one-step form (R358) -/
def TIME_DOM_CFG_ONE_STEP (k : Nat) : Fld := ⟨TIME_DOM_CFG k, 16, 16⟩
/-- RW, reset d: Port of the domain -/
def TIME_DOM_CFG_PORT (k : Nat) : Fld := ⟨TIME_DOM_CFG k, 1, 1⟩
/-- RW, reset 0: Domain enabled (R362) -/
def TIME_DOM_CFG_EN (k : Nat) : Fld := ⟨TIME_DOM_CFG k, 0, 0⟩
/-- TIME_DOM_OFFSET (14_network_time.md). -/
def TIME_DOM_OFFSET (k : Nat) : Nat := 0x300048 + 32 * k
/-- RO, reset 0: Last offset, signed sixteenths of a nanosecond (R360) -/
def TIME_DOM_OFFSET_OFFSET (k : Nat) : Fld := ⟨TIME_DOM_OFFSET k, 63, 32⟩
/-- RO, reset 0: Last mean path delay, sixteenths of a nanosecond -/
def TIME_DOM_OFFSET_PATH (k : Nat) : Fld := ⟨TIME_DOM_OFFSET k, 31, 0⟩
/-- TIME_DOM_MASTER (14_network_time.md). -/
def TIME_DOM_MASTER (k : Nat) : Nat := 0x300050 + 32 * k
/-- RO, reset 0: clockIdentity followed; 0 when none -/
def TIME_DOM_MASTER_IDENTITY (k : Nat) : Fld := ⟨TIME_DOM_MASTER k, 63, 0⟩
/-- TIME_DOM_UTC (14_network_time.md). -/
def TIME_DOM_UTC (k : Nat) : Nat := 0x300058 + 32 * k
/-- RO, reset 0: currentUtcOffsetValid of the master -/
def TIME_DOM_UTC_VALID (k : Nat) : Fld := ⟨TIME_DOM_UTC k, 16, 16⟩
/-- RO, reset 0: currentUtcOffset, signed seconds -/
def TIME_DOM_UTC_OFFSET (k : Nat) : Fld := ⟨TIME_DOM_UTC k, 15, 0⟩
/-- TIME_PORT_LAT (14_network_time.md). -/
def TIME_PORT_LAT (k : Nat) : Nat := 0x3000C0 + 8 * k
/-- RW, reset 0: Signed delayAsymmetry, sixteenths of a nanosecond (R360) -/
def TIME_PORT_LAT_ASYM (k : Nat) : Fld := ⟨TIME_PORT_LAT k, 47, 32⟩
/-- RW, reset CAL: Egress latency, sixteenths of a nanosecond (R359) -/
def TIME_PORT_LAT_EGRESS (k : Nat) : Fld := ⟨TIME_PORT_LAT k, 31, 16⟩
/-- RW, reset CAL: Ingress latency, sixteenths of a nanosecond (R359) -/
def TIME_PORT_LAT_INGRESS (k : Nat) : Fld := ⟨TIME_PORT_LAT k, 15, 0⟩
/-- TIME_BRIDGE_CROWN (14_network_time.md). -/
def TIME_BRIDGE_CROWN : Nat := 0x3000D0
/-- RO, reset 0: R368 -/
def TIME_BRIDGE_CROWN_CROWN : Fld := ⟨TIME_BRIDGE_CROWN, 63, 0⟩
/-- TIME_BRIDGE_OUT (14_network_time.md). -/
def TIME_BRIDGE_OUT : Nat := 0x3000D8
/-- RO, reset 0: R368 -/
def TIME_BRIDGE_OUT_OUT : Fld := ⟨TIME_BRIDGE_OUT, 63, 0⟩
/-- TIME_BRIDGE_RATE (14_network_time.md). -/
def TIME_BRIDGE_RATE : Nat := 0x3000E0
/-- RO, reset 0: R368 -/
def TIME_BRIDGE_RATE_SEQ : Fld := ⟨TIME_BRIDGE_RATE, 63, 48⟩
/-- RO, reset 0: R368 -/
def TIME_BRIDGE_RATE_MASTER : Fld := ⟨TIME_BRIDGE_RATE, 43, 32⟩
/-- RO, reset 0: Signed, in 2^-32 -/
def TIME_BRIDGE_RATE_RHO : Fld := ⟨TIME_BRIDGE_RATE, 31, 0⟩
/-- TIME_BRIDGE_CHILD (12_images_and_loader.md). -/
def TIME_BRIDGE_CHILD : Nat := 0x3000E8
/-- RW, reset 0: Child 0 present -/
def TIME_BRIDGE_CHILD_VALID0 : Fld := ⟨TIME_BRIDGE_CHILD, 15, 15⟩
/-- RW, reset 0: Module ID of child 0 -/
def TIME_BRIDGE_CHILD_ID0 : Fld := ⟨TIME_BRIDGE_CHILD, 11, 0⟩
/-- RW, reset 0: Child 1 present -/
def TIME_BRIDGE_CHILD_VALID1 : Fld := ⟨TIME_BRIDGE_CHILD, 31, 31⟩
/-- RW, reset 0: Module ID of child 1 -/
def TIME_BRIDGE_CHILD_ID1 : Fld := ⟨TIME_BRIDGE_CHILD, 27, 16⟩
/-- RW, reset 0: Child 2 present -/
def TIME_BRIDGE_CHILD_VALID2 : Fld := ⟨TIME_BRIDGE_CHILD, 47, 47⟩
/-- RW, reset 0: Module ID of child 2 -/
def TIME_BRIDGE_CHILD_ID2 : Fld := ⟨TIME_BRIDGE_CHILD, 43, 32⟩
/-- RW, reset 0: Child 3 present -/
def TIME_BRIDGE_CHILD_VALID3 : Fld := ⟨TIME_BRIDGE_CHILD, 63, 63⟩
/-- RW, reset 0: Module ID of child 3 -/
def TIME_BRIDGE_CHILD_ID3 : Fld := ⟨TIME_BRIDGE_CHILD, 59, 48⟩
/-- TIME_TP_CTRL (14_network_time.md). -/
def TIME_TP_CTRL (k : Nat) : Nat := 0x300100 + 32 * k
/-- RW, reset 1: Active width, ct; 0 acts as 1 -/
def TIME_TP_CTRL_WIDTH (k : Nat) : Fld := ⟨TIME_TP_CTRL k, 43, 24⟩
/-- RW, reset 0: Edges to fire; 0 unlimited -/
def TIME_TP_CTRL_COUNT (k : Nat) : Fld := ⟨TIME_TP_CTRL k, 23, 8⟩
/-- RW, reset 0: 0 crown, 1 PTP-A, 2 PTP-B, 3 local monotonic, 4 output time; others reserved -/
def TIME_TP_CTRL_BASE (k : Nat) : Fld := ⟨TIME_TP_CTRL k, 6, 4⟩
/-- RW, reset 0: 0 active high, 1 active low -/
def TIME_TP_CTRL_POL (k : Nat) : Fld := ⟨TIME_TP_CTRL k, 3, 3⟩
/-- W1S, reset 0: 1 disarms (R373); reads 0 -/
def TIME_TP_CTRL_STOP (k : Nat) : Fld := ⟨TIME_TP_CTRL k, 1, 1⟩
/-- W1S, reset 0: 1 arms (R372); reads 0 -/
def TIME_TP_CTRL_ARM (k : Nat) : Fld := ⟨TIME_TP_CTRL k, 0, 0⟩
/-- TIME_TP_START (14_network_time.md). -/
def TIME_TP_START (k : Nat) : Nat := 0x300108 + 32 * k
/-- RW, reset 0: Due time of edge 0; RW while ARMED = 0 -/
def TIME_TP_START_START (k : Nat) : Fld := ⟨TIME_TP_START k, 63, 0⟩
/-- TIME_TP_PERIOD (14_network_time.md). -/
def TIME_TP_PERIOD (k : Nat) : Nat := 0x300110 + 32 * k
/-- RW, reset 0: Period; RW while ARMED = 0 -/
def TIME_TP_PERIOD_PERIOD (k : Nat) : Fld := ⟨TIME_TP_PERIOD k, 63, 0⟩
/-- TIME_TP_STATUS (14_network_time.md). -/
def TIME_TP_STATUS (k : Nat) : Nat := 0x300118 + 32 * k
/-- RO, reset 0: Edges fired since the last ARM; stops at 0xFFFF_FFFF -/
def TIME_TP_STATUS_FIRED (k : Nat) : Fld := ⟨TIME_TP_STATUS k, 63, 32⟩
/-- W1C, reset 0: R372 -/
def TIME_TP_STATUS_SKIPPED (k : Nat) : Fld := ⟨TIME_TP_STATUS k, 7, 7⟩
/-- W1C, reset 0: R373 -/
def TIME_TP_STATUS_MISSED (k : Nat) : Fld := ⟨TIME_TP_STATUS k, 6, 6⟩
/-- W1C, reset 0: Cancelled by entry to FREE (R373) -/
def TIME_TP_STATUS_CANCELLED (k : Nat) : Fld := ⟨TIME_TP_STATUS k, 5, 5⟩
/-- W1C, reset 0: A one-shot ARM was too late (R372) -/
def TIME_TP_STATUS_LATE (k : Nat) : Fld := ⟨TIME_TP_STATUS k, 4, 4⟩
/-- W1C, reset 0: An ARM was refused for its configuration -/
def TIME_TP_STATUS_CFG_ERR (k : Nat) : Fld := ⟨TIME_TP_STATUS k, 3, 3⟩
/-- RO, reset 0: Armed and waiting for a valid base -/
def TIME_TP_STATUS_WAIT_BASE (k : Nat) : Fld := ⟨TIME_TP_STATUS k, 2, 2⟩
/-- RO, reset 0: The generator is armed -/
def TIME_TP_STATUS_ARMED (k : Nat) : Fld := ⟨TIME_TP_STATUS k, 0, 0⟩
/-- TIME_PTP_RX_CNT (02_crown_and_clocking.md). -/
def TIME_PTP_RX_CNT : Nat := 0x300200
/-- TIME_PTP_TX_CNT (02_crown_and_clocking.md). -/
def TIME_PTP_TX_CNT : Nat := 0x300208
/-- TIME_PTP_DROP_CNT (02_crown_and_clocking.md). -/
def TIME_PTP_DROP_CNT : Nat := 0x300210
/-- TIME_DOM_LOSS_CNT (02_crown_and_clocking.md). -/
def TIME_DOM_LOSS_CNT : Nat := 0x300218
/-- TIME_BRIDGE_RX_CNT (02_crown_and_clocking.md). -/
def TIME_BRIDGE_RX_CNT : Nat := 0x300220
/-- TIME_BRIDGE_DROP_CNT (02_crown_and_clocking.md). -/
def TIME_BRIDGE_DROP_CNT : Nat := 0x300228
/-- TIME_TP_MISS_CNT (02_crown_and_clocking.md). -/
def TIME_TP_MISS_CNT : Nat := 0x300230
/-- NVM_CMD (15_bringup_and_discovery.md). -/
def NVM_CMD : Nat := 0x400000
/-- WO, reset 0: 1 READ, 2 OPEN, 3 WRITE, 4 COMMIT, 5 ABORT, 6 APPEND, 7 STORE_LIVE (R382) -/
def NVM_CMD_CMD : Fld := ⟨NVM_CMD, 63, 60⟩
/-- WO, reset 0: Section code (R380) -/
def NVM_CMD_SECTION : Fld := ⟨NVM_CMD, 59, 56⟩
/-- WO, reset 0: READ: 0 copy A, 1 copy B -/
def NVM_CMD_COPY : Fld := ⟨NVM_CMD, 55, 55⟩
/-- WO, reset 0: Sector within the copy, data from 1; LOG sector 0–4 -/
def NVM_CMD_INDEX : Fld := ⟨NVM_CMD, 47, 32⟩
/-- WO, reset 0: OPEN: data bytes -/
def NVM_CMD_LENGTH : Fld := ⟨NVM_CMD, 31, 0⟩
/-- NVM_STATUS (15_bringup_and_discovery.md). -/
def NVM_STATUS : Nat := 0x400008
/-- RO, reset 0: A command runs -/
def NVM_STATUS_BUSY : Fld := ⟨NVM_STATUS, 63, 63⟩
/-- RO, reset 0: 0 none, 1 OK, 2 LOCKED, 3 WORN, 4 BUSY, 5 INVALID, 6 VERIFY, 7 NOT_OPEN -/
def NVM_STATUS_RESULT : Fld := ⟨NVM_STATUS, 62, 59⟩
/-- RO, reset 0: A copy is open -/
def NVM_STATUS_OPEN : Fld := ⟨NVM_STATUS, 58, 58⟩
/-- RO, reset 0: Section of the open copy -/
def NVM_STATUS_OPEN_SECTION : Fld := ⟨NVM_STATUS, 57, 55⟩
/-- RO, reset 0: Highest erase count of any sector -/
def NVM_STATUS_WEAR_MAX : Fld := ⟨NVM_STATUS, 37, 21⟩
/-- RO, reset 0: Bit s: section s has a valid copy (R381) -/
def NVM_STATUS_VALID : Fld := ⟨NVM_STATUS, 11, 6⟩
/-- RO, reset 0: Bit s: copy B is chosen for section s -/
def NVM_STATUS_CHOSEN_B : Fld := ⟨NVM_STATUS, 5, 0⟩
/-- NVM_SECT (15_bringup_and_discovery.md). -/
def NVM_SECT (k : Nat) : Nat := 0x400010 + 8 * k
/-- RO, reset 0: GENERATION of the chosen copy -/
def NVM_SECT_GENERATION (k : Nat) : Fld := ⟨NVM_SECT k, 63, 32⟩
/-- RO, reset 0: Its LENGTH in bytes -/
def NVM_SECT_LENGTH (k : Nat) : Fld := ⟨NVM_SECT k, 31, 0⟩
/-- NVM_LOG (15_bringup_and_discovery.md). -/
def NVM_LOG : Nat := 0x400040
/-- RO, reset 0: Slots holding entries, 0–320 -/
def NVM_LOG_ENTRIES : Fld := ⟨NVM_LOG, 24, 16⟩
/-- RO, reset 0: Slot the next APPEND writes, 0–319 -/
def NVM_LOG_NEXT : Fld := ⟨NVM_LOG, 8, 0⟩
/-- NVM_STORE_CNT (02_crown_and_clocking.md). -/
def NVM_STORE_CNT : Nat := 0x400100
/-- NVM_BUF (15_bringup_and_discovery.md). -/
def NVM_BUF (k : Nat) : Nat := 0x401000 + 8 * k
/-- RW, reset 0: Sector buffer bytes, little-endian -/
def NVM_BUF_DATA (k : Nat) : Fld := ⟨NVM_BUF k, 63, 0⟩
/-- CUF_CTRL (03_stitch_programs.md). -/
def CUF_CTRL : Nat := 0x1000000
/-- RW, reset 0: 1 selects automatic fill (R95); RW while RUN = 0 -/
def CUF_CTRL_FILL_AUTO : Fld := ⟨CUF_CTRL, 3, 3⟩
/-- W1S, reset 0: 1 arms the verified shadow set (R95, R96); reads 0 -/
def CUF_CTRL_ARM : Fld := ⟨CUF_CTRL, 2, 2⟩
/-- W1S, reset 0: 1 starts verification of the shadow set; reads 0 -/
def CUF_CTRL_VERIFY : Fld := ⟨CUF_CTRL, 1, 1⟩
/-- RW, reset 0: 1 enables scheduled traffic (R98) -/
def CUF_CTRL_RUN : Fld := ⟨CUF_CTRL, 0, 0⟩
/-- CUF_STATUS (03_stitch_programs.md). -/
def CUF_STATUS : Nat := 0x1000008
/-- RO, reset 0: Bits [15:0] of the index of the seam at the last swap -/
def CUF_STATUS_LAST_SWAP_SEAM : Fld := ⟨CUF_STATUS, 31, 16⟩
/-- W1C, reset 0: A write to LNK_SQ_CFG, LNK_RQ_CFG or CUF_BANK_CFG was refused -/
def CUF_STATUS_CFG_ERR : Fld := ⟨CUF_STATUS, 7, 7⟩
/-- W1C, reset 0: A write or command was ignored under R93, R95 or R99 -/
def CUF_STATUS_WR_REFUSED : Fld := ⟨CUF_STATUS, 6, 6⟩
/-- RO, reset 0: A shadow set is armed -/
def CUF_STATUS_ARMED : Fld := ⟨CUF_STATUS, 5, 5⟩
/-- RO, reset 0: The last verification refused; see CUF_VERIFY_ERR -/
def CUF_STATUS_VERIFY_FAIL : Fld := ⟨CUF_STATUS, 4, 4⟩
/-- RO, reset 0: The shadow set passed verification and has not been written since -/
def CUF_STATUS_VERIFY_OK : Fld := ⟨CUF_STATUS, 3, 3⟩
/-- RO, reset 0: Fill or verification in progress -/
def CUF_STATUS_VERIFY_BUSY : Fld := ⟨CUF_STATUS, 2, 2⟩
/-- RO, reset 0: Scheduled traffic running under the active set -/
def CUF_STATUS_RUNNING : Fld := ⟨CUF_STATUS, 1, 1⟩
/-- RO, reset 0: Active bank, 0 or 1 -/
def CUF_STATUS_ACTIVE_BANK : Fld := ⟨CUF_STATUS, 0, 0⟩
/-- CUF_MITTEN (03_stitch_programs.md). -/
def CUF_MITTEN : Nat := 0x1000010
/-- RW, reset 0: Mitten ID; RW while RUN = 0 -/
def CUF_MITTEN_MITTEN : Fld := ⟨CUF_MITTEN, 11, 0⟩
/-- CUF_BANK_CFG (03_stitch_programs.md). -/
def CUF_BANK_CFG : Nat := 0x1000018
/-- RW, reset 0: Loose phase, 0–31; writes ignored as for N (R93) -/
def CUF_BANK_CFG_LOOSE_PHASE : Fld := ⟨CUF_BANK_CFG, 20, 16⟩
/-- RW, reset 0x8000: Round length in st, a multiple of 32 from 32 to 32,768; a write of 0, above 0x8000 or not a multiple of 32 is ignored and sets CFG_ERR; every write to the register is ignored while ARMED or VERIFY_BUSY is 1 and sets WR_REFUSED (R93) -/
def CUF_BANK_CFG_N : Fld := ⟨CUF_BANK_CFG, 15, 0⟩
/-- CUF_ACTIVE_CFG (03_stitch_programs.md). -/
def CUF_ACTIVE_CFG : Nat := 0x1000020
/-- RW, reset 0: Loose phase in force. Loaded from the swapped set at every bank swap. RW while RUN = 0, so that the driver can align modules that run no image (R164) -/
def CUF_ACTIVE_CFG_LOOSE_PHASE : Fld := ⟨CUF_ACTIVE_CFG, 20, 16⟩
/-- RO, reset 0x8000: Round length in force, in st -/
def CUF_ACTIVE_CFG_N : Fld := ⟨CUF_ACTIVE_CFG, 15, 0⟩
/-- CUF_VERIFY_ERR (03_stitch_programs.md). -/
def CUF_VERIFY_ERR : Nat := 0x1000028
/-- RO, reset 0: Refusal reason (R92); 0 none -/
def CUF_VERIFY_ERR_REASON : Fld := ⟨CUF_VERIFY_ERR, 63, 60⟩
/-- RO, reset 0: Link index 0–23 -/
def CUF_VERIFY_ERR_LINK : Fld := ⟨CUF_VERIFY_ERR, 52, 48⟩
/-- RO, reset 0: 0 send program, 1 land program -/
def CUF_VERIFY_ERR_DIR : Fld := ⟨CUF_VERIFY_ERR, 47, 47⟩
/-- RO, reset 0: Entry position -/
def CUF_VERIFY_ERR_POSITION : Fld := ⟨CUF_VERIFY_ERR, 46, 32⟩
/-- RO, reset 0: Bits [31:0] of the segment index in automatic mode; 0 in manual mode -/
def CUF_VERIFY_ERR_SEGMENT : Fld := ⟨CUF_VERIFY_ERR, 31, 0⟩
/-- CUF_SWAP_CNT (02_crown_and_clocking.md). -/
def CUF_SWAP_CNT : Nat := 0x1000030
/-- CUF_SEAM (04_brim_lag_and_seams.md). -/
def CUF_SEAM : Nat := 0x1000038
/-- RO, reset 0: Index of the current segment, which is the index of its closing seam; 0 before image start -/
def CUF_SEAM_SEGMENT : Fld := ⟨CUF_SEAM, 63, 32⟩
/-- RO, reset 0: Grace of the closing seam, in ct -/
def CUF_SEAM_GRACE : Fld := ⟨CUF_SEAM, 15, 0⟩
/-- CUF_SEAM_TICK (04_brim_lag_and_seams.md). -/
def CUF_SEAM_TICK : Nat := 0x1000040
/-- RO, reset 0: Crown tick of the closing seam -/
def CUF_SEAM_TICK_TICK : Fld := ⟨CUF_SEAM_TICK, 63, 0⟩
/-- CUF_SEAM_RESULT (04_brim_lag_and_seams.md). -/
def CUF_SEAM_RESULT : Nat := 0x1000048
/-- RO, reset 0: 0 passed, or the CAUSE value of R116 -/
def CUF_SEAM_RESULT_CAUSE : Fld := ⟨CUF_SEAM_RESULT, 63, 60⟩
/-- RO, reset 0: Link index 0–23 for causes 1, 2, 3 and 5 -/
def CUF_SEAM_RESULT_LINK : Fld := ⟨CUF_SEAM_RESULT, 57, 53⟩
/-- RO, reset 0: Lag in st for causes 2 and 3; received index bits [15:0] for cause 1; op index bits [15:0] for cause 4 -/
def CUF_SEAM_RESULT_VALUE : Fld := ⟨CUF_SEAM_RESULT, 47, 32⟩
/-- RO, reset 0: Index of the seam last checked -/
def CUF_SEAM_RESULT_SEAM : Fld := ⟨CUF_SEAM_RESULT, 31, 0⟩
/-- CUF_SEAM_PASS_CNT (02_crown_and_clocking.md). -/
def CUF_SEAM_PASS_CNT : Nat := 0x1000050
/-- CUF_ECC_CORR_CNT (02_crown_and_clocking.md). -/
def CUF_ECC_CORR_CNT : Nat := 0x1000058
/-- LNK_CTRL (05_link_layer.md). -/
def LNK_CTRL (j : Nat) : Nat := 0x1100000 + 0x10000 * j
/-- RW, reset 8: Largest width proposed: 8, 4, 2 or 1; other values act as 8 -/
def LNK_CTRL_WIDTH_MAX (j : Nat) : Fld := ⟨LNK_CTRL j, 15, 12⟩
/-- RW, reset 0: Retrain kind for RETRAIN: 0 quick, 1 full -/
def LNK_CTRL_MODE (j : Nat) : Fld := ⟨LNK_CTRL j, 9, 9⟩
/-- W1S, reset 0: 1 starts a retrain of kind MODE, by TRAIN request (R149); reads 0 -/
def LNK_CTRL_RETRAIN (j : Nat) : Fld := ⟨LNK_CTRL j, 8, 8⟩
/-- RW, reset 0: 1 enables the link (DETECT); 0 enters DISABLED -/
def LNK_CTRL_EN (j : Nat) : Fld := ⟨LNK_CTRL j, 0, 0⟩
/-- LNK_STATUS (05_link_layer.md). -/
def LNK_STATUS (j : Nat) : Nat := 0x1100008 + 0x10000 * j
/-- RO, reset 0: Receive lanes judged bad (R146) -/
def LNK_STATUS_LANE_BAD (j : Nat) : Fld := ⟨LNK_STATUS j, 63, 56⟩
/-- RO, reset 0: Width in use: 8, 4, 2, 1; 0 when not UP -/
def LNK_STATUS_WIDTH (j : Nat) : Fld := ⟨LNK_STATUS j, 23, 20⟩
/-- RO, reset 0: Receive lane group -/
def LNK_STATUS_RX_GROUP (j : Nat) : Fld := ⟨LNK_STATUS j, 19, 17⟩
/-- RO, reset 0: Transmit lane group, chosen by the peer -/
def LNK_STATUS_TX_GROUP (j : Nat) : Fld := ⟨LNK_STATUS j, 16, 14⟩
/-- RO, reset 0: Last valid LCW carried RX_DOWN -/
def LNK_STATUS_PEER_RX_DOWN (j : Nat) : Fld := ⟨LNK_STATUS j, 11, 11⟩
/-- RO, reset 0: Receive side locked -/
def LNK_STATUS_RX_LOCK (j : Nat) : Fld := ⟨LNK_STATUS j, 10, 10⟩
/-- RO, reset 0: 1 leader, 0 follower, at the last negotiation -/
def LNK_STATUS_ROLE (j : Nat) : Fld := ⟨LNK_STATUS j, 9, 9⟩
/-- RO, reset 0: Training state (R144) -/
def LNK_STATUS_STATE (j : Nat) : Fld := ⟨LNK_STATUS j, 2, 0⟩
/-- LNK_REPLAY_CFG (05_link_layer.md). -/
def LNK_REPLAY_CFG (j : Nat) : Nat := 0x1100010 + 0x10000 * j
/-- RW, reset 16: Replays allowed per 2^21 ct window (R142) -/
def LNK_REPLAY_CFG_RATE_MAX (j : Nat) : Fld := ⟨LNK_REPLAY_CFG j, 23, 16⟩
/-- RW, reset 4: Consecutive replays of one flit (R142); 0 acts as 1 -/
def LNK_REPLAY_CFG_LIMIT (j : Nat) : Fld := ⟨LNK_REPLAY_CFG j, 2, 0⟩
/-- LNK_LANE_CFG (05_link_layer.md). -/
def LNK_LANE_CFG (j : Nat) : Nat := 0x1100018 + 0x10000 * j
/-- RW, reset 0x0_8000: Corrected symbols per receive lane per 2^20 codewords (R146, R148) -/
def LNK_LANE_CFG_THRESH (j : Nat) : Fld := ⟨LNK_LANE_CFG j, 19, 0⟩
/-- LNK_SEQ_SCHED (05_link_layer.md). -/
def LNK_SEQ_SCHED (j : Nat) : Nat := 0x1100020 + 0x10000 * j
/-- RO, reset 0: Unacknowledged flits of the class, 0–1,024 -/
def LNK_SEQ_SCHED_UNACKED (j : Nat) : Fld := ⟨LNK_SEQ_SCHED j, 58, 48⟩
/-- RO, reset 0: Next number expected (e) -/
def LNK_SEQ_SCHED_RX_EXPECT (j : Nat) : Fld := ⟨LNK_SEQ_SCHED j, 47, 24⟩
/-- RO, reset 0: Next number to be given to a new flit -/
def LNK_SEQ_SCHED_TX_NEXT (j : Nat) : Fld := ⟨LNK_SEQ_SCHED j, 23, 0⟩
/-- LNK_SEQ_LOOSE (05_link_layer.md). -/
def LNK_SEQ_LOOSE (j : Nat) : Nat := 0x1100028 + 0x10000 * j
/-- RO, reset 0: Unacknowledged flits of the class, 0–1,024 -/
def LNK_SEQ_LOOSE_UNACKED (j : Nat) : Fld := ⟨LNK_SEQ_LOOSE j, 58, 48⟩
/-- RO, reset 0: Next number expected (e) -/
def LNK_SEQ_LOOSE_RX_EXPECT (j : Nat) : Fld := ⟨LNK_SEQ_LOOSE j, 47, 24⟩
/-- RO, reset 0: Next number to be given to a new flit -/
def LNK_SEQ_LOOSE_TX_NEXT (j : Nat) : Fld := ⟨LNK_SEQ_LOOSE j, 23, 0⟩
/-- LNK_TRAIN_INFO (05_link_layer.md). -/
def LNK_TRAIN_INFO (j : Nat) : Nat := 0x1100030 + 0x10000 * j
/-- RO, reset 0: Length of the last training, from leaving UP or DETECT to reaching UP, in ct; stops at 0xFFFF_FFFF -/
def LNK_TRAIN_INFO_DURATION (j : Nat) : Fld := ⟨LNK_TRAIN_INFO j, 63, 32⟩
/-- RO, reset 0: What started it: 0 none, 1 EN, 2 LNK_CTRL.RETRAIN, 3 receive lock lost, 4 peer training frames, 5 LINK_REPLAY_LIMIT, 6 lane, 7 peer request, 8 band declaration -/
def LNK_TRAIN_INFO_CAUSE (j : Nat) : Fld := ⟨LNK_TRAIN_INFO j, 31, 28⟩
/-- RO, reset 0: Trainings that reached FAILED since EN was last set; stops at 255 -/
def LNK_TRAIN_INFO_FAILS (j : Nat) : Fld := ⟨LNK_TRAIN_INFO j, 23, 16⟩
/-- LNK_CRC_ERR_CNT (02_crown_and_clocking.md). -/
def LNK_CRC_ERR_CNT (j : Nat) : Nat := 0x1100040 + 0x10000 * j
/-- LNK_FEC_UNCORR_CNT (02_crown_and_clocking.md). -/
def LNK_FEC_UNCORR_CNT (j : Nat) : Nat := 0x1100048 + 0x10000 * j
/-- LNK_LCW_ERR_CNT (02_crown_and_clocking.md). -/
def LNK_LCW_ERR_CNT (j : Nat) : Nat := 0x1100050 + 0x10000 * j
/-- LNK_NAK_TX_CNT (02_crown_and_clocking.md). -/
def LNK_NAK_TX_CNT (j : Nat) : Nat := 0x1100058 + 0x10000 * j
/-- LNK_NAK_RX_CNT (02_crown_and_clocking.md). -/
def LNK_NAK_RX_CNT (j : Nat) : Nat := 0x1100060 + 0x10000 * j
/-- LNK_REPLAY_CNT (02_crown_and_clocking.md). -/
def LNK_REPLAY_CNT (j : Nat) : Nat := 0x1100068 + 0x10000 * j
/-- LNK_TIMER_REPLAY_CNT (02_crown_and_clocking.md). -/
def LNK_TIMER_REPLAY_CNT (j : Nat) : Nat := 0x1100070 + 0x10000 * j
/-- LNK_RESENT_CNT (02_crown_and_clocking.md). -/
def LNK_RESENT_CNT (j : Nat) : Nat := 0x1100078 + 0x10000 * j
/-- LNK_DUP_CNT (02_crown_and_clocking.md). -/
def LNK_DUP_CNT (j : Nat) : Nat := 0x1100080 + 0x10000 * j
/-- LNK_RETRAIN_CNT (02_crown_and_clocking.md). -/
def LNK_RETRAIN_CNT (j : Nat) : Nat := 0x1100088 + 0x10000 * j
/-- LNK_COLLIDE_CNT (02_crown_and_clocking.md). -/
def LNK_COLLIDE_CNT (j : Nat) : Nat := 0x1100090 + 0x10000 * j
/-- LNK_FAILOVER_CNT (02_crown_and_clocking.md). -/
def LNK_FAILOVER_CNT (j : Nat) : Nat := 0x1100098 + 0x10000 * j
/-- LNK_LANE_CORR_CNT (02_crown_and_clocking.md). -/
def LNK_LANE_CORR_CNT (j : Nat) (k : Nat) : Nat := 0x1100100 + 0x10000 * j + 8 * k
/-- LNK_SCHED_STATUS (03_stitch_programs.md). -/
def LNK_SCHED_STATUS (j : Nat) : Nat := 0x1100400 + 0x10000 * j
/-- RO, reset 0: Mitten ID reported by the neighbour -/
def LNK_SCHED_STATUS_NBR_MITTEN (j : Nat) : Fld := ⟨LNK_SCHED_STATUS j, 47, 36⟩
/-- RO, reset 0: Effective flight at the last training, in st (R81) -/
def LNK_SCHED_STATUS_FLIGHT (j : Nat) : Fld := ⟨LNK_SCHED_STATUS j, 27, 16⟩
/-- RO, reset link: 0 near, 1 far -/
def LNK_SCHED_STATUS_CLASS (j : Nat) : Fld := ⟨LNK_SCHED_STATUS j, 5, 5⟩
/-- RO, reset 0: FLIGHT + 4 st exceeds the class allowance -/
def LNK_SCHED_STATUS_FLIGHT_OVER (j : Nat) : Fld := ⟨LNK_SCHED_STATUS j, 4, 4⟩
/-- RO, reset 0: Trained at 8 lanes -/
def LNK_SCHED_STATUS_WIDTH_OK (j : Nat) : Fld := ⟨LNK_SCHED_STATUS j, 3, 3⟩
/-- RO, reset 0: Inside the mitten (R94) -/
def LNK_SCHED_STATUS_IN_MITTEN (j : Nat) : Fld := ⟨LNK_SCHED_STATUS j, 2, 2⟩
/-- RO, reset 0: Fit for scheduled traffic (R81) -/
def LNK_SCHED_STATUS_FIT (j : Nat) : Fld := ⟨LNK_SCHED_STATUS j, 1, 1⟩
/-- RO, reset 0: The active set holds scheduled entries on this link -/
def LNK_SCHED_STATUS_SCHED_ACTIVE (j : Nat) : Fld := ⟨LNK_SCHED_STATUS j, 0, 0⟩
/-- LNK_BAND (03_stitch_programs.md). -/
def LNK_BAND (j : Nat) : Nat := 0x1100408 + 0x10000 * j
/-- RO, reset link: Link index whose programs this link runs (R90) -/
def LNK_BAND_CARRIES (j : Nat) : Fld := ⟨LNK_BAND j, 21, 17⟩
/-- RO, reset 0: This member's stitches have moved to the spare -/
def LNK_BAND_FAILED (j : Nat) : Fld := ⟨LNK_BAND j, 16, 16⟩
/-- RW, reset link: Link index of member 0; RW while RUN = 0 -/
def LNK_BAND_LEAD (j : Nat) : Fld := ⟨LNK_BAND j, 12, 8⟩
/-- RW, reset 0: Member number; RW while RUN = 0 -/
def LNK_BAND_MEMBER (j : Nat) : Fld := ⟨LNK_BAND j, 7, 5⟩
/-- RW, reset 0: Band runs in spare mode; RW while RUN = 0 -/
def LNK_BAND_SPARE (j : Nat) : Fld := ⟨LNK_BAND j, 1, 1⟩
/-- RW, reset 0: 1 makes the link a member of the band led by LEAD; 0 a band of one -/
def LNK_BAND_EN (j : Nat) : Fld := ⟨LNK_BAND j, 0, 0⟩
/-- LNK_SQ_CFG (03_stitch_programs.md). -/
def LNK_SQ_CFG (j : Nat) : Nat := 0x1100410 + 0x10000 * j
/-- RW, reset 0: Capacity of queue 7, in units of 8 flits -/
def LNK_SQ_CFG_CAP7 (j : Nat) : Fld := ⟨LNK_SQ_CFG j, 62, 56⟩
/-- RW, reset 0: Queue 6 -/
def LNK_SQ_CFG_CAP6 (j : Nat) : Fld := ⟨LNK_SQ_CFG j, 55, 49⟩
/-- RW, reset 0: Queue 5 -/
def LNK_SQ_CFG_CAP5 (j : Nat) : Fld := ⟨LNK_SQ_CFG j, 48, 42⟩
/-- RW, reset 0: Queue 4 -/
def LNK_SQ_CFG_CAP4 (j : Nat) : Fld := ⟨LNK_SQ_CFG j, 41, 35⟩
/-- RW, reset 0: Queue 3 -/
def LNK_SQ_CFG_CAP3 (j : Nat) : Fld := ⟨LNK_SQ_CFG j, 34, 28⟩
/-- RW, reset 0: Queue 2 -/
def LNK_SQ_CFG_CAP2 (j : Nat) : Fld := ⟨LNK_SQ_CFG j, 27, 21⟩
/-- RW, reset 0: Queue 1 -/
def LNK_SQ_CFG_CAP1 (j : Nat) : Fld := ⟨LNK_SQ_CFG j, 20, 14⟩
/-- RW, reset 64: Queue 0 -/
def LNK_SQ_CFG_CAP0 (j : Nat) : Fld := ⟨LNK_SQ_CFG j, 6, 0⟩
/-- LNK_RQ_CFG (03_stitch_programs.md). -/
def LNK_RQ_CFG (j : Nat) : Nat := 0x1100418 + 0x10000 * j
/-- RW, reset 0: Capacity of queue 7, in units of 8 flits -/
def LNK_RQ_CFG_CAP7 (j : Nat) : Fld := ⟨LNK_RQ_CFG j, 62, 56⟩
/-- RW, reset 0: Queue 6 -/
def LNK_RQ_CFG_CAP6 (j : Nat) : Fld := ⟨LNK_RQ_CFG j, 55, 49⟩
/-- RW, reset 0: Queue 5 -/
def LNK_RQ_CFG_CAP5 (j : Nat) : Fld := ⟨LNK_RQ_CFG j, 48, 42⟩
/-- RW, reset 0: Queue 4 -/
def LNK_RQ_CFG_CAP4 (j : Nat) : Fld := ⟨LNK_RQ_CFG j, 41, 35⟩
/-- RW, reset 0: Queue 3 -/
def LNK_RQ_CFG_CAP3 (j : Nat) : Fld := ⟨LNK_RQ_CFG j, 34, 28⟩
/-- RW, reset 0: Queue 2 -/
def LNK_RQ_CFG_CAP2 (j : Nat) : Fld := ⟨LNK_RQ_CFG j, 27, 21⟩
/-- RW, reset 0: Queue 1 -/
def LNK_RQ_CFG_CAP1 (j : Nat) : Fld := ⟨LNK_RQ_CFG j, 20, 14⟩
/-- RW, reset 64: Queue 0 -/
def LNK_RQ_CFG_CAP0 (j : Nat) : Fld := ⟨LNK_RQ_CFG j, 6, 0⟩
/-- LNK_QUEUE_HWM (03_stitch_programs.md). -/
def LNK_QUEUE_HWM (j : Nat) : Nat := 0x1100420 + 0x10000 * j
/-- WO, reset 0: Writing 1 sets SQ_HWM and RQ_HWM to 0 -/
def LNK_QUEUE_HWM_HWM_CLR (j : Nat) : Fld := ⟨LNK_QUEUE_HWM j, 63, 63⟩
/-- RO, reset 0: Highest total receive queue occupancy, in flits; up to 4,096 for a band (R88) -/
def LNK_QUEUE_HWM_RQ_HWM (j : Nat) : Fld := ⟨LNK_QUEUE_HWM j, 44, 32⟩
/-- RO, reset 0: Highest total send queue occupancy, in flits; up to 4,096 for a band (R88) -/
def LNK_QUEUE_HWM_SQ_HWM (j : Nat) : Fld := ⟨LNK_QUEUE_HWM j, 12, 0⟩
/-- LNK_LEAD_MIN (03_stitch_programs.md). -/
def LNK_LEAD_MIN (j : Nat) : Nat := 0x1100428 + 0x10000 * j
/-- WO, reset 0: Writing 1 sets LEAD to 0xFFFF -/
def LNK_LEAD_MIN_CLR (j : Nat) : Fld := ⟨LNK_LEAD_MIN j, 63, 63⟩
/-- RO, reset 0: 1 when a deposit's last word entered after its departure stitch began; LEAD then reads 0 -/
def LNK_LEAD_MIN_BEHIND (j : Nat) : Fld := ⟨LNK_LEAD_MIN j, 16, 16⟩
/-- RO, reset 0xFFFF: Smallest lead since clear, in ct; leads of 65,535 ct and above read 0xFFFF -/
def LNK_LEAD_MIN_LEAD (j : Nat) : Fld := ⟨LNK_LEAD_MIN j, 15, 0⟩
/-- LNK_LATE_DEP_CNT (02_crown_and_clocking.md). -/
def LNK_LATE_DEP_CNT (j : Nat) : Nat := 0x1100430 + 0x10000 * j
/-- LNK_SCHED_TX_CNT (02_crown_and_clocking.md). -/
def LNK_SCHED_TX_CNT (j : Nat) : Nat := 0x1100438 + 0x10000 * j
/-- LNK_VOID_TX_CNT (02_crown_and_clocking.md). -/
def LNK_VOID_TX_CNT (j : Nat) : Nat := 0x1100440 + 0x10000 * j
/-- LNK_SCHED_RX_CNT (02_crown_and_clocking.md). -/
def LNK_SCHED_RX_CNT (j : Nat) : Nat := 0x1100448 + 0x10000 * j
/-- LNK_MISMATCH_CNT (02_crown_and_clocking.md). -/
def LNK_MISMATCH_CNT (j : Nat) : Nat := 0x1100450 + 0x10000 * j
/-- LNK_FMT_ERR_CNT (02_crown_and_clocking.md). -/
def LNK_FMT_ERR_CNT (j : Nat) : Nat := 0x1100458 + 0x10000 * j
/-- LNK_POISON_RX_CNT (02_crown_and_clocking.md). -/
def LNK_POISON_RX_CNT (j : Nat) : Nat := 0x1100460 + 0x10000 * j
/-- LNK_LAG (04_brim_lag_and_seams.md). -/
def LNK_LAG (j : Nat) : Nat := 0x1100480 + 0x10000 * j
/-- RO, reset 0: Entries in the expecting list, 0–1,024 (R103) -/
def LNK_LAG_EXPECTING (j : Nat) : Fld := ⟨LNK_LAG j, 59, 48⟩
/-- RO, reset 0: Land lag, in st; stops at 0xFFFF -/
def LNK_LAG_LAND_LAG (j : Nat) : Fld := ⟨LNK_LAG j, 47, 32⟩
/-- RO, reset 0: Entries in the owed list, 0–1,024 (R100) -/
def LNK_LAG_OWED (j : Nat) : Fld := ⟨LNK_LAG j, 27, 16⟩
/-- RO, reset 0: Send lag, in st; stops at 0xFFFF -/
def LNK_LAG_SEND_LAG (j : Nat) : Fld := ⟨LNK_LAG j, 15, 0⟩
/-- LNK_LAG_HWM (04_brim_lag_and_seams.md). -/
def LNK_LAG_HWM (j : Nat) : Nat := 0x1100488 + 0x10000 * j
/-- WO, reset 0: Writing 1 sets SEND_HWM and LAND_HWM to 0 -/
def LNK_LAG_HWM_HWM_CLR (j : Nat) : Fld := ⟨LNK_LAG_HWM j, 63, 63⟩
/-- RO, reset 0: Largest land lag since clear, in st -/
def LNK_LAG_HWM_LAND_HWM (j : Nat) : Fld := ⟨LNK_LAG_HWM j, 31, 16⟩
/-- RO, reset 0: Largest send lag since clear, in st -/
def LNK_LAG_HWM_SEND_HWM (j : Nat) : Fld := ⟨LNK_LAG_HWM j, 15, 0⟩
/-- LNK_LAG_LIMIT (04_brim_lag_and_seams.md). -/
def LNK_LAG_LIMIT (j : Nat) : Nat := 0x1100490 + 0x10000 * j
/-- RW, reset 0xFFF: Land lag above which LAG_LIMIT is raised, in st (R110); RW while RUN = 0 -/
def LNK_LAG_LIMIT_LAND_LIMIT (j : Nat) : Fld := ⟨LNK_LAG_LIMIT j, 27, 16⟩
/-- RW, reset 0xFFF: Send lag above which LAG_LIMIT is raised, in st (R110); RW while RUN = 0 -/
def LNK_LAG_LIMIT_SEND_LIMIT (j : Nat) : Fld := ⟨LNK_LAG_LIMIT j, 11, 0⟩
/-- LNK_SEAM_RPT (04_brim_lag_and_seams.md). -/
def LNK_SEAM_RPT (j : Nat) : Nat := 0x1100498 + 0x10000 * j
/-- RO, reset 0: 1 once a valid report has arrived since RUN was set -/
def LNK_SEAM_RPT_VALID (j : Nat) : Fld := ⟨LNK_SEAM_RPT j, 16, 16⟩
/-- RO, reset 0: Seam index bits [15:0] of the last valid report (R114) -/
def LNK_SEAM_RPT_INDEX (j : Nat) : Fld := ⟨LNK_SEAM_RPT j, 15, 0⟩
/-- LNK_HOLD_CNT (02_crown_and_clocking.md). -/
def LNK_HOLD_CNT (j : Nat) : Nat := 0x11004A0 + 0x10000 * j
/-- LNK_LATE_TX_CNT (02_crown_and_clocking.md). -/
def LNK_LATE_TX_CNT (j : Nat) : Nat := 0x11004A8 + 0x10000 * j
/-- LNK_BRIM_USE_CNT (02_crown_and_clocking.md). -/
def LNK_BRIM_USE_CNT (j : Nat) : Nat := 0x11004B0 + 0x10000 * j
/-- LNK_SLIP_CNT (02_crown_and_clocking.md). -/
def LNK_SLIP_CNT (j : Nat) : Nat := 0x11004B8 + 0x10000 * j
/-- LNK_VC_STATE (06_loose_traffic.md). -/
def LNK_VC_STATE (j : Nat) (k : Nat) : Nat := 0x1100500 + 0x10000 * j + 8 * k
/-- WO, reset 0: Writing 1 sets BUF_HWM to 0 -/
def LNK_VC_STATE_HWM_CLR (j : Nat) (k : Nat) : Fld := ⟨LNK_VC_STATE j k, 63, 63⟩
/-- RO, reset 0: Highest occupancy of this input link's VC buffer since clear, in flits -/
def LNK_VC_STATE_BUF_HWM (j : Nat) (k : Nat) : Fld := ⟨LNK_VC_STATE j k, 40, 32⟩
/-- RO, reset 0: Occupancy of this input link's VC buffer, 0–256 flits -/
def LNK_VC_STATE_BUF_OCC (j : Nat) (k : Nat) : Fld := ⟨LNK_VC_STATE j k, 24, 16⟩
/-- RO, reset 256: Credits held for this output link's VC, 0–256 -/
def LNK_VC_STATE_CREDITS (j : Nat) (k : Nat) : Fld := ⟨LNK_VC_STATE j k, 8, 0⟩
/-- LNK_LOOSE_TX_CNT (02_crown_and_clocking.md). -/
def LNK_LOOSE_TX_CNT (j : Nat) : Nat := 0x1100540 + 0x10000 * j
/-- LNK_LOOSE_RX_CNT (02_crown_and_clocking.md). -/
def LNK_LOOSE_RX_CNT (j : Nat) : Nat := 0x1100548 + 0x10000 * j
/-- LNK_LATTICE_TX_CNT (02_crown_and_clocking.md). -/
def LNK_LATTICE_TX_CNT (j : Nat) : Nat := 0x1100550 + 0x10000 * j
/-- LNK_OPP_TX_CNT (02_crown_and_clocking.md). -/
def LNK_OPP_TX_CNT (j : Nat) : Nat := 0x1100558 + 0x10000 * j
/-- LNK_CREDIT_WAIT_CNT (02_crown_and_clocking.md). -/
def LNK_CREDIT_WAIT_CNT (j : Nat) : Nat := 0x1100560 + 0x10000 * j
/-- LNK_BUBBLE_WAIT_CNT (02_crown_and_clocking.md). -/
def LNK_BUBBLE_WAIT_CNT (j : Nat) : Nat := 0x1100568 + 0x10000 * j
/-- LNK_CMB_STATUS (07_collectives_on_the_wire.md). -/
def LNK_CMB_STATUS (j : Nat) : Nat := 0x1100600 + 0x10000 * j
/-- W1C, reset 0: A local operand's format differed from FMT (R189) -/
def LNK_CMB_STATUS_LOCAL_FMT (j : Nat) : Fld := ⟨LNK_CMB_STATUS j, 4, 4⟩
/-- W1C, reset 0: A NaN operand element met ADD_FP32, MAX or MIN -/
def LNK_CMB_STATUS_NAN_IN (j : Nat) : Fld := ⟨LNK_CMB_STATUS j, 3, 3⟩
/-- W1C, reset 0: ADD_FP32 added +∞ and −∞ -/
def LNK_CMB_STATUS_FP_INV (j : Nat) : Fld := ⟨LNK_CMB_STATUS j, 2, 2⟩
/-- W1C, reset 0: ADD_FP32 overflowed to ±∞ -/
def LNK_CMB_STATUS_FP_OVF (j : Nat) : Fld := ⟨LNK_CMB_STATUS j, 1, 1⟩
/-- W1C, reset 0: ADD_L64 saturated (R191) -/
def LNK_CMB_STATUS_L64_SAT (j : Nat) : Fld := ⟨LNK_CMB_STATUS j, 0, 0⟩
/-- LNK_CMB_FIRST (07_collectives_on_the_wire.md). -/
def LNK_CMB_FIRST (j : Nat) : Nat := 0x1100608 + 0x10000 * j
/-- RO, reset 0: 0 none, 1 L64_SAT, 2 FP_OVF, 3 FP_INV, 4 NAN_IN, 5 LOCAL_FMT -/
def LNK_CMB_FIRST_KIND (j : Nat) : Fld := ⟨LNK_CMB_FIRST j, 63, 60⟩
/-- RO, reset 0: 0 send-side combine, 1 land-side combine -/
def LNK_CMB_FIRST_SIDE (j : Nat) : Fld := ⟨LNK_CMB_FIRST j, 59, 59⟩
/-- RO, reset 0: Element index within the payload, 0–95 for FP32, 0–47 for L64, 0–127 for the first 128 BF16 elements; 127 for a LOCAL_FMT capture -/
def LNK_CMB_FIRST_ELEMENT (j : Nat) : Fld := ⟨LNK_CMB_FIRST j, 58, 52⟩
/-- RO, reset 0: Round position of the entry -/
def LNK_CMB_FIRST_POSITION (j : Nat) : Fld := ⟨LNK_CMB_FIRST j, 46, 32⟩
/-- RO, reset 0: Bits [31:0] of the segment index -/
def LNK_CMB_FIRST_SEGMENT (j : Nat) : Fld := ⟨LNK_CMB_FIRST j, 31, 0⟩
/-- LNK_CMB_CNT (02_crown_and_clocking.md). -/
def LNK_CMB_CNT (j : Nat) : Nat := 0x1100610 + 0x10000 * j
/-- LNK_CMB_SAT_CNT (02_crown_and_clocking.md). -/
def LNK_CMB_SAT_CNT (j : Nat) : Nat := 0x1100618 + 0x10000 * j
/-- LNK_CMB_FPEXC_CNT (02_crown_and_clocking.md). -/
def LNK_CMB_FPEXC_CNT (j : Nat) : Nat := 0x1100620 + 0x10000 * j
/-- LNK_CMB_NAN_CNT (02_crown_and_clocking.md). -/
def LNK_CMB_NAN_CNT (j : Nat) : Nat := 0x1100628 + 0x10000 * j
/-- LNK_VOID_RX_CNT (02_crown_and_clocking.md). -/
def LNK_VOID_RX_CNT (j : Nat) : Nat := 0x1100630 + 0x10000 * j
/-- LNK_PLAN (15_bringup_and_discovery.md). -/
def LNK_PLAN (j : Nat) : Nat := 0x1100700 + 0x10000 * j
/-- RWS, reset PLAN: Expected neighbour seat; RW while RUN = 0 -/
def LNK_PLAN_NBR_SEAT (j : Nat) : Fld := ⟨LNK_PLAN j, 27, 16⟩
/-- RWS, reset PLAN: Expected neighbour link index; RW while RUN = 0 -/
def LNK_PLAN_NBR_LINK (j : Nat) : Fld := ⟨LNK_PLAN j, 8, 4⟩
/-- RWS, reset PLAN: 0 NOT_CABLED, 1 REQUIRED, 2 OPTIONAL; 3 acts as 0; RW while RUN = 0 -/
def LNK_PLAN_EXPECT (j : Nat) : Fld := ⟨LNK_PLAN j, 1, 0⟩
/-- LNK_DISC (15_bringup_and_discovery.md). -/
def LNK_DISC (j : Nat) : Nat := 0x1100708 + 0x10000 * j
/-- RO, reset 0: 0 NONE, 1 MATCH, 2 SWAPPED, 3 WRONG_NEIGHBOUR, 4 ABSENT, 5 EXTRA, 6 DEGRADED, 7 PENDING -/
def LNK_DISC_RESULT (j : Nat) : Fld := ⟨LNK_DISC j, 63, 60⟩
/-- RO, reset 0: Swap partner's link index when SWAPPED -/
def LNK_DISC_PARTNER (j : Nat) : Fld := ⟨LNK_DISC j, 59, 55⟩
/-- RO, reset 0: Width at evaluation: 8, 4, 2, 1; 0 when not UP -/
def LNK_DISC_WIDTH (j : Nat) : Fld := ⟨LNK_DISC j, 51, 48⟩
/-- RO, reset 0: Seat found -/
def LNK_DISC_PEER_SEAT (j : Nat) : Fld := ⟨LNK_DISC j, 43, 32⟩
/-- RO, reset 0: Link index found -/
def LNK_DISC_PEER_LINK (j : Nat) : Fld := ⟨LNK_DISC j, 28, 24⟩
/-- RO, reset 0: A valid IDENT has arrived since the link reached UP -/
def LNK_DISC_IDENT_V (j : Nat) : Fld := ⟨LNK_DISC j, 0, 0⟩
/-- LNK_DISC_SERIAL (15_bringup_and_discovery.md). -/
def LNK_DISC_SERIAL (j : Nat) : Nat := 0x1100710 + 0x10000 * j
/-- RO, reset 0: Serial found -/
def LNK_DISC_SERIAL_SERIAL (j : Nat) : Fld := ⟨LNK_DISC_SERIAL j, 63, 0⟩
/-- RTE_CTRL (06_loose_traffic.md). -/
def RTE_CTRL : Nat := 0x2000000
/-- RW, reset 0: 1 allows coordinate addressing (R159); RW while RUN = 0 -/
def RTE_CTRL_COORD_EN : Fld := ⟨RTE_CTRL, 8, 8⟩
/-- RW, reset 0x03: VC enable mask; bits [1:0] read 1 and ignore writes (R155); RW while RUN = 0 -/
def RTE_CTRL_VC_EN : Fld := ⟨RTE_CTRL, 7, 0⟩
/-- RTE_STATUS (06_loose_traffic.md). -/
def RTE_STATUS : Nat := 0x2000008
/-- W1C, reset 0: A write or ARM was ignored (R158, R182, R183) -/
def RTE_STATUS_WR_REFUSED : Fld := ⟨RTE_STATUS, 1, 1⟩
/-- W1C, reset 0: A route-table write was ignored (R160) -/
def RTE_STATUS_CFG_ERR : Fld := ⟨RTE_STATUS, 0, 0⟩
/-- RTE_SELF (06_loose_traffic.md). -/
def RTE_SELF : Nat := 0x2000010
/-- RW, reset 0: Module ID of this seat, from the plan; carried as SEAT in IDENT (R132); RW while RUN = 0 -/
def RTE_SELF_ID : Fld := ⟨RTE_SELF, 11, 0⟩
/-- RTE_EPOCH (06_loose_traffic.md). -/
def RTE_EPOCH : Nat := 0x2000018
/-- W1S, reset 0: 1 arms a switch at RTE_EPOCH_TICK (R183); reads 0 -/
def RTE_EPOCH_ARM : Fld := ⟨RTE_EPOCH, 8, 8⟩
/-- W1C, reset 0: An ARM found its tick less than 1,024 ct ahead -/
def RTE_EPOCH_LATE : Fld := ⟨RTE_EPOCH, 2, 2⟩
/-- RO, reset 0: A switch is armed -/
def RTE_EPOCH_ARMED : Fld := ⟨RTE_EPOCH, 1, 1⟩
/-- RO, reset 0: Epoch given to injected packets -/
def RTE_EPOCH_INJECT : Fld := ⟨RTE_EPOCH, 0, 0⟩
/-- RTE_EPOCH_TICK (06_loose_traffic.md). -/
def RTE_EPOCH_TICK : Nat := 0x2000020
/-- RW, reset 0: Switch tick, in ct -/
def RTE_EPOCH_TICK_TICK : Fld := ⟨RTE_EPOCH_TICK, 63, 0⟩
/-- RTE_LAST_SWITCH (06_loose_traffic.md). -/
def RTE_LAST_SWITCH : Nat := 0x2000028
/-- RO, reset 0: Tick of the last switch, in ct; 0 before the first -/
def RTE_LAST_SWITCH_TICK : Fld := ⟨RTE_LAST_SWITCH, 63, 0⟩
/-- RTE_TURN (06_loose_traffic.md). -/
def RTE_TURN : Nat := 0x2000030
/-- WO, reset 0: Writing 1 sets HWM to 0 -/
def RTE_TURN_HWM_CLR : Fld := ⟨RTE_TURN, 63, 63⟩
/-- RO, reset 0: Highest occupancy since clear, 0–64 flits -/
def RTE_TURN_HWM : Fld := ⟨RTE_TURN, 22, 16⟩
/-- RO, reset 0: Occupancy, 0–64 flits -/
def RTE_TURN_OCC : Fld := ⟨RTE_TURN, 6, 0⟩
/-- RTE_DROP_LAST (06_loose_traffic.md). -/
def RTE_DROP_LAST : Nat := 0x2000038
/-- RO, reset 0: 0 none, 1 TTL, 2 MITTEN, 3 ROUTE, 4 FULL, 5 PLACE, 6 VC, 7 STRAY -/
def RTE_DROP_LAST_CAUSE : Fld := ⟨RTE_DROP_LAST, 63, 60⟩
/-- RO, reset 0: Input link index 0–23; 31 for local injection -/
def RTE_DROP_LAST_LINK : Fld := ⟨RTE_DROP_LAST, 59, 55⟩
/-- RO, reset 0: VC of the discarded packet -/
def RTE_DROP_LAST_VC : Fld := ⟨RTE_DROP_LAST, 54, 52⟩
/-- RO, reset 0: Header mitten ID -/
def RTE_DROP_LAST_MITTEN : Fld := ⟨RTE_DROP_LAST, 51, 40⟩
/-- RO, reset 0: Route-word SRC -/
def RTE_DROP_LAST_SRC : Fld := ⟨RTE_DROP_LAST, 39, 28⟩
/-- RO, reset 0: Header DEST -/
def RTE_DROP_LAST_DEST : Fld := ⟨RTE_DROP_LAST, 27, 16⟩
/-- RO, reset 0: Route-word PKT -/
def RTE_DROP_LAST_PKT : Fld := ⟨RTE_DROP_LAST, 15, 0⟩
/-- RTE_INJECT_CNT (02_crown_and_clocking.md). -/
def RTE_INJECT_CNT : Nat := 0x2000100
/-- RTE_EJECT_CNT (02_crown_and_clocking.md). -/
def RTE_EJECT_CNT : Nat := 0x2000108
/-- RTE_DEFLECT_CNT (02_crown_and_clocking.md). -/
def RTE_DEFLECT_CNT : Nat := 0x2000110
/-- RTE_TURN_IN_CNT (02_crown_and_clocking.md). -/
def RTE_TURN_IN_CNT : Nat := 0x2000118
/-- RTE_FORCED_CNT (02_crown_and_clocking.md). -/
def RTE_FORCED_CNT : Nat := 0x2000120
/-- RTE_REFUSE_CNT (02_crown_and_clocking.md). -/
def RTE_REFUSE_CNT : Nat := 0x2000128
/-- RTE_INJ_WAIT_CNT (02_crown_and_clocking.md). -/
def RTE_INJ_WAIT_CNT : Nat := 0x2000130
/-- RTE_BOUNCE_CNT (02_crown_and_clocking.md). -/
def RTE_BOUNCE_CNT : Nat := 0x2000138
/-- RTE_STRAY_CNT (02_crown_and_clocking.md). -/
def RTE_STRAY_CNT : Nat := 0x2000140
/-- RTE_DROP_TTL_CNT (02_crown_and_clocking.md). -/
def RTE_DROP_TTL_CNT : Nat := 0x2000148
/-- RTE_DROP_MITTEN_CNT (02_crown_and_clocking.md). -/
def RTE_DROP_MITTEN_CNT : Nat := 0x2000150
/-- RTE_DROP_ROUTE_CNT (02_crown_and_clocking.md). -/
def RTE_DROP_ROUTE_CNT : Nat := 0x2000158
/-- RTE_DROP_FULL_CNT (02_crown_and_clocking.md). -/
def RTE_DROP_FULL_CNT : Nat := 0x2000160
/-- RTE_DROP_PLACE_CNT (02_crown_and_clocking.md). -/
def RTE_DROP_PLACE_CNT : Nat := 0x2000168
/-- RTE_DROP_VC_CNT (02_crown_and_clocking.md). -/
def RTE_DROP_VC_CNT : Nat := 0x2000170
/-- RTE_MGMT_CNT (02_crown_and_clocking.md). -/
def RTE_MGMT_CNT : Nat := 0x2000178
/-- RTE_MGMT_REFUSE_CNT (02_crown_and_clocking.md). -/
def RTE_MGMT_REFUSE_CNT : Nat := 0x2000180
/-- PLM_CTRL (08_palm_array.md). -/
def PLM_CTRL : Nat := 0x3000000
/-- W1S, reset 0: 1 loads the RAM copy into force (R205); reads 0 -/
def PLM_CTRL_LINER_LOAD : Fld := ⟨PLM_CTRL, 8, 8⟩
/-- W1S, reset 0: 1 halts launches (R217); reads 0 -/
def PLM_CTRL_STOP : Fld := ⟨PLM_CTRL, 1, 1⟩
/-- PLM_STATUS (08_palm_array.md). -/
def PLM_STATUS : Nat := 0x3000008
/-- RO, reset 0: At least one bit of PLM_FENCE is set -/
def PLM_STATUS_FENCED : Fld := ⟨PLM_STATUS, 16, 16⟩
/-- RO, reset 0: Descriptors in the op queue, 0–8 -/
def PLM_STATUS_QUEUE : Fld := ⟨PLM_STATUS, 11, 8⟩
/-- W1C, reset 0: A write or LINER_LOAD was ignored (R205) -/
def PLM_STATUS_WR_REFUSED : Fld := ⟨PLM_STATUS, 7, 7⟩
/-- RO, reset 0: The head waits on EFFECTIVE -/
def PLM_STATUS_BUDGET_WAIT : Fld := ⟨PLM_STATUS, 6, 6⟩
/-- RO, reset 0: Staging in progress -/
def PLM_STATUS_STAGING : Fld := ⟨PLM_STATUS, 5, 5⟩
/-- RO, reset 0: Liner load in progress -/
def PLM_STATUS_LINER_BUSY : Fld := ⟨PLM_STATUS, 4, 4⟩
/-- RO, reset 0: The last Liner load succeeded -/
def PLM_STATUS_LINER_OK : Fld := ⟨PLM_STATUS, 3, 3⟩
/-- RO, reset 0: No further launch (R217) -/
def PLM_STATUS_HALTED : Fld := ⟨PLM_STATUS, 2, 2⟩
/-- RO, reset 0: An op is in progress -/
def PLM_STATUS_RUNNING : Fld := ⟨PLM_STATUS, 1, 1⟩
/-- PLM_OP_INDEX (08_palm_array.md). -/
def PLM_OP_INDEX : Nat := 0x3000010
/-- RO, reset 0: Index of the last op launched -/
def PLM_OP_INDEX_LAUNCHED : Fld := ⟨PLM_OP_INDEX, 63, 32⟩
/-- RO, reset 0: Index of the last op completed -/
def PLM_OP_INDEX_DONE : Fld := ⟨PLM_OP_INDEX, 31, 0⟩
/-- PLM_LAUNCH_TICK (08_palm_array.md). -/
def PLM_LAUNCH_TICK : Nat := 0x3000018
/-- RO, reset 0: Crown tick of the last launch -/
def PLM_LAUNCH_TICK_TICK : Fld := ⟨PLM_LAUNCH_TICK, 63, 0⟩
/-- PLM_BUDGET (08_palm_array.md). -/
def PLM_BUDGET : Nat := 0x3000020
/-- WO, reset 0: Writing 1 sets PEAK to 0 -/
def PLM_BUDGET_HWM_CLR : Fld := ⟨PLM_BUDGET, 63, 63⟩
/-- RO, reset 0: Largest token sum launched since clear -/
def PLM_BUDGET_PEAK : Fld := ⟨PLM_BUDGET, 31, 24⟩
/-- RO, reset 0: Token sum of the last op launched -/
def PLM_BUDGET_LAST : Fld := ⟨PLM_BUDGET, 23, 16⟩
/-- RO, reset fuses: Budget for launch waits (R213) -/
def PLM_BUDGET_EFFECTIVE : Fld := ⟨PLM_BUDGET, 15, 8⟩
/-- RO, reset fuses: 208, 162 or 115 (R211) -/
def PLM_BUDGET_GRADE : Fld := ⟨PLM_BUDGET, 7, 0⟩
/-- PLM_CLASS (08_palm_array.md). -/
def PLM_CLASS : Nat := 0x3000028
/-- RO, reset 0: Class of region g in bits [3g + 2:3g] (R211) -/
def PLM_CLASS_CLASS : Fld := ⟨PLM_CLASS, 47, 0⟩
/-- PLM_SRAM_ALLOC (08_palm_array.md). -/
def PLM_SRAM_ALLOC : Nat := 0x3000030
/-- RW, reset 0: Bank b usable when bit b is 1; RW while RUN = 0 -/
def PLM_SRAM_ALLOC_BANKS : Fld := ⟨PLM_SRAM_ALLOC, 11, 0⟩
/-- PLM_FAULT_LAST (08_palm_array.md). -/
def PLM_FAULT_LAST : Nat := 0x3000038
/-- RO, reset 0: 0 none, 1 POWER_BUDGET, 2 BOUNDS, 3 HAZARD, 4 TILE_FAIL, 5 ECC_UNCORRECTABLE -/
def PLM_FAULT_LAST_KIND : Fld := ⟨PLM_FAULT_LAST, 63, 60⟩
/-- RO, reset 0: POWER_BUDGET: 1 GRADE, 2 CLASS. BOUNDS: 1 SRAM_STATIC, 2 HBM_STATIC, 3 SRAM_DATA, 4 HBM_DATA. HAZARD: 1 STAGE_READ, 2 STAGE_WRITE. TILE_FAIL: cause (R219). Otherwise 0 -/
def PLM_FAULT_LAST_DETAIL : Fld := ⟨PLM_FAULT_LAST, 59, 56⟩
/-- RO, reset 0: Region 0–15 -/
def PLM_FAULT_LAST_REGION : Fld := ⟨PLM_FAULT_LAST, 55, 52⟩
/-- RO, reset 0: Logical tile index; 0 when no tile applies -/
def PLM_FAULT_LAST_TILE : Fld := ⟨PLM_FAULT_LAST, 51, 40⟩
/-- RO, reset 0: SRAM bank for HAZARD and ECC_UNCORRECTABLE -/
def PLM_FAULT_LAST_BANK : Fld := ⟨PLM_FAULT_LAST, 39, 36⟩
/-- RO, reset 0: Op index -/
def PLM_FAULT_LAST_OP : Fld := ⟨PLM_FAULT_LAST, 31, 0⟩
/-- PLM_HBM_WIN (08_palm_array.md). -/
def PLM_HBM_WIN (k : Nat) : Nat := 0x3000040 + 8 * k
/-- RW, reset 0: Window enabled; RW while RUN = 0 -/
def PLM_HBM_WIN_EN (k : Nat) : Fld := ⟨PLM_HBM_WIN k, 63, 63⟩
/-- RW, reset 0: Writes allowed; RW while RUN = 0 -/
def PLM_HBM_WIN_WR (k : Nat) : Fld := ⟨PLM_HBM_WIN k, 62, 62⟩
/-- RW, reset 0: End, exclusive, in 64 KiB units, up to 2^23 (the end of stack 7); RW while RUN = 0 -/
def PLM_HBM_WIN_LIMIT (k : Nat) : Fld := ⟨PLM_HBM_WIN k, 55, 32⟩
/-- RW, reset 0: Start, in 64 KiB units; RW while RUN = 0 -/
def PLM_HBM_WIN_BASE (k : Nat) : Fld := ⟨PLM_HBM_WIN k, 22, 0⟩
/-- PLM_SR_SEED (09_number_formats.md). -/
def PLM_SR_SEED : Nat := 0x30000C0
/-- RW, reset 0: Seed of R240, from the image; RW while RUN = 0 -/
def PLM_SR_SEED_SEED : Fld := ⟨PLM_SR_SEED, 63, 0⟩
/-- PLM_LAUNCH_CNT (02_crown_and_clocking.md). -/
def PLM_LAUNCH_CNT : Nat := 0x3000100
/-- PLM_LATE_LAUNCH_CNT (02_crown_and_clocking.md). -/
def PLM_LATE_LAUNCH_CNT : Nat := 0x3000108
/-- PLM_FETCH_WAIT_CNT (02_crown_and_clocking.md). -/
def PLM_FETCH_WAIT_CNT : Nat := 0x3000110
/-- PLM_STAGE_WAIT_CNT (02_crown_and_clocking.md). -/
def PLM_STAGE_WAIT_CNT : Nat := 0x3000118
/-- PLM_BUDGET_WAIT_CNT (02_crown_and_clocking.md). -/
def PLM_BUDGET_WAIT_CNT : Nat := 0x3000120
/-- PLM_BOUNDS_CNT (02_crown_and_clocking.md). -/
def PLM_BOUNDS_CNT : Nat := 0x3000128
/-- PLM_DROP_CNT (02_crown_and_clocking.md). -/
def PLM_DROP_CNT : Nat := 0x3000130
/-- PLM_SPILL_CNT (02_crown_and_clocking.md). -/
def PLM_SPILL_CNT : Nat := 0x3000138
/-- PLM_VOID_IN_CNT (02_crown_and_clocking.md). -/
def PLM_VOID_IN_CNT : Nat := 0x3000140
/-- PLM_POISON_IN_CNT (02_crown_and_clocking.md). -/
def PLM_POISON_IN_CNT : Nat := 0x3000148
/-- PLM_DESC_ERR (10_palm_operations.md). -/
def PLM_DESC_ERR : Nat := 0x3000150
/-- RO, reset 0: 0 none, 1 OPCODE, 2 RND, 3 FMT, 4 RECT, 5 SHAPE, 6 QUEUE, 7 ARG, 8 RESERVED, 9 SEG, 10 STAGE, 11 FLAGS -/
def PLM_DESC_ERR_FIELD : Fld := ⟨PLM_DESC_ERR, 63, 60⟩
/-- RO, reset 0: Op index of the refused descriptor -/
def PLM_DESC_ERR_OP : Fld := ⟨PLM_DESC_ERR, 31, 0⟩
/-- PLM_LINER_RAM (08_palm_array.md). -/
def PLM_LINER_RAM (k : Nat) : Nat := 0x3001000 + 8 * k
/-- RO, reset 0: Two or more BAD bits set (R204) -/
def PLM_LINER_RAM_UNMAPPABLE_LO (k : Nat) : Fld := ⟨PLM_LINER_RAM k, 31, 31⟩
/-- RO, reset 16: Skipped local physical column -/
def PLM_LINER_RAM_SKIP_LO (k : Nat) : Fld := ⟨PLM_LINER_RAM k, 21, 17⟩
/-- RW, reset 0: Bad tiles by local physical column 0-16; writes ignored while LINER_BUSY -/
def PLM_LINER_RAM_BAD_LO (k : Nat) : Fld := ⟨PLM_LINER_RAM k, 16, 0⟩
/-- RO, reset 0: Two or more BAD bits set (R204) -/
def PLM_LINER_RAM_UNMAPPABLE_HI (k : Nat) : Fld := ⟨PLM_LINER_RAM k, 63, 63⟩
/-- RO, reset 16: Skipped local physical column -/
def PLM_LINER_RAM_SKIP_HI (k : Nat) : Fld := ⟨PLM_LINER_RAM k, 53, 49⟩
/-- RW, reset 0: Bad tiles by local physical column 0-16; writes ignored while LINER_BUSY -/
def PLM_LINER_RAM_BAD_HI (k : Nat) : Fld := ⟨PLM_LINER_RAM k, 48, 32⟩
/-- PLM_LINER_FORCE (08_palm_array.md). -/
def PLM_LINER_FORCE (k : Nat) : Nat := 0x3001400 + 8 * k
/-- RO, reset 0: Two or more BAD bits set (R204) -/
def PLM_LINER_FORCE_UNMAPPABLE_LO (k : Nat) : Fld := ⟨PLM_LINER_FORCE k, 31, 31⟩
/-- RO, reset 16: Skipped local physical column -/
def PLM_LINER_FORCE_SKIP_LO (k : Nat) : Fld := ⟨PLM_LINER_FORCE k, 21, 17⟩
/-- RO, reset 0: Bad tiles by local physical column 0-16; writes ignored while LINER_BUSY -/
def PLM_LINER_FORCE_BAD_LO (k : Nat) : Fld := ⟨PLM_LINER_FORCE k, 16, 0⟩
/-- RO, reset 0: Two or more BAD bits set (R204) -/
def PLM_LINER_FORCE_UNMAPPABLE_HI (k : Nat) : Fld := ⟨PLM_LINER_FORCE k, 63, 63⟩
/-- RO, reset 16: Skipped local physical column -/
def PLM_LINER_FORCE_SKIP_HI (k : Nat) : Fld := ⟨PLM_LINER_FORCE k, 53, 49⟩
/-- RO, reset 0: Bad tiles by local physical column 0-16; writes ignored while LINER_BUSY -/
def PLM_LINER_FORCE_BAD_HI (k : Nat) : Fld := ⟨PLM_LINER_FORCE k, 48, 32⟩
/-- PLM_FENCE (08_palm_array.md). -/
def PLM_FENCE (k : Nat) : Nat := 0x3002000 + 8 * k
/-- RO, reset 0: Bit i set when physical tile 64k + i is fenced (R220) -/
def PLM_FENCE_FENCED (k : Nat) : Fld := ⟨PLM_FENCE k, 63, 0⟩
/-- PLM_BIST (15_bringup_and_discovery.md). -/
def PLM_BIST (k : Nat) : Nat := 0x3002400 + 8 * k
/-- RO, reset 0: Bit i: physical tile 64k + i failed the last BIST (R384) -/
def PLM_BIST_FAILED (k : Nat) : Fld := ⟨PLM_BIST k, 63, 0⟩
/-- RGN_CLK (02_crown_and_clocking.md). -/
def RGN_CLK (j : Nat) : Nat := 0x3100000 + 0x10000 * j
/-- RO, reset 20: Divider in use -/
def RGN_CLK_N_NOW (j : Nat) : Fld := ⟨RGN_CLK j, 20, 16⟩
/-- RW, reset 20: Floor divider from the image; RW while RUN = 0 (R65) -/
def RGN_CLK_N_FLOOR (j : Nat) : Fld := ⟨RGN_CLK j, 12, 8⟩
/-- RW, reset 20: Target divider from the image; RW while RUN = 0 (R65) -/
def RGN_CLK_N_TARGET (j : Nat) : Fld := ⟨RGN_CLK j, 4, 0⟩
/-- RGN_DROOP (02_crown_and_clocking.md). -/
def RGN_DROOP (j : Nat) : Nat := 0x3100008 + 0x10000 * j
/-- RW, reset 8: Droop threshold below nominal supply, in 5 mV steps (8: 40 mV); values below 4 act as 4 -/
def RGN_DROOP_THRESH (j : Nat) : Fld := ⟨RGN_DROOP j, 5, 0⟩
/-- RGN_STATUS (02_crown_and_clocking.md). -/
def RGN_STATUS (j : Nat) : Nat := 0x3100010 + 0x10000 * j
/-- W1C, reset 0: A write to RGN_CLK was refused (R65) -/
def RGN_STATUS_CFG_ERR (j : Nat) : Fld := ⟨RGN_STATUS j, 8, 8⟩
/-- RO, reset 0: Running slower than N_FLOOR (R51) -/
def RGN_STATUS_BELOW_FLOOR (j : Nat) : Fld := ⟨RGN_STATUS j, 3, 3⟩
/-- RO, reset 0: SUPPLY_WARN step cause active -/
def RGN_STATUS_STEP_SUPPLY (j : Nat) : Fld := ⟨RGN_STATUS j, 2, 2⟩
/-- RO, reset 0: Temperature step cause active -/
def RGN_STATUS_STEP_THERM (j : Nat) : Fld := ⟨RGN_STATUS j, 1, 1⟩
/-- RO, reset 0: Emergency droop step cause active -/
def RGN_STATUS_STEP_DROOP (j : Nat) : Fld := ⟨RGN_STATUS j, 0, 0⟩
/-- RGN_EST_ERR (02_crown_and_clocking.md). -/
def RGN_EST_ERR (j : Nat) : Nat := 0x3100018 + 0x10000 * j
/-- WO, reset 0: Writing 1 sets HWM to 0 -/
def RGN_EST_ERR_HWM_CLR (j : Nat) : Fld := ⟨RGN_EST_ERR j, 32, 32⟩
/-- RO, reset 0: Largest magnitude of a 64-ct correction, unsigned, in twelfths of a crown tick; resume corrections excluded -/
def RGN_EST_ERR_HWM (j : Nat) : Fld := ⟨RGN_EST_ERR j, 31, 16⟩
/-- RO, reset 0: Last correction of any kind, signed, in twelfths of a crown tick -/
def RGN_EST_ERR_LAST (j : Nat) : Fld := ⟨RGN_EST_ERR j, 15, 0⟩
/-- RGN_STRETCH_CNT (02_crown_and_clocking.md). -/
def RGN_STRETCH_CNT (j : Nat) : Nat := 0x3100020 + 0x10000 * j
/-- RGN_STEP_CNT (02_crown_and_clocking.md). -/
def RGN_STEP_CNT (j : Nat) : Nat := 0x3100028 + 0x10000 * j
/-- RGN_XSTALL_CNT (02_crown_and_clocking.md). -/
def RGN_XSTALL_CNT (j : Nat) : Nat := 0x3100030 + 0x10000 * j
/-- RGN_SRAM_CORR_CNT (02_crown_and_clocking.md). -/
def RGN_SRAM_CORR_CNT (j : Nat) : Nat := 0x3100038 + 0x10000 * j
/-- RGN_SRAM_UNCORR_CNT (02_crown_and_clocking.md). -/
def RGN_SRAM_UNCORR_CNT (j : Nat) : Nat := 0x3100040 + 0x10000 * j
/-- RGN_NUM_STATUS (09_number_formats.md). -/
def RGN_NUM_STATUS (j : Nat) : Nat := 0x3100048 + 0x10000 * j
/-- W1C, reset 0: A block with scale 0xFF was read (R230) -/
def RGN_NUM_STATUS_SCALE_NAN (j : Nat) : Fld := ⟨RGN_NUM_STATUS j, 6, 6⟩
/-- W1C, reset 0: A NaN was converted to a format without NaN (R238) -/
def RGN_NUM_STATUS_CONV_NAN (j : Nat) : Fld := ⟨RGN_NUM_STATUS j, 5, 5⟩
/-- W1C, reset 0: A conversion clamped or overflowed (R238, R239) -/
def RGN_NUM_STATUS_CONV_SAT (j : Nat) : Fld := ⟨RGN_NUM_STATUS j, 4, 4⟩
/-- W1C, reset 0: A NaN operand element entered a dot product on either path (R233, R235) -/
def RGN_NUM_STATUS_NAN_IN (j : Nat) : Fld := ⟨RGN_NUM_STATUS j, 3, 3⟩
/-- W1C, reset 0: 0 × ∞, or +∞ added to −∞ (R235) -/
def RGN_NUM_STATUS_FP_INV (j : Nat) : Fld := ⟨RGN_NUM_STATUS j, 2, 2⟩
/-- W1C, reset 0: An FP32 product or sum of finite terms overflowed (R235) -/
def RGN_NUM_STATUS_FP_OVF (j : Nat) : Fld := ⟨RGN_NUM_STATUS j, 1, 1⟩
/-- W1C, reset 0: An L64 addition saturated (R232) -/
def RGN_NUM_STATUS_L64_SAT (j : Nat) : Fld := ⟨RGN_NUM_STATUS j, 0, 0⟩
/-- RGN_NUM_FIRST (09_number_formats.md). -/
def RGN_NUM_FIRST (j : Nat) : Nat := 0x3100050 + 0x10000 * j
/-- RO, reset 0: 0 none, 1 L64_SAT, 2 FP_OVF, 3 FP_INV, 4 NAN_IN, 5 CONV_SAT, 6 CONV_NAN, 7 SCALE_NAN -/
def RGN_NUM_FIRST_KIND (j : Nat) : Fld := ⟨RGN_NUM_FIRST j, 63, 60⟩
/-- RO, reset 0: Logical tile index -/
def RGN_NUM_FIRST_TILE (j : Nat) : Fld := ⟨RGN_NUM_FIRST j, 51, 40⟩
/-- RO, reset 0: Op index -/
def RGN_NUM_FIRST_OP (j : Nat) : Fld := ⟨RGN_NUM_FIRST j, 31, 0⟩
/-- RGN_L64_SAT_CNT (02_crown_and_clocking.md). -/
def RGN_L64_SAT_CNT (j : Nat) : Nat := 0x3100058 + 0x10000 * j
/-- RGN_FPEXC_CNT (02_crown_and_clocking.md). -/
def RGN_FPEXC_CNT (j : Nat) : Nat := 0x3100060 + 0x10000 * j
/-- RGN_CONV_CNT (02_crown_and_clocking.md). -/
def RGN_CONV_CNT (j : Nat) : Nat := 0x3100068 + 0x10000 * j
/-- RGN_XBUF_CORR_CNT (02_crown_and_clocking.md). -/
def RGN_XBUF_CORR_CNT (j : Nat) : Nat := 0x3100070 + 0x10000 * j
/-- HBM_CTRL (11_memory.md). -/
def HBM_CTRL (j : Nat) : Nat := 0x4000000 + 0x100000 * j
/-- RW, reset 1: 1 enables the scrub (R282) -/
def HBM_CTRL_SCRUB_EN (j : Nat) : Fld := ⟨HBM_CTRL j, 4, 4⟩
/-- RW, reset 0: 1 defers requests to idle runs (R289) -/
def HBM_CTRL_SEAM_RETRAIN (j : Nat) : Fld := ⟨HBM_CTRL j, 3, 3⟩
/-- RW, reset 0: Retrain kind: 0 quick, 1 full -/
def HBM_CTRL_KIND (j : Nat) : Fld := ⟨HBM_CTRL j, 2, 2⟩
/-- W1S, reset 0: 1 requests a retrain (R289); reads 0 -/
def HBM_CTRL_RETRAIN (j : Nat) : Fld := ⟨HBM_CTRL j, 1, 1⟩
/-- HBM_STATUS (11_memory.md). -/
def HBM_STATUS (j : Nat) : Nat := 0x4000008 + 0x100000 * j
/-- RO, reset 0: Stack temperature, °C -/
def HBM_STATUS_TEMP (j : Nat) : Fld := ⟨HBM_STATUS j, 63, 56⟩
/-- W1C, reset 0: A write to HBM_CTRL or HBM_CAP was ignored -/
def HBM_STATUS_CFG_ERR (j : Nat) : Fld := ⟨HBM_STATUS j, 9, 9⟩
/-- RO, reset 0: Refresh every 1,950 ct (R285) -/
def HBM_STATUS_REFRESH_2X (j : Nat) : Fld := ⟨HBM_STATUS j, 8, 8⟩
/-- RO, reset 0: A retrain waits for an idle run -/
def HBM_STATUS_PENDING (j : Nat) : Fld := ⟨HBM_STATUS j, 7, 7⟩
/-- RO, reset 0: 0 quick, 1 full -/
def HBM_STATUS_DUE_KIND (j : Nat) : Fld := ⟨HBM_STATUS j, 6, 6⟩
/-- RO, reset 0: A retrain is due (R289) -/
def HBM_STATUS_RETRAIN_DUE (j : Nat) : Fld := ⟨HBM_STATUS j, 5, 5⟩
/-- RO, reset 0b00: 0 DOWN, 1 UP, 2 RETRAINING, 3 FAILED (R288) -/
def HBM_STATUS_STATE (j : Nat) : Fld := ⟨HBM_STATUS j, 1, 0⟩
/-- HBM_SCRUB (11_memory.md). -/
def HBM_SCRUB (j : Nat) : Nat := 0x4000010 + 0x100000 * j
/-- RO, reset 0: Next burst to scrub, in 256-byte units of the stack -/
def HBM_SCRUB_POSITION (j : Nat) : Fld := ⟨HBM_SCRUB j, 59, 32⟩
/-- RW, reset 0x1_0000: Time between bursts on each channel, in ct; values below 4,096 act as 4,096 -/
def HBM_SCRUB_INTERVAL (j : Nat) : Fld := ⟨HBM_SCRUB j, 16, 0⟩
/-- HBM_CAP (11_memory.md). -/
def HBM_CAP (j : Nat) : Nat := 0x4000018 + 0x100000 * j
/-- RW, reset 2: Cap for lead queue 15, write-backs and host writes, in words per ct; RW while RUN = 0 -/
def HBM_CAP_OTHER (j : Nat) : Fld := ⟨HBM_CAP j, 15, 8⟩
/-- RW, reset 0: Bonnet cap, in words per ct, from the image; RW while RUN = 0 -/
def HBM_CAP_BONNET (j : Nat) : Fld := ⟨HBM_CAP j, 7, 0⟩
/-- HBM_ECC_LAST (11_memory.md). -/
def HBM_ECC_LAST (j : Nat) : Nat := 0x4000020 + 0x100000 * j
/-- RO, reset 0: 0 none, 1 CORRECTED, 2 UNCORRECTABLE, 3 HARD -/
def HBM_ECC_LAST_KIND (j : Nat) : Fld := ⟨HBM_ECC_LAST j, 63, 60⟩
/-- RO, reset 0: 0 read, 1 SCRUB, 2 write-back read-back -/
def HBM_ECC_LAST_SOURCE (j : Nat) : Fld := ⟨HBM_ECC_LAST j, 59, 56⟩
/-- RO, reset 0: Corrected byte, 0–35 in stored order; 0 otherwise -/
def HBM_ECC_LAST_BYTE (j : Nat) : Fld := ⟨HBM_ECC_LAST j, 55, 50⟩
/-- RO, reset 0: Word address within the stack -/
def HBM_ECC_LAST_WORD (j : Nat) : Fld := ⟨HBM_ECC_LAST j, 30, 0⟩
/-- HBM_CORR_CNT (02_crown_and_clocking.md). -/
def HBM_CORR_CNT (j : Nat) : Nat := 0x4000040 + 0x100000 * j
/-- HBM_UNCORR_CNT (02_crown_and_clocking.md). -/
def HBM_UNCORR_CNT (j : Nat) : Nat := 0x4000048 + 0x100000 * j
/-- HBM_SCRUB_PASS_CNT (02_crown_and_clocking.md). -/
def HBM_SCRUB_PASS_CNT (j : Nat) : Nat := 0x4000050 + 0x100000 * j
/-- HBM_RD_WORD_CNT (02_crown_and_clocking.md). -/
def HBM_RD_WORD_CNT (j : Nat) : Nat := 0x4000058 + 0x100000 * j
/-- HBM_WR_WORD_CNT (02_crown_and_clocking.md). -/
def HBM_WR_WORD_CNT (j : Nat) : Nat := 0x4000060 + 0x100000 * j
/-- HBM_RETRAIN_CNT (02_crown_and_clocking.md). -/
def HBM_RETRAIN_CNT (j : Nat) : Nat := 0x4000068 + 0x100000 * j
/-- HBM_CAP_WAIT_CNT (02_crown_and_clocking.md). -/
def HBM_CAP_WAIT_CNT (j : Nat) : Nat := 0x4000070 + 0x100000 * j
/-- HBM_LQ (11_memory.md). -/
def HBM_LQ (j : Nat) (k : Nat) : Nat := 0x4000100 + 0x100000 * j + 8 * k
/-- WO, reset 0: Writing 1 sets HWM to 0 -/
def HBM_LQ_HWM_CLR (j : Nat) (k : Nat) : Fld := ⟨HBM_LQ j k, 63, 63⟩
/-- RO, reset 0: Highest occupancy since clear, 0–2,048 words -/
def HBM_LQ_HWM (j : Nat) (k : Nat) : Fld := ⟨HBM_LQ j k, 43, 32⟩
/-- RO, reset 0: Occupancy, 0–2,048 words -/
def HBM_LQ_OCC (j : Nat) (k : Nat) : Fld := ⟨HBM_LQ j k, 11, 0⟩
/-- BON_RX_FRAME_CNT (02_crown_and_clocking.md). -/
def BON_RX_FRAME_CNT : Nat := 0x5000100
/-- BON_RX_ERR_CNT (02_crown_and_clocking.md). -/
def BON_RX_ERR_CNT : Nat := 0x5000108
/-- BON_STRANGER_CNT (02_crown_and_clocking.md). -/
def BON_STRANGER_CNT : Nat := 0x5000110
/-- BON_RATE_DROP_CNT (02_crown_and_clocking.md). -/
def BON_RATE_DROP_CNT : Nat := 0x5000118
/-- BON_AUTH_FAIL_CNT (02_crown_and_clocking.md). -/
def BON_AUTH_FAIL_CNT : Nat := 0x5000120
/-- BON_REPLAY_CNT (02_crown_and_clocking.md). -/
def BON_REPLAY_CNT : Nat := 0x5000128
/-- BON_NAK_TX_CNT (02_crown_and_clocking.md). -/
def BON_NAK_TX_CNT : Nat := 0x5000130
/-- BON_ASM_TIMEOUT_CNT (02_crown_and_clocking.md). -/
def BON_ASM_TIMEOUT_CNT : Nat := 0x5000138
/-- BON_FRAG_DUP_CNT (02_crown_and_clocking.md). -/
def BON_FRAG_DUP_CNT : Nat := 0x5000140
/-- BON_VOID_SLOT_CNT (02_crown_and_clocking.md). -/
def BON_VOID_SLOT_CNT : Nat := 0x5000148
/-- BON_TOKENS_TX_CNT (02_crown_and_clocking.md). -/
def BON_TOKENS_TX_CNT : Nat := 0x5000150
/-- BON_OUT_LATE_CNT (02_crown_and_clocking.md). -/
def BON_OUT_LATE_CNT : Nat := 0x5000158
/-- BON_FWD_CNT (02_crown_and_clocking.md). -/
def BON_FWD_CNT : Nat := 0x5000160
/-- BON_ARP_ND_CNT (02_crown_and_clocking.md). -/
def BON_ARP_ND_CNT : Nat := 0x5000168
/-- BON_ECC_CORR_CNT (02_crown_and_clocking.md). -/
def BON_ECC_CORR_CNT : Nat := 0x5000170
/-- BON_CTRL (13_bonnet_services.md). -/
def BON_CTRL : Nat := 0x5000000
/-- RW, reset 0: Bit p enables port p -/
def BON_CTRL_PORT_EN : Fld := ⟨BON_CTRL, 2, 1⟩
/-- RW, reset 0: 1 enables sessions and windows -/
def BON_CTRL_SVC_EN : Fld := ⟨BON_CTRL, 0, 0⟩
/-- BON_STATUS (13_bonnet_services.md). -/
def BON_STATUS : Nat := 0x5000008
/-- RO, reset 0: Service cores running, 0–24 -/
def BON_STATUS_CORES : Fld := ⟨BON_STATUS, 63, 56⟩
/-- RO, reset 0: Bit p: port p link up -/
def BON_STATUS_PORT_UP : Fld := ⟨BON_STATUS, 11, 10⟩
/-- W1C, reset 0: The service declaration could not be read -/
def BON_STATUS_CFG_ERR : Fld := ⟨BON_STATUS, 9, 9⟩
/-- W1C, reset 0: A write or command was ignored -/
def BON_STATUS_WR_REFUSED : Fld := ⟨BON_STATUS, 8, 8⟩
/-- RO, reset 0: 0 OFF, 1 IDLE, 2 SERVING -/
def BON_STATUS_STATE : Fld := ⟨BON_STATUS, 1, 0⟩
/-- BON_PORT_MAC (13_bonnet_services.md). -/
def BON_PORT_MAC (k : Nat) : Nat := 0x5000010 + 8 * k
/-- RW, reset 0: 1: frames carry the VLAN tag -/
def BON_PORT_MAC_VLAN_EN (k : Nat) : Fld := ⟨BON_PORT_MAC k, 60, 60⟩
/-- RW, reset 0: VLAN ID -/
def BON_PORT_MAC_VLAN (k : Nat) : Fld := ⟨BON_PORT_MAC k, 59, 48⟩
/-- RW, reset 0: MAC address -/
def BON_PORT_MAC_MAC (k : Nat) : Fld := ⟨BON_PORT_MAC k, 47, 0⟩
/-- BON_PORT_IP4 (13_bonnet_services.md). -/
def BON_PORT_IP4 (k : Nat) : Nat := 0x5000020 + 8 * k
/-- RW, reset 0: IPv4 enabled -/
def BON_PORT_IP4_EN (k : Nat) : Fld := ⟨BON_PORT_IP4 k, 32, 32⟩
/-- RW, reset 0: IPv4 address -/
def BON_PORT_IP4_ADDR (k : Nat) : Fld := ⟨BON_PORT_IP4 k, 31, 0⟩
/-- BON_PORT_IP6_HI (13_bonnet_services.md). -/
def BON_PORT_IP6_HI (k : Nat) : Nat := 0x5000030 + 16 * k
/-- RW, reset 0: Bits [127:64]; an all-zero address disables IPv6 -/
def BON_PORT_IP6_HI_ADDR (k : Nat) : Fld := ⟨BON_PORT_IP6_HI k, 63, 0⟩
/-- BON_PORT_IP6_LO (13_bonnet_services.md). -/
def BON_PORT_IP6_LO (k : Nat) : Nat := 0x5000038 + 16 * k
/-- RW, reset 0: Bits [63:0] -/
def BON_PORT_IP6_LO_ADDR (k : Nat) : Fld := ⟨BON_PORT_IP6_LO k, 63, 0⟩
/-- BON_INTAKE_CFG (13_bonnet_services.md). -/
def BON_INTAKE_CFG : Nat := 0x5000050
/-- RW, reset 0x001E_8480: Assembly timeout, ct (2,000,000) -/
def BON_INTAKE_CFG_ASM_TIMEOUT : Fld := ⟨BON_INTAKE_CFG, 63, 32⟩
/-- RW, reset 0xB7FC: BRP UDP port (47100); RW while SVC_EN = 0 -/
def BON_INTAKE_CFG_UDP_PORT : Fld := ⟨BON_INTAKE_CFG, 15, 0⟩
/-- BON_SRC_LIMIT (13_bonnet_services.md). -/
def BON_SRC_LIMIT : Nat := 0x5000058
/-- RW, reset 64: Datagrams -/
def BON_SRC_LIMIT_BURST : Fld := ⟨BON_SRC_LIMIT, 39, 32⟩
/-- RW, reset 2,048: Datagrams per 65,536 ct per bucket -/
def BON_SRC_LIMIT_RATE : Fld := ⟨BON_SRC_LIMIT, 15, 0⟩
/-- BON_SESS_CMD (13_bonnet_services.md). -/
def BON_SESS_CMD : Nat := 0x5000060
/-- WO, reset 0: 1 OPEN, 2 CLOSE -/
def BON_SESS_CMD_CMD : Fld := ⟨BON_SESS_CMD, 63, 60⟩
/-- RO, reset 0: 0 none, 1 OK, 2 LATENCY, 3 FORMAT, 4 DUPLICATE -/
def BON_SESS_CMD_RESULT : Fld := ⟨BON_SESS_CMD, 59, 56⟩
/-- RW, reset 0: Session index -/
def BON_SESS_CMD_INDEX : Fld := ⟨BON_SESS_CMD, 43, 32⟩
/-- RO, reset 0: need of R335, in ct -/
def BON_SESS_CMD_NEED : Fld := ⟨BON_SESS_CMD, 31, 0⟩
/-- BON_SESS_KEY (13_bonnet_services.md). -/
def BON_SESS_KEY (k : Nat) : Nat := 0x5000068 + 8 * k
/-- WO, reset 0: Key bytes; cleared by every OPEN -/
def BON_SESS_KEY_KEY (k : Nat) : Fld := ⟨BON_SESS_KEY k, 63, 0⟩
/-- BON_WINDOW (13_bonnet_services.md). -/
def BON_WINDOW : Nat := 0x5000088
/-- RO, reset 0: Bits [31:0] of the last window closed -/
def BON_WINDOW_INDEX : Fld := ⟨BON_WINDOW, 63, 32⟩
/-- RO, reset 0: Its record is written (R343) -/
def BON_WINDOW_DONE : Fld := ⟨BON_WINDOW, 31, 31⟩
/-- RO, reset 0: PREFILL, DECODE and CANCEL slots in it -/
def BON_WINDOW_ACTIVE : Fld := ⟨BON_WINDOW, 17, 9⟩
/-- RO, reset 0: EMPTY, WAITING and RELEASED slots in it -/
def BON_WINDOW_VOID : Fld := ⟨BON_WINDOW, 8, 0⟩
/-- BON_PAGES (13_bonnet_services.md). -/
def BON_PAGES : Nat := 0x5000090
/-- WO, reset 0: Writing 1 sets MIN_FREE to FREE -/
def BON_PAGES_CLR : Fld := ⟨BON_PAGES, 63, 63⟩
/-- RO, reset 0: Lowest FREE since clear -/
def BON_PAGES_MIN_FREE : Fld := ⟨BON_PAGES, 48, 32⟩
/-- RO, reset 0: Free pages, 0–65,536 -/
def BON_PAGES_FREE : Fld := ⟨BON_PAGES, 16, 0⟩
/-- BON_BULK_CTRL (13_bonnet_services.md). -/
def BON_BULK_CTRL : Nat := 0x5000098
/-- RW, reset 0: Datagrams per 65,536 ct; 0 unlimited -/
def BON_BULK_CTRL_RATE : Fld := ⟨BON_BULK_CTRL, 47, 32⟩
/-- RW, reset 0: Session index of KIND BULK -/
def BON_BULK_CTRL_SESSION : Fld := ⟨BON_BULK_CTRL, 27, 16⟩
/-- W1S, reset 0: 1 ends the transfer; reads 0 -/
def BON_BULK_CTRL_ABORT : Fld := ⟨BON_BULK_CTRL, 1, 1⟩
/-- W1S, reset 0: 1 starts a transfer; ignored while one runs; reads 0 -/
def BON_BULK_CTRL_START : Fld := ⟨BON_BULK_CTRL, 0, 0⟩
/-- BON_BULK_BASE (13_bonnet_services.md). -/
def BON_BULK_BASE : Nat := 0x50000A0
/-- RW, reset 0: Module HBM byte address, 32-byte aligned -/
def BON_BULK_BASE_ADDR : Fld := ⟨BON_BULK_BASE, 38, 0⟩
/-- BON_BULK_LEN (13_bonnet_services.md). -/
def BON_BULK_LEN : Nat := 0x50000A8
/-- RW, reset 0: Bytes, a multiple of 32 -/
def BON_BULK_LEN_LEN : Fld := ⟨BON_BULK_LEN, 38, 0⟩
/-- BON_BULK_STATUS (13_bonnet_services.md). -/
def BON_BULK_STATUS : Nat := 0x50000B0
/-- RO, reset 0: 0 idle, 1 running, 2 DONE, 3 failed -/
def BON_BULK_STATUS_STATE : Fld := ⟨BON_BULK_STATUS, 63, 60⟩
/-- RO, reset 0: 1 RETRIES, 2 POISON, 3 ABORT, 4 SESSION -/
def BON_BULK_STATUS_CAUSE : Fld := ⟨BON_BULK_STATUS, 59, 56⟩
/-- RO, reset 0: Bytes acknowledged in order -/
def BON_BULK_STATUS_ACKED : Fld := ⟨BON_BULK_STATUS, 38, 0⟩
/-- BON_CFG (13_bonnet_services.md). -/
def BON_CFG : Nat := 0x50000B8
/-- RW, reset 0: A declaration is named; RW while RUN = 0 -/
def BON_CFG_VALID : Fld := ⟨BON_CFG, 63, 63⟩
/-- RW, reset 0: Module HBM address of the BONNET section; RW while RUN = 0 -/
def BON_CFG_ADDR : Fld := ⟨BON_CFG, 38, 0⟩
/-- FLT_CTRL (16_faults_counters_telemetry.md). -/
def FLT_CTRL : Nat := 0x6000000
/-- RW, reset 0x38: Bit c: MSI-X on records of class c (R405) -/
def FLT_CTRL_IRQ_CLASS : Fld := ⟨FLT_CTRL, 5, 0⟩
/-- FLT_STATUS (16_faults_counters_telemetry.md). -/
def FLT_STATUS : Nat := 0x6000008
/-- RO, reset 0: Records held, 0–1,024 -/
def FLT_STATUS_COUNT : Fld := ⟨FLT_STATUS, 26, 16⟩
/-- RO, reset 0: R398 -/
def FLT_STATUS_MODULE_FATAL : Fld := ⟨FLT_STATUS, 13, 13⟩
/-- RO, reset 0: Scheduled traffic ended by a fault or an alarm; clears when RUN clears -/
def FLT_STATUS_MITTEN_STOPPED : Fld := ⟨FLT_STATUS, 12, 12⟩
/-- W1C, reset 0: A FLT_HEAD write was ignored (R403) -/
def FLT_STATUS_WR_REFUSED : Fld := ⟨FLT_STATUS, 9, 9⟩
/-- W1C, reset 0: R404 -/
def FLT_STATUS_OVERFLOW : Fld := ⟨FLT_STATUS, 8, 8⟩
/-- WO, reset 0: Writing 1 clears ANY and MAX_CLASS -/
def FLT_STATUS_MAX_CLR : Fld := ⟨FLT_STATUS, 4, 4⟩
/-- RO, reset 0: A record has been made since the last clear -/
def FLT_STATUS_ANY : Fld := ⟨FLT_STATUS, 3, 3⟩
/-- RO, reset 0: Highest class since the last clear -/
def FLT_STATUS_MAX_CLASS : Fld := ⟨FLT_STATUS, 2, 0⟩
/-- FLT_HEAD (16_faults_counters_telemetry.md). -/
def FLT_HEAD : Nat := 0x6000010
/-- RW, reset 0: Next index to read, modulo 2,048 -/
def FLT_HEAD_IDX : Fld := ⟨FLT_HEAD, 10, 0⟩
/-- FLT_TAIL (16_faults_counters_telemetry.md). -/
def FLT_TAIL : Nat := 0x6000018
/-- RO, reset 0: SEQ of the next record -/
def FLT_TAIL_NEXT_SEQ : Fld := ⟨FLT_TAIL, 63, 32⟩
/-- RO, reset 0: Next index to write, modulo 2,048 -/
def FLT_TAIL_IDX : Fld := ⟨FLT_TAIL, 10, 0⟩
/-- FLT_FIRST (16_faults_counters_telemetry.md). -/
def FLT_FIRST : Nat := 0x6000020
/-- RO, reset 0: SEQ of the first record of class OP_FATAL or above -/
def FLT_FIRST_SEQ : Fld := ⟨FLT_FIRST, 63, 32⟩
/-- WO, reset 0: Writing 1 clears VALID -/
def FLT_FIRST_CLR : Fld := ⟨FLT_FIRST, 31, 31⟩
/-- RO, reset 0: SEQ and CLASS hold a record -/
def FLT_FIRST_VALID : Fld := ⟨FLT_FIRST, 3, 3⟩
/-- RO, reset 0: Its class -/
def FLT_FIRST_CLASS : Fld := ⟨FLT_FIRST, 2, 0⟩
/-- FLT_ALARM_RX (16_faults_counters_telemetry.md). -/
def FLT_ALARM_RX : Nat := 0x6000028
/-- RO, reset 0: ORIGIN_SEQ -/
def FLT_ALARM_RX_SEQ : Fld := ⟨FLT_ALARM_RX, 63, 32⟩
/-- RO, reset 0: Detecting module -/
def FLT_ALARM_RX_ORIGIN : Fld := ⟨FLT_ALARM_RX, 31, 20⟩
/-- RO, reset 0: An alarm has been accepted since RUN was set -/
def FLT_ALARM_RX_VALID : Fld := ⟨FLT_ALARM_RX, 19, 19⟩
/-- RO, reset 0: Class of the originating record -/
def FLT_ALARM_RX_CLASS : Fld := ⟨FLT_ALARM_RX, 18, 16⟩
/-- RO, reset 0: Code of the originating record -/
def FLT_ALARM_RX_CODE : Fld := ⟨FLT_ALARM_RX, 15, 0⟩
/-- FLT_SNAP (16_faults_counters_telemetry.md). -/
def FLT_SNAP : Nat := 0x6000030
/-- RO, reset 0: The copy is readable -/
def FLT_SNAP_DONE : Fld := ⟨FLT_SNAP, 63, 63⟩
/-- W1S, reset 0: 1 takes a copy (R411); reads 0 -/
def FLT_SNAP_GO : Fld := ⟨FLT_SNAP, 16, 16⟩
/-- RW, reset 0: Block, coded as in R401 -/
def FLT_SNAP_BLOCK : Fld := ⟨FLT_SNAP, 15, 8⟩
/-- RW, reset 0: Link, region or stack -/
def FLT_SNAP_INSTANCE : Fld := ⟨FLT_SNAP, 7, 0⟩
/-- FLT_TEL_CFG (16_faults_counters_telemetry.md). -/
def FLT_TEL_CFG : Nat := 0x6000038
/-- RW, reset 0: Reports enabled -/
def FLT_TEL_CFG_EN : Fld := ⟨FLT_TEL_CFG, 63, 63⟩
/-- RW, reset 0: 0 DEST is a rank, 1 a module ID -/
def FLT_TEL_CFG_COORD : Fld := ⟨FLT_TEL_CFG, 62, 62⟩
/-- RW, reset 24: P of R412; writes outside 20–36 are ignored -/
def FLT_TEL_CFG_PERIOD : Fld := ⟨FLT_TEL_CFG, 61, 56⟩
/-- RW, reset 0: Rank, or module ID in [43:32] -/
def FLT_TEL_CFG_DEST : Fld := ⟨FLT_TEL_CFG, 47, 32⟩
/-- RW, reset 0xF1: Destination queue -/
def FLT_TEL_CFG_DST_Q : Fld := ⟨FLT_TEL_CFG, 31, 24⟩
/-- FLT_TEL_STATUS (16_faults_counters_telemetry.md). -/
def FLT_TEL_STATUS : Nat := 0x6000040
/-- RO, reset 0: SEQ of the last report -/
def FLT_TEL_STATUS_SEQ : Fld := ⟨FLT_TEL_STATUS, 63, 32⟩
/-- RO, reset 0: The last report was dropped (R412) -/
def FLT_TEL_STATUS_LAST_DROPPED : Fld := ⟨FLT_TEL_STATUS, 0, 0⟩
/-- FLT_SINK_BASE (16_faults_counters_telemetry.md). -/
def FLT_SINK_BASE : Nat := 0x6000048
/-- RW, reset 0: Sink enabled (R414) -/
def FLT_SINK_BASE_EN : Fld := ⟨FLT_SINK_BASE, 63, 63⟩
/-- RW, reset 0: Slots of 384 bytes; 0 acts as EN 0 -/
def FLT_SINK_BASE_ENTRIES : Fld := ⟨FLT_SINK_BASE, 55, 40⟩
/-- RW, reset 0: Module HBM byte address, 4 KiB aligned -/
def FLT_SINK_BASE_ADDR : Fld := ⟨FLT_SINK_BASE, 38, 0⟩
/-- FLT_SINK_PTR (16_faults_counters_telemetry.md). -/
def FLT_SINK_PTR : Nat := 0x6000050
/-- RW, reset 0: Next slot the driver reads, modulo 2^16 -/
def FLT_SINK_PTR_RD : Fld := ⟨FLT_SINK_PTR, 47, 32⟩
/-- RO, reset 0: Next slot the device writes, modulo 2^16 -/
def FLT_SINK_PTR_WR : Fld := ⟨FLT_SINK_PTR, 15, 0⟩
/-- FLT_RECORD_CNT (02_crown_and_clocking.md). -/
def FLT_RECORD_CNT : Nat := 0x6000100
/-- FLT_LOST_CNT (02_crown_and_clocking.md). -/
def FLT_LOST_CNT : Nat := 0x6000108
/-- FLT_ALARM_TX_CNT (02_crown_and_clocking.md). -/
def FLT_ALARM_TX_CNT : Nat := 0x6000110
/-- FLT_ALARM_RX_CNT (02_crown_and_clocking.md). -/
def FLT_ALARM_RX_CNT : Nat := 0x6000118
/-- FLT_ALARM_DUP_CNT (02_crown_and_clocking.md). -/
def FLT_ALARM_DUP_CNT : Nat := 0x6000120
/-- FLT_TEL_TX_CNT (02_crown_and_clocking.md). -/
def FLT_TEL_TX_CNT : Nat := 0x6000128
/-- FLT_TEL_DROP_CNT (02_crown_and_clocking.md). -/
def FLT_TEL_DROP_CNT : Nat := 0x6000130
/-- FLT_SINK_RX_CNT (02_crown_and_clocking.md). -/
def FLT_SINK_RX_CNT : Nat := 0x6000138
/-- FLT_SINK_DROP_CNT (02_crown_and_clocking.md). -/
def FLT_SINK_DROP_CNT : Nat := 0x6000140
/-- FLT_QUEUE (16_faults_counters_telemetry.md). -/
def FLT_QUEUE (k : Nat) : Nat := 0x6010000 + 8 * k
/-- RO, reset 0: Record slot s word w at element 8s+w -/
def FLT_QUEUE_WORD (k : Nat) : Fld := ⟨FLT_QUEUE k, 63, 0⟩
/-- FLT_TEL_LAST (16_faults_counters_telemetry.md). -/
def FLT_TEL_LAST (k : Nat) : Nat := 0x6020000 + 8 * k
/-- RO, reset 0: Last report, word w -/
def FLT_TEL_LAST_WORD (k : Nat) : Fld := ⟨FLT_TEL_LAST k, 63, 0⟩
/-- FLT_SNAP_WIN (16_faults_counters_telemetry.md). -/
def FLT_SNAP_WIN (k : Nat) : Nat := 0x6080000 + 8 * k
/-- RO, reset 0: Snapshot window -/
def FLT_SNAP_WIN_WORD (k : Nat) : Fld := ⟨FLT_SNAP_WIN k, 63, 0⟩
/-- LDR_CTRL (12_images_and_loader.md). -/
def LDR_CTRL : Nat := 0x7000000
/-- RW, reset 0: Domain for CONVERT: 0 PTP-A, 1 PTP-B -/
def LDR_CTRL_DOMAIN : Fld := ⟨LDR_CTRL, 15, 15⟩
/-- W1S, reset 0: One firmware repair (R324) -/
def LDR_CTRL_FW_REPAIR : Fld := ⟨LDR_CTRL, 9, 9⟩
/-- W1S, reset 0: Firmware distribution (R324) -/
def LDR_CTRL_FW_START : Fld := ⟨LDR_CTRL, 8, 8⟩
/-- W1S, reset 0: Source starts rounds (R322) -/
def LDR_CTRL_BCAST : Fld := ⟨LDR_CTRL, 7, 7⟩
/-- W1S, reset 0: Refusal by the loader (R317) -/
def LDR_CTRL_REFUSE : Fld := ⟨LDR_CTRL, 6, 6⟩
/-- W1S, reset 0: Convert LDR_START_PTP (R315) -/
def LDR_CTRL_CONVERT : Fld := ⟨LDR_CTRL, 5, 5⟩
/-- W1S, reset 0: Arm the start (R314) -/
def LDR_CTRL_ARM : Fld := ⟨LDR_CTRL, 4, 4⟩
/-- W1S, reset 0: Admit (R310) -/
def LDR_CTRL_ADMIT : Fld := ⟨LDR_CTRL, 3, 3⟩
/-- W1S, reset 0: Start VERIFYING -/
def LDR_CTRL_VERIFY : Fld := ⟨LDR_CTRL, 2, 2⟩
/-- W1S, reset 0: Close the load -/
def LDR_CTRL_CLOSE : Fld := ⟨LDR_CTRL, 1, 1⟩
/-- W1S, reset 0: Open a load -/
def LDR_CTRL_OPEN : Fld := ⟨LDR_CTRL, 0, 0⟩
/-- LDR_STATUS (12_images_and_loader.md). -/
def LDR_STATUS : Nat := 0x7000008
/-- RO, reset 0: Variant of this module -/
def LDR_STATUS_VARIANT : Fld := ⟨LDR_STATUS, 63, 52⟩
/-- RO, reset 0: Last round seen -/
def LDR_STATUS_ROUND : Fld := ⟨LDR_STATUS, 51, 48⟩
/-- RO, reset 0: Needed chunks not held -/
def LDR_STATUS_MISSING : Fld := ⟨LDR_STATUS, 47, 24⟩
/-- W1C, reset 0: A command or write was ignored -/
def LDR_STATUS_WR_REFUSED : Fld := ⟨LDR_STATUS, 7, 7⟩
/-- W1C, reset 0: An armed start did not take place -/
def LDR_STATUS_START_FAIL : Fld := ⟨LDR_STATUS, 6, 6⟩
/-- W1C, reset 0: ARM refused other than for time -/
def LDR_STATUS_ARM_ERR : Fld := ⟨LDR_STATUS, 5, 5⟩
/-- W1C, reset 0: ARM refused for its tick (R59, R314) -/
def LDR_STATUS_LATE : Fld := ⟨LDR_STATUS, 4, 4⟩
/-- RO, reset 0: Load state (R309) -/
def LDR_STATUS_STATE : Fld := ⟨LDR_STATUS, 3, 0⟩
/-- LDR_IMAGE_ID (12_images_and_loader.md). -/
def LDR_IMAGE_ID : Nat := 0x7000010
/-- RW, reset 0: IMAGE_ID; RW while EMPTY -/
def LDR_IMAGE_ID_ID : Fld := ⟨LDR_IMAGE_ID, 63, 0⟩
/-- LDR_VMOD (12_images_and_loader.md). -/
def LDR_VMOD : Nat := 0x7000018
/-- RW, reset 0: Virtual module ID; RW while EMPTY -/
def LDR_VMOD_VMOD : Fld := ⟨LDR_VMOD, 11, 0⟩
/-- LDR_AREA (12_images_and_loader.md). -/
def LDR_AREA : Nat := 0x7000020
/-- RW, reset 0: End, exclusive, in 64 KiB units, up to 2^23; RW while EMPTY -/
def LDR_AREA_LIMIT : Fld := ⟨LDR_AREA, 55, 32⟩
/-- RW, reset 0: Start, in 64 KiB units; RW while EMPTY -/
def LDR_AREA_BASE : Fld := ⟨LDR_AREA, 22, 0⟩
/-- LDR_START_TICK (12_images_and_loader.md). -/
def LDR_START_TICK : Nat := 0x7000028
/-- RW, reset 0: Start tick in ct; written by CONVERT -/
def LDR_START_TICK_TICK : Fld := ⟨LDR_START_TICK, 63, 0⟩
/-- LDR_START_PTP (12_images_and_loader.md). -/
def LDR_START_PTP : Nat := 0x7000030
/-- RW, reset 0: Start time, ns since the PTP epoch -/
def LDR_START_PTP_TIME : Fld := ⟨LDR_START_PTP, 63, 0⟩
/-- LDR_START_SEG (12_images_and_loader.md). -/
def LDR_START_SEG : Nat := 0x7000038
/-- RW, reset 1: Start segment -/
def LDR_START_SEG_SEGMENT : Fld := ⟨LDR_START_SEG, 31, 0⟩
/-- LDR_SEG (12_images_and_loader.md). -/
def LDR_SEG : Nat := 0x7000040
/-- RO, reset 0: Last segment whose closing check passed (R307) -/
def LDR_SEG_VALID : Fld := ⟨LDR_SEG, 63, 32⟩
/-- RO, reset 0: Segment in force (R306) -/
def LDR_SEG_COMMITTED : Fld := ⟨LDR_SEG, 31, 0⟩
/-- LDR_REFUSE0 (12_images_and_loader.md). -/
def LDR_REFUSE0 : Nat := 0x7000048
/-- RW, reset 0: R316 code; 0 none -/
def LDR_REFUSE0_REASON : Fld := ⟨LDR_REFUSE0, 63, 56⟩
/-- RW, reset 0: Sub-reason (R316) -/
def LDR_REFUSE0_SUB : Fld := ⟨LDR_REFUSE0, 55, 48⟩
/-- RW, reset 0: 0 none, 1 link, 2 op, 3 stack, 4 deadline, 5 section, 6 region, 7 virtual link -/
def LDR_REFUSE0_OBJ : Fld := ⟨LDR_REFUSE0, 47, 44⟩
/-- RW, reset 0: Seat -/
def LDR_REFUSE0_MODULE : Fld := ⟨LDR_REFUSE0, 43, 32⟩
/-- RW, reset 0: Segment; 0 when none applies -/
def LDR_REFUSE0_SEGMENT : Fld := ⟨LDR_REFUSE0, 31, 0⟩
/-- LDR_REFUSE1 (12_images_and_loader.md). -/
def LDR_REFUSE1 : Nat := 0x7000050
/-- RW, reset 0: Index of the object; a virtual link is VMOD × 32 + link -/
def LDR_REFUSE1_INDEX : Fld := ⟨LDR_REFUSE1, 63, 32⟩
/-- RW, reset 0: Virtual module -/
def LDR_REFUSE1_VMOD : Fld := ⟨LDR_REFUSE1, 11, 0⟩
/-- LDR_REFUSE2 (12_images_and_loader.md). -/
def LDR_REFUSE2 : Nat := 0x7000058
/-- RW, reset 0: Value found -/
def LDR_REFUSE2_VALUE : Fld := ⟨LDR_REFUSE2, 63, 32⟩
/-- RW, reset 0: Bound broken -/
def LDR_REFUSE2_BOUND : Fld := ⟨LDR_REFUSE2, 31, 0⟩
/-- LDR_CHUNK (12_images_and_loader.md). -/
def LDR_CHUNK : Nat := 0x7000060
/-- WO, reset 0: Chunk number -/
def LDR_CHUNK_CHUNK : Fld := ⟨LDR_CHUNK, 55, 32⟩
/-- WO, reset 0: CRC-32 of the window's contents -/
def LDR_CHUNK_CRC : Fld := ⟨LDR_CHUNK, 31, 0⟩
/-- LDR_BCAST_CFG (12_images_and_loader.md). -/
def LDR_BCAST_CFG : Nat := 0x7000068
/-- RW, reset 0: Module ID that receives reports -/
def LDR_BCAST_CFG_SOURCE : Fld := ⟨LDR_BCAST_CFG, 43, 32⟩
/-- RW, reset 0: Reports the source expects, 0–4,095 -/
def LDR_BCAST_CFG_EXPECT : Fld := ⟨LDR_BCAST_CFG, 28, 16⟩
/-- RW, reset 0: 0 off, 1 receiver and relay, 2 source -/
def LDR_BCAST_CFG_ROLE : Fld := ⟨LDR_BCAST_CFG, 1, 0⟩
/-- LDR_BCAST_CHILD (12_images_and_loader.md). -/
def LDR_BCAST_CHILD : Nat := 0x7000070
/-- RW, reset 0: Child 0 present -/
def LDR_BCAST_CHILD_VALID0 : Fld := ⟨LDR_BCAST_CHILD, 15, 15⟩
/-- RW, reset 0: Module ID of child 0 -/
def LDR_BCAST_CHILD_ID0 : Fld := ⟨LDR_BCAST_CHILD, 11, 0⟩
/-- RW, reset 0: Child 1 present -/
def LDR_BCAST_CHILD_VALID1 : Fld := ⟨LDR_BCAST_CHILD, 31, 31⟩
/-- RW, reset 0: Module ID of child 1 -/
def LDR_BCAST_CHILD_ID1 : Fld := ⟨LDR_BCAST_CHILD, 27, 16⟩
/-- RW, reset 0: Child 2 present -/
def LDR_BCAST_CHILD_VALID2 : Fld := ⟨LDR_BCAST_CHILD, 47, 47⟩
/-- RW, reset 0: Module ID of child 2 -/
def LDR_BCAST_CHILD_ID2 : Fld := ⟨LDR_BCAST_CHILD, 43, 32⟩
/-- RW, reset 0: Child 3 present -/
def LDR_BCAST_CHILD_VALID3 : Fld := ⟨LDR_BCAST_CHILD, 63, 63⟩
/-- RW, reset 0: Module ID of child 3 -/
def LDR_BCAST_CHILD_ID3 : Fld := ⟨LDR_BCAST_CHILD, 59, 48⟩
/-- LDR_BCAST_TIME (12_images_and_loader.md). -/
def LDR_BCAST_TIME : Nat := 0x7000078
/-- RW, reset 0x0007_A120: Report wait, ct (500,000) -/
def LDR_BCAST_TIME_REPORT_WAIT : Fld := ⟨LDR_BCAST_TIME, 63, 32⟩
/-- RW, reset 0x0003_D090: Settle time, ct (250,000) -/
def LDR_BCAST_TIME_SETTLE : Fld := ⟨LDR_BCAST_TIME, 31, 0⟩
/-- LDR_BCAST_STATUS (12_images_and_loader.md). -/
def LDR_BCAST_STATUS : Nat := 0x7000080
/-- RO, reset 0: Current round -/
def LDR_BCAST_STATUS_ROUND : Fld := ⟨LDR_BCAST_STATUS, 63, 60⟩
/-- RO, reset 0: Reports received this round -/
def LDR_BCAST_STATUS_REPORTS : Fld := ⟨LDR_BCAST_STATUS, 44, 32⟩
/-- RO, reset 0: Rounds ended -/
def LDR_BCAST_STATUS_DONE : Fld := ⟨LDR_BCAST_STATUS, 1, 1⟩
/-- RO, reset 0: Rounds running -/
def LDR_BCAST_STATUS_BUSY : Fld := ⟨LDR_BCAST_STATUS, 0, 0⟩
/-- LDR_FW_STATUS (12_images_and_loader.md). -/
def LDR_FW_STATUS : Nat := 0x7000088
/-- RO, reset 0: Receivers lacking chunks -/
def LDR_FW_STATUS_INCOMPLETE : Fld := ⟨LDR_FW_STATUS, 60, 48⟩
/-- RO, reset 0: First such receiver: 0–4,351 physical tile, 4,352–4,375 Bonnet core 0–23 -/
def LDR_FW_STATUS_FIRST : Fld := ⟨LDR_FW_STATUS, 44, 32⟩
/-- RO, reset 0: Pass or repair running -/
def LDR_FW_STATUS_BUSY : Fld := ⟨LDR_FW_STATUS, 4, 4⟩
/-- RO, reset 0: Repairs made, 0–8 -/
def LDR_FW_STATUS_REPAIRS : Fld := ⟨LDR_FW_STATUS, 3, 0⟩
/-- LDR_CHUNK_RX_CNT (02_crown_and_clocking.md). -/
def LDR_CHUNK_RX_CNT : Nat := 0x7000100
/-- LDR_CHUNK_DUP_CNT (02_crown_and_clocking.md). -/
def LDR_CHUNK_DUP_CNT : Nat := 0x7000108
/-- LDR_CHUNK_CRC_CNT (02_crown_and_clocking.md). -/
def LDR_CHUNK_CRC_CNT : Nat := 0x7000110
/-- LDR_PART_EVICT_CNT (02_crown_and_clocking.md). -/
def LDR_PART_EVICT_CNT : Nat := 0x7000118
/-- LDR_STRAY_CNT (02_crown_and_clocking.md). -/
def LDR_STRAY_CNT : Nat := 0x7000120
/-- LDR_REPAIR_TX_CNT (02_crown_and_clocking.md). -/
def LDR_REPAIR_TX_CNT : Nat := 0x7000128
/-- LDR_BCAST_SEEN (12_images_and_loader.md). -/
def LDR_BCAST_SEEN (k : Nat) : Nat := 0x7000200 + 8 * k
/-- RO, reset 0: Bit i: module 64k + i reported complete in the last round -/
def LDR_BCAST_SEEN_SEEN (k : Nat) : Fld := ⟨LDR_BCAST_SEEN k, 63, 0⟩

/-- One row of the register map: where a register and its instances lie, and which of its bits a driver write reaches
by access type alone. `rw` are RW and RWS bits, `rwRun0` the bits that are RW while RUN = 0 (R99), `w1c` the W1C bits,
`own` the writable bits that another command of the table writes. -/
structure Info where
  name : String
  base : Nat
  insts : Nat
  istride : Nat
  elems : Nat
  estride : Nat
  rw : Nat
  rwRun0 : Nat
  w1c : Nat
  own : Nat
deriving DecidableEq, Repr

/-- Rows of the GEN block. -/
def rowsGEN0 : List Info := [
  ⟨"GEN_ID", 0x0, 1, 0x0, 1, 0, 0x0, 0x0, 0x0, 0x0⟩,
  ⟨"GEN_FUSE", 0x8, 1, 0x0, 1, 0, 0x0, 0x0, 0x0, 0x0⟩,
  ⟨"GEN_ACC_ERR", 0x10, 1, 0x0, 1, 0, 0x0, 0x0, 0xC000000000000000, 0x0⟩,
  ⟨"GEN_SERIAL", 0x100, 1, 0x0, 1, 0, 0x0, 0x0, 0x0, 0x0⟩,
  ⟨"GEN_BOOT_CTRL", 0x108, 1, 0x0, 1, 0, 0xC, 0x0, 0x0, 0x11⟩,
  ⟨"GEN_BOOT_STATUS", 0x110, 1, 0x0, 1, 0, 0x0, 0x0, 0x110000000000000, 0x0⟩,
  ⟨"GEN_RESET", 0x118, 1, 0x0, 1, 0, 0x7, 0x0, 0x0, 0x100⟩,
  ⟨"GEN_RESET_STATUS", 0x120, 1, 0x0, 1, 0, 0x0, 0x0, 0x0, 0x0⟩,
  ⟨"GEN_PLAN_SEAT", 0x128, 1, 0x0, 1, 0, 0xFFF, 0x0, 0x0, 0x0⟩,
  ⟨"GEN_DISC", 0x130, 1, 0x0, 1, 0, 0x0, 0x0, 0x0, 0x0⟩,
  ⟨"GEN_DISC_WAIT", 0x138, 1, 0x0, 1, 0, 0xFFFFFFFFFFFFFFFF, 0x0, 0x0, 0x0⟩,
  ⟨"GEN_PHASE_TIME", 0x180, 1, 0x0, 9, 8, 0x0, 0x0, 0x0, 0x0⟩,
  ⟨"GEN_COLD_CNT", 0x200, 1, 0x0, 1, 0, 0x0, 0x0, 0x0, 0x4000000000000000⟩,
  ⟨"GEN_WARM_CNT", 0x208, 1, 0x0, 1, 0, 0x0, 0x0, 0x0, 0x4000000000000000⟩]
/-- Rows of the PWR block. -/
def rowsPWR0 : List Info := [
  ⟨"PWR_CTRL", 0x100000, 1, 0x0, 1, 0, 0x0, 0x0, 0x0, 0xFF01⟩,
  ⟨"PWR_STATUS", 0x100008, 1, 0x0, 1, 0, 0x0, 0x0, 0x400, 0x0⟩,
  ⟨"PWR_INPUT", 0x100010, 1, 0x0, 1, 0, 0x0, 0x0, 0x0, 0x0⟩,
  ⟨"PWR_INPUT_HWM", 0x100018, 1, 0x0, 1, 0, 0x0, 0x0, 0x0, 0x8000000000000000⟩,
  ⟨"PWR_DOMAIN", 0x100020, 1, 0x0, 1, 0, 0x0, 0x0, 0x0, 0x0⟩,
  ⟨"PWR_FAULTN", 0x100028, 1, 0x0, 1, 0, 0xF, 0x0, 0x0, 0x0⟩,
  ⟨"PWR_COOL", 0x100030, 1, 0x0, 1, 0, 0x0, 0x0, 0x0, 0x0⟩,
  ⟨"PWR_TEMP_MAX", 0x100038, 1, 0x0, 1, 0, 0x0, 0x0, 0x0, 0x8000000000000000⟩,
  ⟨"PWR_TEMP_RGN", 0x100100, 1, 0x0, 16, 8, 0x0, 0x0, 0x0, 0x8000000000000000⟩,
  ⟨"PWR_TEMP_OE", 0x100180, 1, 0x0, 6, 8, 0x0, 0x0, 0x0, 0x8000000000000000⟩,
  ⟨"PWR_TEMP_DIE", 0x1001B0, 1, 0x0, 1, 0, 0x0, 0x0, 0x0, 0x0⟩,
  ⟨"PWR_WARN_CNT", 0x100200, 1, 0x0, 1, 0, 0x0, 0x0, 0x0, 0x4000000000000000⟩,
  ⟨"PWR_COOL_GLITCH_CNT", 0x100208, 1, 0x0, 1, 0, 0x0, 0x0, 0x0, 0x4000000000000000⟩,
  ⟨"PWR_THERM_CNT", 0x100210, 1, 0x0, 1, 0, 0x0, 0x0, 0x0, 0x4000000000000000⟩]
/-- Rows of the CRN block. -/
def rowsCRN0 : List Info := [
  ⟨"CRN_CTRL", 0x200000, 1, 0x0, 1, 0, 0x6, 0x0, 0x0, 0x1⟩,
  ⟨"CRN_STATUS", 0x200008, 1, 0x0, 1, 0, 0x0, 0x0, 0x0, 0x0⟩,
  ⟨"CRN_NOW", 0x200010, 1, 0x0, 1, 0, 0x0, 0x0, 0x0, 0x0⟩,
  ⟨"CRN_START", 0x200018, 1, 0x0, 1, 0, 0xFFFFFFFFFFFFFFFF, 0x0, 0x0, 0x0⟩,
  ⟨"CRN_PARENT", 0x200020, 1, 0x0, 1, 0, 0xFFF1F1F, 0x0, 0x0, 0x0⟩,
  ⟨"CRN_OFFSET", 0x200028, 1, 0x0, 1, 0, 0x0, 0x0, 0x0, 0x1000000000000⟩,
  ⟨"CRN_TRIM", 0x200030, 1, 0x0, 1, 0, 0x0, 0x0, 0x0, 0x0⟩,
  ⟨"CRN_HOLD", 0x200038, 1, 0x0, 1, 0, 0xFFF0FFF, 0x0, 0x0, 0x0⟩,
  ⟨"CRN_BCN_MISS", 0x200040, 1, 0x0, 1, 0, 0x0, 0x0, 0x0, 0x4000000000000000⟩,
  ⟨"CRN_BCN_REJECT", 0x200048, 1, 0x0, 1, 0, 0x0, 0x0, 0x0, 0x4000000000000000⟩,
  ⟨"CRN_MON_EXCESS", 0x200050, 1, 0x0, 1, 0, 0x0, 0x0, 0x0, 0x4000000000000000⟩,
  ⟨"CRN_ASYM", 0x200100, 1, 0x0, 24, 8, 0xFFFF, 0x0, 0x0, 0x0⟩]
/-- Rows of the TIME block. -/
def rowsTIME0 : List Info := [
  ⟨"TIME_CTRL", 0x300000, 1, 0x0, 1, 0, 0x7F003B, 0x0, 0x0, 0xC4⟩,
  ⟨"TIME_STATUS", 0x300008, 1, 0x0, 1, 0, 0x0, 0x0, 0x800, 0x0⟩,
  ⟨"TIME_CAP_CROWN", 0x300010, 1, 0x0, 1, 0, 0x0, 0x0, 0x0, 0x0⟩,
  ⟨"TIME_CAP_OUT", 0x300018, 1, 0x0, 1, 0, 0x0, 0x0, 0x0, 0x0⟩,
  ⟨"TIME_CAP_A", 0x300020, 1, 0x0, 1, 0, 0x0, 0x0, 0x0, 0x0⟩,
  ⟨"TIME_CAP_B", 0x300028, 1, 0x0, 1, 0, 0x0, 0x0, 0x0, 0x0⟩,
  ⟨"TIME_CAP_MONO", 0x300030, 1, 0x0, 1, 0, 0x0, 0x0, 0x0, 0x0⟩,
  ⟨"TIME_OUT_OFS", 0x300038, 1, 0x0, 1, 0, 0x0, 0x0, 0x0, 0x0⟩,
  ⟨"TIME_DOM_CFG", 0x300040, 1, 0x0, 2, 32, 0xFFFFFF0F0002, 0x0, 0x0, 0x1⟩,
  ⟨"TIME_DOM_OFFSET", 0x300048, 1, 0x0, 2, 32, 0x0, 0x0, 0x0, 0x0⟩,
  ⟨"TIME_DOM_MASTER", 0x300050, 1, 0x0, 2, 32, 0x0, 0x0, 0x0, 0x0⟩,
  ⟨"TIME_DOM_UTC", 0x300058, 1, 0x0, 2, 32, 0x0, 0x0, 0x0, 0x0⟩,
  ⟨"TIME_PORT_LAT", 0x3000C0, 1, 0x0, 2, 8, 0xFFFFFFFFFFFF, 0x0, 0x0, 0x0⟩,
  ⟨"TIME_BRIDGE_CROWN", 0x3000D0, 1, 0x0, 1, 0, 0x0, 0x0, 0x0, 0x0⟩,
  ⟨"TIME_BRIDGE_OUT", 0x3000D8, 1, 0x0, 1, 0, 0x0, 0x0, 0x0, 0x0⟩,
  ⟨"TIME_BRIDGE_RATE", 0x3000E0, 1, 0x0, 1, 0, 0x0, 0x0, 0x0, 0x0⟩,
  ⟨"TIME_BRIDGE_CHILD", 0x3000E8, 1, 0x0, 1, 0, 0x8FFF8FFF8FFF8FFF, 0x0, 0x0, 0x0⟩,
  ⟨"TIME_TP_CTRL", 0x300100, 1, 0x0, 4, 32, 0xFFFFFFFFF78, 0x0, 0x0, 0x3⟩,
  ⟨"TIME_TP_START", 0x300108, 1, 0x0, 4, 32, 0xFFFFFFFFFFFFFFFF, 0x0, 0x0, 0x0⟩,
  ⟨"TIME_TP_PERIOD", 0x300110, 1, 0x0, 4, 32, 0xFFFFFFFFFFFFFFFF, 0x0, 0x0, 0x0⟩,
  ⟨"TIME_TP_STATUS", 0x300118, 1, 0x0, 4, 32, 0x0, 0x0, 0xF8, 0x0⟩,
  ⟨"TIME_PTP_RX_CNT", 0x300200, 1, 0x0, 1, 0, 0x0, 0x0, 0x0, 0x4000000000000000⟩,
  ⟨"TIME_PTP_TX_CNT", 0x300208, 1, 0x0, 1, 0, 0x0, 0x0, 0x0, 0x4000000000000000⟩,
  ⟨"TIME_PTP_DROP_CNT", 0x300210, 1, 0x0, 1, 0, 0x0, 0x0, 0x0, 0x4000000000000000⟩,
  ⟨"TIME_DOM_LOSS_CNT", 0x300218, 1, 0x0, 1, 0, 0x0, 0x0, 0x0, 0x4000000000000000⟩,
  ⟨"TIME_BRIDGE_RX_CNT", 0x300220, 1, 0x0, 1, 0, 0x0, 0x0, 0x0, 0x4000000000000000⟩,
  ⟨"TIME_BRIDGE_DROP_CNT", 0x300228, 1, 0x0, 1, 0, 0x0, 0x0, 0x0, 0x4000000000000000⟩,
  ⟨"TIME_TP_MISS_CNT", 0x300230, 1, 0x0, 1, 0, 0x0, 0x0, 0x0, 0x4000000000000000⟩]
/-- Rows of the NVM block. -/
def rowsNVM0 : List Info := [
  ⟨"NVM_CMD", 0x400000, 1, 0x0, 1, 0, 0x0, 0x0, 0x0, 0xFF80FFFFFFFFFFFF⟩,
  ⟨"NVM_STATUS", 0x400008, 1, 0x0, 1, 0, 0x0, 0x0, 0x0, 0x0⟩,
  ⟨"NVM_SECT", 0x400010, 1, 0x0, 6, 8, 0x0, 0x0, 0x0, 0x0⟩,
  ⟨"NVM_LOG", 0x400040, 1, 0x0, 1, 0, 0x0, 0x0, 0x0, 0x0⟩,
  ⟨"NVM_STORE_CNT", 0x400100, 1, 0x0, 1, 0, 0x0, 0x0, 0x0, 0x4000000000000000⟩,
  ⟨"NVM_BUF", 0x401000, 1, 0x0, 512, 8, 0xFFFFFFFFFFFFFFFF, 0x0, 0x0, 0x0⟩]
/-- Rows of the CUF block. -/
def rowsCUF0 : List Info := [
  ⟨"CUF_CTRL", 0x1000000, 1, 0x0, 1, 0, 0x0, 0x8, 0x0, 0x7⟩,
  ⟨"CUF_STATUS", 0x1000008, 1, 0x0, 1, 0, 0x0, 0x0, 0xC0, 0x0⟩,
  ⟨"CUF_MITTEN", 0x1000010, 1, 0x0, 1, 0, 0x0, 0xFFF, 0x0, 0x0⟩,
  ⟨"CUF_BANK_CFG", 0x1000018, 1, 0x0, 1, 0, 0x0, 0x0, 0x0, 0x1FFFFF⟩,
  ⟨"CUF_ACTIVE_CFG", 0x1000020, 1, 0x0, 1, 0, 0x0, 0x1F0000, 0x0, 0x0⟩,
  ⟨"CUF_VERIFY_ERR", 0x1000028, 1, 0x0, 1, 0, 0x0, 0x0, 0x0, 0x0⟩,
  ⟨"CUF_SWAP_CNT", 0x1000030, 1, 0x0, 1, 0, 0x0, 0x0, 0x0, 0x4000000000000000⟩,
  ⟨"CUF_SEAM", 0x1000038, 1, 0x0, 1, 0, 0x0, 0x0, 0x0, 0x0⟩,
  ⟨"CUF_SEAM_TICK", 0x1000040, 1, 0x0, 1, 0, 0x0, 0x0, 0x0, 0x0⟩,
  ⟨"CUF_SEAM_RESULT", 0x1000048, 1, 0x0, 1, 0, 0x0, 0x0, 0x0, 0x0⟩,
  ⟨"CUF_SEAM_PASS_CNT", 0x1000050, 1, 0x0, 1, 0, 0x0, 0x0, 0x0, 0x4000000000000000⟩,
  ⟨"CUF_ECC_CORR_CNT", 0x1000058, 1, 0x0, 1, 0, 0x0, 0x0, 0x0, 0x4000000000000000⟩]
/-- Rows of the LNK block. -/
def rowsLNK0 : List Info := [
  ⟨"LNK_CTRL", 0x1100000, 24, 0x10000, 1, 0, 0xF200, 0x0, 0x0, 0x101⟩,
  ⟨"LNK_STATUS", 0x1100008, 24, 0x10000, 1, 0, 0x0, 0x0, 0x0, 0x0⟩,
  ⟨"LNK_REPLAY_CFG", 0x1100010, 24, 0x10000, 1, 0, 0xFF0007, 0x0, 0x0, 0x0⟩,
  ⟨"LNK_LANE_CFG", 0x1100018, 24, 0x10000, 1, 0, 0xFFFFF, 0x0, 0x0, 0x0⟩,
  ⟨"LNK_SEQ_SCHED", 0x1100020, 24, 0x10000, 1, 0, 0x0, 0x0, 0x0, 0x0⟩,
  ⟨"LNK_SEQ_LOOSE", 0x1100028, 24, 0x10000, 1, 0, 0x0, 0x0, 0x0, 0x0⟩,
  ⟨"LNK_TRAIN_INFO", 0x1100030, 24, 0x10000, 1, 0, 0x0, 0x0, 0x0, 0x0⟩,
  ⟨"LNK_CRC_ERR_CNT", 0x1100040, 24, 0x10000, 1, 0, 0x0, 0x0, 0x0, 0x4000000000000000⟩,
  ⟨"LNK_FEC_UNCORR_CNT", 0x1100048, 24, 0x10000, 1, 0, 0x0, 0x0, 0x0, 0x4000000000000000⟩,
  ⟨"LNK_LCW_ERR_CNT", 0x1100050, 24, 0x10000, 1, 0, 0x0, 0x0, 0x0, 0x4000000000000000⟩,
  ⟨"LNK_NAK_TX_CNT", 0x1100058, 24, 0x10000, 1, 0, 0x0, 0x0, 0x0, 0x4000000000000000⟩,
  ⟨"LNK_NAK_RX_CNT", 0x1100060, 24, 0x10000, 1, 0, 0x0, 0x0, 0x0, 0x4000000000000000⟩,
  ⟨"LNK_REPLAY_CNT", 0x1100068, 24, 0x10000, 1, 0, 0x0, 0x0, 0x0, 0x4000000000000000⟩,
  ⟨"LNK_TIMER_REPLAY_CNT", 0x1100070, 24, 0x10000, 1, 0, 0x0, 0x0, 0x0, 0x4000000000000000⟩,
  ⟨"LNK_RESENT_CNT", 0x1100078, 24, 0x10000, 1, 0, 0x0, 0x0, 0x0, 0x4000000000000000⟩,
  ⟨"LNK_DUP_CNT", 0x1100080, 24, 0x10000, 1, 0, 0x0, 0x0, 0x0, 0x4000000000000000⟩,
  ⟨"LNK_RETRAIN_CNT", 0x1100088, 24, 0x10000, 1, 0, 0x0, 0x0, 0x0, 0x4000000000000000⟩,
  ⟨"LNK_COLLIDE_CNT", 0x1100090, 24, 0x10000, 1, 0, 0x0, 0x0, 0x0, 0x4000000000000000⟩,
  ⟨"LNK_FAILOVER_CNT", 0x1100098, 24, 0x10000, 1, 0, 0x0, 0x0, 0x0, 0x4000000000000000⟩,
  ⟨"LNK_LANE_CORR_CNT", 0x1100100, 24, 0x10000, 8, 8, 0x0, 0x0, 0x0, 0x4000000000000000⟩,
  ⟨"LNK_SCHED_STATUS", 0x1100400, 24, 0x10000, 1, 0, 0x0, 0x0, 0x0, 0x0⟩,
  ⟨"LNK_BAND", 0x1100408, 24, 0x10000, 1, 0, 0x0, 0x1FE3, 0x0, 0x0⟩,
  ⟨"LNK_SQ_CFG", 0x1100410, 24, 0x10000, 1, 0, 0x0, 0x0, 0x0, 0x7FFFFFFFFFFFC07F⟩,
  ⟨"LNK_RQ_CFG", 0x1100418, 24, 0x10000, 1, 0, 0x0, 0x0, 0x0, 0x7FFFFFFFFFFFC07F⟩,
  ⟨"LNK_QUEUE_HWM", 0x1100420, 24, 0x10000, 1, 0, 0x0, 0x0, 0x0, 0x8000000000000000⟩,
  ⟨"LNK_LEAD_MIN", 0x1100428, 24, 0x10000, 1, 0, 0x0, 0x0, 0x0, 0x8000000000000000⟩,
  ⟨"LNK_LATE_DEP_CNT", 0x1100430, 24, 0x10000, 1, 0, 0x0, 0x0, 0x0, 0x4000000000000000⟩,
  ⟨"LNK_SCHED_TX_CNT", 0x1100438, 24, 0x10000, 1, 0, 0x0, 0x0, 0x0, 0x4000000000000000⟩,
  ⟨"LNK_VOID_TX_CNT", 0x1100440, 24, 0x10000, 1, 0, 0x0, 0x0, 0x0, 0x4000000000000000⟩,
  ⟨"LNK_SCHED_RX_CNT", 0x1100448, 24, 0x10000, 1, 0, 0x0, 0x0, 0x0, 0x4000000000000000⟩,
  ⟨"LNK_MISMATCH_CNT", 0x1100450, 24, 0x10000, 1, 0, 0x0, 0x0, 0x0, 0x4000000000000000⟩,
  ⟨"LNK_FMT_ERR_CNT", 0x1100458, 24, 0x10000, 1, 0, 0x0, 0x0, 0x0, 0x4000000000000000⟩,
  ⟨"LNK_POISON_RX_CNT", 0x1100460, 24, 0x10000, 1, 0, 0x0, 0x0, 0x0, 0x4000000000000000⟩,
  ⟨"LNK_LAG", 0x1100480, 24, 0x10000, 1, 0, 0x0, 0x0, 0x0, 0x0⟩,
  ⟨"LNK_LAG_HWM", 0x1100488, 24, 0x10000, 1, 0, 0x0, 0x0, 0x0, 0x8000000000000000⟩,
  ⟨"LNK_LAG_LIMIT", 0x1100490, 24, 0x10000, 1, 0, 0x0, 0xFFF0FFF, 0x0, 0x0⟩,
  ⟨"LNK_SEAM_RPT", 0x1100498, 24, 0x10000, 1, 0, 0x0, 0x0, 0x0, 0x0⟩,
  ⟨"LNK_HOLD_CNT", 0x11004A0, 24, 0x10000, 1, 0, 0x0, 0x0, 0x0, 0x4000000000000000⟩,
  ⟨"LNK_LATE_TX_CNT", 0x11004A8, 24, 0x10000, 1, 0, 0x0, 0x0, 0x0, 0x4000000000000000⟩,
  ⟨"LNK_BRIM_USE_CNT", 0x11004B0, 24, 0x10000, 1, 0, 0x0, 0x0, 0x0, 0x4000000000000000⟩]
/-- Rows of the LNK block. -/
def rowsLNK1 : List Info := [
  ⟨"LNK_SLIP_CNT", 0x11004B8, 24, 0x10000, 1, 0, 0x0, 0x0, 0x0, 0x4000000000000000⟩,
  ⟨"LNK_VC_STATE", 0x1100500, 24, 0x10000, 8, 8, 0x0, 0x0, 0x0, 0x8000000000000000⟩,
  ⟨"LNK_LOOSE_TX_CNT", 0x1100540, 24, 0x10000, 1, 0, 0x0, 0x0, 0x0, 0x4000000000000000⟩,
  ⟨"LNK_LOOSE_RX_CNT", 0x1100548, 24, 0x10000, 1, 0, 0x0, 0x0, 0x0, 0x4000000000000000⟩,
  ⟨"LNK_LATTICE_TX_CNT", 0x1100550, 24, 0x10000, 1, 0, 0x0, 0x0, 0x0, 0x4000000000000000⟩,
  ⟨"LNK_OPP_TX_CNT", 0x1100558, 24, 0x10000, 1, 0, 0x0, 0x0, 0x0, 0x4000000000000000⟩,
  ⟨"LNK_CREDIT_WAIT_CNT", 0x1100560, 24, 0x10000, 1, 0, 0x0, 0x0, 0x0, 0x4000000000000000⟩,
  ⟨"LNK_BUBBLE_WAIT_CNT", 0x1100568, 24, 0x10000, 1, 0, 0x0, 0x0, 0x0, 0x4000000000000000⟩,
  ⟨"LNK_CMB_STATUS", 0x1100600, 24, 0x10000, 1, 0, 0x0, 0x0, 0x1F, 0x0⟩,
  ⟨"LNK_CMB_FIRST", 0x1100608, 24, 0x10000, 1, 0, 0x0, 0x0, 0x0, 0x0⟩,
  ⟨"LNK_CMB_CNT", 0x1100610, 24, 0x10000, 1, 0, 0x0, 0x0, 0x0, 0x4000000000000000⟩,
  ⟨"LNK_CMB_SAT_CNT", 0x1100618, 24, 0x10000, 1, 0, 0x0, 0x0, 0x0, 0x4000000000000000⟩,
  ⟨"LNK_CMB_FPEXC_CNT", 0x1100620, 24, 0x10000, 1, 0, 0x0, 0x0, 0x0, 0x4000000000000000⟩,
  ⟨"LNK_CMB_NAN_CNT", 0x1100628, 24, 0x10000, 1, 0, 0x0, 0x0, 0x0, 0x4000000000000000⟩,
  ⟨"LNK_VOID_RX_CNT", 0x1100630, 24, 0x10000, 1, 0, 0x0, 0x0, 0x0, 0x4000000000000000⟩,
  ⟨"LNK_PLAN", 0x1100700, 24, 0x10000, 1, 0, 0x0, 0xFFF01F3, 0x0, 0x0⟩,
  ⟨"LNK_DISC", 0x1100708, 24, 0x10000, 1, 0, 0x0, 0x0, 0x0, 0x0⟩,
  ⟨"LNK_DISC_SERIAL", 0x1100710, 24, 0x10000, 1, 0, 0x0, 0x0, 0x0, 0x0⟩]
/-- Rows of the RTE block. -/
def rowsRTE0 : List Info := [
  ⟨"RTE_CTRL", 0x2000000, 1, 0x0, 1, 0, 0x0, 0x1FF, 0x0, 0x0⟩,
  ⟨"RTE_STATUS", 0x2000008, 1, 0x0, 1, 0, 0x0, 0x0, 0x3, 0x0⟩,
  ⟨"RTE_SELF", 0x2000010, 1, 0x0, 1, 0, 0x0, 0xFFF, 0x0, 0x0⟩,
  ⟨"RTE_EPOCH", 0x2000018, 1, 0x0, 1, 0, 0x0, 0x0, 0x4, 0x100⟩,
  ⟨"RTE_EPOCH_TICK", 0x2000020, 1, 0x0, 1, 0, 0xFFFFFFFFFFFFFFFF, 0x0, 0x0, 0x0⟩,
  ⟨"RTE_LAST_SWITCH", 0x2000028, 1, 0x0, 1, 0, 0x0, 0x0, 0x0, 0x0⟩,
  ⟨"RTE_TURN", 0x2000030, 1, 0x0, 1, 0, 0x0, 0x0, 0x0, 0x8000000000000000⟩,
  ⟨"RTE_DROP_LAST", 0x2000038, 1, 0x0, 1, 0, 0x0, 0x0, 0x0, 0x0⟩,
  ⟨"RTE_INJECT_CNT", 0x2000100, 1, 0x0, 1, 0, 0x0, 0x0, 0x0, 0x4000000000000000⟩,
  ⟨"RTE_EJECT_CNT", 0x2000108, 1, 0x0, 1, 0, 0x0, 0x0, 0x0, 0x4000000000000000⟩,
  ⟨"RTE_DEFLECT_CNT", 0x2000110, 1, 0x0, 1, 0, 0x0, 0x0, 0x0, 0x4000000000000000⟩,
  ⟨"RTE_TURN_IN_CNT", 0x2000118, 1, 0x0, 1, 0, 0x0, 0x0, 0x0, 0x4000000000000000⟩,
  ⟨"RTE_FORCED_CNT", 0x2000120, 1, 0x0, 1, 0, 0x0, 0x0, 0x0, 0x4000000000000000⟩,
  ⟨"RTE_REFUSE_CNT", 0x2000128, 1, 0x0, 1, 0, 0x0, 0x0, 0x0, 0x4000000000000000⟩,
  ⟨"RTE_INJ_WAIT_CNT", 0x2000130, 1, 0x0, 1, 0, 0x0, 0x0, 0x0, 0x4000000000000000⟩,
  ⟨"RTE_BOUNCE_CNT", 0x2000138, 1, 0x0, 1, 0, 0x0, 0x0, 0x0, 0x4000000000000000⟩,
  ⟨"RTE_STRAY_CNT", 0x2000140, 1, 0x0, 1, 0, 0x0, 0x0, 0x0, 0x4000000000000000⟩,
  ⟨"RTE_DROP_TTL_CNT", 0x2000148, 1, 0x0, 1, 0, 0x0, 0x0, 0x0, 0x4000000000000000⟩,
  ⟨"RTE_DROP_MITTEN_CNT", 0x2000150, 1, 0x0, 1, 0, 0x0, 0x0, 0x0, 0x4000000000000000⟩,
  ⟨"RTE_DROP_ROUTE_CNT", 0x2000158, 1, 0x0, 1, 0, 0x0, 0x0, 0x0, 0x4000000000000000⟩,
  ⟨"RTE_DROP_FULL_CNT", 0x2000160, 1, 0x0, 1, 0, 0x0, 0x0, 0x0, 0x4000000000000000⟩,
  ⟨"RTE_DROP_PLACE_CNT", 0x2000168, 1, 0x0, 1, 0, 0x0, 0x0, 0x0, 0x4000000000000000⟩,
  ⟨"RTE_DROP_VC_CNT", 0x2000170, 1, 0x0, 1, 0, 0x0, 0x0, 0x0, 0x4000000000000000⟩,
  ⟨"RTE_MGMT_CNT", 0x2000178, 1, 0x0, 1, 0, 0x0, 0x0, 0x0, 0x4000000000000000⟩,
  ⟨"RTE_MGMT_REFUSE_CNT", 0x2000180, 1, 0x0, 1, 0, 0x0, 0x0, 0x0, 0x4000000000000000⟩]
/-- Rows of the PLM block. -/
def rowsPLM0 : List Info := [
  ⟨"PLM_CTRL", 0x3000000, 1, 0x0, 1, 0, 0x0, 0x0, 0x0, 0x102⟩,
  ⟨"PLM_STATUS", 0x3000008, 1, 0x0, 1, 0, 0x0, 0x0, 0x80, 0x0⟩,
  ⟨"PLM_OP_INDEX", 0x3000010, 1, 0x0, 1, 0, 0x0, 0x0, 0x0, 0x0⟩,
  ⟨"PLM_LAUNCH_TICK", 0x3000018, 1, 0x0, 1, 0, 0x0, 0x0, 0x0, 0x0⟩,
  ⟨"PLM_BUDGET", 0x3000020, 1, 0x0, 1, 0, 0x0, 0x0, 0x0, 0x8000000000000000⟩,
  ⟨"PLM_CLASS", 0x3000028, 1, 0x0, 1, 0, 0x0, 0x0, 0x0, 0x0⟩,
  ⟨"PLM_SRAM_ALLOC", 0x3000030, 1, 0x0, 1, 0, 0x0, 0xFFF, 0x0, 0x0⟩,
  ⟨"PLM_FAULT_LAST", 0x3000038, 1, 0x0, 1, 0, 0x0, 0x0, 0x0, 0x0⟩,
  ⟨"PLM_HBM_WIN", 0x3000040, 1, 0x0, 16, 8, 0x0, 0xC0FFFFFF007FFFFF, 0x0, 0x0⟩,
  ⟨"PLM_SR_SEED", 0x30000C0, 1, 0x0, 1, 0, 0x0, 0xFFFFFFFFFFFFFFFF, 0x0, 0x0⟩,
  ⟨"PLM_LAUNCH_CNT", 0x3000100, 1, 0x0, 1, 0, 0x0, 0x0, 0x0, 0x4000000000000000⟩,
  ⟨"PLM_LATE_LAUNCH_CNT", 0x3000108, 1, 0x0, 1, 0, 0x0, 0x0, 0x0, 0x4000000000000000⟩,
  ⟨"PLM_FETCH_WAIT_CNT", 0x3000110, 1, 0x0, 1, 0, 0x0, 0x0, 0x0, 0x4000000000000000⟩,
  ⟨"PLM_STAGE_WAIT_CNT", 0x3000118, 1, 0x0, 1, 0, 0x0, 0x0, 0x0, 0x4000000000000000⟩,
  ⟨"PLM_BUDGET_WAIT_CNT", 0x3000120, 1, 0x0, 1, 0, 0x0, 0x0, 0x0, 0x4000000000000000⟩,
  ⟨"PLM_BOUNDS_CNT", 0x3000128, 1, 0x0, 1, 0, 0x0, 0x0, 0x0, 0x4000000000000000⟩,
  ⟨"PLM_DROP_CNT", 0x3000130, 1, 0x0, 1, 0, 0x0, 0x0, 0x0, 0x4000000000000000⟩,
  ⟨"PLM_SPILL_CNT", 0x3000138, 1, 0x0, 1, 0, 0x0, 0x0, 0x0, 0x4000000000000000⟩,
  ⟨"PLM_VOID_IN_CNT", 0x3000140, 1, 0x0, 1, 0, 0x0, 0x0, 0x0, 0x4000000000000000⟩,
  ⟨"PLM_POISON_IN_CNT", 0x3000148, 1, 0x0, 1, 0, 0x0, 0x0, 0x0, 0x4000000000000000⟩,
  ⟨"PLM_DESC_ERR", 0x3000150, 1, 0x0, 1, 0, 0x0, 0x0, 0x0, 0x0⟩,
  ⟨"PLM_LINER_RAM", 0x3001000, 1, 0x0, 128, 8, 0x1FFFF0001FFFF, 0x0, 0x0, 0x0⟩,
  ⟨"PLM_LINER_FORCE", 0x3001400, 1, 0x0, 128, 8, 0x0, 0x0, 0x0, 0x0⟩,
  ⟨"PLM_FENCE", 0x3002000, 1, 0x0, 68, 8, 0x0, 0x0, 0x0, 0x0⟩,
  ⟨"PLM_BIST", 0x3002400, 1, 0x0, 68, 8, 0x0, 0x0, 0x0, 0x0⟩]
/-- Rows of the RGN block. -/
def rowsRGN0 : List Info := [
  ⟨"RGN_CLK", 0x3100000, 16, 0x10000, 1, 0, 0x0, 0x0, 0x0, 0x1F1F⟩,
  ⟨"RGN_DROOP", 0x3100008, 16, 0x10000, 1, 0, 0x3F, 0x0, 0x0, 0x0⟩,
  ⟨"RGN_STATUS", 0x3100010, 16, 0x10000, 1, 0, 0x0, 0x0, 0x100, 0x0⟩,
  ⟨"RGN_EST_ERR", 0x3100018, 16, 0x10000, 1, 0, 0x0, 0x0, 0x0, 0x100000000⟩,
  ⟨"RGN_STRETCH_CNT", 0x3100020, 16, 0x10000, 1, 0, 0x0, 0x0, 0x0, 0x4000000000000000⟩,
  ⟨"RGN_STEP_CNT", 0x3100028, 16, 0x10000, 1, 0, 0x0, 0x0, 0x0, 0x4000000000000000⟩,
  ⟨"RGN_XSTALL_CNT", 0x3100030, 16, 0x10000, 1, 0, 0x0, 0x0, 0x0, 0x4000000000000000⟩,
  ⟨"RGN_SRAM_CORR_CNT", 0x3100038, 16, 0x10000, 1, 0, 0x0, 0x0, 0x0, 0x4000000000000000⟩,
  ⟨"RGN_SRAM_UNCORR_CNT", 0x3100040, 16, 0x10000, 1, 0, 0x0, 0x0, 0x0, 0x4000000000000000⟩,
  ⟨"RGN_NUM_STATUS", 0x3100048, 16, 0x10000, 1, 0, 0x0, 0x0, 0x7F, 0x0⟩,
  ⟨"RGN_NUM_FIRST", 0x3100050, 16, 0x10000, 1, 0, 0x0, 0x0, 0x0, 0x0⟩,
  ⟨"RGN_L64_SAT_CNT", 0x3100058, 16, 0x10000, 1, 0, 0x0, 0x0, 0x0, 0x4000000000000000⟩,
  ⟨"RGN_FPEXC_CNT", 0x3100060, 16, 0x10000, 1, 0, 0x0, 0x0, 0x0, 0x4000000000000000⟩,
  ⟨"RGN_CONV_CNT", 0x3100068, 16, 0x10000, 1, 0, 0x0, 0x0, 0x0, 0x4000000000000000⟩,
  ⟨"RGN_XBUF_CORR_CNT", 0x3100070, 16, 0x10000, 1, 0, 0x0, 0x0, 0x0, 0x4000000000000000⟩]
/-- Rows of the HBM block. -/
def rowsHBM0 : List Info := [
  ⟨"HBM_CTRL", 0x4000000, 8, 0x100000, 1, 0, 0x1C, 0x0, 0x0, 0x2⟩,
  ⟨"HBM_STATUS", 0x4000008, 8, 0x100000, 1, 0, 0x0, 0x0, 0x200, 0x0⟩,
  ⟨"HBM_SCRUB", 0x4000010, 8, 0x100000, 1, 0, 0x1FFFF, 0x0, 0x0, 0x0⟩,
  ⟨"HBM_CAP", 0x4000018, 8, 0x100000, 1, 0, 0x0, 0x0, 0x0, 0xFFFF⟩,
  ⟨"HBM_ECC_LAST", 0x4000020, 8, 0x100000, 1, 0, 0x0, 0x0, 0x0, 0x0⟩,
  ⟨"HBM_CORR_CNT", 0x4000040, 8, 0x100000, 1, 0, 0x0, 0x0, 0x0, 0x4000000000000000⟩,
  ⟨"HBM_UNCORR_CNT", 0x4000048, 8, 0x100000, 1, 0, 0x0, 0x0, 0x0, 0x4000000000000000⟩,
  ⟨"HBM_SCRUB_PASS_CNT", 0x4000050, 8, 0x100000, 1, 0, 0x0, 0x0, 0x0, 0x4000000000000000⟩,
  ⟨"HBM_RD_WORD_CNT", 0x4000058, 8, 0x100000, 1, 0, 0x0, 0x0, 0x0, 0x4000000000000000⟩,
  ⟨"HBM_WR_WORD_CNT", 0x4000060, 8, 0x100000, 1, 0, 0x0, 0x0, 0x0, 0x4000000000000000⟩,
  ⟨"HBM_RETRAIN_CNT", 0x4000068, 8, 0x100000, 1, 0, 0x0, 0x0, 0x0, 0x4000000000000000⟩,
  ⟨"HBM_CAP_WAIT_CNT", 0x4000070, 8, 0x100000, 1, 0, 0x0, 0x0, 0x0, 0x4000000000000000⟩,
  ⟨"HBM_LQ", 0x4000100, 8, 0x100000, 16, 8, 0x0, 0x0, 0x0, 0x8000000000000000⟩]
/-- Rows of the BON block. -/
def rowsBON0 : List Info := [
  ⟨"BON_RX_FRAME_CNT", 0x5000100, 1, 0x0, 1, 0, 0x0, 0x0, 0x0, 0x4000000000000000⟩,
  ⟨"BON_RX_ERR_CNT", 0x5000108, 1, 0x0, 1, 0, 0x0, 0x0, 0x0, 0x4000000000000000⟩,
  ⟨"BON_STRANGER_CNT", 0x5000110, 1, 0x0, 1, 0, 0x0, 0x0, 0x0, 0x4000000000000000⟩,
  ⟨"BON_RATE_DROP_CNT", 0x5000118, 1, 0x0, 1, 0, 0x0, 0x0, 0x0, 0x4000000000000000⟩,
  ⟨"BON_AUTH_FAIL_CNT", 0x5000120, 1, 0x0, 1, 0, 0x0, 0x0, 0x0, 0x4000000000000000⟩,
  ⟨"BON_REPLAY_CNT", 0x5000128, 1, 0x0, 1, 0, 0x0, 0x0, 0x0, 0x4000000000000000⟩,
  ⟨"BON_NAK_TX_CNT", 0x5000130, 1, 0x0, 1, 0, 0x0, 0x0, 0x0, 0x4000000000000000⟩,
  ⟨"BON_ASM_TIMEOUT_CNT", 0x5000138, 1, 0x0, 1, 0, 0x0, 0x0, 0x0, 0x4000000000000000⟩,
  ⟨"BON_FRAG_DUP_CNT", 0x5000140, 1, 0x0, 1, 0, 0x0, 0x0, 0x0, 0x4000000000000000⟩,
  ⟨"BON_VOID_SLOT_CNT", 0x5000148, 1, 0x0, 1, 0, 0x0, 0x0, 0x0, 0x4000000000000000⟩,
  ⟨"BON_TOKENS_TX_CNT", 0x5000150, 1, 0x0, 1, 0, 0x0, 0x0, 0x0, 0x4000000000000000⟩,
  ⟨"BON_OUT_LATE_CNT", 0x5000158, 1, 0x0, 1, 0, 0x0, 0x0, 0x0, 0x4000000000000000⟩,
  ⟨"BON_FWD_CNT", 0x5000160, 1, 0x0, 1, 0, 0x0, 0x0, 0x0, 0x4000000000000000⟩,
  ⟨"BON_ARP_ND_CNT", 0x5000168, 1, 0x0, 1, 0, 0x0, 0x0, 0x0, 0x4000000000000000⟩,
  ⟨"BON_ECC_CORR_CNT", 0x5000170, 1, 0x0, 1, 0, 0x0, 0x0, 0x0, 0x4000000000000000⟩,
  ⟨"BON_CTRL", 0x5000000, 1, 0x0, 1, 0, 0x7, 0x0, 0x0, 0x0⟩,
  ⟨"BON_STATUS", 0x5000008, 1, 0x0, 1, 0, 0x0, 0x0, 0x300, 0x0⟩,
  ⟨"BON_PORT_MAC", 0x5000010, 1, 0x0, 2, 8, 0x1FFFFFFFFFFFFFFF, 0x0, 0x0, 0x0⟩,
  ⟨"BON_PORT_IP4", 0x5000020, 1, 0x0, 2, 8, 0x1FFFFFFFF, 0x0, 0x0, 0x0⟩,
  ⟨"BON_PORT_IP6_HI", 0x5000030, 1, 0x0, 2, 16, 0xFFFFFFFFFFFFFFFF, 0x0, 0x0, 0x0⟩,
  ⟨"BON_PORT_IP6_LO", 0x5000038, 1, 0x0, 2, 16, 0xFFFFFFFFFFFFFFFF, 0x0, 0x0, 0x0⟩,
  ⟨"BON_INTAKE_CFG", 0x5000050, 1, 0x0, 1, 0, 0xFFFFFFFF0000FFFF, 0x0, 0x0, 0x0⟩,
  ⟨"BON_SRC_LIMIT", 0x5000058, 1, 0x0, 1, 0, 0xFF0000FFFF, 0x0, 0x0, 0x0⟩,
  ⟨"BON_SESS_CMD", 0x5000060, 1, 0x0, 1, 0, 0xFFF00000000, 0x0, 0x0, 0xF000000000000000⟩,
  ⟨"BON_SESS_KEY", 0x5000068, 1, 0x0, 4, 8, 0x0, 0x0, 0x0, 0xFFFFFFFFFFFFFFFF⟩,
  ⟨"BON_WINDOW", 0x5000088, 1, 0x0, 1, 0, 0x0, 0x0, 0x0, 0x0⟩,
  ⟨"BON_PAGES", 0x5000090, 1, 0x0, 1, 0, 0x0, 0x0, 0x0, 0x8000000000000000⟩,
  ⟨"BON_BULK_CTRL", 0x5000098, 1, 0x0, 1, 0, 0xFFFF0FFF0000, 0x0, 0x0, 0x3⟩,
  ⟨"BON_BULK_BASE", 0x50000A0, 1, 0x0, 1, 0, 0x7FFFFFFFFF, 0x0, 0x0, 0x0⟩,
  ⟨"BON_BULK_LEN", 0x50000A8, 1, 0x0, 1, 0, 0x7FFFFFFFFF, 0x0, 0x0, 0x0⟩,
  ⟨"BON_BULK_STATUS", 0x50000B0, 1, 0x0, 1, 0, 0x0, 0x0, 0x0, 0x0⟩,
  ⟨"BON_CFG", 0x50000B8, 1, 0x0, 1, 0, 0x0, 0x8000007FFFFFFFFF, 0x0, 0x0⟩]
/-- Rows of the FLT block. -/
def rowsFLT0 : List Info := [
  ⟨"FLT_CTRL", 0x6000000, 1, 0x0, 1, 0, 0x3F, 0x0, 0x0, 0x0⟩,
  ⟨"FLT_STATUS", 0x6000008, 1, 0x0, 1, 0, 0x0, 0x0, 0x300, 0x10⟩,
  ⟨"FLT_HEAD", 0x6000010, 1, 0x0, 1, 0, 0x0, 0x0, 0x0, 0x7FF⟩,
  ⟨"FLT_TAIL", 0x6000018, 1, 0x0, 1, 0, 0x0, 0x0, 0x0, 0x0⟩,
  ⟨"FLT_FIRST", 0x6000020, 1, 0x0, 1, 0, 0x0, 0x0, 0x0, 0x80000000⟩,
  ⟨"FLT_ALARM_RX", 0x6000028, 1, 0x0, 1, 0, 0x0, 0x0, 0x0, 0x0⟩,
  ⟨"FLT_SNAP", 0x6000030, 1, 0x0, 1, 0, 0xFFFF, 0x0, 0x0, 0x10000⟩,
  ⟨"FLT_TEL_CFG", 0x6000038, 1, 0x0, 1, 0, 0xFF00FFFFFF000000, 0x0, 0x0, 0x0⟩,
  ⟨"FLT_TEL_STATUS", 0x6000040, 1, 0x0, 1, 0, 0x0, 0x0, 0x0, 0x0⟩,
  ⟨"FLT_SINK_BASE", 0x6000048, 1, 0x0, 1, 0, 0x80FFFF7FFFFFFFFF, 0x0, 0x0, 0x0⟩,
  ⟨"FLT_SINK_PTR", 0x6000050, 1, 0x0, 1, 0, 0xFFFF00000000, 0x0, 0x0, 0x0⟩,
  ⟨"FLT_RECORD_CNT", 0x6000100, 1, 0x0, 1, 0, 0x0, 0x0, 0x0, 0x4000000000000000⟩,
  ⟨"FLT_LOST_CNT", 0x6000108, 1, 0x0, 1, 0, 0x0, 0x0, 0x0, 0x4000000000000000⟩,
  ⟨"FLT_ALARM_TX_CNT", 0x6000110, 1, 0x0, 1, 0, 0x0, 0x0, 0x0, 0x4000000000000000⟩,
  ⟨"FLT_ALARM_RX_CNT", 0x6000118, 1, 0x0, 1, 0, 0x0, 0x0, 0x0, 0x4000000000000000⟩,
  ⟨"FLT_ALARM_DUP_CNT", 0x6000120, 1, 0x0, 1, 0, 0x0, 0x0, 0x0, 0x4000000000000000⟩,
  ⟨"FLT_TEL_TX_CNT", 0x6000128, 1, 0x0, 1, 0, 0x0, 0x0, 0x0, 0x4000000000000000⟩,
  ⟨"FLT_TEL_DROP_CNT", 0x6000130, 1, 0x0, 1, 0, 0x0, 0x0, 0x0, 0x4000000000000000⟩,
  ⟨"FLT_SINK_RX_CNT", 0x6000138, 1, 0x0, 1, 0, 0x0, 0x0, 0x0, 0x4000000000000000⟩,
  ⟨"FLT_SINK_DROP_CNT", 0x6000140, 1, 0x0, 1, 0, 0x0, 0x0, 0x0, 0x4000000000000000⟩,
  ⟨"FLT_QUEUE", 0x6010000, 1, 0x0, 8192, 8, 0x0, 0x0, 0x0, 0x0⟩,
  ⟨"FLT_TEL_LAST", 0x6020000, 1, 0x0, 192, 8, 0x0, 0x0, 0x0, 0x0⟩,
  ⟨"FLT_SNAP_WIN", 0x6080000, 1, 0x0, 8192, 8, 0x0, 0x0, 0x0, 0x0⟩]
/-- Rows of the LDR block. -/
def rowsLDR0 : List Info := [
  ⟨"LDR_CTRL", 0x7000000, 1, 0x0, 1, 0, 0x8000, 0x0, 0x0, 0x3FF⟩,
  ⟨"LDR_STATUS", 0x7000008, 1, 0x0, 1, 0, 0x0, 0x0, 0xF0, 0x0⟩,
  ⟨"LDR_IMAGE_ID", 0x7000010, 1, 0x0, 1, 0, 0xFFFFFFFFFFFFFFFF, 0x0, 0x0, 0x0⟩,
  ⟨"LDR_VMOD", 0x7000018, 1, 0x0, 1, 0, 0xFFF, 0x0, 0x0, 0x0⟩,
  ⟨"LDR_AREA", 0x7000020, 1, 0x0, 1, 0, 0xFFFFFF007FFFFF, 0x0, 0x0, 0x0⟩,
  ⟨"LDR_START_TICK", 0x7000028, 1, 0x0, 1, 0, 0xFFFFFFFFFFFFFFFF, 0x0, 0x0, 0x0⟩,
  ⟨"LDR_START_PTP", 0x7000030, 1, 0x0, 1, 0, 0xFFFFFFFFFFFFFFFF, 0x0, 0x0, 0x0⟩,
  ⟨"LDR_START_SEG", 0x7000038, 1, 0x0, 1, 0, 0xFFFFFFFF, 0x0, 0x0, 0x0⟩,
  ⟨"LDR_SEG", 0x7000040, 1, 0x0, 1, 0, 0x0, 0x0, 0x0, 0x0⟩,
  ⟨"LDR_REFUSE0", 0x7000048, 1, 0x0, 1, 0, 0xFFFFFFFFFFFFFFFF, 0x0, 0x0, 0x0⟩,
  ⟨"LDR_REFUSE1", 0x7000050, 1, 0x0, 1, 0, 0xFFFFFFFF00000FFF, 0x0, 0x0, 0x0⟩,
  ⟨"LDR_REFUSE2", 0x7000058, 1, 0x0, 1, 0, 0xFFFFFFFFFFFFFFFF, 0x0, 0x0, 0x0⟩,
  ⟨"LDR_CHUNK", 0x7000060, 1, 0x0, 1, 0, 0x0, 0x0, 0x0, 0xFFFFFFFFFFFFFF⟩,
  ⟨"LDR_BCAST_CFG", 0x7000068, 1, 0x0, 1, 0, 0xFFF1FFF0003, 0x0, 0x0, 0x0⟩,
  ⟨"LDR_BCAST_CHILD", 0x7000070, 1, 0x0, 1, 0, 0x8FFF8FFF8FFF8FFF, 0x0, 0x0, 0x0⟩,
  ⟨"LDR_BCAST_TIME", 0x7000078, 1, 0x0, 1, 0, 0xFFFFFFFFFFFFFFFF, 0x0, 0x0, 0x0⟩,
  ⟨"LDR_BCAST_STATUS", 0x7000080, 1, 0x0, 1, 0, 0x0, 0x0, 0x0, 0x0⟩,
  ⟨"LDR_FW_STATUS", 0x7000088, 1, 0x0, 1, 0, 0x0, 0x0, 0x0, 0x0⟩,
  ⟨"LDR_CHUNK_RX_CNT", 0x7000100, 1, 0x0, 1, 0, 0x0, 0x0, 0x0, 0x4000000000000000⟩,
  ⟨"LDR_CHUNK_DUP_CNT", 0x7000108, 1, 0x0, 1, 0, 0x0, 0x0, 0x0, 0x4000000000000000⟩,
  ⟨"LDR_CHUNK_CRC_CNT", 0x7000110, 1, 0x0, 1, 0, 0x0, 0x0, 0x0, 0x4000000000000000⟩,
  ⟨"LDR_PART_EVICT_CNT", 0x7000118, 1, 0x0, 1, 0, 0x0, 0x0, 0x0, 0x4000000000000000⟩,
  ⟨"LDR_STRAY_CNT", 0x7000120, 1, 0x0, 1, 0, 0x0, 0x0, 0x0, 0x4000000000000000⟩,
  ⟨"LDR_REPAIR_TX_CNT", 0x7000128, 1, 0x0, 1, 0, 0x0, 0x0, 0x0, 0x4000000000000000⟩,
  ⟨"LDR_BCAST_SEEN", 0x7000200, 1, 0x0, 64, 8, 0x0, 0x0, 0x0, 0x0⟩]
/-- The register map (R445, R449). -/
def table : List Info :=
  rowsGEN0 ++ rowsPWR0 ++ rowsCRN0 ++ rowsTIME0 ++ rowsNVM0 ++ rowsCUF0 ++ rowsLNK0 ++ rowsLNK1 ++ rowsRTE0 ++ rowsPLM0 ++ rowsRGN0 ++ rowsHBM0 ++ rowsBON0 ++ rowsFLT0 ++ rowsLDR0

/-- Whether an address is an instance of the register array that starts at `base`; answers the instance number. -/
def instOf (base n stride a : Nat) : Option Nat :=
  if n ≤ 1 then (if a = base then some 0 else none)
  else if base ≤ a ∧ (a - base) % stride = 0 ∧ (a - base) / stride < n then some ((a - base) / stride) else none

/-- Registers whose reset value is not 0 in every instance: base address, instances, stride, and the value. -/
def resetRows : List (Nat × Nat × Nat × Nat) := [
  (0x0, 1, 0x0, 0xC1A00000001),
  (0x110, 1, 0x0, 0x200000000000000),
  (0x120, 1, 0x0, 0x5400000000000000),
  (0x138, 1, 0x0, 0x3E800001388),
  (0x100008, 1, 0x0, 0x18),
  (0x100018, 1, 0x0, 0xFFFF),
  (0x100028, 1, 0x0, 0x800000000000000C),
  (0x200038, 1, 0x0, 0x4000080),
  (0x300000, 1, 0x0, 0x640008),
  (0x300008, 1, 0x0, 0xFFFF000000000300),
  (0x300100, 4, 0x20, 0x1000000),
  (0x1000018, 1, 0x0, 0x8000),
  (0x1000020, 1, 0x0, 0x8000),
  (0x1100000, 24, 0x10000, 0x8000),
  (0x1100010, 24, 0x10000, 0x100004),
  (0x1100018, 24, 0x10000, 0x8000),
  (0x1100410, 24, 0x10000, 0x40),
  (0x1100418, 24, 0x10000, 0x40),
  (0x1100428, 24, 0x10000, 0xFFFF),
  (0x1100490, 24, 0x10000, 0xFFF0FFF),
  (0x1200500, 8, 0x10000, 0x100),
  (0x1200508, 8, 0x10000, 0x100),
  (0x1200510, 8, 0x10000, 0x100),
  (0x1200518, 8, 0x10000, 0x100),
  (0x1200520, 8, 0x10000, 0x100),
  (0x1200528, 8, 0x10000, 0x100),
  (0x1200530, 8, 0x10000, 0x100),
  (0x1200538, 8, 0x10000, 0x100),
  (0x2000000, 1, 0x0, 0x3),
  (0x3000020, 1, 0x0, 0xD0D0),
  (0x3001000, 128, 0x8, 0x20000000200000),
  (0x3001400, 128, 0x8, 0x20000000200000),
  (0x3100000, 16, 0x10000, 0x141414),
  (0x3100008, 16, 0x10000, 0x8),
  (0x4000000, 8, 0x100000, 0x10),
  (0x4000010, 8, 0x100000, 0x10000),
  (0x4000018, 8, 0x100000, 0x200),
  (0x5000050, 1, 0x0, 0x1E84800000B7FC),
  (0x5000058, 1, 0x0, 0x4000000800),
  (0x6000000, 1, 0x0, 0x38),
  (0x6000038, 1, 0x0, 0x18000000F1000000),
  (0x7000038, 1, 0x0, 0x1),
  (0x7000078, 1, 0x0, 0x7A1200003D090)]

/-- The reset value the register map gives address `a` (R445); the fuses read 0, grade X, whose
token budget is 208 (log entry 4), and values that come from NVM sections are 0 here and are filled at bring-up (R450). `LNK_SCHED_STATUS.CLASS`, `LNK_BAND.LEAD`, `LNK_BAND.CARRIES` and
`TIME_DOM_CFG.PORT` reset to their instance. -/
def resetVal (a : Nat) : Word :=
  match instOf 0x1100400 24 0x10000 a with
  | some l => BitVec.ofNat 64 (if l < 16 then 0 else 0x20)
  | none =>
  match instOf 0x1100408 24 0x10000 a with
  | some l => BitVec.ofNat 64 (l * 0x20000 + l * 0x100)
  | none =>
  match instOf 0x300040 2 0x20 a with
  | some d => BitVec.ofNat 64 (d * 2 + 0x6400010000)
  | none =>
  match resetRows.find? (fun r => (instOf r.1 r.2.1 r.2.2.1 a).isSome) with
  | some r => BitVec.ofNat 64 r.2.2.2
  | none => 0#64

/-- The row of the register map that address `a` belongs to, if any. -/
def find (a : Nat) : Option Info :=
  table.find? (fun r =>
    r.base ≤ a ∧
    (have o := a - r.base
     have j := if r.insts ≤ 1 then 0 else o / r.istride
     have o' := o - j * r.istride
     j < r.insts ∧ (if r.elems ≤ 1 then o' = 0 else o' % r.estride = 0 ∧ o' / r.estride < r.elems)))

end Sys2Proof.Reg
end

