-- ==== Sys2Proof/Machine/State.lean ====
section
/-! DEFINITION. Sys2Proof/Machine/State.lean: the whole state of the module as plain data, the reasons a step can stop, and
the state right after reset. -/
namespace Sys2Proof.Machine

/-- The crown's state that no register shows (R35 to R44). -/
structure CrownSt where
  /-- Last accepted offset in sixteenths of a crown tick, while there is a prediction (R36). -/
  lastAcc : Option Int := none
  /-- Consecutive missed or rejected exchanges on the active parent link (R36, R41). -/
  missRun : Nat := 0
  /-- Consecutive accepted exchanges above 3/16 ct (R41). -/
  bigRun : Nat := 0
  /-- Consecutive accepted exchanges at most 3/16 ct, each from a parent as R41 asks. -/
  smallRun : Nat := 0
  /-- Consecutive rejects for HOPS or MASTER_ID (R44, cause HOPS). -/
  hopRun : Nat := 0
  /-- Exchanges since LOCKED was last entered (R38, R44). -/
  lockedExch : Nat := 0
  /-- Exchanges since ACQUIRING was last entered (R44). -/
  acqExch : Nat := 0
  /-- Consecutive accepted responses while FREE (R41). -/
  acqRun : Nat := 0
  /-- HIGH_INDEX slices of the parent's crown collected while FREE, newest first, each with its STAMP_B (R33). -/
  slices : List (Nat × Nat × Nat) := []
  /-- Crown clock cycle of the last accepted exchange (R36). -/
  lastAt : Nat := 0
  /-- The servo's integral rates after the last 256 accepted exchanges, newest first (R38). -/
  integ : List Int := []
  /-- The parent's last reported STATE, HOPS, HOLD_DEPTH and HOLD_AGE (R43). -/
  parState : Nat := 0
  parHops : Nat := 0
  parDepth : Nat := 0
  parAge : Nat := 0
  /-- The crown when the parent reported them (R43). -/
  parAt : Nat := 0
  /-- The outstanding request: SEQ, t1 in sixteenths, and when it left in Crown clock cycles (R33, R36). -/
  req : Option (Nat × Nat × Nat) := none
  /-- SEQ of the next request. -/
  seqNext : Nat := 0
  /-- Since when REF_OK and PLL_LOCK have both held, in Crown clock cycles (R41). -/
  refSince : Option Nat := none
  /-- The crown tick at which this module's own holdover began (R43). -/
  holdSince : Option Nat := none
  /-- The alternate link becomes the active parent at the next multiple of 4,096 ct (R42). -/
  altPend : Bool := false
  /-- Outstanding monitor requests: link, SEQ, t1 (R39). -/
  mon : List (Nat × Nat × Nat) := []
  /-- Last lock state each neighbour reported, by link (R44, R45). -/
  nbrState : SMap Nat := []
  /-- HIGH_INDEX of the next response, by link (R33). -/
  hiIdx : SMap Nat := []
  /-- HOLD_LIMIT, HOLD_DEPTH, REF_HOLD and ACQ_LIMIT already raised for this occurrence (R44). -/
  limRaised : Bool := false
  depthRaised : Bool := false
  refRaised : Bool := false
  acqRaised : Bool := false
deriving DecidableEq, Repr, Inhabited

/-- A Palm region's (or the Bonnet's) clock state that no register shows (R47 to R53). -/
structure RgnSt where
  /-- Region cycle numbers of the stretches of the last 1,024 cycles, newest first (R47). -/
  stretches : List Nat := []
  /-- The stop of a divider step in progress ends at this Crown clock cycle (R50). -/
  stepUntil : Option Nat := none
  /-- Dividers that the emergency droop and the temperature causes require; 0 for none (R48, R49). -/
  droopN : Nat := 0
  thermN : Nat := 0
  /-- A sensor of the region is at or above 105 °C, until all are below 100 °C (R49). -/
  hot : Bool := false
  /-- A sensor was at or above 105 °C in the last sample (R49). -/
  above : Bool := false
  /-- Crown clock cycle of the last droop detection, and of the last thermal and restoring step (R48, R49). -/
  droopAt : Nat := 0
  thermAt : Nat := 0
  restoreAt : Nat := 0
  /-- The crown estimate as the cycle in progress began, in twelfths of a crown tick (R53). -/
  est : Int := 0
  /-- Cycles ended, and twelfths of a crown tick gone in the one in progress (R29, R47). -/
  cycle : Nat := 0
  gone : Nat := 0
  /-- The period in progress, and the next one, are doubled (R47). -/
  long : Bool := false
  longNext : Bool := false
  /-- The clock stops for a step when the cycle in progress ends (R50). -/
  stopDue : Bool := false
  /-- The region is in REST: its clock is stopped (R207, R209). -/
  rest : Bool := false
  /-- The region takes part in the op in progress, so its crossing buffers carry words (R207). -/
  active : Bool := false
  /-- Words in the crossing buffers toward the next region east and south, oldest first: the consumer's cycles since each was
  written, up to two (R57, R58). -/
  east : List Nat := []
  south : List Nat := []
deriving DecidableEq, Repr, Inhabited

/-- A flit sent and not yet acknowledged (R141), with its compiled departure. -/
structure Sent where
  flit : Flit
  pos : Nat := 0
  seg : Nat := 0
  /-- Compiled departure stitch (scheduled flits). -/
  stitch : Nat := 0
  first : Nat := 0
  last : Nat := 0
  /-- It counts as owed again until it departs again (R107). -/
  again : Bool := false
deriving DecidableEq, Repr, Inhabited

/-- The link layer's state of one class of flits (R135 to R142). -/
structure ClsSt where
  unacked : List Sent := []
  /-- A replay in progress: the next SEQ to resend, and the first stitch in which it may depart. -/
  replay : Option (Nat × Nat) := none
  nakOpen : Bool := false
  /-- A NAK to act on: the number it names and the stitch in which it was checked (R139). -/
  nakFrom : Option (Nat × Nat) := none
  nnumTx : Nat := 0
  nnumAct : Nat := 0
  /-- The oldest flit of the last replay and how many replays started from it in a row (R142). -/
  repOldest : Nat := 0
  repCount : Nat := 0
  limRaised : Bool := false
deriving DecidableEq, Repr, Inhabited

/-- An owed entry (R100): the entry copied at its compiled stitch, its tag, segment and position, the program it belongs
to, the count it is bound to in its queue, and the landed operands taken so far. -/
structure Owed where
  entry : Word
  pos : Nat
  seg : Nat
  stitch : Nat
  tag : Nat
  prog : Nat
  bound : Nat
  got : List (Option Flit)
deriving DecidableEq, Repr, Inhabited

/-- An expecting land entry (R103): the entry, its tag, the program it belongs to, the count its local operand is bound to,
and its place in the deliveries of its band (stitch and MEMBER, R88). -/
structure Expect where
  entry : Word
  pos : Nat
  seg : Nat
  stitch : Nat
  tag : Nat
  prog : Nat
  bound : Nat
  key : Nat
deriving DecidableEq, Repr, Inhabited

/-- A flit in a transit hold (R75, R104). -/
structure Held where
  stitch : Nat
  flit : Flit
  reads : Nat
deriving DecidableEq, Repr, Inhabited

/-- A deposit in a send queue (R83, R84): its number, its flit, and when its last word entered, in crown ticks. -/
structure Dep where
  num : Nat
  flit : Flit
  entered : Nat
  ready : Bool
deriving DecidableEq, Repr, Inhabited

/-- What the peer's NEGOTIATE fields said (R144). -/
structure PeerNeg where
  serial : Nat := 0
  link : Nat := 0
  seat : Nat := 0
  width : Nat := 0
  group : Nat := 0
  expS : Nat := 0
  expL : Nat := 0
  fresh : Bool := false
deriving DecidableEq, Repr, Inhabited

/-- What an LCW that starts now could tell: its fields, the TRAIN code waiting, and whether a beacon request and credits wait
(R130, R133). -/
structure LcwView where
  fields : Nat := 0
  train : Option Nat := none
  req : Bool := false
  cred : Bool := false
deriving DecidableEq, Repr, Inhabited

/-- One link engine's state that no register shows. -/
structure LinkSt where
  s : ClsSt := {}
  l : ClsSt := {}
  /-- Scheduled flits in the landing equaliser, with their arrival stitches (R77, R80). -/
  arrivals : List (Nat × Flit) := []
  owed : List Owed := []
  expecting : List Expect := []
  hold : List Held := []
  /-- Compiled stitches of scheduled flits discarded by the peer's fresh start: they stay owed and lag (R135). -/
  gone : List Nat := []
  /-- Send queues: deposits by queue, deposits made, entries numbered (R83). -/
  sq : SMap (List Dep) := []
  sqDep : SMap Nat := []
  sqEnt : SMap Nat := []
  /-- Receive queues: flits by queue, each with its place in the queue's count (R83, R105). -/
  rq : SMap (List (Nat × Flit)) := []
  /-- The last stitch whose entries were taken, the last in which the link chose what to send, and the last in which a flit
  landed. -/
  begunAt : Option Nat := none
  sendAt : Option Nat := none
  landAt : Option Nat := none
  /-- STITCH_MISMATCH raised since the last seam (R78); LAG_LIMIT, landing FORMAT_MISMATCH and combine FORMAT_MISMATCH
  raised in the segment (R110, R189). -/
  misRaised : Bool := false
  lagRaised : Bool := false
  cmbRaised : Bool := false
  /-- MITTEN_VIOLATION LINK_LEFT raised (R94). -/
  leftRaised : Bool := false
  /-- Stopped by a full owed or expecting list (R111). -/
  owedFull : Bool := false
  expectFull : Bool := false
  /-- Seam reports received, newest first: arrival tick and index (R114, R115). -/
  reports : List (Nat × Nat) := []
  /-- The link carried scheduled entries in the bank set of the segment being closed (R115). -/
  wasSched : Bool := false
  /-- Training: full (else quick), its start, the width before it, LINK_LOST raised since leaving UP, FRESH to be set. -/
  full : Bool := true
  trainAt : Nat := 0
  stateAt : Nat := 0
  prevWidth : Nat := 0
  lost : Bool := false
  fresh : Bool := true
  /-- The training was asked for by a driver and is full, so it may widen the link (R148). -/
  mayWiden : Bool := false
  /-- Lane numbers that the peer's markers give the lanes received, in order (R125). -/
  laneOrder : List Nat := []
  /-- The frame in progress: its start in crown ticks, and its data bits (R122). -/
  frame : Option (Nat × Nat) := none
  /-- This end's proposal: width and lane group; the peer's NEGOTIATE fields. -/
  propWidth : Nat := 8
  propGroup : Nat := 0
  peer : PeerNeg := {}
  lanesJudged : Bool := false
  /-- Outstanding TRAIN request: code, sends so far, last sent at (Crown clock cycle) (R149). -/
  trainReq : Option (Nat × Nat × Nat) := none
  /-- The TRAIN request this end has accepted and follows once its ACCEPT departs (R149), and what its own request was for. -/
  follow : Option Nat := none
  reqCause : Nat := 0
  /-- Pending LCW items (R133): beacon response with its arrival, TRAIN code, beacon request, credits. -/
  pendRsp : Option (Beacon × Nat) := none
  pendTrain : Option Nat := none
  pendReq : Option Beacon := none
  pendCred : Bool := false
  prevCred : Bool := false
  identAt : Option Nat := none
  /-- VAR of the last IDENT sent, the crown tick of the last LCW sent, and the views after each of the last four crown ticks,
  newest first (R133, R134). -/
  identVar : Option Nat := none
  lcwSent : Option Nat := none
  past : List LcwView := []
  /-- Replays started in the current window of 2^21 ct, and whether RATE was raised in it (R142). -/
  repWin : Nat := 0
  repWinCnt : Nat := 0
  repWinRaised : Bool := false
  /-- Windows in which MITTEN_VIOLATION was last raised for this link (R181). -/
  mitWin : Option Nat := none
  /-- Last valid LCW's arrival in crown ticks (R150). -/
  lcwAt : Option Nat := none
  /-- The neighbour's last IDENT since UP: serial, link, seat, mitten (R132). -/
  ident : Option (Nat × Nat × Nat × Nat) := none
  /-- A failed member sends RX_DOWN until this Crown clock cycle (R151). -/
  rxDownUntil : Option Nat := none
  /-- Expected numbers kept of a failed member (R151): scheduled, loose. -/
  carryExpS : Nat := 0
  carryExpL : Nat := 0
  /-- Far link: VC input buffers, slots freed since the last fresh start, last CREDIT counts received (R172). -/
  vcBuf : SMap (List Flit) := []
  freed : SMap Nat := []
  credLast : SMap Nat := []
  /-- VC of the last round-robin grant (R174). -/
  rr : Nat := 2
  /-- Lattice arrivals waiting for their release stitch (R165). -/
  lat : List (Nat × Flit) := []
  /-- No opportunistic packet before this stitch (R169). -/
  oppUntil : Nat := 0
deriving DecidableEq, Repr, Inhabited

/-- A bank verification in progress (R92, R95): when it ends, what it found (reason, link, direction, position; reason 0
for none), and the segment in automatic mode. -/
structure VerifySt where
  done : Nat
  reason : Nat
  link : Nat
  dir : Nat
  pos : Nat
  seg : Nat
deriving DecidableEq, Repr, Inhabited

/-- The Cuff's state that no register shows. -/
structure CuffSt where
  /-- Tick of the seam that opened the current segment (R67), and of the one before it with its round length (R68). -/
  openTick : Nat := 0
  prevOpen : Nat := 0
  prevN : Nat := 0
  /-- The closing seam of the LAST segment has passed (R308). -/
  ended : Bool := false
  /-- The image has started and not been cleared (R114). -/
  started : Bool := false
  /-- Scheduled traffic has ended and no further scheduled flit is sent or landed (R117, R398). -/
  stopped : Bool := false
  verify : Option VerifySt := none
  /-- Automatic fill in progress for this segment until this tick (R95). -/
  fill : Option (Nat × Nat) := none
  /-- The arming tick of the shadow set (R96). -/
  armedAt : Nat := 0
  /-- The segment whose opening seam an automatic arm waits for; 0 for any (R95). -/
  armSeg : Nat := 0
  /-- Class actions deferred to the opening seam of a segment: the segment, the record's SEQ and the record itself, in the order
  of the records (R97, R306, R344, R398). -/
  deferred : List (Nat × Nat × Nat) := []
  /-- Seam check due: seam index and tick of the check (R115). -/
  checkSeam : Option (Nat × Nat × Nat) := none
  /-- Segments whose outputs are marked invalid (R116). -/
  invalid : List Nat := []
deriving DecidableEq, Repr, Inhabited

/-- A packet waiting at injection (R159, R177). -/
structure Inj where
  vc : Nat
  flit : Flit
  replyN : Nat
  rtag : Nat
deriving DecidableEq, Repr, Inhabited

/-- An alarm packet bound to the links that lead to one neighbour (R406): 0 lattice, 1 near but not lattice, 2 far. -/
structure AlarmOut where
  kind : Nat
  links : List Nat
  flit : Flit
deriving DecidableEq, Repr, Inhabited

/-- The loose router and network interface's state that no register shows. -/
structure RouteSt where
  /-- NI receive queues by VC (R154), and the turn buffer (R168); each flit with its input link, 31 for local injection. -/
  ni : SMap (List (Nat × Flit)) := []
  turn : List (Nat × Flit) := []
  /-- Stamped packets waiting to leave, oldest first. -/
  inj : List Inj := []
  /-- Packets waiting for a reservation (R177). -/
  wait : List Inj := []
  /-- Reply reservations: RTAG, flits left, injection time in Crown clock cycles (R177). -/
  res : List (Nat × Nat × Nat) := []
  busy : List Flit := []
  pkt : Nat := 0
  alarms : List AlarmOut := []
  ttlWin : Option Nat := none
  /-- Flits ejected in the stitch given (R176). -/
  ejStitch : Nat := 0
  ejCount : Nat := 0
  latAt : Option Nat := none
deriving DecidableEq, Repr, Inhabited

/-- Fault, alarm, interrupt and telemetry state that no register shows. -/
structure FltSt where
  /-- The last 64 alarm keys held, newest first (R407). -/
  keys : List (Nat × Nat) := []
  /-- Distinct keys of other modules forwarded (R407). -/
  fwd : Nat := 0
  lastMsix : Option Nat := none
  /-- The MSI-X table entry of vector 0, its pending bit, and the function's MSI-X enable (R448). -/
  msixAddr : Nat := 0
  msixData : Nat := 0
  msixMasked : Bool := true
  msixPending : Bool := false
  msixEnable : Bool := false
  /-- Counter values at the previous telemetry report; a counter cleared or reset since has no entry (R413). -/
  telPrev : SMap Nat := []
  /-- Maxima since the previous report: 0 turn buffer, 1 offset, 2 token sum, 3 class + 1, 16 + 2l send lag, 17 + 2l land
  lag (R413). -/
  telMax : SMap Nat := []
  /-- The last report has not been wholly injected (R412). -/
  telOpen : Bool := false
  /-- SEQ of the next report. -/
  telSeq : Nat := 0
  /-- An alarm accepted while ARMED (R407). -/
  alarmPend : Bool := false
deriving DecidableEq, Repr, Inhabited

/-- A qualified Announce of a domain (R356): the master's port identity, its data set in the order the standard compares,
its intervals, and when it came (Crown clock cycles). -/
structure Master where
  source : Nat
  dataset : List Nat
  utc : Nat
  utcValid : Bool
  logAnnounce : Int
  seenAt : Nat
  /-- When the Announce before the last one came. -/
  prevAt : Option Nat
deriving DecidableEq, Repr, Inhabited

/-- A domain's state that no register shows (R359 to R362). Times are in 2^-16 ns; a base is its value at an instant of local
monotonic, that instant, and its rate against local monotonic in 2^-32. -/
structure DomSt where
  base : Option (Nat × Nat × Int) := none
  /-- The base steps at the next complete exchange. -/
  step : Bool := false
  /-- Consecutive offsets within LOCK_NS. -/
  run : Nat := 0
  masters : List Master := []
  /-- The followed master's Sync interval (log2 s) and when its last complete Sync came. -/
  logSync : Int := 0
  syncAt : Nat := 0
  /-- A two-step Sync waiting for its Follow_Up: SEQ, receive stamp, correction. -/
  pend : Option (Nat × Nat × Int) := none
  /-- The last complete Sync: t1, receive stamp in local monotonic, correction. -/
  sync : Option (Nat × Nat × Int) := none
  /-- The outstanding delay request: SEQ and transmit stamp. -/
  req : Option (Nat × Nat) := none
  seq : Nat := 0
  /-- A peer response waiting for its Follow_Up: SEQ, t2', receive stamp t4', correction. -/
  peer : Option (Nat × Nat × Nat × Int) := none
  /-- Mean path delay in sixteenths of a nanosecond. -/
  path : Option Int := none
deriving DecidableEq, Repr, Inhabited

/-- A pulse generator's state that no register shows (R371 to R373). -/
structure TpSt where
  /-- The next edge, edges counted toward COUNT, and the Crown clock cycle at which the pulse in progress ends. -/
  edge : Nat := 0
  done : Nat := 0
  pulse : Option Nat := none
  /-- It waits for its base since ARM, so that the rule of R372 still applies. -/
  fresh : Bool := false
deriving DecidableEq, Repr, Inhabited

/-- One sample of the crown bridge (R366): crown tick, local monotonic, PTP-A, PTP-B and output time in 2^-16 ns, none where
the base is not valid. -/
structure Sample where
  c : Nat
  mono : Nat
  a : Option Nat
  b : Option Nat
  out : Option Nat
deriving DecidableEq, Repr, Inhabited

/-- Network time state that no register shows (R354 to R375). -/
structure TimeSt where
  /-- Local monotonic, in 2^-16 ns, and the part of the next 2^-16 ns that the trimmed clock has already covered (R28, R354). -/
  mono : Nat := 0
  monoRem : Nat := 0
  /-- Output time in HOLDOVER as a linear function of local monotonic: its value at an instant, that instant, and its rate
  against local monotonic in 2^-32 (R354, R364). -/
  outVal : Nat := 0
  outOrg : Nat := 0
  outRate : Int := 0
  /-- The last 64 source rate estimates of output time (R364). -/
  outEst : List Int := []
  /-- The offset d at an instant, in 2^-16 ns, and that instant (R363). -/
  d : Int := 0
  dOrg : Nat := 0
  domA : DomSt := {}
  domB : DomSt := {}
  /-- The crown bridge's last sixteen samples, newest first (R366). -/
  samples : List Sample := []
  /-- The last accepted bridge message: its SEQ and OUT_FRAC; none before the first (R369). -/
  bridge : Option (Nat × Nat) := none
  bridgeSeq : Nat := 0
  staleRaised : Bool := false
  tp : SMap TpSt := []
  /-- PTP frames accepted by port: window of 2^20 ct, plus 1, and count (R357). -/
  ptpWin : SMap (Nat × Nat) := []
deriving DecidableEq, Repr, Inhabited

/-- Power state that no register shows (R417 to R430). -/
structure PwrSt where
  /-- AON is held in power-on reset with the input switch closed (R419, R426, R430). -/
  aonHeld : Bool := false
  /-- When a MODULE_FATAL record was made, while its shutdown waits (R398, R425). -/
  fatalAt : Option Nat := none
  /-- The input switch is closed (R418). -/
  closed : Bool := true
  /-- Pre-charge in progress since (R418), and the earliest next start. -/
  charge : Option Nat := none
  retryAt : Nat := 0
  /-- Tripped by overcurrent until PWR_EN has been low for 100 ms (R419). -/
  tripped : Bool := false
  /-- When PWR_EN had been low for 1,000,000 ct since the trip (R419). -/
  lowAt : Option Nat := none
  /-- GEN_RESET_STATUS.SOURCE of the next power-on reset (R394). -/
  source : Nat := 4
  /-- Next group of a shutdown in R425's order and when it goes. -/
  shut : Option (Nat × Nat) := none
  /-- The next step of the budget's recovery (R422). -/
  recoverAt : Option Nat := none
  /-- Limit-1 and limit-2 records already raised, by sensor group of PWR_TEMP_MAX.SOURCE (R429). -/
  lim1 : List Nat := []
  lim2 : List Nat := []
  /-- The last register offset written over SMBus (R431). -/
  smb : Nat := 0
deriving DecidableEq, Repr, Inhabited

/-- Bring-up and reset state that no register shows (R376 to R396). -/
structure BootSt where
  /-- Phases running and phases ended since GO. -/
  running : List Nat := []
  ended : List Nat := []
  warm : Bool := false
  /-- Start of each phase in Crown clock cycles, and the waits counted out of its duration (R378). -/
  start : SMap Nat := []
  waits : SMap Nat := []
  waitFrom : Option Nat := none
  /-- Domain groups still to power (0 to 6: R423's groups 1 to 3 and the quarters of group 4), and since when the first of
  them waits for power-good; none while it has not been switched on. -/
  groups : List Nat := []
  groupAt : Option Nat := none
  /-- The groups belong to phase 2 (not to a PWR_CTRL write). -/
  inPhase : Bool := false
  /-- Firmware repairs made in phase 7 (R386). -/
  repairs : Nat := 0
  /-- READY of the last REPORT (R379), and phase 9 has run since the last reset (R390). -/
  lastReady : Nat := 0
  reported : Bool := false
  /-- A reset in progress or exiting (R396). -/
  reset : Option Nat := none
  /-- Chosen contents kept in AON (R381): the image key slots and the firmware key hash. -/
  keys : SMap Nat := []
  fwHash : Nat := 0
deriving DecidableEq, Repr, Inhabited

/-- An NVM command in progress (R382). -/
structure NvmCmd where
  cmd : Nat
  sect : Nat
  copy : Nat
  index : Nat
  length : Nat
deriving DecidableEq, Repr, Inhabited

/-- NVM and its engine (R380 to R382). -/
structure NvmSt where
  bytes : Memory := []
  /-- Capture temperatures in each CAL copy (hottest junction, then stacks), when the device itself stored it (R380). -/
  calTemps : SMap (List Int) := []
  /-- The LOG ring: the slot the next APPEND writes, and slots holding entries (R382). -/
  logNext : Nat := 0
  logCount : Nat := 0
  /-- Erase counts by sector. -/
  wear : SMap Nat := []
  /-- The open copy: section, copy, LENGTH, data sectors written. -/
  opened : Option (Nat × Nat × Nat × List Nat) := none
  running : Option NvmCmd := none
deriving DecidableEq, Repr, Inhabited

/-- A request the intake seat holds (R339 to R343). -/
structure Req where
  slot : Nat
  sess : Nat
  id : Nat
  prompt : Nat
  maxNew : Nat
  /-- Fragments held: offset and bytes. -/
  frags : List (Nat × List Byte)
  pages : List Nat
  /-- When the slot was claimed and when the last fragment was accepted, in Crown clock cycles; whether the prompt is complete. -/
  born : Nat
  timer : Nat
  complete : Bool
  /-- Prompt tokens handed over, and whether a record has carried it as PREFILL. -/
  handed : Nat
  seen : Bool
  /-- CANCEL in the next record; its END has been read (RELEASED in the next record). -/
  cancel : Bool
  released : Bool
  /-- Tokens that the output records read here have carried for it (R345). -/
  sent : Nat := 0
deriving DecidableEq, Repr, Inhabited

/-- What the output seat knows of a slot (R345): state, session, REQUEST_ID, MAX_NEW, tokens sent. -/
structure OutSlot where
  st : Nat
  sess : Nat
  id : Nat
  maxNew : Nat
  sent : Nat
deriving DecidableEq, Repr, Inhabited

/-- A TOKENS datagram kept or waiting (R346): window, session, REQUEST_ID, first index, tokens, FLAGS. -/
structure Tok where
  win : Nat
  sess : Nat
  id : Nat
  first : Nat
  toks : List Nat
  flags : Nat
deriving DecidableEq, Repr, Inhabited

/-- A bulk transfer (R349). -/
structure Bulk where
  num : Nat := 0
  sess : Nat := 0
  /-- Next byte to send, when the count last advanced, resends without progress. -/
  next : Nat := 0
  since : Nat := 0
  tries : Nat := 0
  /-- The next datagram leaves no earlier than this Crown clock cycle (RATE). -/
  due : Nat := 0
deriving DecidableEq, Repr, Inhabited

/-- The Bonnet's state that no register or table shows (R327 to R352). -/
structure BonSt where
  /-- A core without firmware after the eighth repair holds the Bonnet OFF (R386). -/
  held : Bool := false
  /-- LDR_STATUS.STATE was RUNNING when the Bonnet last looked (R351). -/
  serving : Bool := false
  /-- The service declaration has been read (R337). -/
  declared : Bool := false
  decl : Nat := 0
  keys : SMap Nat := []
  /-- Replay bitmaps: bit i for counter H − 1 − i (R332). -/
  bitmap : SMap Nat := []
  /-- Highest REQUEST_ID started, plus 1, by session (R341). -/
  startedId : SMap Nat := []
  /-- Limiters (R329): what is used of the burst, in 1/65,536 of a datagram, and when that stood; by source bucket and by
  session. -/
  buckets : SMap (Nat × Nat) := []
  sessLim : SMap (Nat × Nat) := []
  /-- ARP and ND answers by port: window of 65,536 ct, plus 1, and count (R329). -/
  arp : SMap (Nat × Nat) := []
  reqs : List Req := []
  /-- The window record waiting to be written: its bytes. -/
  record : Option (List Byte) := none
  /-- Next window to close, to be mirrored, and to be sent (R338, R343, R345). -/
  nextWin : Nat := 0
  nextMirror : Nat := 0
  nextOut : Nat := 0
  /-- The output seat's view of each slot of the newest record it read. -/
  outs : SMap OutSlot := []
  kept : List Tok := []
  /-- TOKENS waiting for a port. -/
  waiting : List Tok := []
  bulk : Bulk := {}
deriving DecidableEq, Repr, Inhabited

/-- State of the HBM controllers and stores that no register shows (R278 to R291). -/
structure MemSt where
  /-- HBM words recorded as HARD (R281), and words whose cells are defective. -/
  hard : List Nat := []
  defect : List Nat := []
  /-- Errors that the words of the other stores hold (R278, R280), and tile SRAM words whose cells are defective (R202):
  12,288 × physical tile + word. -/
  upsets : List Upset := []
  sramDefect : List Nat := []
  /-- Corrected words waiting to be written back (R281). -/
  writeBack : List Nat := []
  /-- By 2 × stack + class (0 Bonnet, 1 other): the level of the cap's token bucket in words, and words that wait on it (R284). -/
  capTok : SMap Nat := []
  capWait : SMap Nat := []
  /-- Crown clock cycle, plus 1, of each stack's last scrub burst (R282). -/
  scrubAt : SMap Nat := []
  /-- Window of 2^21 ct, plus 1, in which ECC_UNCORRECTABLE was last raised, by store instance (R280). -/
  eccWin : SMap Nat := []
  /-- Temperature of each stack at its last full training (R289). -/
  trainTemp : SMap Nat := []
  /-- Kind and start of the retrain in progress, by stack: 1 + kind, and the Crown clock cycle (R288). -/
  retrain : SMap (Nat × Nat) := []
  /-- Kind of the pending request, plus 1 (R289). -/
  pendKind : SMap Nat := []
deriving DecidableEq, Repr, Inhabited
/-- A descriptor in the op queue (R245, R246): its 256 bits, its argument record (none beyond the table), the segment it
resolved to and the tick of the seam that opens it (none when SEG resolves to no segment). -/
structure Desc where
  bits : Nat
  arg : Option Nat
  seg : Option Nat
  opened : Nat
  /-- The descriptor or its record was fetched as poison: it is never launched (R279, R290). -/
  lost : Bool
deriving DecidableEq, Repr, Inhabited

/-- An entry of a tile's accumulator file (R253): its 64 bits, whether it is an FP32 sum, poison tag and NaN mark. -/
structure Acc where
  val : Nat := 0
  isF32 : Bool := false
  poison : Bool := false
  nan : Bool := false
deriving DecidableEq, Repr, Inhabited

/-- The Palm controller's and the tiles' state that no register shows (R200 to R222, R245 to R274). -/
structure PalmSt where
  /-- The op queue, head first, and the descriptor in progress. -/
  queue : List Desc := []
  running : Option Desc := none
  /-- The results of the op in progress have been made. -/
  effect : Bool := false
  /-- Index in OPSTREAM of the next descriptor to fetch, and the segment of the last one fetched (R246). -/
  nextFetch : Nat := 0
  lastSeg : Nat := 0
  /-- READ and WRITE of the last op launched (R216). -/
  masks : Option (Nat × Nat) := none
  /-- Flits the op in progress still reads from receive queues (link, queue, count), those it has read, and the deposits it
  still makes (link, queue, logical tile that writes it, flit). -/
  want : List (Nat × Nat × Nat) := []
  inbox : List (Nat × Nat × Flit) := []
  outgoing : List (Nat × Nat × Nat × Flit) := []
  /-- Spilled rows' packets the op still injects (R270). -/
  spill : List Inj := []
  /-- Op whose staging is in progress, and op whose staging has ended. -/
  staging : Option Nat := none
  staged : Option Nat := none
  /-- The staging read words from a stack that was not UP (R290). -/
  stagedBad : Bool := false
  /-- BOUNDS raised for the op in progress (R215). -/
  boundsRaised : Bool := false
  /-- The Liner copy in progress ends at this Crown clock cycle (R205). -/
  linerUntil : Option Nat := none
  /-- It reloads the copy in force and takes nothing from the RAM copy (R205, R393). -/
  linerForce : Bool := false
  /-- Accumulator files: 4096 × physical tile + entry. -/
  acc : SMap Acc := []
deriving DecidableEq, Repr, Inhabited

/-- A chunk being assembled (R321): its parts' data by part number, oldest chunk first. -/
structure Asm where
  chunk : Nat
  crc : Nat
  parts : SMap Nat
deriving DecidableEq, Repr, Inhabited

/-- The loader engine's state that no register shows (R293 to R326). -/
structure LdrSt where
  /-- Contents of the chunks kept in the load area, as 4,096-byte numbers, and the bitmap of chunks held (R321). -/
  held : SMap Nat := []
  got : SMap Bool := []
  asm : List Asm := []
  /-- Start tick and start segment of the running image (R303). -/
  start : Nat := 0
  startSeg : Nat := 0
  /-- The segments whose entries were fetched as poison, or not at all (R290, R306). -/
  segLost : List Nat := []
  /-- Whether a first refusal is recorded (R317). -/
  refused : Bool := false
  /-- Broadcast: phase 0 off, 1 sending, 2 settling, 3 waiting for reports; when the phase ends; the reports of the round
  (module, ranges, final). -/
  phase : Nat := 0
  phaseEnd : Nat := 0
  reports : List (Nat × List (Nat × Nat) × Bool) := []
  /-- Packets to inject on VC 6 and VC 1, oldest first (R321, R322). -/
  toSend : List Inj := []
  /-- Firmware chunks each receiver holds, as a bitmap (R324): 0–4,351 tiles, 4,352–4,375 cores. -/
  fw : SMap Nat := []
  /-- The service declaration of the admitted image, as the LDR keeps it for its record check, and the next window to check
  (R337, R344). -/
  decl : Nat := 0
  declared : Bool := false
  nextCheck : Nat := 0
  /-- The pass in progress: next chunk to send and when the last was sent. -/
  fwNext : Option Nat := none
  fwLast : Nat := 0
deriving DecidableEq, Repr, Inhabited


/-- Why a step stops with a fault. No meaning of this model answers one: the spec gives every command an effect, or the
command is refused by name. -/
inductive Fault where
  /-- Raised by no meaning: kept so that the interface's fault outcome has a type (safe). -/
  | none
deriving DecidableEq, Repr

/-- Why a step is refused. -/
inductive Refusal where
  /-- The command has no meaning in the model yet (safe). Raised by `exec`'s refused arms only. -/
  | notModelled (mnemonic : String)
deriving DecidableEq, Repr

/-- Model field: what has happened within the Crown clock cycle in progress (R9, R22; log entry 6). First, as masks of bits by register
address: W1C bits the device set, and RW bits a driver's PCIe write and a management write wrote. -/
structure SameSt where
  flagged : SMap Nat := []
  driver : SMap Nat := []
  mgmt : SMap Nat := []
  /-- HBM words whose correction has been counted in the cycle (R291). -/
  fixed : List Nat := []
  /-- The register file as the cycle began: a counter's events of the cycle are what it has gained since (R408). -/
  start : SMap Word := []
  /-- Levels that marks have met in the cycle, by 64 × register address + lowest bit, plus 1 (R410). -/
  levels : SMap Nat := []
  /-- Ranks of the records that the cycle has entered at the fault queue's tail, in their order there (R405). -/
  recs : List Nat := []
  /-- GO written, a reset begun, and a snapshot ordered in the cycle (R396, R411, R415). -/
  go : Bool := false
  reset : Bool := false
  snap : Bool := false
  /-- Slots whose ACK leaves when the cycle ends (R339, R352). -/
  acks : List Nat := []
deriving DecidableEq, Repr, Inhabited

/-- The whole module: the queue of waiting commands, every register (by register address, an unlisted register at its
reset value), the BAR2 tables, the memories, and the state of each block that no register shows. -/
structure State where
  /-- Commands waiting, first in, first out. -/
  pending : List Instr := []
  /-- The register file (R445, R449): register address A to its 64 bits; unlisted registers hold their reset value. -/
  regs : SMap Word := []
  /-- BAR2 tables by BAR2 offset (R451): stitch programs, rank and route tables, sessions, KV pages. -/
  bar2 : SMap Word := []
  /-- HBM as stored: 36 bytes a word at 36 × word index, 32 data and 4 check bytes (R275, R278). -/
  hbm : Memory := []
  /-- Tile SRAM as stored: 36 bytes a word, by physical tile (R201). -/
  sram : Memory := []
  crown : CrownSt := {}
  /-- Clock state of regions 0–15 and, at 16, the Bonnet. -/
  rgn : SMap RgnSt := []
  links : SMap LinkSt := []
  cuff : CuffSt := {}
  route : RouteSt := {}
  flt : FltSt := {}
  time : TimeSt := {}
  pwr : PwrSt := {}
  mem : MemSt := {}
  palm : PalmSt := {}
  ldrs : LdrSt := {}
  boot : BootSt := {}
  nvm : NvmSt := {}
  bon : BonSt := {}
  /-- What the module has sent to the outside, oldest first. -/
  egress : List Emission := []
  /-- Model field: Crown clock cycles since power-on, whatever the crown's state. -/
  cyc : Nat := 0
  /-- Model field: how many free values have been taken. -/
  freeCtr : Nat := 0
  same : SameSt := {}
deriving DecidableEq, Repr

/-- The IDENTITY section the factory wrote (R380): a header of LENGTH 56 and GENERATION 0 with its CRC over 56 zero bytes, so
that phase 1 finds it valid. Serial and key hash are 0 (the spec gives neither; log entry 3). -/
def factoryNvm : Memory :=
  [(0, 0x4E), (1, 0x56), (2, 0x53), (3, 0x31), (12, 56), (16, 73), (17, 165), (18, 200), (19, 211)]

/-- The machine right after power-on reset: every register at its reset value, every queue and volatile memory empty, NVM as it
left the factory. -/
def State.reset : State := { nvm := { bytes := factoryNvm } }


end Sys2Proof.Machine
end

