-- ==== Sys2Proof/Machine/Ops.lean ====
section
/-! DEFINITION. Sys2Proof/Machine/Ops.lean: the named operations over registers, tables and memories that every meaning is
built from: reading and writing fields, event counters (R62, R408), high-water marks (R410), free values, emissions, the
clock, and the maps keyed by link and region. -/
namespace Sys2Proof.Machine

/-- What a register reads as: bits [hi:lo] of the register file at its address. -/
def State.rd (s : State) (f : Fld) : Nat := fget (SMap.get Reg.resetVal s.regs f.addr) f.hi f.lo

/-- A one-bit field as a Boolean. -/
def State.rdb (s : State) (f : Fld) : Bool := s.rd f != 0

/-- A whole register. -/
def State.reg (s : State) (a : Nat) : Word := SMap.get Reg.resetVal s.regs a

/-- Write a whole register: the one operation that changes the register file. -/
def State.setReg (s : State) (a : Nat) (v : Word) : State :=
  { s with regs := SMap.set Reg.resetVal s.regs a v }

/-- Write one field of a register. -/
def State.wr (s : State) (f : Fld) (v : Nat) : State := s.setReg f.addr (fset (s.reg f.addr) f.hi f.lo v)

/-- Write a one-bit field. -/
def State.wrb (s : State) (f : Fld) (b : Bool) : State := s.wr f (b2n b)

/-- Add bits to a mask kept by register address. -/
def addBits (m : SMap Nat) (a x : Nat) : SMap Nat := SMap.set (fun _ => 0) m a (SMap.get (fun _ => 0) m a ||| x)

/-- The device sets a W1C bit: a driver write of 1 in the same cycle leaves it set (R9). -/
def State.flag (s : State) (f : Fld) : State :=
  { s.wr f 1 with same := { s.same with flagged := addBits s.same.flagged f.addr f.bits } }

/-- The RW bits of a register that the driver has written in this cycle, over PCIe or by management. -/
def State.driven (s : State) (a : Nat) : Nat :=
  SMap.get (fun _ => 0) s.same.driver a ||| SMap.get (fun _ => 0) s.same.mgmt a

/-- The driver writes an RW field by a command of its own. -/
def State.drvWr (s : State) (f : Fld) (v : Nat) : State :=
  { s.wr f v with same := { s.same with driver := addBits s.same.driver f.addr f.bits } }

/-- The device writes an RW field: a driver write of the same cycle keeps its value (R9). -/
def State.devWr (s : State) (f : Fld) (v : Nat) : State := if s.driven f.addr &&& f.bits = 0 then s.wr f v else s

/-- The device writes a register of RW fields: bits that the driver has written in this cycle keep its value (R9). -/
def State.devReg (s : State) (a : Nat) (v : Word) : State :=
  have m := BitVec.ofNat 64 (s.driven a)
  s.setReg a ((s.reg a &&& m) ||| (v &&& ~~~m))

/-- Return every register whose address satisfies `p` to its reset value (R445); telemetry takes the next value of a counter
among them whole (R413). -/
def State.clearRegs (s : State) (p : Nat → Bool) : State :=
  { s with regs := SMap.clear s.regs p, flt := { s.flt with telPrev := SMap.clear s.flt.telPrev p } }

/-- The crown counter (R30). -/
def State.now (s : State) : Nat := s.rd Reg.CRN_NOW_CROWN

/-- The crown stitch number (R164). -/
def State.stitch (s : State) : Nat := s.now / 2

/-- A BAR2 table entry (R451). -/
def State.tab (s : State) (o : Nat) : Word := SMap.get (fun _ => 0) s.bar2 o

/-- Write a BAR2 table entry. -/
def State.setTab (s : State) (o : Nat) (v : Word) : State := { s with bar2 := SMap.set (fun _ => 0) s.bar2 o v }

/-- The link engine's hidden state. -/
def State.lk (s : State) (l : Nat) : LinkSt := SMap.get (fun _ => {}) s.links l

/-- Replace a link engine's hidden state. -/
def State.setLk (s : State) (l : Nat) (x : LinkSt) : State :=
  { s with links := SMap.set (fun _ => {}) s.links l x }

/-- A region's hidden clock state; index 16 is the Bonnet. -/
def State.rg (s : State) (g : Nat) : RgnSt := SMap.get (fun _ => {}) s.rgn g

/-- Replace a region's hidden clock state. -/
def State.setRg (s : State) (g : Nat) (x : RgnSt) : State := { s with rgn := SMap.set (fun _ => {}) s.rgn g x }

/-- Append to what the module has sent to the outside. -/
def State.emit (s : State) (e : Emission) : State := { s with egress := s.egress ++ [e] }

/-- Advance the counter that picks fresh free values. -/
def State.tickFree (s : State) : State := { s with freeCtr := s.freeCtr + 1 }

/-- An event counter adds `n` and stops at its maximum with SAT set (R62, R408). -/
def State.count (s : State) (a n : Nat) : State :=
  have c := fget (s.reg a) 47 0 + n
  if 0xFFFFFFFFFFFF ≤ c then s.setReg a (BitVec.ofNat 64 0x8000FFFFFFFFFFFF)
  else s.setReg a (fset (s.reg a) 47 0 c)

/-- The key of a mark among the levels of a cycle. -/
def markKey (f : Fld) : Nat := 64 * f.addr + f.lo

/-- The levels that a mark has met in this cycle are now summed up by `v` (R410). -/
def State.noteLevel (s : State) (f : Fld) (v : Nat) : State :=
  { s with same := { s.same with levels := SMap.set (fun _ => 0) s.same.levels (markKey f) (v + 1) } }

/-- The level that a mark keeps if it is cleared now: the highest, or for a mark of the smallest the lowest, it has met in this cycle,
and `v` where it has met none (R410). -/
def State.levelOr (s : State) (f : Fld) (v : Nat) : Nat :=
  match SMap.get (fun _ => 0) s.same.levels (markKey f) with
  | 0 => v
  | n + 1 => n

/-- Raise a mark to at least `v` (R410). -/
def State.raise (s : State) (f : Fld) (v : Nat) : State :=
  (if s.rd f < v then s.wr f v else s).noteLevel f (max v (s.levelOr f 0))

/-- Lower a mark of the smallest level to at most `v` (R410). -/
def State.lower (s : State) (f : Fld) (v : Nat) : State :=
  (if v < s.rd f then s.wr f v else s).noteLevel f (min v (s.levelOr f v))

/-- Clear a mark to `v`, or to the level it has met in this cycle (R410). -/
def State.clearMark (s : State) (f : Fld) (v : Nat) : State := s.wr f (s.levelOr f v)

/-- Apply one operation for each element of a list, in order. -/
def State.forEach {α : Type} (s : State) (l : List α) (f : State → α → State) : State := l.foldl f s

/-- Apply an operation when a condition holds. -/
def State.when (s : State) (c : Bool) (f : State → State) : State := if c then f s else s

/-- The largest level since the last telemetry report (R413). -/
def State.telRaise (s : State) (k v : Nat) : State :=
  if SMap.get (fun _ => 0) s.flt.telMax k < v then
    { s with flt := { s.flt with telMax := SMap.set (fun _ => 0) s.flt.telMax k v } } else s

/-- The 24 link indices (R13). -/
def allLinks : List Nat := List.range 24

/-- A far link (R13: links 16 to 23). -/
def isFar (l : Nat) : Bool := 16 ≤ l

/-- Departure to landing in stitches: 96 near, 1,024 far (R68). -/
def landDelay (l : Nat) : Nat := if isFar l then 1024 else 96

/-- The class allowance of FLIGHT in stitches (R81). -/
def flightAllow (l : Nat) : Nat := if isFar l then 400 else 40

/-- The grade's smallest Palm divider (R2, R29). -/
def gradeMinN (s : State) : Nat :=
  match s.rd Reg.GEN_FUSE_GRADE with
  | 0 => 10
  | 1 => 11
  | _ => 13

/-- Number of a load state (R309). -/
def State.ldr (s : State) : Nat := s.rd Reg.LDR_STATUS_STATE

/-- CUF_CTRL.RUN. -/
def State.run (s : State) : Bool := s.rdb Reg.CUF_CTRL_RUN

/-- A link's training state (R144). -/
def State.lstate (s : State) (l : Nat) : Nat := s.rd (Reg.LNK_STATUS_STATE l)

/-- A link is UP (R144). -/
def State.isUp (s : State) (l : Nat) : Bool := s.lstate l == 6

/-- A link is inside the mitten (R94). -/
def State.inMitten (s : State) (l : Nat) : Bool := s.rdb (Reg.LNK_SCHED_STATUS_IN_MITTEN l)

/-- A link has a confirmed neighbour: its discovery result is MATCH or DEGRADED (R389). -/
def State.confirmed (s : State) (l : Nat) : Bool :=
  s.rd (Reg.LNK_DISC_RESULT l) == 1 || s.rd (Reg.LNK_DISC_RESULT l) == 6

/-- A near link is a lattice link while it is UP at 8 lanes and in the mitten (R163). -/
def State.isLattice (s : State) (l : Nat) : Bool :=
  !isFar l && s.isUp l && s.rd (Reg.LNK_STATUS_WIDTH l) == 8 && s.inMitten l

/-- Power domain of a register block address (R445): `none` for AON. -/
def domainOf (a : Nat) : Option Nat :=
  if 0x1000000 ≤ a ∧ a < 0x1100000 then some 28
  else if 0x1100000 ≤ a ∧ a < 0x1280000 then
    (have l := (a - 0x1100000) / 0x10000
     if l < 16 then some (24 + l / 4) else some 28)
  else if 0x2000000 ≤ a ∧ a < 0x3000000 then some 28
  else if 0x3100000 ≤ a ∧ a < 0x3200000 then some ((a - 0x3100000) / 0x10000)
  else if 0x4000000 ≤ a ∧ a < 0x4800000 then some (16 + (a - 0x4000000) / 0x100000)
  else if 0x5000000 ≤ a ∧ a < 0x6000000 then some 29
  else none

end Sys2Proof.Machine
end

