-- ==== Sys2Proof/Machine/TimeBase.lean ====
section
/-! DEFINITION. Sys2Proof/Machine/TimeBase.lean: the time bases as functions of local monotonic and the crown (R354, R355,
R361, R363, R364, R369), in 2^-16 ns. -/
namespace Sys2Proof.Machine

/-- A linear function of local monotonic at `m`: its value `v` at `org`, its rate against local monotonic in 2^-32. -/
def linearAt (v org : Nat) (rate : Int) (m : Nat) : Int :=
  have dm : Int := (m : Int) - org
  (v : Int) + dm + dm * rate / 2 ^ 32

/-- Domain 0 (A) or 1 (B). -/
def State.dom (s : State) (d : Nat) : DomSt := if d = 0 then s.time.domA else s.time.domB

/-- Replace a domain's hidden state. -/
def State.setDom (s : State) (d : Nat) (x : DomSt) : State :=
  if d = 0 then { s with time := { s.time with domA := x } } else { s with time := { s.time with domB := x } }

/-- State field of a domain (R361). -/
def domFld (d : Nat) : Fld := if d = 0 then Reg.TIME_STATUS_DOM_A else Reg.TIME_STATUS_DOM_B

/-- A domain's base at local monotonic `m`; none before its first acquisition and while OFF (R354, R361, R372). -/
def State.domAt (s : State) (d m : Nat) : Option Int := (s.dom d).base.map fun b => linearAt b.1 b.2.1 b.2.2 m

/-- A domain is LOCKED (R361). -/
def State.domLocked (s : State) (d : Nat) : Bool := s.rd (domFld d) == 3

/-- RHO of the last accepted bridge message, signed (R368). -/
def State.bridgeRho (s : State) : Int := toSigned 32 (s.rd Reg.TIME_BRIDGE_RATE_RHO)

/-- The bridge's time now (R369). -/
def State.bridgeNow (s : State) : Option Int :=
  s.time.bridge.map fun b =>
    have dc : Int := 65536 * (((s.now : Int) - s.rd Reg.TIME_BRIDGE_CROWN_CROWN))
    (65536 * (s.rd Reg.TIME_BRIDGE_OUT_OUT) + b.2 : Nat) + dc + dc * s.bridgeRho / 2 ^ 32

/-- The bridge is fresh: its last accepted message is less than 2^24 ct old (R370). -/
def State.bridgeFresh (s : State) : Bool :=
  s.time.bridge.isSome && s.now < s.rd Reg.TIME_BRIDGE_CROWN_CROWN + 2 ^ 24

/-- The source in use (TIME_STATUS.ON) at this instant (R363). -/
def State.sourceOf (s : State) (on : Nat) : Option Int :=
  match on with
  | 0 => s.domAt 0 s.time.mono
  | 1 => s.domAt 1 s.time.mono
  | 2 => s.bridgeNow
  | _ => none

/-- The slew limit in 0.1 ppm: 0 acts as 1, above 100 as 100 (R363, R375). -/
def State.slew (s : State) : Nat := max 1 (min 100 (s.rd Reg.TIME_CTRL_SLEW))

/-- The offset d now: it has moved toward 0 at the slew limit since it was last set (R363). -/
def State.dNow (s : State) : Int :=
  have moved : Nat := (s.time.mono - s.time.dOrg) * s.slew / 10000000
  have n := s.time.d.natAbs - moved
  if s.time.d < 0 then -(n : Int) else (n : Int)

/-- Output time in 2^-16 ns: source − d while TRACKING, its linear function in HOLDOVER (R363, R364). -/
def State.outNow (s : State) : Nat :=
  if s.rd Reg.TIME_STATUS_OUT_STATE = 1 then
    (match s.sourceOf (s.rd Reg.TIME_STATUS_ON) with
     | some x => (x - s.dNow).toNat
     | none => 0)
  else (linearAt s.time.outVal s.time.outOrg s.time.outRate s.time.mono).toNat

/-- The crown runs (R30). -/
def State.crownRuns (s : State) : Bool := s.rdb Reg.CRN_STATUS_RUNNING

/-- The base that stamps beacons, in sixteenths: the crown, or local monotonic while FREE (R41). -/
def State.beaconTime (s : State) : Nat := if s.crownRuns then 16 * s.now else s.time.mono / 4096

/-- The tick that frames and LCWs start on: the crown's, or local monotonic's while FREE (R40, R122, log entry 60). -/
def State.wireTick (s : State) : Nat := s.beaconTime / 16

/-- The CROWN word of a record or stamp: the crown, or local monotonic in ns while FREE (R355). -/
def State.crownStamp (s : State) : Nat :=
  if s.rd Reg.CRN_STATUS_STATE = 0 then s.time.mono / 65536 % 2 ^ 64 else s.now

/-- Output time in ns, 0 while INVALID (R355). -/
def State.outStamp (s : State) : Nat :=
  if s.rd Reg.TIME_STATUS_OUT_STATE = 0 then 0 else s.outNow / 65536 % 2 ^ 64

end Sys2Proof.Machine
end

