-- ==== Sys2Proof/Machine/Faults.lean ====
section
/-! DEFINITION. Sys2Proof/Machine/Faults.lean: the fault record, its class, the fault queue, the class actions, the alarm
broadcast and MSI-X (R398 to R406, R448), and the recording of refused accesses (R447). -/
namespace Sys2Proof.Machine

/-- What a raising rule supplies for a record (R401, R402); a field that does not apply holds all ones. -/
structure FaultArgs where
  code : Nat
  block : Nat
  cause : Nat := 0
  sub : Nat := 0
  a : Nat := 0
  b : Nat := 0
  c : Nat := 0
  region : Nat := 0xFF
  link : Nat := 0xFF
  stack : Nat := 0xFF
  tile : Nat := 0xFFFF
  ptile : Nat := 0xFFFF
  pos : Nat := 0xFFFF
  op : Nat := 0xFFFFFFFF
  seam : Option Nat := none
deriving DecidableEq, Repr

/-- The class of a record (R399, R400). -/
def faultClass (s : State) (f : FaultArgs) : Nat :=
  match f.code with
  | 0x0101 => 2
  | 0x0102 => if f.cause = 3 then 1 else 2
  | 0x0103 => 2
  | 0x0201 => 2
  | 0x0202 => 4
  | 0x0203 => 4
  | 0x0204 => 2
  | 0x0205 => 4
  | 0x0206 => 2
  | 0x0301 => 3
  | 0x0302 => 3
  | 0x0303 => 3
  | 0x0304 => 3
  | 0x0305 => 3
  | 0x0401 =>
    if (f.cause ∈ [2, 3, 4, 6, 7, 8, 10, 11]) ∧ (s.ldr = 7 ∨ s.ldr = 8) then 4 else 2
  | 0x0402 => 2
  | 0x0501 => 2
  | 0x0502 => if f.cause = 2 then 5 else 2
  | 0x0503 => 5
  | 0x0601 => 2
  | 0x0602 => 0
  | 0x0701 => if s.ldr = 8 then (if f.cause = 8 then 3 else 4) else 0
  | 0x0702 => 2
  | _ => 0

/-- The eight words of a fault record (R401, R402). -/
def recordWords (s : State) (f : FaultArgs) (cls seq : Nat) : List Nat :=
  have mono := b2n (s.rd Reg.CRN_STATUS_STATE = 0)
  have noOut := b2n (s.rd Reg.TIME_STATUS_OUT_STATE = 0)
  have seam := match f.seam with
    | some k => k
    | none => s.rd Reg.CUF_SEAM_SEGMENT
  [ f.code + 2 ^ 16 * cls + 2 ^ 24 * (mono + 2 * noOut) + 2 ^ 32 * (seq % 2 ^ 32),
    s.crownStamp,
    s.outStamp,
    s.rd Reg.RTE_SELF_ID + 2 ^ 16 * (s.rd Reg.CUF_MITTEN_MITTEN) + 2 ^ 32 * f.block + 2 ^ 40 * f.region
      + 2 ^ 48 * f.link + 2 ^ 56 * f.stack,
    f.tile + 2 ^ 16 * f.ptile + 2 ^ 32 * f.pos,
    f.op + 2 ^ 32 * (seam % 2 ^ 32),
    f.cause + 2 ^ 8 * f.sub + 2 ^ 16 * (f.a % 2 ^ 16) + 2 ^ 32 * (f.b % 2 ^ 32),
    f.c % 2 ^ 64 ]

/-- Words joined into one number, the first lowest. -/
def joinWords : List Nat → Nat
  | [] => 0
  | w :: ws => w + 2 ^ 64 * joinWords ws

/-- A loose packet's route word (R157), as a 256-bit number. -/
def routeWord (src pkt born dstRank dstQ srcRank rtag replyN kind hdr : Nat) : Nat :=
  hdr % 2 ^ 144 + 2 ^ 144 * (kind % 16) + 2 ^ 148 * (replyN % 256) + 2 ^ 156 * (rtag % 2 ^ 16) + 2 ^ 172 * (srcRank % 2 ^ 16)
    + 2 ^ 188 * (dstQ % 256) + 2 ^ 196 * (dstRank % 2 ^ 16) + 2 ^ 212 * (born % 2 ^ 16) + 2 ^ 228 * (pkt % 2 ^ 16)
    + 2 ^ 244 * (src % 4096)

/-- FAULT_N: asserted while any condition of R430 holds, shown in PWR_FAULTN.ASSERTED. -/
def State.updFaultN (s : State) : State :=
  s.wrb Reg.PWR_FAULTN_ASSERTED
    (s.pwr.closed && (s.pwr.aonHeld || !s.boot.ended.contains 1 || s.rd Reg.GEN_BOOT_STATUS_STOP_CAUSE != 0
      || s.rdb Reg.FLT_STATUS_MODULE_FATAL
      || (s.rdb Reg.FLT_STATUS_ANY && s.rd Reg.PWR_FAULTN_CLASS ≤ s.rd Reg.FLT_STATUS_MAX_CLASS)
      || (s.rdb Reg.PWR_FAULTN_READY_EN && s.rd Reg.GEN_BOOT_STATUS_READY == 3)))

/-- The Palm halts: no further launch (R217). -/
def State.palmHalt (s : State) : State := s.wr Reg.PLM_STATUS_HALTED 1

/-- Scheduled traffic ends from the next stitch, the Palm halts, and a RUNNING load becomes STOPPED (R117, R398). -/
def State.endScheduled (s : State) : State :=
  have s := { s with cuff := { s.cuff with stopped := true } }
  have s := s.palmHalt.wr Reg.CUF_STATUS_RUNNING 0
  have s := if s.ldr = 8 then s.wr Reg.LDR_STATUS_STATE 9 else s
  s.wr Reg.FLT_STATUS_MITTEN_STOPPED 1

/-- The links inside the mitten whose neighbour is known, with the neighbour's SEAT (R406). -/
def State.mittenNbrs (s : State) : List (Nat × Nat) :=
  allLinks.filterMap fun l =>
    match (s.lk l).ident with
    | some i => if s.inMitten l then some (l, i.2.2.1) else none
    | none => none

/-- How the one copy for a neighbour leaves (R406): over its lattice links, or the lowest near link, or the lowest far
link. -/
def State.alarmRoute (s : State) (seat : Nat) : Nat × List Nat :=
  have ls := (s.mittenNbrs.filter fun p => p.2 == seat).map Prod.fst
  have lat := ls.filter s.isLattice
  if lat ≠ [] then (0, lat)
  else
    have near := ls.filter fun l => !isFar l
    if near ≠ [] then (1, near.take 1) else (2, ls.take 1)

/-- Hand one alarm packet to each distinct in-mitten neighbour except `skip` (R406, R407). -/
def State.sendAlarm (s : State) (origin oseq rec : Nat) (skip : Option Nat) : State :=
  have seats := ((s.mittenNbrs.map Prod.snd).dedup).filter fun x => some x != skip
  s.forEach seats fun s seat =>
    have rt := s.alarmRoute seat
    have hdr := 0x01 * 2 ^ 136 + 2 ^ 124 * (origin % 4096) + 2 ^ 92 * (oseq % 2 ^ 32)
    have rw := routeWord (s.rd Reg.RTE_SELF_ID) s.route.pkt (s.now / 256) 0xFFFF 0xF3 0xFFFF 0 0 0 hdr
    have f : Flit := { cls := 1, vc := 0, epoch := s.rd Reg.RTE_EPOCH_INJECT, mitten := s.rd Reg.CUF_MITTEN_MITTEN,
                       dest := seat, payload := rw + 2 ^ 256 * rec }
    have a : AlarmOut := { kind := rt.1, links := rt.2, flit := f }
    ({ s with route := { s.route with alarms := s.route.alarms ++ [a], pkt := (s.route.pkt + 1) % 2 ^ 16 } }).count
      Reg.FLT_ALARM_TX_CNT 1

/-- Put a key into the table of the last 64 keys (R407). -/
def State.holdKey (s : State) (k : Nat × Nat) : State :=
  { s with flt := { s.flt with keys := (k :: s.flt.keys).take 64 } }

/-- The actions of classes MITTEN_FATAL and MODULE_FATAL beyond the record (R398, R406). -/
def State.fatalActions (s : State) (cls seq rec : Nat) : State :=
  have s := (s.wr Reg.GEN_BOOT_STATUS_FAULT_SINCE_READY 1).endScheduled
  have s :=
    if s.rd Reg.CUF_MITTEN_MITTEN ≠ 0 then
      (s.sendAlarm (s.rd Reg.RTE_SELF_ID) seq rec none).holdKey (s.rd Reg.RTE_SELF_ID, seq)
    else s
  if cls = 5 then
    have first := s.pwr.fatalAt.isNone && s.pwr.shut.isNone && !s.rdb Reg.PWR_STATUS_SHUTDOWN
    { (s.wr Reg.FLT_STATUS_MODULE_FATAL 1) with pwr := { s.pwr with fatalAt := if first then some s.cyc else s.pwr.fatalAt } }
  else s

/-- Class actions of R398 other than the record itself. -/
def State.classActions (s : State) (cls seq rec : Nat) : State :=
  if cls < 2 then s
  else if cls = 2 then s.wr Reg.GEN_BOOT_STATUS_FAULT_SINCE_READY 1
  else if cls = 3 then (s.wr Reg.GEN_BOOT_STATUS_FAULT_SINCE_READY 1).palmHalt
  else s.fatalActions cls seq rec

/-- Send MSI-X vector 0, or set its pending bit while it is masked or MSI-X is disabled (R448, R455). -/
def State.msixDue (s : State) : State :=
  if s.flt.msixMasked || !s.flt.msixEnable then { s with flt := { s.flt with msixPending := true } }
  else { s.emit .msix with flt := { s.flt with lastMsix := some s.cyc } }

/-- A record of an enabled class entered the queue: MSI-X, at most once per 1,024 ct (R405). -/
def State.msixRecord (s : State) (cls : Nat) : State :=
  if nbit (s.rd Reg.FLT_CTRL_IRQ_CLASS) cls then
    (match s.flt.lastMsix with
     | some t => if s.cyc < t + 1024 then s else s.msixDue
     | none => s.msixDue)
  else s

/-- Write the eight words of a record into a queue slot (R403). -/
def State.writeSlot (s : State) (slot : Nat) (ws : List Nat) : State :=
  s.forEach (List.range 8) fun s w => s.setReg (Reg.FLT_QUEUE (8 * slot + w)) (BitVec.ofNat 64 (ws.getD w 0))

/-- The newest kept record of class CORRECTED or INFO, by its slot, looking back `n` places from index `i` (R404). -/
def State.findMinor (s : State) (i : Nat) : Nat → Option Nat
  | 0 => none
  | n + 1 =>
    have j := (i + 2047) % 2048
    if fget (s.reg (Reg.FLT_QUEUE (8 * (j % 1024)))) 23 16 ≤ 1 then some (j % 1024) else State.findMinor s j n

/-- Records that the fault queue holds (R403). -/
def State.fltHeld (s : State) : Nat := (s.rd Reg.FLT_TAIL_IDX + 2048 - s.rd Reg.FLT_HEAD_IDX) % 2048

/-- The place of a record among those of one cycle, the least first: descending class, then ascending code, then ascending link, region
or tile index (R405). -/
def recordRank (f : FaultArgs) (cls : Nat) : Nat :=
  2 ^ 48 * (5 - cls) + 2 ^ 32 * f.code + 2 ^ 24 * f.link + 2 ^ 16 * f.region + f.tile

/-- Records of this cycle at the queue's tail that come after one of rank `k` (R405). -/
def State.behind (s : State) (k : Nat) : Nat :=
  if s.fltHeld < 1024 then min (s.same.recs.filter fun x => k < x).length s.fltHeld else 0

/-- A SEQ of the `n` records from `lo` is one higher. -/
def bumpSeq (lo n q : Nat) : Nat := if (q + 2 ^ 32 - lo) % 2 ^ 32 < n then (q + 1) % 2 ^ 32 else q

/-- An alarm packet of module `self` carries its record's new SEQ, in its header and in the record (R406). -/
def bumpAlarm (self lo n : Nat) (a : AlarmOut) : AlarmOut :=
  have p := a.flit.payload
  have q := p / 2 ^ 92 % 2 ^ 32
  if p / 2 ^ 124 % 2 ^ 12 = self then
    { a with flit := { a.flit with payload := p - q * (2 ^ 92 + 2 ^ 288) + bumpSeq lo n q * (2 ^ 92 + 2 ^ 288) } }
  else a

/-- The record in slot `i` moves on to slot `i + 1` of the queue, with the next SEQ. -/
def State.moveRecord (s : State) (i : Nat) : State :=
  s.writeSlot ((i + 1) % 1024) ((List.range 8).map fun w =>
    have v := s.reg (Reg.FLT_QUEUE (8 * (i % 1024) + w))
    (if w = 0 then fset v 63 32 (fget v 63 32 + 1) else v).toNat)

/-- What holds the SEQ of one of the `n` records from `lo` follows it to the next: alarms, their keys and deferred actions (R97, R406,
R407). -/
def State.bumpSeqs (s : State) (lo n : Nat) : State :=
  have self := s.rd Reg.RTE_SELF_ID
  { s with
    route := { s.route with alarms := s.route.alarms.map (bumpAlarm self lo n) },
    flt := { s.flt with keys := s.flt.keys.map fun k => if k.1 = self then (k.1, bumpSeq lo n k.2) else k },
    cuff := { s.cuff with deferred := s.cuff.deferred.map fun d =>
      (d.1, bumpSeq lo n d.2.1, d.2.2 - 2 ^ 32 * d.2.1 + 2 ^ 32 * bumpSeq lo n d.2.1) } }

/-- The last `n` records of the queue make room for one of class `cls` and SEQ `lo` before them: each moves on by a slot and a SEQ (R405).
Only a record of class MITTEN_FATAL or above can go before another that others refer to. -/
def State.makeRoom (s : State) (cls lo n : Nat) : State :=
  have tail := s.rd Reg.FLT_TAIL_IDX
  have s := s.forEach (List.range n) fun s j => s.moveRecord (tail + 2047 - j)
  if 4 ≤ cls then s.bumpSeqs lo n else s

/-- A record of rank `k` stands among the last `n` of the cycle's. -/
def State.noteRecord (s : State) (k n : Nat) : State :=
  have m := s.same.recs.length - n
  { s with same := { s.same with recs := s.same.recs.take m ++ k :: s.same.recs.drop m } }

/-- Enter a record into the fault queue, before the last `n`, or displace or discard as R404 says; answers whether it entered. A queue that
has no room takes the records of a cycle as they come (log entry 36). -/
def State.enqueueRecord (s : State) (cls rank n : Nat) (ws : List Nat) : State × Bool :=
  have tail := s.rd Reg.FLT_TAIL_IDX
  have held := s.fltHeld
  if held < 1024 then
    ((((s.writeSlot ((tail + 2048 - n) % 1024) ws).wr Reg.FLT_TAIL_IDX (tail + 1)).wr Reg.FLT_STATUS_COUNT (held + 1)).noteRecord
      rank n, true)
  else
    have s := s.flag Reg.FLT_STATUS_OVERFLOW
    have s : State := { s with same := { s.same with recs := [] } }
    if cls ≤ 2 then (s.count Reg.FLT_LOST_CNT 1, false)
    else
      match s.findMinor tail 1024 with
      | some slot => ((s.writeSlot slot ws).count Reg.FLT_LOST_CNT 1, true)
      | none => (s.count Reg.FLT_LOST_CNT 1, false)

/-- Make the record of a fault: SEQ, queue, summary, FLT_FIRST, MSI-X. Among the records of one cycle it takes its place, and its SEQ, by
class, code and index (R405). Answers the state, the class, the SEQ and the record as a number (R398, R401, R403 to R405). -/
def State.makeRecord (s : State) (f : FaultArgs) : State × Nat × Nat × Nat :=
  have cls := faultClass s f
  have rank := recordRank f cls
  have n := s.behind rank
  have next := s.rd Reg.FLT_TAIL_NEXT_SEQ
  have seq := (next + 2 ^ 32 - n) % 2 ^ 32
  have ws := recordWords s f cls seq
  have first : Bool := s.rd Reg.FLT_FIRST_VALID == 0 || decide ((s.rd Reg.FLT_FIRST_SEQ + 2 ^ 32 - seq) % 2 ^ 32 < n)
  have s := (s.wr Reg.FLT_TAIL_NEXT_SEQ (next + 1)).count Reg.FLT_RECORD_CNT 1
  have s := (s.wr Reg.FLT_STATUS_ANY 1).raise Reg.FLT_STATUS_MAX_CLASS cls
  have s := s.telRaise 3 (cls + 1)
  have q := (if n = 0 then s else s.makeRoom cls seq n).enqueueRecord cls rank n ws
  have s := q.1
  have s :=
    if 3 ≤ cls ∧ first then
      ((s.wr Reg.FLT_FIRST_SEQ seq).wr Reg.FLT_FIRST_CLASS cls).wr Reg.FLT_FIRST_VALID 1
    else s
  have s := if q.2 then s.msixRecord cls else s
  (s, cls, seq, joinWords ws)

/-- A detected fault: one record, then its class's action (R23, R398). -/
def State.fault (s : State) (f : FaultArgs) : State :=
  have r := s.makeRecord f
  (r.1.classActions r.2.1 r.2.2.1 r.2.2.2).updFaultN

/-- A fault whose rule names a later point: the record is made at detection and the class's actions wait for the opening
seam of segment `seg` (R97, R306, R344, R398). A record below MITTEN_FATAL acts at once. -/
def State.faultAt (s : State) (f : FaultArgs) (seg : Nat) : State :=
  have r := s.makeRecord f
  if r.2.1 < 4 then (r.1.classActions r.2.1 r.2.2.1 r.2.2.2).updFaultN
  else { r.1 with cuff := { r.1.cuff with deferred := r.1.cuff.deferred ++ [(seg, r.2.2.1, r.2.2.2)] } }.updFaultN

/-- Record a refused access in GEN_ACC_ERR (R447): the first since VALID was clear; a further one sets OVERRUN. PATH is
0 PCIe BAR0, 1 PCIe BAR2, 2 SMBus, 3 management; KIND 1 SIZE, 2 OFF, 3 MGMT. -/
def State.accErr (s : State) (path kind : Nat) (write : Bool) (offset : Nat) : State :=
  if s.rdb Reg.GEN_ACC_ERR_VALID then s.flag Reg.GEN_ACC_ERR_OVERRUN
  else
    ((((s.flag Reg.GEN_ACC_ERR_VALID).wr Reg.GEN_ACC_ERR_PATH path).wr Reg.GEN_ACC_ERR_KIND kind).wrb
      Reg.GEN_ACC_ERR_WRITE write).wr Reg.GEN_ACC_ERR_OFFSET offset

end Sys2Proof.Machine
end

