-- ==== Sys2Proof/Machine/Ecc.lean ====
section
/-! DEFINITION. Sys2Proof/Machine/Ecc.lean: the word code (R277, R278), the poison pattern (R279), the rate limit of
ECC_UNCORRECTABLE (R280), and reads and writes of HBM words (R275, R281, R290). -/
namespace Sys2Proof.Machine

/-- Multiply by α in GF(2^8) with polynomial 0x11D (R277). -/
def gfDouble (a : Nat) : Nat := if 128 ≤ a then (2 * a) ^^^ 0x11D else 2 * a

/-- Product in GF(2^8), taking `n` bits of `b`. -/
def gfMulN (a b : Nat) : Nat → Nat
  | 0 => 0
  | n + 1 => (if b % 2 = 1 then a else 0) ^^^ gfMulN (gfDouble a) (b / 2) n

/-- Product in GF(2^8) (R277). -/
def gfMul (a b : Nat) : Nat := gfMulN a b 8

/-- α^p (R277). -/
def gfPow : Nat → Nat
  | 0 => 1
  | p + 1 => gfDouble (gfPow p)

/-- One step of the division by g(x) (R277). -/
def checkStep (c : Nat × Nat × Nat × Nat) (b : Byte) : Nat × Nat × Nat × Nat :=
  have f := c.1 ^^^ b.toNat
  (c.2.1 ^^^ gfMul 0x0F f, c.2.2.1 ^^^ gfMul 0x36 f, c.2.2.2 ^^^ gfMul 0x78 f, gfMul 0x40 f)

/-- The four check bytes of data bytes (R277). -/
def checkBytes (d : List Byte) : List Byte :=
  have c := d.foldl checkStep (0, 0, 0, 0)
  [BitVec.ofNat 8 c.1, BitVec.ofNat 8 c.2.1, BitVec.ofNat 8 c.2.2.1, BitVec.ofNat 8 c.2.2.2]

/-- The stored form of 32 data bytes (R277). -/
def encodeWord (d : List Byte) : List Byte := d ++ checkBytes d

/-- Syndrome S_j of a stored word (R278). -/
def syndrome (w : List Byte) (j : Nat) : Nat := w.foldl (fun a b => gfMul a (gfPow j) ^^^ b.toNat) 0

/-- What reading a stored word finds (R278): as stored, one byte corrected (its index), or uncorrectable. -/
inductive EccOut where
  | ok (data : List Byte)
  | corrected (byte : Nat) (stored : List Byte)
  | bad
deriving DecidableEq, Repr

/-- The power p of a single-byte error, if the syndromes name one (R278). -/
def errorPower (s0 s1 s2 s3 : Nat) : Option Nat :=
  (List.range 36).find? fun p =>
    have a := gfPow p
    gfMul s0 a == s1 && gfMul s1 a == s2 && gfMul s2 a == s3

/-- Read a stored 36-byte word (R278). -/
def decodeWord (w : List Byte) : EccOut :=
  have s0 := syndrome w 0
  have s1 := syndrome w 1
  have s2 := syndrome w 2
  have s3 := syndrome w 3
  if s0 = 0 ∧ s1 = 0 ∧ s2 = 0 ∧ s3 = 0 then .ok (w.take 32)
  else if s0 = 0 then .bad
  else
    match errorPower s0 s1 s2 s3 with
    | some p =>
      have i := 35 - p
      .corrected i (w.set i (BitVec.ofNat 8 ((w.getD i 0).toNat ^^^ s0)))
    | none => .bad

/-- The data bytes of the poison pattern (R279). -/
def poisonBytes : List Byte := (List.range 32).map fun i => BitVec.ofNat 8 (0xC5 ^^^ i)

/-- A word as a reader sees it: its data bytes as a number, or poison (R279). -/
abbrev RWord := Option Nat

/-- What a reader makes of corrected data bytes (R279). -/
def wordOf (d : List Byte) : RWord := if d = poisonBytes then none else some (ofLeBytes d)

/-- The data bytes a writer stores (R279). -/
def bytesOf (w : RWord) : List Byte :=
  match w with
  | some n => leBytes 32 n
  | none => poisonBytes

/-- Raise ECC_UNCORRECTABLE for a store instance, at most once in each window of 2^21 ct (R280). `key` names the
instance. -/
def State.eccFault (s : State) (key : Nat) (f : FaultArgs) : State :=
  have win := s.now / 2 ^ 21 + 1
  if SMap.get (fun _ => 0) s.mem.eccWin key = win then s
  else { s with mem := { s.mem with eccWin := SMap.set (fun _ => 0) s.mem.eccWin key win } }.fault
    { f with code := 0x0305 }

/-- The number of a store in ECC_UNCORRECTABLE (R402). -/
def storeCode (x : Store) : Nat :=
  match x with
  | .sram | .sramCell => 1
  | .crossing => 2
  | .sendQueue | .recvQueue | .hold | .equaliser | .combine => 3
  | .replay => 4
  | .turn | .vcBuf | .ni => 5
  | .owed | .expecting | .program => 6
  | .rank | .route => 7
  | .leadQueue => 8
  | .bonnet => 10

/-- The instances that R280 limits apart, by store: one key for the stores that form one instance. -/
def storeKey (x : Store) (inst : Nat) : Nat :=
  match x with
  | .sram | .sramCell => 0x10000 + inst
  | .crossing => 0x100 + inst
  | .sendQueue | .recvQueue => 0x200 + inst
  | .hold => 0x220 + inst
  | .equaliser => 0x240 + inst
  | .combine => 0x260 + inst
  | .replay => 0x280 + inst
  | .vcBuf => 0x2A0 + inst
  | .turn => 0x300
  | .ni => 0x301
  | .owed | .expecting | .program => 0x2C0 + inst
  | .rank => 0x302
  | .route => 0x304 + inst
  | .leadQueue => 0x900 + inst
  | .bonnet => 0x310

/-- The block of a store, in the coding of R401. -/
def storeBlock (x : Store) : Nat :=
  match x with
  | .sram | .sramCell | .crossing => 9
  | .turn | .ni | .rank | .route => 7
  | .leadQueue => 10
  | .bonnet => 11
  | _ => 6

/-- A store of one link. -/
def storeOnLink (x : Store) : Bool :=
  x ∈ [Store.sendQueue, Store.recvQueue, Store.hold, Store.equaliser, Store.combine, Store.replay, Store.vcBuf, Store.owed,
       Store.expecting, Store.program]

/-- The counter of a store's corrected words (R280); the Bonnet's is its own (R353). -/
def storeCorrCnt (x : Store) (inst : Nat) : Nat :=
  match x with
  | .crossing => Reg.RGN_XBUF_CORR_CNT inst
  | .leadQueue => Reg.HBM_CORR_CNT inst
  | .bonnet => Reg.BON_ECC_CORR_CNT
  | _ => Reg.CUF_ECC_CORR_CNT

/-- What a reader finds of 32 data bytes `d` stored with an error pattern (R277, R278). -/
def upsetWord (d mask : Nat) : EccOut :=
  decodeWord (List.zipWith (fun a b => a ^^^ b) (encodeWord (leBytes 32 d)) (leBytes 36 mask))

/-- The errors that an item of a store holds. -/
def State.upsetsOf (s : State) (x : Store) (inst q item : Nat) : List Upset :=
  s.mem.upsets.filter fun u => u.store == x && u.inst == inst && u.queue == q && u.item == item

/-- The errors of an item go with it. -/
def State.dropUpsets (s : State) (x : Store) (inst q item : Nat) : State :=
  if s.mem.upsets.isEmpty then s
  else { s with mem := { s.mem with
    upsets := s.mem.upsets.filter fun u => !(u.store == x && u.inst == inst && u.queue == q && u.item == item) } }

/-- The errors of the lists, arrivals and replay buffer of failed member `x` go with them to the spare `y` (R90, R151). -/
def State.moveUpsets (s : State) (x y : Nat) : State :=
  if s.mem.upsets.isEmpty then s
  else { s with mem := { s.mem with
    upsets := s.mem.upsets.map fun u =>
      if u.inst ≠ x then u
      else if u.store = .replay then { u with inst := y, queue := u.queue + 1 }
      else if u.store ∈ [Store.owed, Store.expecting, Store.equaliser, Store.combine] then { u with inst := y } else u } }

/-- A link's queues, lists and buffers are emptied, and their errors with them; those of its programs stay. -/
def State.clearUpsets (s : State) (l : Nat) : State :=
  if s.mem.upsets.isEmpty then s
  else { s with mem := { s.mem with
    upsets := s.mem.upsets.filter fun u => u.inst != l || !storeOnLink u.store || u.store == .program } }

/-- Stores go without power, or are reset, and their errors with them. -/
def State.wipeUpsets (s : State) (gone : Upset → Bool) : State :=
  if s.mem.upsets.isEmpty then s else { s with mem := { s.mem with upsets := s.mem.upsets.filter fun u => !gone u } }

/-- ECC_UNCORRECTABLE for word `w` of a store (R280, R402). -/
def State.storeFault (s : State) (x : Store) (inst w : Nat) : State :=
  s.eccFault (storeKey x inst)
    { code := 0x0305, block := storeBlock x, cause := storeCode x, a := inst, c := w,
      link := if storeOnLink x then inst else 0xFF, region := if x = .crossing then inst else 0xFF,
      stack := if x = .leadQueue then inst else 0xFF }

/-- Word `k` of a number of 256-bit words, replaced. -/
def setWord (n k d : Nat) : Nat := n % 2 ^ (256 * k) + 2 ^ (256 * k) * d + 2 ^ (256 * (k + 1)) * (n / 2 ^ (256 * (k + 1)))

/-- One word of an item is read under an error (R278): the state, the item's words as read, and whether one was uncorrectable.
Word 12 of a flit holds its header. -/
def State.readUpset (a : State × Nat × Bool) (u : Upset) : State × Nat × Bool :=
  match upsetWord (nbits a.2.1 (256 * u.word + 255) (256 * u.word)) u.mask with
  | .ok d => (a.1, setWord a.2.1 u.word (ofLeBytes d), a.2.2)
  | .corrected _ st => (a.1.count (storeCorrCnt u.store u.inst) 1, setWord a.2.1 u.word (ofLeBytes (st.take 32)), a.2.2)
  | .bad => (a.1.storeFault u.store u.inst u.word, a.2.1, true)

/-- The words of an item as a reader finds them (R278, R280). -/
def State.guardWords (s : State) (x : Store) (inst q item n : Nat) : State × Nat × Bool :=
  if s.mem.upsets.isEmpty then (s, n, false)
  else (s.upsetsOf x inst q item).foldl State.readUpset (s, n, false)

/-- A flit read from a store (R280): corrected, or poisoned when a word of it is uncorrectable (R79). -/
def State.guardFlit (s : State) (x : Store) (inst q item : Nat) (f : Flit) : State × Flit :=
  have r := s.guardWords x inst q item f.payload
  (r.1, if r.2.2 then { f with payload := 0, void := true, poison := true } else { f with payload := r.2.1 % 2 ^ 3072 })

/-- A flit read from a store that it leaves. -/
def State.takeFlit (s : State) (x : Store) (inst q item : Nat) (f : Flit) : State × Flit :=
  have r := s.guardFlit x inst q item f
  (r.1.dropUpsets x inst q item, r.2)

/-- An entry of a list, program or table read from its store (R280): the entry as found, none when it is uncorrectable. -/
def State.guardEntry (s : State) (x : Store) (inst q item : Nat) (e : Word) : State × Option Word :=
  have r := s.guardWords x inst q item e.toNat
  (r.1, if r.2.2 then none else some (BitVec.ofNat 64 r.2.1))

/-- Entry `i` of a BAR2 table whose words hold four entries, read from its store (R280): 0, which is not VALID, when its word is
uncorrectable. `e` is the entry as it was written. -/
def State.guardTab (s : State) (x : Store) (inst i : Nat) (e : Word) : State × Word :=
  have r := s.guardWords x inst 0 (i / 4) (e.toNat * 2 ^ (64 * (i % 4)))
  (r.1, if r.2.2 then 0 else BitVec.ofNat 64 (r.2.1 / 2 ^ (64 * (i % 4))))

/-- Byte address of a tile's SRAM word in the store. -/
def sramAddr (p w : Nat) : Nat := 36 * (12288 * p + w)

/-- Words in a stack (R275). -/
def stackWords : Nat := 2 ^ 31

/-- A stack is UP (R288). -/
def State.stackUp (s : State) (k : Nat) : Bool := s.rd (Reg.HBM_STATUS_STATE k) == 1

/-- Capture an error event of a stack (R281, R292). -/
def State.eccLast (s : State) (k kind source byte word : Nat) : State :=
  (((s.wr (Reg.HBM_ECC_LAST_KIND k) kind).wr (Reg.HBM_ECC_LAST_SOURCE k) source).wr (Reg.HBM_ECC_LAST_BYTE k) byte).wr
    (Reg.HBM_ECC_LAST_WORD k) word

/-- The 36 stored bytes of HBM word `w` of the module (R275, R276). -/
def State.hbmStored (s : State) (w : Nat) : List Byte := s.hbm.readBytes (36 * w) 36

/-- Store 36 bytes as HBM word `w`. -/
def State.hbmStore (s : State) (w : Nat) (bs : List Byte) : State :=
  { s with hbm := s.hbm.writeBytes (36 * w) bs }

/-- An uncorrectable HBM read (R281): the fault, the poison pattern written, and the read-back, which fails for a word
whose cells are defective and makes it HARD. -/
def State.hbmBad (s : State) (w source : Nat) : State :=
  have k := w / stackWords
  have s := (s.count (Reg.HBM_UNCORR_CNT k) 1).eccLast k 2 source 0 (w % stackWords)
  have s := s.eccFault (0x900 + k) { code := 0x0305, block := 10, cause := 9, sub := source, a := k, c := w % stackWords,
                                     stack := k }
  have s := s.hbmStore w (encodeWord poisonBytes)
  if w ∈ s.mem.defect then
    ({ s with mem := { s.mem with hard := w :: s.mem.hard } }).eccLast k 2 2 0 (w % stackWords)
  else s

/-- A corrected read is counted, once for a word in a cycle, and captured (R281, R291). -/
def State.hbmFixed (s : State) (w source byte : Nat) : State :=
  have k := w / stackWords
  have s := s.eccLast k 1 source byte (w % stackWords)
  if w ∈ s.same.fixed then s
  else { s.count (Reg.HBM_CORR_CNT k) 1 with same := { s.same with fixed := w :: s.same.fixed } }

/-- Read one HBM word of the module by `source` (0 a read, 1 the scrub): poison outside an UP stack (R290), HARD words
poisoned (R281), corrections counted and written back later (R281); a word corrected back to the poison pattern counts as poison
(R279). -/
def State.hbmRead (s : State) (w source : Nat) : State × RWord :=
  have k := w / stackWords
  if 8 ≤ k then (s, none)
  else if !s.stackUp k then (s.count (Reg.HBM_UNCORR_CNT k) 1, none)
  else
    have s := s.count (Reg.HBM_RD_WORD_CNT k) 1
    if w ∈ s.mem.hard then
      have s := (s.count (Reg.HBM_UNCORR_CNT k) 1).eccLast k 3 source 0 (w % stackWords)
      (s.eccFault (0x900 + k) { code := 0x0305, block := 10, cause := 9, sub := source, a := k, c := w % stackWords,
                                stack := k }, none)
    else
      match decodeWord (s.hbmStored w) with
      | .ok d => (s, wordOf d)
      | .corrected i st =>
        have s : State := { s with mem := { s.mem with writeBack := if w ∈ s.mem.writeBack then s.mem.writeBack
                                                                    else s.mem.writeBack ++ [w] } }
        (if st.take 32 = poisonBytes then s else s.hbmFixed w source i, wordOf (st.take 32))
      | .bad => (s.hbmBad w source, none)

/-- Write one HBM word of the module: discarded outside an UP stack (R290). -/
def State.hbmWrite (s : State) (w : Nat) (v : RWord) : State :=
  have k := w / stackWords
  if 8 ≤ k then s
  else if !s.stackUp k then s.count (Reg.HBM_UNCORR_CNT k) 1
  else (s.count (Reg.HBM_WR_WORD_CNT k) 1).hbmStore w (encodeWord (bytesOf v))

/-- A word read passes lead queue `q` of its stack, where it can be corrected or lost (R278, R280, R283). -/
def State.leadPass (s : State) (w q : Nat) (v : RWord) : State × RWord :=
  match v with
  | none => (s, none)
  | some n =>
    have k := w / stackWords
    have r := s.guardWords .leadQueue k q (w % 2048) n
    have s := r.1.dropUpsets .leadQueue k q (w % 2048)
    if r.2.2 then (s.count (Reg.HBM_UNCORR_CNT k) 1, none) else (s, wordOf (leBytes 32 r.2.1))

/-- Read consecutive HBM words through lead queue `q`. -/
def State.leadReadN (s : State) (q w : Nat) : Nat → State × List RWord
  | 0 => (s, [])
  | n + 1 =>
    have r := s.hbmRead w 0
    have v := r.1.leadPass w q r.2
    have t := v.1.leadReadN q (w + 1) n
    (t.1, v.2 :: t.2)

/-- The mark of lead queue `q` after `n` words of a stack have passed it: a free fill of it (R283, R292; log entry 63). -/
def State.leadMark (s : State) (k q n : Nat) : State :=
  if n = 0 ∨ 8 ≤ k ∨ !s.stackUp k then s
  else s.tickFree.raise (Reg.HBM_LQ_HWM k q) (1 + Config.leadFill s.freeCtr % min n 2048)

/-- Words of the bursts that `n` words from word `w` touch (R275). -/
def burstWords (w n : Nat) : Nat := if n = 0 then 0 else 8 * ((w + n - 1) / 8 + 1 - w / 8)

/-- A client under a cap of stack `k` takes words from its token bucket; what the bucket lacks waits (R284). Class 0 is the Bonnet's
reads and writes, class 1 lead queue 15, write-backs and host writes. -/
def State.capUse (s : State) (k cls n : Nat) : State :=
  if n = 0 ∨ 8 ≤ k ∨ !s.stackUp k then s
  else
    have tok := SMap.get (fun _ => 256) s.mem.capTok (2 * k + cls)
    have wait := SMap.get (fun _ => 0) s.mem.capWait (2 * k + cls)
    { s with mem := { s.mem with capTok := SMap.set (fun _ => 256) s.mem.capTok (2 * k + cls) (tok - n),
                                 capWait := SMap.set (fun _ => 0) s.mem.capWait (2 * k + cls) (wait + (n - tok)) } }

/-- The buckets fill by one tick's words, a burst of 256 at most, and a client that waits in the tick is counted once (R284). -/
def State.capTick (s : State) : State :=
  s.forEach s.mem.capTok fun s e =>
    have k := e.1 / 2
    have rate := if e.1 % 2 = 0 then s.rd (Reg.HBM_CAP_BONNET k) else s.rd (Reg.HBM_CAP_OTHER k)
    have wait := SMap.get (fun _ => 0) s.mem.capWait e.1
    have s := if wait = 0 then s else s.count (Reg.HBM_CAP_WAIT_CNT k) 1
    { s with mem := { s.mem with capTok := SMap.set (fun _ => 256) s.mem.capTok e.1 (min 256 (e.2 + rate - wait)),
                                 capWait := SMap.set (fun _ => 0) s.mem.capWait e.1 (wait - (e.2 + rate)) } }

/-- Read `n` consecutive HBM words through lead queue `q` (R283): 0 to 11 the Palm's, 12 the automatic fill, 13 op stream, arguments
and segment table, 14 the Bonnet, 15 host, management and loose traffic; the last two are under caps (R284). -/
def State.hbmReadN (s : State) (q w n : Nat) : State × List RWord :=
  have k := w / stackWords
  have s := if q = 14 then s.capUse k 0 (burstWords w n) else if q = 15 then s.capUse k 1 (burstWords w n) else s
  have r := s.leadReadN q w n
  (r.1.leadMark k q n, r.2)

/-- Read HBM words for the Palm: through one of its twelve lead queues (R283; log entry 63). -/
def State.hbmReadPalm (s : State) (w n : Nat) : State × List RWord :=
  s.tickFree.hbmReadN (Config.leadQueue s.freeCtr % 12) w n

/-- Write consecutive HBM words. -/
def State.hbmWriteN (s : State) (w : Nat) : List RWord → State
  | [] => s
  | v :: vs => (s.hbmWrite w v).hbmWriteN (w + 1) vs

/-- Write consecutive HBM words for a client under a cap (R284): class 0 the Bonnet, 1 the others. -/
def State.hbmWriteCap (s : State) (cls w : Nat) (vs : List RWord) : State :=
  (s.capUse (w / stackWords) cls (burstWords w vs.length)).hbmWriteN w vs

/-- The data bytes of a list of words as one number, poison read as its stored pattern. -/
def joinRWords : List RWord → Nat
  | [] => 0
  | v :: vs => ofLeBytes (bytesOf v) + 2 ^ 256 * joinRWords vs

/-- The 32 data bytes of HBM word `w` as the device's own units take them, without the effects of the read (`hbmRead`
has those): the corrected data, or `none` for poison, a HARD or uncorrectable word, or a stack that is not UP. -/
def State.hbmPeek (s : State) (w : Nat) : RWord :=
  if 8 ≤ w / stackWords ∨ !s.stackUp (w / stackWords) ∨ w ∈ s.mem.hard then none
  else
    match decodeWord (s.hbmStored w) with
    | .ok d => wordOf d
    | .corrected _ st => wordOf (st.take 32)
    | .bad => none

/-- `n` bytes of the module's HBM from byte address `a`, as the device's own units take them; the bytes of a poisoned word are 0 here,
and whoever uses them asks `hbmHeld` first (R279). -/
def State.hbmBytes (s : State) (a : Nat) (n : Nat) : List Byte :=
  have w0 := a / 32
  have words := (List.range ((a + n + 31) / 32 - w0)).map fun i => (s.hbmPeek (w0 + i)).getD 0
  ((words.flatMap (leBytes 32)).drop (a % 32)).take n

/-- No word of `n` bytes from byte address `a` reads as poison (R279). -/
def State.hbmHeld (s : State) (a : Nat) (n : Nat) : Bool :=
  (List.range ((a + n + 31) / 32 - a / 32)).all fun i => (s.hbmPeek (a / 32 + i)).isSome

end Sys2Proof.Machine
end

