-- ==== Sys2Proof/Machine/Actions.lean ====
section
/-! DEFINITION. Sys2Proof/Machine/Actions.lean: operations that several blocks share: output time entering HOLDOVER (R364),
the cancelling of armed actions (R61), a region's required divider and divider steps (R49, R50), and driver accesses to a
domain that is off (R446). -/
namespace Sys2Proof.Machine

/-- The BAR0 offset of a register address (R442). -/
def bar0Offset (a : Nat) : Nat := 2 ^ 23 * (a / 2 ^ 24 % 8) + a % 2 ^ 23

/-- The register address of a BAR0 offset (R442). -/
def bar0Addr (o : Nat) : Nat := 2 ^ 24 * (o / 2 ^ 23 % 8) + o % 2 ^ 23

/-- A power domain is switched on (R445, R446). -/
def State.domOn (s : State) (d : Nat) : Bool :=
  nbit (s.rd Reg.PWR_DOMAIN_ON) d && nbit (s.rd Reg.PWR_DOMAIN_PGOOD) d

/-- AON runs: the input switch is closed and AON is not held in power-on reset (R418, R419). -/
def State.live (s : State) : Bool := s.pwr.closed && !s.pwr.aonHeld

/-- The block of a register address is powered (R446). -/
def State.powered (s : State) (a : Nat) : Bool :=
  match domainOf a with
  | none => true
  | some d => s.domOn d

/-- A driver write through BAR0 to register `a`: ignored, and recorded with KIND OFF, while its domain is off (R446). Nothing
happens while AON is off or held in reset. -/
def State.busWrite (s : State) (a : Nat) (f : State → State) : State :=
  if !s.live then s else if s.powered a then f s else s.accErr 0 2 true (bar0Offset a)

/-- A driver write to a field that is RW while RUN = 0: ignored with CUF_STATUS.WR_REFUSED while RUN is 1 (R99). -/
def State.runLocked (s : State) (f : State → State) : State :=
  if s.run then s.flag Reg.CUF_STATUS_WR_REFUSED else f s

/-- The mean of a list of rates, rounded toward minus infinity; 0 for none. -/
def meanRate (l : List Int) : Int := if l.length = 0 then 0 else l.foldl (· + ·) 0 / l.length

/-- Raise PTP_LOSS with a cause of R365; `dom` is the domain, 0 A or 1 B. -/
def State.ptpLoss (s : State) (cause dom : Nat) : State :=
  s.fault { code := 0x0402, block := 3, cause := cause, sub := dom }

/-- Output time has lost its source: it enters HOLDOVER and runs on against local monotonic at the mean of its last 64
source rate estimates (R364, R365). -/
def State.outHoldover (s : State) : State :=
  if s.rd Reg.TIME_STATUS_OUT_STATE = 1 then
    have v := s.outNow
    have s := (s.wr Reg.TIME_STATUS_OUT_STATE 2).wr Reg.TIME_STATUS_ON 3
    { s with time := { s.time with outVal := v, outOrg := s.time.mono, outRate := meanRate s.time.outEst } }.ptpLoss 2 0
  else s

/-- Cancel every armed generator (R373): ARMED clears, CANCELLED sets. -/
def State.cancelTps (s : State) : State :=
  s.forEach (List.range 4) fun s i =>
    if s.rdb (Reg.TIME_TP_STATUS_ARMED i) then
      (s.wr (Reg.TIME_TP_STATUS_ARMED i) 0).flag (Reg.TIME_TP_STATUS_CANCELLED i)
    else s

/-- Entry to FREE cancels every armed image start, epoch switch and generator (R61, R310, R373). -/
def State.cancelArmed (s : State) : State :=
  have s := if s.ldr = 7 then (s.wr Reg.LDR_STATUS_STATE 5).flag Reg.LDR_STATUS_START_FAIL else s
  (s.wr Reg.RTE_EPOCH_ARMED 0).cancelTps

/-- The divider the active causes require of region `g` (R49, R51). -/
def State.requiredN (s : State) (g : Nat) : Nat :=
  have supply := if s.rdb (Reg.RGN_STATUS_STEP_SUPPLY g) then s.rd (Reg.RGN_CLK_N_FLOOR g) else 0
  max (max (s.rd (Reg.RGN_CLK_N_TARGET g)) supply) (max (s.rg g).droopN (s.rg g).thermN)

/-- The clock stops once the cycle in progress has ended (R50, R52); a region in REST has none, and its stop begins at once. -/
def State.orderStop (s : State) (g : Nat) : State :=
  if (s.rg g).rest then s.setRg g { s.rg g with stepUntil := some (s.cyc + 24) }
  else s.setRg g { s.rg g with stopDue := true }

/-- The clock is stopped for a step, or about to be (R50). -/
def State.stepping (s : State) (g : Nat) : Bool := (s.rg g).stopDue || (s.rg g).stepUntil.isSome

/-- A divider step begins: the clock is to stop, and the step is counted. A step already in progress makes no second
one (R50). -/
def State.startStep (s : State) (g : Nat) : State :=
  if s.stepping g then s else (s.orderStop g).count (Reg.RGN_STEP_CNT g) 1

/-- A region steps if its causes now require a slower divider than the one in use (R49). -/
def State.stepIfSlower (s : State) (g : Nat) : State :=
  if s.rd (Reg.RGN_CLK_N_NOW g) < s.requiredN g then s.startStep g else s

end Sys2Proof.Machine
end

