-- ==== Sys2Proof/Machine/Num.lean ====
section
/-! DEFINITION. Sys2Proof/Machine/Num.lean: the eleven number formats (R224, R225), exact values, FP32 arithmetic (R187,
R235), the long sum (R232), rounding and conversion (R237, R238, R240) and block scaling (R229, R230, R239). -/
namespace Sys2Proof.Machine

/-- An exact value: NaN, an infinity, or ± n × 2^e with the sign kept for zero. -/
inductive Val where
  | nan
  | inf (neg : Bool)
  | fin (neg : Bool) (n : Nat) (e : Int)
deriving DecidableEq, Repr, Inhabited

/-- A floating-point format (R224): exponent bits, significand bits, bias, and which specials it has (0 none, 1 as IEEE,
2 the single NaN of E4M3). -/
structure FloatFmt where
  eb : Nat
  mb : Nat
  bias : Nat
  spec : Nat
deriving DecidableEq, Repr

/-- The floating-point format of a format code without its scaling bit (R71, R224). -/
def floatFmt (fmt : Nat) : Option FloatFmt :=
  match fmt with
  | 0x01 => some ⟨8, 23, 127, 1⟩
  | 0x02 => some ⟨5, 10, 15, 1⟩
  | 0x03 => some ⟨8, 7, 127, 1⟩
  | 0x04 => some ⟨4, 3, 7, 2⟩
  | 0x05 => some ⟨5, 2, 15, 1⟩
  | 0x06 => some ⟨3, 2, 3, 0⟩
  | 0x07 => some ⟨2, 3, 1, 0⟩
  | 0x08 => some ⟨2, 1, 1, 0⟩
  | _ => none

/-- A block-scaled format code (R71). -/
def isScaled (fmt : Nat) : Bool := 0x14 ≤ fmt && fmt ≤ 0x18

/-- The element format of a format code: the unscaled one of a block-scaled code. -/
def elemFmt (fmt : Nat) : Nat := if isScaled fmt then fmt - 0x10 else fmt

/-- A format code that R71 names. -/
def fmtValid (fmt : Nat) : Bool := fmt ≤ 0x0B || isScaled fmt

/-- Bits of one element of a format (R224, R225); RAW counts bytes. -/
def elemBits (fmt : Nat) : Nat :=
  match elemFmt fmt with
  | 0x01 => 32
  | 0x02 => 16
  | 0x03 => 16
  | 0x06 => 6
  | 0x07 => 6
  | 0x08 => 4
  | 0x0A => 4
  | 0x0B => 64
  | _ => 8

/-- Multiply a natural number by a power of two, dropping what falls below the point. -/
def scale2 (n : Nat) (e : Int) : Nat := if 0 ≤ e then n * 2 ^ e.toNat else n / 2 ^ (-e).toNat

/-- The value of a bit pattern of a floating-point format (R224, R226). -/
def FloatFmt.decode (f : FloatFmt) (x : Nat) : Val :=
  have m := x % 2 ^ f.mb
  have e := x / 2 ^ f.mb % 2 ^ f.eb
  have neg := nbit x (f.eb + f.mb)
  have top := 2 ^ f.eb - 1
  if f.spec = 1 ∧ e = top then (if m = 0 then .inf neg else .nan)
  else if f.spec = 2 ∧ e = top ∧ m = 2 ^ f.mb - 1 then .nan
  else if e = 0 then .fin neg m (1 - (f.bias : Int) - f.mb)
  else .fin neg (2 ^ f.mb + m) ((e : Int) - f.bias - f.mb)

/-- The value of an element of any format (R224, R225); RAW elements are read as 0. -/
def decodeElem (fmt x : Nat) : Val :=
  match floatFmt (elemFmt fmt) with
  | some f => f.decode x
  | none =>
    have sg := fun (w : Nat) (e : Int) =>
      have v := toSigned w x
      Val.fin (v < 0) v.natAbs e
    match fmt with
    | 0x09 => sg 8 0
    | 0x0A => sg 4 0
    | 0x0B => sg 64 (-18)
    | _ => .fin false 0 0

/-- Exponent field, significand and sign of the largest finite value of a format, as a bit pattern without sign (R224). -/
def FloatFmt.maxBits (f : FloatFmt) : Nat :=
  have top := 2 ^ f.eb - 1
  match f.spec with
  | 1 => (top - 1) * 2 ^ f.mb + (2 ^ f.mb - 1)
  | 2 => top * 2 ^ f.mb + (2 ^ f.mb - 2)
  | _ => top * 2 ^ f.mb + (2 ^ f.mb - 1)

/-- What a conversion gives: the bits, and whether CONV_SAT and CONV_NAN are recorded (R238). -/
structure Conv where
  bits : Nat
  sat : Bool := false
  nanMapped : Bool := false
deriving DecidableEq, Repr

/-- Whether rounding takes the neighbour farther from zero, for lo + rem/d units (R237, R240): mode 0 RNE, 1 RTZ, 2 SR with
the 16-bit number `r`. -/
def roundUp (mode r lo rem d : Nat) : Bool :=
  match mode with
  | 0 => d < 2 * rem || (2 * rem == d && lo % 2 == 1)
  | 1 => false
  | _ => r < 65536 * rem / d

/-- Round n × 2^e to a whole number of units of 2^q (R237). -/
def roundAt (mode r n : Nat) (e q : Int) : Nat :=
  if q ≤ e then n * 2 ^ (e - q).toNat
  else
    have d := 2 ^ (q - e).toNat
    have lo := n / d
    lo + b2n (roundUp mode r lo (n % d) d)

/-- Convert an exact value to a floating-point format (R237, R238). -/
def FloatFmt.encode (f : FloatFmt) (mode r : Nat) (v : Val) : Conv :=
  have sgn := fun (neg : Bool) => 2 ^ (f.eb + f.mb) * (b2n neg)
  have top := 2 ^ f.eb - 1
  match v with
  | .nan =>
    (match f.spec with
     | 1 => ⟨top * 2 ^ f.mb + 2 ^ (f.mb - 1) + b2n (f.mb == 2), false, false⟩
     | 2 => ⟨2 ^ (f.eb + f.mb) - 1, false, false⟩
     | _ => ⟨0, false, true⟩)
  | .inf neg => if f.spec = 1 then ⟨top * 2 ^ f.mb + sgn neg, false, false⟩ else ⟨f.maxBits + sgn neg, true, false⟩
  | .fin neg n e =>
    if n = 0 then ⟨sgn neg, false, false⟩
    else
      have lead : Int := (Nat.log2 n : Nat) + e
      have emin : Int := 1 - (f.bias : Int)
      have q : Int := max lead emin - f.mb
      have u := roundAt mode r n e q
      -- bits of u units at 2^q, with the exponent range unbounded above
      have b : Nat := if q = emin - f.mb then u else (q + f.mb + f.bias - 1).toNat * 2 ^ f.mb + u
      if b ≤ f.maxBits then ⟨b + sgn neg, false, false⟩
      else
        -- under RNE, and under SR where RNE would round beyond the range, an infinity where the format has one
        have near := roundAt 0 r n e q
        have nb : Nat := if q = emin - f.mb then near else (q + f.mb + f.bias - 1).toNat * 2 ^ f.mb + near
        if f.spec = 1 ∧ mode ≠ 1 ∧ f.maxBits < nb then ⟨top * 2 ^ f.mb + sgn neg, true, false⟩
        else ⟨f.maxBits + sgn neg, true, false⟩

/-- Convert an exact value to a two's-complement target of `w` bits in units of 2^q (R238). -/
def encodeInt (w : Nat) (q : Int) (mode r : Nat) (v : Val) : Conv :=
  have hi : Int := 2 ^ (w - 1) - 1
  have lo : Int := -(2 ^ (w - 1))
  match v with
  | .nan => ⟨0, false, true⟩
  | .inf neg => ⟨ofSigned w (if neg then lo else hi), true, false⟩
  | .fin neg n e =>
    have u : Int := roundAt mode r n e q
    have x := if neg then -u else u
    if x < lo then ⟨ofSigned w lo, true, false⟩
    else if hi < x then ⟨ofSigned w hi, true, false⟩
    else ⟨ofSigned w x, false, false⟩

/-- Convert an exact value to an unscaled target format by a rounding mode (R237, R238). -/
def encodeElem (fmt mode r : Nat) (v : Val) : Conv :=
  match floatFmt (elemFmt fmt) with
  | some f => f.encode mode r v
  | none =>
    match fmt with
    | 0x09 => encodeInt 8 0 mode r v
    | 0x0A => encodeInt 4 0 mode r v
    | 0x0B => encodeInt 64 (-18) mode r v
    | _ => ⟨0, false, false⟩

/-- The canonical FP32 quiet NaN (R226). -/
def nanF32 : Nat := 0x7FC00000

/-- An exact value is NaN. -/
def Val.isNan : Val → Bool
  | .nan => true
  | _ => false

/-- An exact value is an infinity. -/
def Val.isInf : Val → Bool
  | .inf _ => true
  | _ => false

/-- The sign of a value; NaN counts as positive. -/
def Val.neg : Val → Bool
  | .nan => false
  | .inf n => n
  | .fin n _ _ => n

/-- The value with its sign changed. -/
def Val.negate : Val → Val
  | .nan => .nan
  | .inf n => .inf (!n)
  | .fin n m e => .fin (!n) m e

/-- A value scaled by 2^k. -/
def Val.scale (k : Int) : Val → Val
  | .fin n m e => .fin n m (e + k)
  | v => v

/-- A finite value in units of 2^e0, where e0 is at most its exponent. -/
def signedAt (neg : Bool) (n : Nat) (e e0 : Int) : Int :=
  have m : Int := n * 2 ^ (e - e0).toNat
  if neg then -m else m

/-- The exact sum of two values, and whether +∞ met −∞ (R187, R235). -/
def addVal (a b : Val) : Val × Bool :=
  match a, b with
  | .nan, _ => (.nan, false)
  | _, .nan => (.nan, false)
  | .inf x, .inf y => if x = y then (.inf x, false) else (.nan, true)
  | .inf x, _ => (.inf x, false)
  | _, .inf y => (.inf y, false)
  | .fin s n e, .fin t m g =>
    have e0 := min e g
    have sum := signedAt s n e e0 + signedAt t m g e0
    if sum = 0 then (.fin (s && t && n == 0 && m == 0) 0 e0, false)
    else (.fin (sum < 0) sum.natAbs e0, false)

/-- The exact product of two values, and whether 0 met ∞ (R235). -/
def mulVal (a b : Val) : Val × Bool :=
  match a, b with
  | .nan, _ => (.nan, false)
  | _, .nan => (.nan, false)
  | .inf x, .inf y => (.inf (x != y), false)
  | .inf x, .fin t m _ => if m = 0 then (.nan, true) else (.inf (x != t), false)
  | .fin s n _, .inf y => if n = 0 then (.nan, true) else (.inf (s != y), false)
  | .fin s n e, .fin t m g => (.fin (s != t) (n * m) (e + g), false)

/-- The value of an FP32 bit pattern. -/
def valF32 (x : Nat) : Val := decodeElem 0x01 x

/-- Round a value to FP32, to nearest even (R237): the bits. -/
def toF32 (v : Val) : Nat := (encodeElem 0x01 0 0 v).bits

/-- What an FP32 step did: the bits, overflow from finite terms, and an invalid operation (R235). -/
structure F32Res where
  bits : Nat
  ovf : Bool := false
  inv : Bool := false
deriving DecidableEq, Repr

/-- An exact result rounded to FP32, with its flags. -/
def roundF32 (r : Val × Bool) : F32Res :=
  have b := toF32 r.1
  ⟨b, (match r.1 with | .fin _ _ _ => (valF32 b).isInf | _ => false), r.2⟩

/-- FP32 addition, one rounding to nearest even (R187, R235). -/
def addF32 (a b : Nat) : F32Res := roundF32 (addVal (valF32 a) (valF32 b))

/-- FP32 product, one rounding to nearest even (R234). -/
def mulF32 (a b : Nat) : F32Res := roundF32 (mulVal (valF32 a) (valF32 b))

/-- The comparison a ≤ b of two values that are not NaN, with −0 below +0 (R187). -/
def leVal (a b : Val) : Bool :=
  match a, b with
  | .inf x, .inf y => x || !y
  | .inf x, _ => x
  | _, .inf y => !y
  | .fin s n e, .fin t m g =>
    have e0 := min e g
    have x := signedAt s n e e0
    have y := signedAt t m g e0
    if x = y then (if n = 0 then s || !t else true) else x < y
  | _, _ => false

/-- Saturate an exact sum to the long sum's range (R232); answers the bits and whether it saturated. -/
def satL64 (x : Int) : Nat × Bool :=
  if 2 ^ 63 - 1 < x then (0x7FFFFFFFFFFFFFFF, true)
  else if x < -(2 ^ 63) then (0x8000000000000000, true)
  else (ofSigned 64 x, false)

/-- The stochastic-rounding number r of R240. -/
def srNumber (seed op tile elem : Nat) : Nat :=
  have m := 2 ^ 64
  have key := seed % m ^^^ (2 ^ 32 * op % m) ^^^ (2 ^ 20 * tile % m) ^^^ elem
  have z := (key + 0x9E3779B97F4A7C15) % m
  have z := 0xBF58476D1CE4E5B9 * (z ^^^ z / 2 ^ 30) % m
  have z := 0x94D049BB133111EB * (z ^^^ z / 2 ^ 27) % m
  have z := z ^^^ z / 2 ^ 31
  z / 2 ^ 48

/-- The largest power of two at or below a value's magnitude, as an exponent; none for 0, infinities and NaN. -/
def Val.log2 : Val → Option Int
  | .fin _ n e => if n = 0 then none else some ((Nat.log2 n : Nat) + e)
  | _ => none

/-- The bits of an element as the device writes them: a NaN is the canonical one (R226). -/
def canonBits (fmt x : Nat) : Nat := if (decodeElem fmt x).isNan then (encodeElem fmt 0 0 .nan).bits else x

/-- The conversion of an element of a scaled block: one beyond range is clamped, in every mode (R239). -/
def clampConv (fmt : Nat) (c : Conv) : Conv :=
  match floatFmt (elemFmt fmt) with
  | some f =>
    if c.sat then { c with bits := f.maxBits + c.bits / 2 ^ (f.eb + f.mb) % 2 * 2 ^ (f.eb + f.mb) } else c
  | none => c

/-- The emax of a block-scaled format (R239). -/
def emaxOf (fmt : Nat) : Int :=
  match elemFmt fmt with
  | 0x04 => 8
  | 0x05 => 15
  | 0x06 => 4
  | _ => 2

/-- The E8M0 scale byte R239 chooses for the values of one block. -/
def blockScale (fmt : Nat) (vs : List Val) : Nat :=
  if vs.any (fun v => v.isNan || v.isInf) then 0xFF
  else
    match (vs.filterMap Val.log2).max? with
    | none => 0x7F
    | some l => (clampI 0 254 (l - emaxOf fmt + 127)).toNat

end Sys2Proof.Machine
end

