-- ==== Sys2Proof/Machine/Combine.lean ====
section
/-! DEFINITION. Sys2Proof/Machine/Combine.lean: the combine units: element arithmetic (R186, R187), void and poisoned operands
(R72, R74, R192), the local operand's format check (R189) and the sticky exceptions (R188, R199). -/
namespace Sys2Proof.Machine

/-- One combined element and the exceptions it records (R188). -/
structure CmbElem where
  bits : Nat
  sat : Bool := false
  ovf : Bool := false
  inv : Bool := false
  nanIn : Bool := false
deriving DecidableEq, Repr

/-- ADD_FP32 of elements, one rounding at each step in fold order (R187). -/
def cmbAddF32 (xs : List Nat) : CmbElem :=
  have nan := xs.any fun x => (valF32 x).isNan
  match xs with
  | [] => ⟨0, false, false, false, false⟩
  | x :: rest =>
    have r := rest.foldl (fun (a : CmbElem) y =>
      have t := addF32 a.bits y
      ⟨t.bits, false, a.ovf || t.ovf, a.inv || t.inv, nan⟩) ⟨x, false, false, false, nan⟩
    if nan then { r with bits := nanF32 } else r

/-- ADD_L64: the exact sum of all operands, saturated once (R187). -/
def cmbAddL64 (xs : List Nat) : CmbElem :=
  have r := satL64 (xs.foldl (fun a x => a + toSigned 64 x) 0)
  ⟨r.1, r.2, false, false, false⟩

/-- MAX or MIN of elements of a format, with −0 below +0 (R187). -/
def cmbMinMax (isMax : Bool) (fmt : Nat) (xs : List Nat) : CmbElem :=
  if xs.any (fun x => (decodeElem fmt x).isNan) then
    ⟨(encodeElem fmt 0 0 .nan).bits, false, false, false, true⟩
  else
    match xs with
    | [] => ⟨0, false, false, false, false⟩
    | x :: rest =>
      ⟨rest.foldl (fun a y =>
        have le := leVal (decodeElem fmt a) (decodeElem fmt y)
        if isMax then (if le then y else a) else (if le then a else y)) x, false, false, false, false⟩

/-- One element of a combine: OP 0 ADD_FP32, 1 ADD_L64, 2 MAX, 3 MIN, 4 OR (R69, R187). -/
def cmbElem (op fmt : Nat) (xs : List Nat) : CmbElem :=
  match op with
  | 0 => cmbAddF32 xs
  | 1 => cmbAddL64 xs
  | 2 => cmbMinMax true fmt xs
  | 3 => cmbMinMax false fmt xs
  | _ => ⟨xs.foldl (· ||| ·) 0, false, false, false, false⟩

/-- Elements of a flit payload by format (R186). -/
def flitElems (fmt : Nat) : Nat := 3072 / elemBits fmt

/-- Element `i` of a payload, elements of `w` bits. -/
def payloadElem (w p i : Nat) : Nat := p / 2 ^ (w * i) % 2 ^ w

/-- Elements of `w` bits packed into a payload, the first lowest. -/
def packElems (w : Nat) : List Nat → Nat
  | [] => 0
  | x :: xs => x % 2 ^ w + 2 ^ w * packElems w xs

/-- Every element of a combine, in order. -/
def cmbAll (op fmt : Nat) (ps : List Nat) : List CmbElem :=
  have w := elemBits fmt
  (List.range (flitElems fmt)).map fun i => cmbElem op fmt (ps.map fun p => payloadElem w p i)

/-- The lowest exception KIND of an element (R199): 0 none, 1 L64_SAT, 2 FP_OVF, 3 FP_INV, 4 NAN_IN. -/
def CmbElem.kind (e : CmbElem) : Nat :=
  if e.sat then 1 else if e.ovf then 2 else if e.inv then 3 else if e.nanIn then 4 else 0

/-- Capture the first exception while every status bit is clear (R188, R199). -/
def State.cmbFirst (s : State) (l side kind elem pos seg : Nat) : State :=
  if fget (s.reg (Reg.LNK_CMB_STATUS l)) 4 0 = 0 then
    ((((s.wr (Reg.LNK_CMB_FIRST_KIND l) kind).wr (Reg.LNK_CMB_FIRST_SIDE l) side).wr
      (Reg.LNK_CMB_FIRST_ELEMENT l) (min elem 127)).wr (Reg.LNK_CMB_FIRST_POSITION l) pos).wr
      (Reg.LNK_CMB_FIRST_SEGMENT l) seg
  else s

/-- Record the exceptions of a combine (R188). -/
def State.cmbRecord (s : State) (l side pos seg : Nat) (es : List CmbElem) : State :=
  have s :=
    match (List.range es.length).find? (fun i => (es.getD i ⟨0, false, false, false, false⟩).kind != 0) with
    | some i => s.cmbFirst l side (es.getD i ⟨0, false, false, false, false⟩).kind i pos seg
    | none => s
  have sat := (es.filter fun e => e.sat).length
  have fp := (es.filter fun e => e.ovf || e.inv).length
  have nan := es.any fun e => e.nanIn
  have s := s.when (sat != 0) fun s => (s.flag (Reg.LNK_CMB_STATUS_L64_SAT l)).count (Reg.LNK_CMB_SAT_CNT l) sat
  have s := s.when (fp != 0) fun s => s.count (Reg.LNK_CMB_FPEXC_CNT l) fp
  have s := s.when (es.any fun e => e.ovf) fun s => s.flag (Reg.LNK_CMB_STATUS_FP_OVF l)
  have s := s.when (es.any fun e => e.inv) fun s => s.flag (Reg.LNK_CMB_STATUS_FP_INV l)
  s.when nan fun s => (s.flag (Reg.LNK_CMB_STATUS_NAN_IN l)).count (Reg.LNK_CMB_NAN_CNT l) 1

/-- What a combine produces: payload, VOID and POISON. -/
structure CmbOut where
  payload : Nat
  void : Bool
  poison : Bool
deriving DecidableEq, Repr

/-- The poisoned void result (R79, R192). -/
def CmbOut.poisoned : CmbOut := ⟨0, true, true⟩

/-- FORMAT_MISMATCH for a combine's local operand, at most once a link and segment (R189). -/
def State.cmbFmtErr (s : State) (l side fmt found pos seg : Nat) : State :=
  have s := (s.count (Reg.LNK_FMT_ERR_CNT l) 1).cmbFirst l side 5 127 pos seg
  have s := s.flag (Reg.LNK_CMB_STATUS_LOCAL_FMT l)
  if (s.lk l).cmbRaised then s
  else (s.setLk l { s.lk l with cmbRaised := true }).fault
    { code := 0x0206, block := 6, cause := 1 + side, sub := fmt, a := found, link := l, pos := pos }

/-- One combine of link `l` (side 0 send, 1 land): the landed operands in order, then the local one (R72, R74, R185 to
R192). -/
def State.combine (s : State) (l side op fmt : Nat) (landed : List Flit) (loc : Option Flit) (pos seg : Nat) :
    State × CmbOut :=
  have s := s.count (Reg.LNK_CMB_CNT l) 1
  have bad := match loc with
    | some f => !f.void && !f.poison && f.fmt != fmt
    | none => false
  if bad then (s.cmbFmtErr l side fmt ((loc.map Flit.fmt).getD 0) pos seg, .poisoned)
  else
    have ops := landed ++ loc.toList
    if ops.any (fun f => f.poison) then (s, .poisoned)
    else
      have live := ops.filter fun f => !f.void
      match live with
      | [] => (s, ⟨0, true, false⟩)
      | [f] => (s, ⟨f.payload, false, false⟩)
      | fs =>
        have es := cmbAll op fmt (fs.map Flit.payload)
        (s.cmbRecord l side pos seg es, ⟨packElems (elemBits fmt) (es.map CmbElem.bits), false, false⟩)

end Sys2Proof.Machine
end

