-- ==== Sys2Proof/Machine/Stitch.lean ====
section
/-! DEFINITION. Sys2Proof/Machine/Stitch.lean: programs, bands, queues, transit holds, owed and expecting lists, lag and
landing (R66 to R91, R100 to R112). -/
namespace Sys2Proof.Machine

/-- KIND, STREAM and FMT of a program entry (R69, R73). -/
def entKind (e : Word) : Nat := fget e 63 60
def entStream (e : Word) : Nat := fget e 59 52
def entFmt (e : Word) : Nat := fget e 51 47

/-- A send entry of kind QUEUE, TRANSIT or COMBINE (R100). -/
def isSchedSend (e : Word) : Bool := entKind e == 1 || entKind e == 2 || entKind e == 3

/-- The send queue a send entry takes a deposit from, if any (R70, R72). -/
def sendQueue (e : Word) : Option Nat :=
  if entKind e = 1 then some (fget e 2 0)
  else if entKind e = 3 ∧ fget e 43 43 = 1 then some (fget e 42 40) else none

/-- Landed operands of a send entry (R69). -/
def operandCount (e : Word) : Nat :=
  if entKind e = 2 then 1 else if entKind e = 3 then fget e 39 38 else 0

/-- IN and AGE of operand `i` of a send entry (R69). -/
def operandIn (e : Word) (i : Nat) : Nat := fget e (11 * i + 4) (11 * i)
def operandAge (e : Word) (i : Nat) : Nat := fget e (11 * i + 10) (11 * i + 5)

/-- The receive queue a land entry delivers to, if any (R74). -/
def landQueue (e : Word) : Option Nat :=
  match entKind e with
  | 1 => some (fget e 2 0)
  | 3 => if fget e 3 3 = 1 then some (fget e 2 0) else none
  | 4 => some (fget e 39 37)
  | _ => none

/-- Send entries that read the flit of a land entry (R74). -/
def landReads (e : Word) : Nat := if entKind e = 2 then 1 else if entKind e = 3 then fget e 6 4 else 0

/-- The BAR2 offset of a program entry (R93). -/
def progAddr (l dir bank p : Nat) : Nat := 0x100000 * l + 0x80000 * dir + 0x40000 * bank + p * 8

/-- Round length of the active set (R66). -/
def State.roundN (s : State) : Nat := s.rd Reg.CUF_ACTIVE_CFG_N

/-- The round position of stitch `st` in the current segment (R67). -/
def State.posAt (s : State) (st : Nat) : Nat :=
  (((st : Int) - (s.cuff.openTick / 2 : Nat)) % (s.roundN : Int)).toNat

/-- Scheduled traffic runs (R98, R117). -/
def State.schedOn (s : State) : Bool := s.rdb Reg.CUF_STATUS_RUNNING && !s.cuff.stopped

/-- The program a link runs (R90): its own, the failed member's on a spare, none on a failed member. -/
def State.progOf (s : State) (l : Nat) : Option Nat :=
  if s.rdb (Reg.LNK_BAND_FAILED l) then none else some (s.rd (Reg.LNK_BAND_CARRIES l))

/-- The entry of link `l` in direction `dir` (0 send, 1 land) at stitch `st`; IDLE while nothing is scheduled (R98, R308). -/
def State.entryAt (s : State) (l dir st : Nat) : Word :=
  match s.progOf l with
  | some p =>
    if s.schedOn && !s.cuff.ended then
      s.tab (progAddr p dir (s.rd Reg.CUF_STATUS_ACTIVE_BANK) (s.posAt st))
    else 0
  | none => 0

/-- The stitch tag (R76). -/
def stitchTag (seg pos stream : Nat) : Nat := 2 ^ 15 * (seg % 2) + (pos ^^^ 2 ^ 7 * stream) % 2 ^ 15

/-- The tag a land entry at stitch `st` expects, from stitch st − D (R68, R77); a stitch before image start has position 0 (log
entry 32). -/
def State.expectTag (s : State) (l st stream : Nat) : Nat :=
  have dep : Int := (st : Int) - landDelay l
  have opened : Int := ((s.cuff.openTick / 2 : Nat) : Int)
  have seg := s.rd Reg.CUF_SEAM_SEGMENT
  if opened ≤ dep then stitchTag seg ((dep - opened) % (s.roundN : Int)).toNat stream
  else if s.cuff.prevN = 0 then stitchTag (seg + 1) 0 stream
  else stitchTag (seg + 1) ((dep - ((s.cuff.prevOpen / 2 : Nat) : Int)) % (s.cuff.prevN : Int)).toNat stream

/-- Member 0 of a link's band; the link itself outside a band (R87). Under a LEAD that is itself in no band, the queues are still
LEAD's (log entry 58). -/
def State.bandLead (s : State) (l : Nat) : Nat :=
  if s.rdb (Reg.LNK_BAND_EN l) then s.rd (Reg.LNK_BAND_LEAD l) else l

/-- MEMBER of a link in its band. -/
def State.bandMember (s : State) (l : Nat) : Nat :=
  if s.rdb (Reg.LNK_BAND_EN l) then s.rd (Reg.LNK_BAND_MEMBER l) else 0

/-- The links of a link's band in ascending MEMBER order (R87, R88). -/
def State.bandLinks (s : State) (l : Nat) : List Nat :=
  if s.rdb (Reg.LNK_BAND_EN l) then
    (List.range 8).flatMap fun m => allLinks.filter fun x =>
      s.rdb (Reg.LNK_BAND_EN x) && s.rd (Reg.LNK_BAND_LEAD x) == s.rd (Reg.LNK_BAND_LEAD l)
        && s.rd (Reg.LNK_BAND_MEMBER x) == m
  else [l]

/-- The links of a link's band in the MEMBER order of the programs they run: a spare that carries a failed member takes that
member's place (R88, R90). -/
def State.bandOrder (s : State) (l : Nat) : List Nat :=
  have place := fun x => s.bandMember ((s.progOf x).getD x)
  (List.range 8).flatMap fun m => (s.bandLinks l).filter fun x => place x == m

/-- A queue capacity field, in flits (R99). -/
def capField (w : Word) (q : Nat) : Nat :=
  8 * (if q = 0 then fget w 6 0 else fget w (7 * q + 13) (7 * q + 7))

/-- Capacity of send queue `q` of a link's band (R88). -/
def State.sqCap (s : State) (l q : Nat) : Nat :=
  (s.bandLinks l).foldl (fun a m => a + capField (s.reg (Reg.LNK_SQ_CFG m)) q) 0

/-- Capacity of receive queue `q` of a link's band (R88). -/
def State.rqCap (s : State) (l q : Nat) : Nat :=
  (s.bandLinks l).foldl (fun a m => a + capField (s.reg (Reg.LNK_RQ_CFG m)) q) 0

/-- Deposits waiting in send queue `q` of a link's band. -/
def State.sqList (s : State) (l q : Nat) : List Dep := SMap.get (fun _ => []) (s.lk (s.bandLead l)).sq q

/-- Replace send queue `q` of a link's band. -/
def State.setSq (s : State) (l q : Nat) (x : List Dep) : State :=
  have m := s.bandLead l
  s.setLk m { s.lk m with sq := SMap.set (fun _ => []) (s.lk m).sq q x }

/-- Flits waiting in receive queue `q` of a link's band. -/
def State.rqList (s : State) (l q : Nat) : List (Nat × Flit) := SMap.get (fun _ => []) (s.lk (s.bandLead l)).rq q

/-- Replace receive queue `q` of a link's band. -/
def State.setRq (s : State) (l q : Nat) (x : List (Nat × Flit)) : State :=
  have m := s.bandLead l
  s.setLk m { s.lk m with rq := SMap.set (fun _ => []) (s.lk m).rq q x }

/-- A deposit is ready 64 ct after its last word entered (R84). -/
def Dep.isReady (d : Dep) (now : Nat) : Bool := d.ready || d.entered + 64 ≤ now

/-- The deposit numbered `n` of a queue, if it is there. -/
def State.findDep (s : State) (l q n : Nat) : Option Dep := (s.sqList l q).find? fun d => d.num == n

/-- Note a deposit's lead (R84, R86): the tick of its entry's compiled departure minus the tick at which it entered. -/
def State.noteLead (s : State) (l due entered : Nat) : State :=
  have m := s.bandLead l
  have s := if due < entered + 64 then s.count (Reg.LNK_LATE_DEP_CNT m) 1 else s
  (if due < entered then s.raise (Reg.LNK_LEAD_MIN_BEHIND m) 1 else s).lower (Reg.LNK_LEAD_MIN_LEAD m) (min 0xFFFF (due - entered))

/-- Bind the next entry of send queue `q` of a link's band to its deposit (R83); the entry's compiled stitch is `st`.
Answers the number. -/
def State.bindEntry (s : State) (l q st : Nat) : State × Nat :=
  have m := s.bandLead l
  have n := SMap.get (fun _ => 0) (s.lk m).sqEnt q
  have s := s.setLk m { s.lk m with sqEnt := SMap.set (fun _ => 0) (s.lk m).sqEnt q (n + 1) }
  match s.findDep l q n with
  | some d => (s.noteLead l (2 * st) d.entered, n)
  | none => (s, n)

/-- The compiled stitch of the owed or expecting entry of a link's band that is bound to deposit `n` of queue `q`; the lead of a
land-side operand is measured to its landing stitch (log entry 58). -/
def State.boundStitch (s : State) (l q n : Nat) : Option Nat :=
  have ms := s.bandLinks l
  have os := ms.flatMap fun m => ((s.lk m).owed.filter fun o => sendQueue o.entry == some q && o.bound == n).map Owed.stitch
  have es := ms.flatMap fun m => ((s.lk m).expecting.filter fun e =>
    entKind e.entry == 4 && fget e.entry 42 40 == q && e.bound == n).map Expect.stitch
  (os ++ es).head?

/-- The Palm deposits a flit to send queue `q` of link `l` (R83 to R85, R88). -/
def State.deposit (s : State) (l q : Nat) (f : Flit) (op : Nat) : State :=
  if !s.run then s
  else
    have m := s.bandLead l
    if s.sqCap l q ≤ (s.sqList l q).length then
      s.fault { code := 0x0205, block := 6, cause := 1, sub := q, link := l, op := op }
    else
      have n := SMap.get (fun _ => 0) (s.lk m).sqDep q
      have s := s.setSq l q (s.sqList l q ++ [{ num := n, flit := f, entered := s.now, ready := false }])
      have s := s.setLk m { s.lk m with sqDep := SMap.set (fun _ => 0) (s.lk m).sqDep q (n + 1) }
      have occ := (s.lk m).sq.foldl (fun a p => a + p.2.length) 0
      have s := s.raise (Reg.LNK_QUEUE_HWM_SQ_HWM m) occ
      match s.boundStitch l q n with
      | some st => s.noteLead l (2 * st) s.now
      | none => s

/-- LAG_LIMIT, at most once a link and segment (R110, R111). -/
def State.lagLimit (s : State) (l kind lag limit st : Nat) : State :=
  if (s.lk l).lagRaised then s
  else (s.setLk l { s.lk l with lagRaised := true }).fault
    { code := 0x0201, block := 6, cause := kind, a := lag, b := limit, link := l, pos := s.posAt st }

/-- Send lag in stitches (R101, R107). -/
def sendLag (x : LinkSt) (st : Nat) : Nat :=
  match (((x.s.unacked.filter fun u => u.again).map Sent.stitch) ++ x.owed.map Owed.stitch ++ x.gone).min? with
  | some c => st - c
  | none => 0

/-- Land lag in stitches (R103). -/
def landLag (x : LinkSt) (st : Nat) : Nat :=
  match x.expecting.head? with
  | some e => st - e.stitch
  | none => 0

/-- The key of a program word, four entries long, among the errors of its store (R93). -/
def progQueue (dir bank : Nat) : Nat := 2 * dir + bank

/-- A link of which an owed, expecting or program word is uncorrectable sends and lands no further scheduled flit until RUN is
cleared (R280). -/
def State.stopLink (s : State) (l : Nat) : State := s.setLk l { s.lk l with owedFull := true, expectFull := true }

/-- The entry of link `l` in direction `dir` at stitch `st`, read from its program store (R280); IDLE when its word is
uncorrectable. -/
def State.readEntry (s : State) (l dir st : Nat) : State × Word :=
  have e := s.entryAt l dir st
  if s.mem.upsets.isEmpty then (s, e)
  else
    match s.progOf l with
    | some p =>
      have pos := s.posAt st
      have bank := s.rd Reg.CUF_STATUS_ACTIVE_BANK
      have r := s.guardWords .program p (progQueue dir bank) (pos / 4) (e.toNat * 2 ^ (64 * (pos % 4)))
      if r.2.2 then (r.1.stopLink l, 0) else (r.1, BitVec.ofNat 64 (r.2.1 / 2 ^ (64 * (pos % 4))))
    | none => (s, e)

/-- The send entry of link `l` at stitch `st` becomes owed (R100), or the list is full (R111): a dropped entry still takes its
number in its queue (R83). -/
def State.beginSend (s : State) (l st : Nat) : State :=
  have r := s.readEntry l 0 st
  have e := r.2
  have s := r.1
  if !isSchedSend e then s
  else
    have b := match sendQueue e with
      | some q => s.bindEntry l q st
      | none => (s, 0)
    have s := b.1
    if 1024 ≤ (s.lk l).owed.length then
      have s := s.setLk l { s.lk l with owedFull := true }
      s.lagLimit l 3 (min 65535 (sendLag (s.lk l) st)) (s.rd (Reg.LNK_LAG_LIMIT_SEND_LIMIT l)) st
    else
      have seg := s.rd Reg.CUF_SEAM_SEGMENT
      have pos := s.posAt st
      s.setLk l { s.lk l with owed := (s.lk l).owed ++
        [{ entry := e, pos := pos, seg := seg, stitch := st, tag := stitchTag seg pos (entStream e),
           prog := (s.progOf l).getD l, bound := b.2, got := List.replicate (operandCount e) none }] }

/-- The land entry of link `l` at stitch `st` joins the expecting list (R103), or the list is full (R111): a dropped entry still
takes its number in its local operand's queue. -/
def State.beginLand (s : State) (l st : Nat) : State :=
  have r := s.readEntry l 1 st
  have e := r.2
  have s := r.1
  if entKind e = 0 then s
  else
    have b := if entKind e = 4 then s.bindEntry l (fget e 42 40) st else (s, 0)
    have s := b.1
    if 1024 ≤ (s.lk l).expecting.length then
      have s := s.setLk l { s.lk l with expectFull := true }
      s.lagLimit l 4 (min 65535 (landLag (s.lk l) st)) (s.rd (Reg.LNK_LAG_LIMIT_LAND_LIMIT l)) st
    else
      have p := (s.progOf l).getD l
      s.setLk l { s.lk l with expecting := (s.lk l).expecting ++
        [{ entry := e, pos := s.posAt st, seg := s.rd Reg.CUF_SEAM_SEGMENT, stitch := st,
           tag := s.expectTag l st (entStream e), prog := p, bound := b.2, key := st * 8 + s.bandMember p }] }

/-- A read takes the flit that landed on link `l` at compiled stitch `q` from its transit hold (R75, R104). -/
def State.takeHold (s : State) (l q : Nat) : State × Option Flit :=
  match (s.lk l).hold.find? (fun h => h.stitch == q) with
  | some h =>
    have rest := (s.lk l).hold.filter fun x => x.stitch != q
    have hold := if h.reads ≤ 1 then rest else rest ++ [{ h with reads := h.reads - 1 }]
    have s := s.setLk l { s.lk l with hold := hold }
    have r := if h.reads ≤ 1 then s.takeFlit .hold l 0 q h.flit else s.guardFlit .hold l 0 q h.flit
    (r.1, some r.2)
  | none => (s, none)

/-- Give an owed entry operand `i` if its flit has landed (R104). -/
def feedOperand (a : State × Owed) (i : Nat) : State × Owed :=
  match a.2.got.getD i none with
  | some _ => a
  | none =>
    have r := a.1.takeHold (operandIn a.2.entry i) (a.2.stitch - operandAge a.2.entry i)
    match r.2 with
    | some f => (r.1, { a.2 with got := a.2.got.set i (some f) })
    | none => a

/-- Give every owed entry of link `l` the operands that have landed. -/
def State.feedLink (s : State) (l : Nat) : State :=
  have r := (s.lk l).owed.foldl (fun (a : State × List Owed) o =>
    have b := (List.range o.got.length).foldl feedOperand (a.1, o)
    (b.1, a.2 ++ [b.2])) (s, [])
  r.1.setLk l { r.1.lk l with owed := r.2 }

/-- Give every owed entry the operands that have landed. -/
def State.feedOwed (s : State) : State := s.forEach allLinks State.feedLink

/-- Show the lengths of a link's lists (R121). -/
def State.showLists (s : State) (l : Nat) : State :=
  if s.cuff.stopped then s
  else (s.wr (Reg.LNK_LAG_OWED l) (s.lk l).owed.length).wr (Reg.LNK_LAG_EXPECTING l) (s.lk l).expecting.length

/-- The gauges of link `l` as stitch `st` begins, what departs or lands in it included, and the limits: when both are exceeded the
land condition takes the record (R101, R103, R110, R112). -/
def State.gauge (s : State) (l st : Nat) : State :=
  have lag := min 65535 (sendLag (s.lk l) st)
  have land := min 65535 (landLag (s.lk l) st)
  have s := (s.wr (Reg.LNK_LAG_SEND_LAG l) lag).wr (Reg.LNK_LAG_LAND_LAG l) land
  have s := (s.raise (Reg.LNK_LAG_HWM_SEND_HWM l) lag).telRaise (16 + 2 * l) lag
  have s := (s.raise (Reg.LNK_LAG_HWM_LAND_HWM l) land).telRaise (17 + 2 * l) land
  have limit := s.rd (Reg.LNK_LAG_LIMIT_SEND_LIMIT l)
  have landLimit := s.rd (Reg.LNK_LAG_LIMIT_LAND_LIMIT l)
  have s := s.showLists l
  if landLimit < land then s.lagLimit l 2 land landLimit st
  else if limit < lag then s.lagLimit l 1 lag limit st
  else s

/-- Stitch `st` begins on every link of the band of `l`, members in the order of the programs they run: entries become owed and
expecting, and the gauges take the stitch (R83, R90, R100, R103, R110). Frozen once scheduled traffic has stopped (R112). -/
def State.beginStitch (s : State) (l st : Nat) : State :=
  if !s.schedOn then s
  else
    have ms := (s.bandOrder l).filter fun m => (s.lk m).begunAt != some st
    have s := s.forEach ms fun s m => ((s.setLk m { s.lk m with begunAt := some st }).beginSend m st).beginLand m st
    s.feedOwed.forEach ms fun s m => s.gauge m st

/-- MITTEN_VIOLATION, at most once a link in each window of 2^21 ct (R181). -/
def State.mittenViol (s : State) (l cause vc mitten : Nat) : State :=
  have win := s.now / 2 ^ 21
  if (s.lk l).mitWin = some win then s
  else (s.setLk l { s.lk l with mitWin := some win }).fault
    { code := 0x0601, block := 6, cause := cause, sub := vc, a := mitten, link := l }

/-- STITCH_MISMATCH: counted always, raised once a link until the next seam (R78). -/
def State.stitchMismatch (s : State) (l cause got want pos : Nat) : State :=
  have s := s.count (Reg.LNK_MISMATCH_CNT l) 1
  if (s.lk l).misRaised then s
  else (s.setLk l { s.lk l with misRaised := true }).fault
    { code := 0x0204, block := 6, cause := cause, a := got, b := want, link := l, pos := pos }

/-- The flit that stands in for a discarded one: void and poisoned (R79). -/
def Flit.marker (fmt : Nat) : Flit := { fmt := fmt, void := true, poison := true }

/-- The checks of a paired flit, in order (R78, R79): the state with at most one fault, and the flit the entry goes on
with. -/
def State.checkLanding (s : State) (l : Nat) (e : Expect) (f : Flit) : State × Flit :=
  have m := Flit.marker (entFmt e.entry)
  if f.poison then (s.count (Reg.LNK_POISON_RX_CNT l) 1, m)
  else if f.mitten ≠ s.rd Reg.CUF_MITTEN_MITTEN then (s.mittenViol l 2 0 f.mitten, m)
  else if f.tag ≠ e.tag then (s.stitchMismatch l 1 f.tag e.tag e.pos, m)
  else if f.void ∧ fget e.entry 46 46 = 0 then (s.stitchMismatch l 2 f.tag e.tag e.pos, m)
  else if f.fmt ≠ entFmt e.entry then
    ((s.count (Reg.LNK_FMT_ERR_CNT l) 1).fault
      { code := 0x0206, block := 6, cause := 0, sub := entFmt e.entry, a := f.fmt, link := l, pos := e.pos }, m)
  else (s, f)

/-- Insert a delivery in its place in a receive queue's count (R105). -/
def insertDelivery (k : Nat) (f : Flit) : List (Nat × Flit) → List (Nat × Flit)
  | [] => [(k, f)]
  | p :: ps => if k < p.1 then (k, f) :: p :: ps else p :: insertDelivery k f ps

/-- A flit enters receive queue `q`, or QUEUE_OVERRUN (R74, R85, R88). -/
def State.deliver (s : State) (l q : Nat) (e : Expect) (f : Flit) : State :=
  have m := s.bandLead e.prog
  if s.rqCap e.prog q ≤ (s.rqList e.prog q).length then
    s.fault { code := 0x0205, block := 6, cause := 2, sub := q, link := l, pos := e.pos }
  else
    have s := s.setRq e.prog q (insertDelivery e.key f (s.rqList e.prog q))
    s.raise (Reg.LNK_QUEUE_HWM_RQ_HWM m) ((s.lk m).rq.foldl (fun a p => a + p.2.length) 0)

/-- Deposit `n` of queue `q` leaves the send queue of a link's band (R70, R74, R83). -/
def State.takeDep (s : State) (l q n : Nat) : State × Option Flit :=
  match s.findDep l q n with
  | none => (s, none)
  | some d =>
    have s := s.setSq l q ((s.sqList l q).filter fun x => x.num != n)
    have r := s.takeFlit .sendQueue (s.bandLead l) q n d.flit
    (r.1, some r.2)

/-- The effect of a land entry on the flit it goes on with (R74, R79). -/
def State.landEffect (s : State) (l : Nat) (e : Expect) (f : Flit) : State :=
  have p := e.prog
  have hold := fun (s : State) (n : Nat) =>
    s.setLk p { s.lk p with hold := (s.lk p).hold ++ [{ stitch := e.stitch, flit := f, reads := n }] }
  match entKind e.entry with
  | 1 => s.deliver l (fget e.entry 2 0) e f
  | 2 => hold s 1
  | 3 =>
    have s := hold s (fget e.entry 6 4)
    if fget e.entry 3 3 = 1 then s.deliver l (fget e.entry 2 0) e f else s
  | 4 =>
    have d := s.takeDep p (fget e.entry 42 40) e.bound
    have r := d.1.combine l 1 (fget e.entry 45 43) (entFmt e.entry) [f] d.2 e.pos e.seg
    r.1.deliver l (fget e.entry 39 37) e
      { f with fmt := entFmt e.entry, payload := r.2.payload, void := r.2.void, poison := r.2.poison }
  | _ => s

/-- The local operand of a land-side combine is ready (R74). -/
def State.landReady (s : State) (e : Expect) : Bool :=
  if entKind e.entry = 4 then
    (match s.findDep e.prog (fget e.entry 42 40) e.bound with
     | some d => d.isReady s.now
     | none => false)
  else true

/-- The oldest expecting entry of link `l` lands in stitch `st` if its flit is present: at most one landing a stitch
(R77, R80, R103). -/
def State.landOldest (s : State) (l st : Nat) : State :=
  have x := s.lk l
  match x.expecting, x.arrivals with
  | e :: es, (a, f) :: as =>
    if x.landAt = some st ∨ s.cuff.stopped ∨ x.expectFull ∨ st < a ∨ st < e.stitch ∨ !s.landReady e then s
    else
      have g := s.guardEntry .expecting l 0 e.stitch e.entry
      if g.2.isNone then g.1.stopLink l
      else
        have s := (g.1.dropUpsets .expecting l 0 e.stitch).setLk l { x with expecting := es, arrivals := as, landAt := some st }
        have s := s.count (Reg.LNK_SCHED_RX_CNT l) 1
        have g := s.takeFlit .equaliser l 0 a f
        have f := g.2
        have s := g.1.when f.void fun s => s.count (Reg.LNK_VOID_RX_CNT l) 1
        have s := s.when (e.stitch < st) fun s => s.count (Reg.LNK_SLIP_CNT l) 1
        have r := s.checkLanding l e f
        ((r.1.landEffect l e r.2).feedOwed).showLists l
  | _, _ => s

/-- The next flit the Palm reads from a receive queue, unless an earlier delivery is still to land (R83, R105). -/
def State.rqTake (s : State) (l q : Nat) : Option (State × Flit) :=
  match s.rqList l q with
  | [] => none
  | (k, f) :: rest =>
    if (s.bandLinks l).any fun m => (s.lk m).expecting.any fun e => landQueue e.entry == some q && e.key < k then none
    else some ((s.setRq l q rest).takeFlit .recvQueue (s.bandLead l) q k f)

/-- The oldest owed entry is ready (R102). -/
def State.owedReady (s : State) (o : Owed) : Bool :=
  o.got.all Option.isSome &&
    (match sendQueue o.entry with
     | some q =>
       (match s.findDep o.prog q o.bound with
        | some d => d.isReady s.now
        | none => false)
     | none => true)

/-- The landed flits that an owed entry has kept, read from where they wait (R104, R280). -/
def State.keptFlits (s : State) (l : Nat) (o : Owed) : State × List Flit :=
  (o.got.filterMap id).zipIdx.foldl (fun (a : State × List Flit) f =>
    have r := a.1.takeFlit .combine l f.2 o.stitch f.1
    (r.1, a.2 ++ [r.2])) (s, [])

/-- The flit an owed entry sends (R70, R72, R76, R79): the deposit, the landed flit, or the combine's result. -/
def State.owedFlit (s : State) (l : Nat) (o : Owed) : State × Flit :=
  have mit := s.rd Reg.CUF_MITTEN_MITTEN
  have k := s.keptFlits l o
  have d := match sendQueue o.entry with
    | some q => k.1.takeDep o.prog q o.bound
    | none => (k.1, none)
  have s := d.1
  match entKind o.entry with
  | 1 =>
    have f := d.2.getD {}
    (s, { cls := 0, mitten := mit, fmt := f.fmt, tag := o.tag, void := f.void, poison := f.poison, payload := f.payload })
  | 2 =>
    have f := k.2.headD {}
    (s, { cls := 0, mitten := mit, fmt := entFmt o.entry, tag := o.tag, void := f.void, poison := f.poison,
          payload := f.payload })
  | _ =>
    have r := s.combine l 0 (fget o.entry 46 44) (entFmt o.entry) k.2 d.2 o.pos o.seg
    (r.1, { cls := 0, mitten := mit, fmt := entFmt o.entry, tag := o.tag, void := r.2.void, poison := r.2.poison,
            payload := r.2.payload })

end Sys2Proof.Machine
end

