-- ==== Sys2Proof/Machine/Wire.lean ====
section
/-! DEFINITION. Sys2Proof/Machine/Wire.lean: what stands on the wire bit by bit: CRCs, flits, frames, codewords, lane markers and
training frames (R122 to R130, R144, R156). -/
namespace Sys2Proof.Machine

/-- One bit into the CRC-16 register (R130). -/
def crc16Bit (r : Nat) (b : Bool) : Nat :=
  have top := nbit r 15 != b
  have r := 2 * r % 65536
  if top then r ^^^ 0x1021 else r

/-- CRC-16 of the low `n` bits of `x`, from the highest down (R130). -/
def crc16 (x : Nat) : Nat → Nat → Nat
  | 0, r => r
  | n + 1, r => crc16 x n (crc16Bit r (nbit x n))

/-- A 192-bit word with its CRC-16 in place (R130): `x` holds bits [175:0]. -/
def lcwSeal (x : Nat) : Nat := x % 2 ^ 176 + 2 ^ 176 * (crc16 x 176 0xFFFF)

/-- The CRC-16 of a 192-bit word is right (R130, R131, R144). -/
def lcwOk (x : Nat) : Bool := nbits x 191 176 == crc16 x 176 0xFFFF

/-- One bit of the reflected CRC-32 of IEEE 802.3 (R127). -/
def crc32Step (c : Nat) : Nat → Nat
  | 0 => c
  | n + 1 => crc32Step (if c % 2 = 1 then c / 2 ^^^ 0xEDB88320 else c / 2) n

/-- `f c`, where Lean's kernel evaluates `c` before it goes on, so that a long run of bytes stays shallow. -/
def forced {α : Type} (c : Nat) (f : Nat → α) : α :=
  match c with
  | 0 => f 0
  | n + 1 => f (n + 1)

theorem forced_eq {α : Type} (c : Nat) (f : Nat → α) : forced c f = f c := by cases c <;> rfl

/-- Bytes, in the order sent, into the CRC-32 register (R127). -/
def crc32Run : List Byte → Nat → Nat
  | [], c => c
  | b :: bs, c => forced (crc32Step (c ^^^ b.toNat) 8) (crc32Run bs)

theorem crc32Run_cons (b : Byte) (bs : List Byte) (c : Nat) :
    crc32Run (b :: bs) c = crc32Run bs (crc32Step (c ^^^ b.toNat) 8) := forced_eq _ _

/-- The CRC-32 of bytes, in the order sent (R127). -/
def crc32 (bs : List Byte) : Nat := crc32Run bs 0xFFFFFFFF ^^^ 0xFFFFFFFF

/-- One bit into the CRC-8 register of a lane marker (R125). -/
def crc8Bit (r : Nat) (b : Bool) : Nat :=
  have top := nbit r 7 != b
  have r := 2 * r % 256
  if top then r ^^^ 0x07 else r

/-- CRC-8 of the low `n` bits of `x`, from the highest down (R125, log entry 60). -/
def crc8 (x : Nat) : Nat → Nat → Nat
  | 0, r => r
  | n + 1, r => crc8 x n (crc8Bit r (nbit x n))

/-- The header fields that the classes share (R126): CLASS, VC, EPOCH, MITTEN and ORIG_SEQ. -/
def headCommon (f : Flit) : Nat :=
  2 ^ 62 * (f.cls % 4) + 2 ^ 46 * (f.mitten % 4096) + 2 ^ 11 * (if f.moved then f.origSeq % 4096 else 0)

/-- The 64-bit header of a flit (R126, R156). -/
def flitHeader (f : Flit) : Nat :=
  match f.cls with
  | 0 => headCommon f + 2 ^ 41 * (f.fmt % 32) + 2 ^ 25 * (f.tag % 65536) + 2 ^ 24 * (b2n f.void) + 2 ^ 23 * (b2n f.poison)
  | 1 => headCommon f + 2 ^ 59 * (f.vc % 8) + 2 ^ 58 * (f.epoch % 2) + 2 ^ 45 * (b2n f.lat) + 2 ^ 29 * (f.dest % 4096)
      + 2 ^ 3 * (f.age % 256)
  | c => 2 ^ 62 * (c % 4)

/-- Bits [31:0] of a flit's trailer (R127). -/
def flitTail (f : Flit) : Nat :=
  2 ^ 8 * (f.seq % 2 ^ 24) + 2 ^ 7 * (b2n f.resent) + 2 ^ 6 * (b2n f.moved) + 2 ^ 5 * (b2n f.carriedV)
    + 2 ^ 2 * (if f.carriedV then f.carried % 8 else 0)

/-- The 3,168 bits of a slot that its CRC covers, first sent lowest: header, payload and trailer bits [31:0] (R127). -/
def flitBody (f : Flit) : Nat :=
  flitHeader f + 2 ^ 64 * (f.payload % 2 ^ 3072) + 2 ^ 3136 * (flitTail f)

/-- The CRC-32 of a slot (R127). -/
def slotCrc (x : Nat) : Nat := crc32 (leBytes 396 (x % 2 ^ 3168))

/-- The 400 bytes of a flit as they are sent, its CRC in place (R127). -/
def flitBits (f : Flit) : Nat := flitBody f + 2 ^ 3168 * (slotCrc (flitBody f))

/-- The null flit of a slot with nothing to send (R128). -/
def nullFlit : Flit := { cls := 2 }

/-- The flit in the 400 bytes of a slot (R126, R127, R156). -/
def flitOf (x : Nat) : Flit :=
  have sched : Bool := nbits x 63 62 == 0
  have loose : Bool := nbits x 63 62 == 1
  { cls := nbits x 63 62, vc := if loose then nbits x 61 59 else 0, epoch := if loose then nbits x 58 58 else 0,
    mitten := nbits x 57 46, fmt := if sched then nbits x 45 41 else 0, tag := if sched then nbits x 40 25 else 0,
    void := sched && nbit x 24, poison := sched && nbit x 23, origSeq := nbits x 22 11,
    lat := loose && nbit x 45, dest := if loose then nbits x 40 29 else 0, age := if loose then nbits x 10 3 else 0,
    payload := nbits x 3135 64, seq := nbits x 3167 3144, resent := nbit x 3143, moved := nbit x 3142,
    carriedV := nbit x 3141, carried := nbits x 3140 3138 }

/-- The CRC of a slot holds and its CLASS is not the reserved one (R129). -/
def slotOk (x : Nat) : Bool := nbits x 3199 3168 == slotCrc x && nbits x 63 62 != 3

/-- Multiply by α in GF(2^10) with polynomial x^10 + x^3 + 1 (R124). -/
def gf10Double (a : Nat) : Nat := if 512 ≤ a then (2 * a) ^^^ 0x409 else 2 * a

/-- Product in GF(2^10), taking `n` bits of `b`. -/
def gf10MulN (a b : Nat) : Nat → Nat
  | 0 => 0
  | n + 1 => (if b % 2 = 1 then a else 0) ^^^ gf10MulN (gf10Double a) (b / 2) n

/-- Product in GF(2^10) (R124). -/
def gf10Mul (a b : Nat) : Nat := gf10MulN a b 10

/-- A polynomial, highest coefficient first, times x + r. -/
def polyRoot (p : List Nat) (r : Nat) : List Nat :=
  List.zipWith (fun a b => a ^^^ b) (p ++ [0]) (0 :: p.map fun c => gf10Mul r c)

/-- α^p in GF(2^10). -/
def gf10Pow : Nat → Nat
  | 0 => 1
  | p + 1 => gf10Double (gf10Pow p)

/-- The generator polynomial of RS(544,514), without its leading 1 (R124). -/
def rsGen : List Nat := ((List.range 30).foldl (fun p i => polyRoot p (gf10Pow i)) [1]).drop 1

/-- One step of the division by the generator. -/
def rsStep (reg : List Nat) (m : Nat) : List Nat :=
  have f := m ^^^ reg.headD 0
  List.zipWith (fun a g => a ^^^ gf10Mul f g) (reg.drop 1 ++ [0]) rsGen

/-- The 544 symbols of a codeword: 514 data symbols and their 30 parity symbols (R124). -/
def rsEncode (ds : List Nat) : List Nat := ds ++ ds.foldl rsStep (List.replicate 30 0)

/-- Symbol errors that RS(544,514) corrects in a codeword (R124). -/
def rsLimit : Nat := 15

/-- The data symbols of codeword `k` of a frame (R122). -/
def frameSymbols (x k : Nat) : List Nat := (List.range 514).map fun i => nbits x (5140 * k + 10 * i + 9) (5140 * k + 10 * i)

/-- What each of `w` lanes carries of a frame's data bits `x`: the symbols of its ten codewords, symbol i on lane i mod w (R122,
R123). -/
def frameLanes (w x : Nat) : List (List Nat) :=
  have cs := (List.range 10).map fun k => rsEncode (frameSymbols x k)
  (List.range w).map fun l => cs.flatMap fun c => (c.zipIdx.filter fun p => p.2 % w == l).map Prod.fst

/-- Where slot `k` stands among a frame's data bits (R122). -/
def slotAt (k : Nat) : Nat := 200 + 3200 * k

/-- Put `n` bits `v` at place `p` of data bits. -/
def putBits (x p n v : Nat) : Nat := x % 2 ^ p + 2 ^ p * (v % 2 ^ n) + 2 ^ (p + n) * (x / 2 ^ (p + n))

/-- A frame's data bits as it starts (R122, R128): the frame word, no LCW yet, and null flits in every slot. -/
def frameStart (word : Nat) : Nat :=
  (List.range 16).foldl (fun x k => x + 2 ^ slotAt k * flitBits nullFlit) (word % 256)

/-- The length of a frame in ct at `w` lanes, and of a slot (R122, R123). -/
def frameLen (w : Nat) : Nat := 256 / w
def slotLen (w : Nat) : Nat := 16 / w

/-- Slot `k` carries an LCW and no flit at `w` lanes (R123). -/
def lcwSlot (w k : Nat) : Bool := w != 8 && k != 0 && k % (2 * w) == 0

/-- A flit may start at tick `t`, an even one, on a link of `w` lanes (R122, R123). -/
def slotFree (w t : Nat) : Bool := t % slotLen w == 0 && !lcwSlot w (t % frameLen w / slotLen w)

/-- The 64-bit marker of a lane (R125). -/
def laneMarker (lane link count : Nat) : Nat :=
  have x := 2 ^ 48 * 0xA5 + 2 ^ 45 * (lane % 8) + 2 ^ 40 * (link % 32) + count % 2 ^ 40
  2 ^ 8 * x + crc8 x 56 0

/-- A received marker is whole (R125). -/
def markerOk (m : Nat) : Bool := nbits m 63 56 == 0xA5 && nbits m 7 0 == crc8 (m / 2 ^ 8) 56 0

/-- Frames over which one marker is spelled at `w` lanes (R125). -/
def markerFrames (w : Nat) : Nat := 8 * w

/-- The frame word of frame `n` of link `l` at `w` lanes: bit b is lane b mod w's, each lane's marker from its highest bit down
(R125, log entry 60). -/
def frameWord (w l n : Nat) : Nat :=
  ((List.range 8).map fun b =>
    2 ^ b * b2n (nbit (laneMarker (b % w) l (n - n % markerFrames w)) (63 - (n % markerFrames w * (8 / w) + b / w)))).sum

/-- The 192 bits of a training frame (R144; their places are log entry 60's): STATE, SERIAL, link, seat, proposal, lane group,
next expected numbers, FRESH, flight and latency, under a CRC-16. -/
def trainFrame (st : Nat) (p : PeerFields) (flight lat : Nat) : Nat :=
  lcwSeal (2 ^ 173 * (st % 8) + 2 ^ 109 * (p.serial % 2 ^ 64) + 2 ^ 104 * (p.link % 32) + 2 ^ 92 * (p.seat % 4096)
    + 2 ^ 88 * (p.width % 16) + 2 ^ 85 * (p.group % 8) + 2 ^ 61 * (p.expS % 2 ^ 24) + 2 ^ 37 * (p.expL % 2 ^ 24)
    + 2 ^ 36 * (b2n p.fresh) + 2 ^ 24 * (flight % 4096) + 2 ^ 12 * (lat % 4096))

/-- The NEGOTIATE fields of a training frame (R144). -/
def peerOf (x : Nat) : PeerFields :=
  { serial := nbits x 172 109, link := nbits x 108 104, seat := nbits x 103 92, width := nbits x 91 88, group := nbits x 87 85,
    expS := nbits x 84 61, expL := nbits x 60 37, fresh := nbit x 36 }

end Sys2Proof.Machine
end

