-- ==== Sys2Proof/Machine/LinkOps.lean ====
section
/-! DEFINITION. Sys2Proof/Machine/LinkOps.lean: sequence numbers, the replay buffer, acknowledgement and replay, fresh starts,
fitness of links, band failover and the training shared by several events (R81, R94, R135 to R151). -/
namespace Sys2Proof.Machine

/-- Link-layer state of a class: 0 scheduled, 1 loose. -/
def LinkSt.cls (x : LinkSt) (c : Nat) : ClsSt := if c = 0 then x.s else x.l

/-- Replace the link-layer state of a class. -/
def LinkSt.setCls (x : LinkSt) (c : Nat) (y : ClsSt) : LinkSt := if c = 0 then { x with s := y } else { x with l := y }

/-- TX_NEXT, RX_EXPECT and UNACKED of a class (R153). -/
def txNextFld (l c : Nat) : Fld := if c = 0 then Reg.LNK_SEQ_SCHED_TX_NEXT l else Reg.LNK_SEQ_LOOSE_TX_NEXT l
def rxExpectFld (l c : Nat) : Fld := if c = 0 then Reg.LNK_SEQ_SCHED_RX_EXPECT l else Reg.LNK_SEQ_LOOSE_RX_EXPECT l
def unackedFld (l c : Nat) : Fld := if c = 0 then Reg.LNK_SEQ_SCHED_UNACKED l else Reg.LNK_SEQ_LOOSE_UNACKED l

/-- How far number `a` is ahead of `b`, modulo 2^24 (R135). -/
def seqAhead (a b : Nat) : Nat := (a + 2 ^ 24 - b % 2 ^ 24) % 2 ^ 24

/-- Show the number of unacknowledged flits of a class (R153). -/
def State.showUnacked (s : State) (l c : Nat) : State :=
  s.wr (unackedFld l c) (min 1024 ((s.lk l).cls c).unacked.length)

/-- Replace the link-layer state of a class of link `l`. -/
def State.setCls (s : State) (l c : Nat) (y : ClsSt) : State :=
  (s.setLk l ((s.lk l).setCls c y)).showUnacked l c

/-- The replay buffer of link `l` has room (R141). -/
def State.bufferFree (s : State) (l : Nat) : Bool :=
  (s.lk l).s.unacked.length + (s.lk l).l.unacked.length < 1024

/-- A flit leaves on link `l` in stitch `st`: its 3,200 bits stand in their slot of the frame in progress (R122, R123). -/
def State.slotOut (s : State) (l st : Nat) (f : Flit) : State :=
  have s := s.emit (.flit l st (flitBits f))
  match (s.lk l).frame with
  | some (t, x) =>
    have k := (s.wireTick - t) / slotLen (s.rd (Reg.LNK_STATUS_WIDTH l))
    s.setLk l { s.lk l with frame := some (t, putBits x (slotAt k) 3200 (flitBits f)) }
  | none => s

/-- The key of a flit of class `c` in the replay buffer, beside the stitch of its first departure: flits moved from a failed member
stand apart (R151). -/
def replayQueue (c : Nat) (f : Flit) : Nat := 2 * c + b2n f.moved

/-- A new flit of class `c` departs on link `l` in stitch `st` (R135, R141): it takes the class's next number and stays in
the replay buffer. `pos`, `seg` and `due` are its compiled departure (scheduled flits). -/
def State.txNew (s : State) (l c st : Nat) (f : Flit) (pos seg due : Nat) : State :=
  have n := s.rd (txNextFld l c)
  have f := { f with seq := n, resent := false }
  have y := (s.lk l).cls c
  have u : Sent := { flit := f, pos := pos, seg := seg, stitch := due, first := st, last := st, again := false }
  have s := s.setCls l c { y with unacked := y.unacked ++ [u] }
  (s.wr (txNextFld l c) (n + 1)).slotOut l st f

/-- Count a scheduled departure (R99, R121, R196); `brim` when the stitch's own entry is BRIM. -/
def State.countSched (s : State) (l st due : Nat) (void brim : Bool) : State :=
  have s := s.count (Reg.LNK_SCHED_TX_CNT l) 1
  have s := s.when void fun s => s.count (Reg.LNK_VOID_TX_CNT l) 1
  have s := s.when (due < st) fun s => s.count (Reg.LNK_LATE_TX_CNT l) 1
  s.when brim fun s => s.count (Reg.LNK_BRIM_USE_CNT l) 1

/-- Count a loose departure (R184). -/
def State.countLoose (s : State) (l : Nat) (lat : Bool) : State :=
  have s := s.count (Reg.LNK_LOOSE_TX_CNT l) 1
  if lat then s.count (Reg.LNK_LATTICE_TX_CNT l) 1
  else if isFar l then s else s.count (Reg.LNK_OPP_TX_CNT l) 1

/-- The unacknowledged flits of a replay still to be resent: from number `n` on, or all if `n` has been acknowledged. -/
def replayRest (us : List Sent) (n : Nat) : List Sent :=
  match us.dropWhile (fun u => u.flit.seq != n) with
  | [] => us
  | r => r

/-- A replay of class `c` of link `l` may resend in stitch `st` (R139). -/
def State.replayDue (s : State) (l c st : Nat) : Bool :=
  match ((s.lk l).cls c).replay with
  | some (_, t) => t ≤ st
  | none => false

/-- The unacknowledged flits without number `n`, those after it one number lower (log entry 60). -/
def closeUp (n : Nat) (us : List Sent) : List Sent :=
  us.filterMap fun v =>
    if v.flit.seq = n then none
    else if seqAhead v.flit.seq n < 2 ^ 23 then some { v with flit := { v.flit with seq := (v.flit.seq + 2 ^ 24 - 1) % 2 ^ 24 } }
    else some v

/-- A loose flit of which the replay buffer has lost a word is discarded (R280). -/
def State.dropResend (s : State) (l n t : Nat) : State :=
  have y := (s.lk l).cls 1
  have us := closeUp n y.unacked
  have s := s.setCls l 1 { y with unacked := us, replay := if (us.any fun v => v.flit.seq == n) then some (n, t) else none }
  s.wr (txNextFld l 1) (s.rd (txNextFld l 1) + 2 ^ 24 - 1)

/-- Resend the next flit of the replay of class `c` (R139, R170, R280): same number and payload, RESENT 1, LAT as given; poisoned
and void when its words are lost. -/
def State.resendNext (s : State) (l c st : Nat) (lat brim : Bool) : State :=
  have y := (s.lk l).cls c
  match y.replay with
  | none => s
  | some (n, t) =>
    match replayRest y.unacked n with
    | [] => s.setCls l c { y with replay := none }
    | u :: more =>
      have g := s.guardFlit .replay l (replayQueue c u.flit) u.first u.flit
      have s := g.1
      if c ≠ 0 ∧ g.2.poison then s.dropResend l u.flit.seq t
      else
        have f := { g.2 with resent := true, lat := lat }
        have us := y.unacked.map fun v =>
          if v.flit.seq = u.flit.seq then { v with flit := f, last := st, again := false } else v
        have next := match more with
          | [] => none
          | v :: _ => some (v.flit.seq, t)
        have s := s.setCls l c { y with unacked := us, replay := next }
        have s := (s.slotOut l st f).count (Reg.LNK_RESENT_CNT l) 1
        if c = 0 then s.countSched l st u.stitch f.void brim else s.countLoose l lat

/-- FIT (R81). -/
def State.updFit (s : State) (l : Nat) : State :=
  have slow : Bool := flightAllow l < s.rd (Reg.LNK_SCHED_STATUS_FLIGHT l) + 4
  have wide : Bool := s.isUp l && s.rd (Reg.LNK_STATUS_WIDTH l) == 8
  have s := (s.wrb (Reg.LNK_SCHED_STATUS_FLIGHT_OVER l) slow).wrb (Reg.LNK_SCHED_STATUS_WIDTH_OK l) wide
  s.wrb (Reg.LNK_SCHED_STATUS_FIT l) (wide && !slow && s.inMitten l)

/-- IN_MITTEN and what follows a link's leaving the mitten while UP (R94). -/
def State.updMitten (s : State) (l : Nat) : State :=
  have was := s.inMitten l
  have m := s.rd Reg.CUF_MITTEN_MITTEN
  have now : Bool := s.confirmed l && m != 0 && s.rd (Reg.LNK_SCHED_STATUS_NBR_MITTEN l) == m
  have s := (s.wrb (Reg.LNK_SCHED_STATUS_IN_MITTEN l) now).updFit l
  if was && !now && s.isUp l && s.rdb (Reg.LNK_SCHED_STATUS_SCHED_ACTIVE l) && !(s.lk l).leftRaised then
    (s.setLk l { s.lk l with leftRaised := true }).mittenViol l 3 0 (s.rd (Reg.LNK_SCHED_STATUS_NBR_MITTEN l))
  else s

/-- The link carries scheduled flits (R82, R94, R106, R111): UP at 8 lanes, inside the mitten, and not stopped by a full list. -/
def State.schedPath (s : State) (l : Nat) : Bool :=
  s.isUp l && s.rd (Reg.LNK_STATUS_WIDTH l) == 8 && s.inMitten l && !(s.lk l).leftRaised && !(s.lk l).owedFull

/-- The link may send scheduled flits that have not departed yet (R102, R117, R135). -/
def State.canSched (s : State) (l : Nat) : Bool := s.schedPath l && !s.cuff.stopped && (s.lk l).gone.isEmpty

/-- FLIGHT as the timers take it: the class allowance below 8 lanes (R140). -/
def State.flight (s : State) (l : Nat) : Nat :=
  if s.rd (Reg.LNK_STATUS_WIDTH l) = 8 then s.rd (Reg.LNK_SCHED_STATUS_FLIGHT l) else flightAllow l

/-- Number of the spare of a link's band while it is unfailed and carries nothing yet (R89, R90). -/
def State.freeSpare (s : State) (l : Nat) : Option Nat :=
  have ms := s.bandLinks l
  if s.rdb (Reg.LNK_BAND_SPARE l) ∧ 2 ≤ ms.length then
    match ms.getLast? with
    | some x => if x ≠ l ∧ s.rd (Reg.LNK_BAND_CARRIES x) = x ∧ !s.rdb (Reg.LNK_BAND_FAILED x) then some x else none
    | none => none
  else none

/-- Raise LINK_LOST (R152, R402), once since the link left UP; `st` is the training state it met. -/
def State.linkLost (s : State) (l cause st spare : Nat) : State :=
  have x := s.lk l
  if x.lost then s
  else (s.setLk l { x with lost := true }).fault
    { code := 0x0102, block := 6, cause := cause, sub := st, a := x.owed.length,
      b := x.s.unacked.length + x.l.unacked.length, c := spare, link := l }

/-- A flit moved from failed member `x` to the spare (R151). -/
def movedFlit (member seq : Nat) (f : Flit) : Flit :=
  { f with origSeq := f.seq % 4096, seq := seq, resent := true, moved := true, carriedV := true, carried := member }

/-- Each loose flit moved to far link `y` spends a credit of it (R175). -/
def State.spendMoved (s : State) (y : Nat) (us : List Sent) : State :=
  s.forEach (if isFar y then us else []) fun s u =>
    s.wr (Reg.LNK_VC_STATE_CREDITS y (u.flit.vc % 8)) (s.rd (Reg.LNK_VC_STATE_CREDITS y (u.flit.vc % 8)) - 1)

/-- Move the unacknowledged flits of class `c` of member `x` to the spare `y` (R151, R175): new numbers, owed again. -/
def State.moveUnacked (s : State) (x y c st : Nat) : State :=
  have member := s.bandMember x
  have n0 := s.rd (txNextFld y c)
  have us := ((s.lk x).cls c).unacked
  have moved := us.zipIdx.map fun (u, i) =>
    { u with flit := movedFlit member ((n0 + i) % 2 ^ 24) u.flit, again := true }
  have a := (s.lk y).cls c
  have replay := match a.replay, moved with
    | some r, _ => some r
    | none, m :: _ => some (m.flit.seq, st + 1)
    | none, [] => none
  have s := s.setCls y c { a with unacked := a.unacked ++ moved, replay := replay }
  have s := (s.wr (txNextFld y c) (n0 + us.length)).spendMoved y (if c = 0 then [] else us)
  s.setCls x c { (s.lk x).cls c with unacked := [], replay := none }

/-- Declare member `x` of a spare-mode band failed (R90, R150, R151): its stitches, lists and unacknowledged flits move to
the spare `y`. -/
def State.failover (s : State) (x y : Nat) : State :=
  have st := s.cyc / 2
  have st := if s.rdb Reg.CRN_STATUS_RUNNING then s.stitch else st
  have s := s.linkLost x 3 (s.lstate x) y
  have s := s.count (Reg.LNK_FAILOVER_CNT x) 1
  have s := (s.wr (Reg.LNK_BAND_CARRIES y) x).wr (Reg.LNK_BAND_FAILED x) 1
  have s := ((s.moveUnacked x y 0 st).moveUnacked x y 1 st).moveUpsets x y
  have a := s.lk x
  have b := s.lk y
  have s := s.setLk y { b with owed := b.owed ++ a.owed, expecting := b.expecting ++ a.expecting,
                               arrivals := a.arrivals ++ b.arrivals,
                               carryExpS := s.rd (rxExpectFld x 0), carryExpL := s.rd (rxExpectFld x 1) }
  have s := s.setLk x { s.lk x with owed := [], expecting := [], arrivals := [], rxDownUntil := some (s.cyc + 4096) }
  have s := (s.wr (Reg.LNK_LAG_SEND_LAG x) 0).wr (Reg.LNK_LAG_OWED x) 0
  have s := (s.wr (Reg.LNK_LAG_LAND_LAG x) 0).wr (Reg.LNK_LAG_EXPECTING x) 0
  s.forEach (if isFar x then List.range 8 else []) fun s v => s.wr (Reg.LNK_VC_STATE_CREDITS x v) 0

/-- The link leaves UP or a training state changes: width and group read 0 outside UP (R153). -/
def State.setTraining (s : State) (l st : Nat) : State :=
  have s := s.wr (Reg.LNK_STATUS_STATE l) st
  have s := s.setLk l { s.lk l with stateAt := s.cyc, lanesJudged := false, frame := none, past := [], lcwSent := none }
  if st = 6 then s
  else ((s.wr (Reg.LNK_STATUS_WIDTH l) 0).wr (Reg.LNK_STATUS_RX_GROUP l) 0).wr (Reg.LNK_STATUS_TX_GROUP l) 0

/-- Discovery of a link that is not UP (R388, order 1): NONE when not cabled, PENDING in phase 8, otherwise ABSENT. -/
def State.discAbsent (s : State) (l : Nat) : Nat :=
  have e := s.rd (Reg.LNK_PLAN_EXPECT l)
  if e = 0 ∨ e = 3 then 0 else if s.rd Reg.GEN_BOOT_STATUS_PHASE = 8 then 7 else 4

/-- The result R388 gives link `l`, with its swap partner. -/
def State.discResult (s : State) (l : Nat) : Nat × Nat :=
  have exp := fun x =>
    have e := s.rd (Reg.LNK_PLAN_EXPECT x)
    e == 1 || e == 2
  have found := fun (x : Nat) => if s.isUp x then (s.lk x).ident else none
  match found l with
  | none => (s.discAbsent l, 0)
  | some (serial, link, seat, _) =>
    if !exp l then (5, 0)
    else
      have same := allLinks.all fun x => match found x with
        | some (sr, _, st, _) => st != seat || sr == serial
        | none => true
      if seat = s.rd (Reg.LNK_PLAN_NBR_SEAT l) ∧ link = s.rd (Reg.LNK_PLAN_NBR_LINK l) ∧ same then
        (if s.rd (Reg.LNK_STATUS_WIDTH l) = 8 then 1 else 6, 0)
      else
        match allLinks.find? (fun b => b != l && exp b &&
            (match found b with
             | some (_, bl, bs, _) =>
               bs == s.rd (Reg.LNK_PLAN_NBR_SEAT l) && bl == s.rd (Reg.LNK_PLAN_NBR_LINK l)
                 && seat == s.rd (Reg.LNK_PLAN_NBR_SEAT b) && link == s.rd (Reg.LNK_PLAN_NBR_LINK b)
             | none => false)) with
        | some b => (2, b)
        | none => (3, 0)

/-- Count the links with one discovery result (R397). -/
def State.discCount (s : State) (r : Nat) : Nat := (allLinks.filter fun l => s.rd (Reg.LNK_DISC_RESULT l) == r).length

/-- Show what was found on link `l`: SEAT, link and serial of the peer, or nothing (R397). -/
def State.showFound (s : State) (l seat link v serial : Nat) : State :=
  have s := (s.wr (Reg.LNK_DISC_PEER_SEAT l) seat).wr (Reg.LNK_DISC_PEER_LINK l) link
  (s.wr (Reg.LNK_DISC_IDENT_V l) v).wr (Reg.LNK_DISC_SERIAL_SERIAL l) serial

/-- Show the peer's last IDENT while the link is UP (R397). -/
def State.showPeer (s : State) (l : Nat) : State :=
  match (if s.isUp l then (s.lk l).ident else none) with
  | some i => s.showFound l i.2.2.1 i.2.1 1 i.1
  | none => s.showFound l 0 0 0 0

/-- Show in GEN_DISC how many links have each result (R397). -/
def State.showDisc (s : State) : State :=
  have rows : List (Fld × Nat) := [(Reg.GEN_DISC_MATCH, 1), (Reg.GEN_DISC_SWAPPED, 2), (Reg.GEN_DISC_WRONG, 3), (Reg.GEN_DISC_ABSENT, 4),
    (Reg.GEN_DISC_EXTRA, 5), (Reg.GEN_DISC_DEGRADED, 6), (Reg.GEN_DISC_PENDING, 7)]
  s.forEach rows fun s r => s.wr r.1 (s.discCount r.2)

/-- A result changed after phase 9 (R390). -/
def State.noteChange (s : State) (changed : Bool) : State :=
  if changed && s.rd Reg.GEN_BOOT_STATUS_READY != 0 && s.rd Reg.GEN_BOOT_STATUS_PHASE == 0 then
    (s.wr Reg.GEN_DISC_CHANGES (min 255 (s.rd Reg.GEN_DISC_CHANGES + 1))).flag Reg.GEN_BOOT_STATUS_DISC_CHANGED
  else s

/-- Evaluate the discovery result of link `l` and show what was found (R388, R390, R397). -/
def State.evalLink (s : State) (l : Nat) : State :=
  have old := s.rd (Reg.LNK_DISC_RESULT l)
  have r := s.discResult l
  have s := (s.wr (Reg.LNK_DISC_RESULT l) r.1).wr (Reg.LNK_DISC_PARTNER l) r.2
  have s := (s.wr (Reg.LNK_DISC_WIDTH l) (s.rd (Reg.LNK_STATUS_WIDTH l))).showPeer l
  have s := s.showDisc.wrb Reg.GEN_BOOT_STATUS_EXTRA_SEEN (s.discCount 5 != 0)
  (s.noteChange (old != r.1)).updMitten l

/-- Evaluate a link, and every link whose swap it may complete or undo (R390). -/
def State.discover (s : State) (l : Nat) : State :=
  have partners := allLinks.filter fun b => b != l && (s.rd (Reg.LNK_DISC_RESULT b) == 2 || s.rd (Reg.LNK_DISC_RESULT b) == 3)
  (s.evalLink l).forEach partners State.evalLink

/-- A fresh start of one link's sequence spaces and credits (R135, R172). -/
def State.freshStart (s : State) (l : Nat) : State :=
  have x := s.lk l
  have s := s.setLk l { x with s := {}, l := {}, vcBuf := [], freed := [], credLast := [], pendCred := false }
  have s := (s.setReg (Reg.LNK_SEQ_SCHED l) 0).setReg (Reg.LNK_SEQ_LOOSE l) 0
  if isFar l then
    s.forEach (List.range 8) fun s v =>
      (s.wr (Reg.LNK_VC_STATE_CREDITS l v) 256).wr (Reg.LNK_VC_STATE_BUF_OCC l v) 0
  else s

/-- Link `l` leaves UP for a training (R145): full or quick, in training state `toSt`, for a CAUSE of LNK_TRAIN_INFO. A replay
stops (R143). After a fresh start of this end its numbers stand at 0 again (R135). -/
def State.leaveUp (s : State) (l toSt : Nat) (full : Bool) (cause : Nat) : State :=
  have x := s.lk l
  have s := if x.fresh then s.freshStart l else s
  have y := s.lk l
  have s := s.setLk l { y with
    full := full, mayWiden := false, trainAt := s.cyc, prevWidth := s.rd (Reg.LNK_STATUS_WIDTH l), lost := false, ident := none,
    s := { y.s with replay := none }, l := { y.l with replay := none },
    trainReq := none, pendTrain := none, pendReq := none, pendRsp := none }
  have s := (s.count (Reg.LNK_RETRAIN_CNT l) 1).wr (Reg.LNK_TRAIN_INFO_CAUSE l) cause
  have s := (s.setTraining l toSt).wr (Reg.LNK_STATUS_RX_LOCK l) 0
  s.discover l

/-- A link that would leave UP on its own account: in a spare-mode band with a free spare the member is declared failed
instead (R150); otherwise it trains (R145) and raises LINK_LOST where its cause says so (R152). -/
def State.dropLink (s : State) (l : Nat) (full : Bool) (cause : Nat) (lost : Bool) : State :=
  match s.freeSpare l with
  | some y => s.failover l y
  | none =>
    have s := s.leaveUp l 2 full cause
    if lost then s.linkLost l 1 6 0 else s

/-- LINK_REPLAY_LIMIT and the quick retrain it starts (R142). -/
def State.replayLimit (s : State) (l c kind : Nat) : State :=
  have oldest := ((((s.lk l).cls c).unacked.head?).map fun u => u.flit.seq).getD 0
  have s := s.fault { code := 0x0101, block := 6, cause := kind, sub := c, b := oldest, link := l }
  s.dropLink l false 5 false

/-- A replay by NAK or timer counts, as do those of its window (R142, R153). -/
def State.countReplay (s : State) (l c : Nat) (timer : Bool) : State :=
  have win := s.now / 2 ^ 21
  have x := s.lk l
  have cnt := if x.repWin = win then x.repWinCnt + 1 else 1
  have raised := if x.repWin = win then x.repWinRaised else false
  have tooMany : Bool := s.rd (Reg.LNK_REPLAY_CFG_RATE_MAX l) < cnt
  have s := s.setLk l { x with repWin := win, repWinCnt := cnt, repWinRaised := raised || tooMany }
  have s := s.count (Reg.LNK_REPLAY_CNT l) 1
  have s := s.when timer fun s => s.count (Reg.LNK_TIMER_REPLAY_CNT l) 1
  if tooMany && !raised then s.replayLimit l c 2 else s

/-- The flits of class `c` from number `n` on are to be resent, the first no earlier than stitch `t`: scheduled ones are owed again
(R107, R139, R147). -/
def State.resendFrom (s : State) (l c n t : Nat) (y : ClsSt) : State :=
  have us := y.unacked.map fun u => if seqAhead u.flit.seq n < 2 ^ 23 then { u with again := c == 0 } else u
  s.setCls l c { y with unacked := us, replay := some (n, t) }

/-- Start a go-back-N replay of class `c` from number `n` by NAK or `timer`, its first resend no earlier than stitch `t` (R139,
R140, R142). -/
def State.startReplay (s : State) (l c n t : Nat) (timer : Bool) : State :=
  have y := (s.lk l).cls c
  have rest := y.unacked.dropWhile fun u => u.flit.seq != n
  if rest.isEmpty then s
  else
    have same : Bool := y.repOldest == n && y.repCount != 0
    have limit := max 1 (s.rd (Reg.LNK_REPLAY_CFG_LIMIT l))
    if same ∧ limit ≤ y.repCount then
      (if y.limRaised then s
       else (s.setCls l c { y with limRaised := true }).replayLimit l c 1)
    else
      (s.resendFrom l c n t { y with repOldest := n, repCount := if same then y.repCount + 1 else 1,
                                     limRaised := if same then y.limRaised else false }).countReplay l c timer

/-- An acknowledgement of class `c` covers every flit below the number whose low 12 bits it gives (R137). -/
def State.applyAck (s : State) (l c ack : Nat) : State :=
  have y := (s.lk l).cls c
  match y.unacked.head? with
  | none => s
  | some u =>
    have base := u.flit.seq
    have d := (ack + 4096 - base % 4096) % 4096
    if d = 0 ∨ seqAhead (s.rd (txNextFld l c)) base < d then s
    else
      have rest := y.unacked.filter fun v => d ≤ seqAhead v.flit.seq base
      s.setCls l c { y with unacked := rest, repCount := 0, limRaised := false,
                            replay := if rest.isEmpty then none else y.replay }

/-- The full number an acknowledgement's 12 bits name, if it lies in the unacknowledged range (R137, R143). -/
def State.ackNumber (s : State) (l c ack : Nat) : Option Nat :=
  have next := s.rd (txNextFld l c)
  have base := match (((s.lk l).cls c).unacked.head?) with
    | some u => u.flit.seq
    | none => next
  have d := (ack + 4096 - base % 4096) % 4096
  if d ≤ seqAhead next base then some ((base + d) % 2 ^ 24) else none

/-- The receiver opens a NAK episode of class `c` (R138). -/
def State.openNak (s : State) (l c : Nat) : State :=
  have y := (s.lk l).cls c
  (s.setCls l c { y with nakOpen := true, nnumTx := (y.nnumTx + 1) % 4 }).count (Reg.LNK_NAK_TX_CNT l) 1

end Sys2Proof.Machine
end

