-- ==== Sys2Proof/Machine/Verify.lean ====
section
/-! DEFINITION. Sys2Proof/Machine/Verify.lean: what verification of the shadow bank set finds (R92, and R69 to R75, R87, R89,
R94 for the single checks). -/
namespace Sys2Proof.Machine

/-- The plan cables a link (R387): EXPECT is REQUIRED or OPTIONAL. -/
def State.planned (s : State) (l : Nat) : Bool :=
  s.rd (Reg.LNK_PLAN_EXPECT l) == 1 || s.rd (Reg.LNK_PLAN_EXPECT l) == 2

/-- A format code that is not reserved (R71). -/
def fmtOk (f : Nat) : Bool := f ≤ 0xB || (0x14 ≤ f && f ≤ 0x18)

/-- OP and FMT pair (R72). -/
def opFmtOk (op f : Nat) : Bool :=
  match op with
  | 0 => f == 1
  | 1 => f == 0xB
  | 2 => f == 1 || f == 3
  | 3 => f == 1 || f == 3
  | 4 => f == 0
  | _ => false

/-- A set of programs under verification: round length, loose phase and bank. -/
structure BankSet where
  n : Nat
  phase : Nat
  bank : Nat
deriving DecidableEq, Repr

/-- An entry of the set under verification (R93). -/
def State.bankEntry (s : State) (b : BankSet) (l dir p : Nat) : Word := s.tab (progAddr l dir b.bank p)

/-- CUF_BANK_CFG outside R66 (reason ROUND). -/
def roundBad (b : BankSet) : Bool := b.n % 32 != 0 || b.n < 32 || 32768 < b.n || 31 < b.phase

/-- The band of a link breaks R87 (reason BAND). -/
def State.bandBad (s : State) (l : Nat) : Bool :=
  have ms := allLinks.filter fun x => s.rdb (Reg.LNK_BAND_EN x) && s.rd (Reg.LNK_BAND_LEAD x) == s.rd (Reg.LNK_BAND_LEAD l)
  s.rdb (Reg.LNK_BAND_EN l) && 2 ≤ ms.length &&
    (ms.any (fun x => isFar x != isFar l || !s.planned x
        || s.rd (Reg.LNK_PLAN_NBR_SEAT x) != s.rd (Reg.LNK_PLAN_NBR_SEAT l)
        || s.rd (Reg.LNK_BAND_SPARE x) != s.rd (Reg.LNK_BAND_SPARE l))
      || (List.range ms.length).any (fun m => (ms.filter fun x => s.rd (Reg.LNK_BAND_MEMBER x) == m).length != 1)
      || (ms.filter fun x => s.rd (Reg.LNK_BAND_MEMBER x) == 0) != [s.rd (Reg.LNK_BAND_LEAD l)])

/-- The spare of a spare-mode band (R89): the member with the highest number. -/
def State.isSpare (s : State) (l : Nat) : Bool :=
  s.rdb (Reg.LNK_BAND_SPARE l) && s.rdb (Reg.LNK_BAND_EN l) && (s.bandLinks l).getLast? == some l

/-- The landed operands a send entry reads: input link and age (R69). -/
def entryReads (e : Word) : List (Nat × Nat) := (List.range (operandCount e)).map fun i => (operandIn e i, operandAge e i)

/-- A field of a send entry is reserved or out of range (reason FIELD). -/
def sendFieldBad (e : Word) : Bool :=
  have ages := (entryReads e).any fun r => r.2 < 2 || 24 ≤ r.1
  match entKind e with
  | 1 => fget e 46 3 != 0 || !fmtOk (entFmt e)
  | 2 => fget e 46 11 != 0 || !fmtOk (entFmt e) || ages
  | 3 => fget e 37 33 != 0 || !fmtOk (entFmt e) || 5 ≤ fget e 46 44 || ages
  | _ => fget e 59 0 != 0

/-- A field of a land entry is reserved or out of range (reason FIELD). -/
def landFieldBad (e : Word) : Bool :=
  match entKind e with
  | 0 => fget e 59 0 != 0
  | 1 => fget e 45 3 != 0 || !fmtOk (entFmt e)
  | 2 => fget e 45 0 != 0 || !fmtOk (entFmt e)
  | 3 => fget e 45 7 != 0 || !fmtOk (entFmt e) || fget e 6 4 = 0 || 4 < fget e 6 4 || fget e 6 4 + fget e 3 3 < 2
  | _ => fget e 36 0 != 0 || !fmtOk (entFmt e) || 5 ≤ fget e 45 43

/-- Reads of the flit that lands on link `l` at position `q`, by every send program of the set (R75). -/
def State.readsMade (s : State) (b : BankSet) (l q : Nat) : Nat :=
  (allLinks.map fun x => ((List.range 62).map fun i =>
    have p := q + 2 + i
    if p < b.n then ((entryReads (s.bankEntry b x 0 p)).filter fun r => r.1 == l && r.2 == i + 2).length else 0).sum).sum

/-- A read of a send entry at position `p` names no held flit (reason READS). -/
def State.readBad (s : State) (b : BankSet) (p : Nat) (r : Nat × Nat) : Bool :=
  p < r.2 || (have k := entKind (s.bankEntry b r.1 1 (p - r.2)); k != 2 && k != 3)

/-- A read of a send entry breaks reason OPERAND. -/
def State.readOperandBad (s : State) (b : BankSet) (e : Word) (p : Nat) (r : Nat × Nat) : Bool :=
  have t := s.bankEntry b r.1 1 (p - r.2)
  entFmt t != entFmt e || (entKind e == 3 && fget t 46 46 == 1)

/-- A link's stitches may be scheduled: inside the mitten (reason 3) or fit (reason 9), unless they have moved (R90). -/
def State.linkOutside (s : State) (l : Nat) : Bool := !s.inMitten l && !s.rdb (Reg.LNK_BAND_FAILED l)
def State.linkUnfit (s : State) (l : Nat) : Bool := !s.rdb (Reg.LNK_SCHED_STATUS_FIT l) && !s.rdb (Reg.LNK_BAND_FAILED l)

/-- The first reason, in ascending order, against the send entry of link `l` at `p`; 0 for none (R92). -/
def State.sendReason (s : State) (b : BankSet) (l p : Nat) : Nat :=
  have e := s.bankEntry b l 0 p
  have k := entKind e
  have sched := isSchedSend e
  have reads := entryReads e
  have loose : Bool := p % 32 == b.phase
  if 6 ≤ k then 1
  else if sendFieldBad e then 2
  else if (sched && s.linkOutside l) || (reads.any fun r => s.linkOutside r.1) then 3
  else if !isFar l && (loose != (k == 4)) then 4
  else if reads.any (s.readBad b p) then 5
  else if (k == 3 && (operandCount e + fget e 43 43 < 2 || !opFmtOk (fget e 46 44) (entFmt e)))
      || reads.any (s.readOperandBad b e p) then 6
  else if sched && s.isSpare l then 7
  else if sched && s.linkUnfit l then 9
  else
    match sendQueue e with
    | some q => if s.sqCap l q = 0 then 11 else 0
    | none => 0

/-- The first reason against the land entry of link `l` at `p`; 0 for none (R92). -/
def State.landReason (s : State) (b : BankSet) (l p : Nat) : Nat :=
  have e := s.bankEntry b l 1 p
  have k := entKind e
  if 5 ≤ k then 1
  else if landFieldBad e then 2
  else if k != 0 && s.linkOutside l then 3
  else if !isFar l && p % 32 == b.phase && k != 0 then 4
  else if (k == 2 || k == 3) && s.readsMade b l p != landReads e then 5
  else if k == 4 && (!opFmtOk (fget e 45 43) (entFmt e) || fget e 46 46 == 1) then 6
  else if k != 0 && s.isSpare l then 7
  else if k != 0 && s.linkUnfit l then 9
  else
    have noRq := match landQueue e with
      | some q => s.rqCap l q == 0
      | none => false
    if noRq || (k == 4 && s.sqCap l (fget e 42 40) == 0) then 11 else 0

/-- The first condition in a link's programs: reason, direction, position (R92). -/
def State.linkReason (s : State) (b : BankSet) (l : Nat) : Option (Nat × Nat × Nat) :=
  if s.bandBad l then some (8, 0, 0)
  else
    ((List.range b.n).findSome? fun p => if s.sendReason b l p = 0 then none else some (s.sendReason b l p, 0, p)).or
      ((List.range b.n).findSome? fun p => if s.landReason b l p = 0 then none else some (s.landReason b l p, 1, p))

/-- What verification of a set finds: reason, link, direction, position; reason 0 for none (R92). -/
def State.verifySet (s : State) (b : BankSet) : Nat × Nat × Nat × Nat :=
  if roundBad b then (10, 0, 0, 0)
  else
    match allLinks.findSome? fun l => (s.linkReason b l).map fun r => (r.1, l, r.2.1, r.2.2) with
    | some r => r
    | none => (0, 0, 0, 0)

/-- The shadow bank set (R92). -/
def State.shadowSet (s : State) : BankSet :=
  ⟨s.rd Reg.CUF_BANK_CFG_N, s.rd Reg.CUF_BANK_CFG_LOOSE_PHASE, 1 - s.rd Reg.CUF_STATUS_ACTIVE_BANK⟩

/-- Verification of the shadow set starts for segment `seg` (0 in manual mode): it ends 1.5 × N ct later (R92). The
result of the verification before it is cleared as it starts (log entry 58). -/
def State.startVerify (s : State) (seg : Nat) : State :=
  have b := s.shadowSet
  have r := s.verifySet b
  have s := ((s.wr Reg.CUF_STATUS_VERIFY_BUSY 1).wr Reg.CUF_STATUS_VERIFY_OK 0).wr Reg.CUF_STATUS_VERIFY_FAIL 0
  { s with cuff := { s.cuff with
      fill := none,
      verify := some { done := s.cyc + 3 * b.n / 2, reason := r.1, link := r.2.1, dir := r.2.2.1, pos := r.2.2.2, seg := seg } } }

end Sys2Proof.Machine
end

