-- ==== Sys2Proof/Machine/Image.lean ====
section
/-! DEFINITION. Sys2Proof/Machine/Image.lean: reading the Sowin image a module holds: header, section table, manifest, segment
table, bank sets and op stream (R293 to R305), the device's refusals (R317), and stack retrains at idle runs (R289). -/
namespace Sys2Proof.Machine

/-- The contents of a chunk kept in the load area (R321). -/
def State.chunk (s : State) (c : Nat) : Nat := SMap.get (fun _ => 0) s.ldrs.held c

/-- A chunk is held (R321). -/
def State.hasChunk (s : State) (c : Nat) : Bool := SMap.get (fun _ => false) s.ldrs.got c

/-- `n` bytes at offset `o` of a little-endian number. -/
def field (x o n : Nat) : Nat := x / 2 ^ (8 * o) % 2 ^ (8 * n)

/-- A header field (R293): `n` bytes at offset `o` of chunk 0. -/
def State.hdr (s : State) (o n : Nat) : Nat := field (s.chunk 0) o n

/-- Header fields (R293). -/
def State.imgChunks (s : State) : Nat := s.hdr 0x10 4
def State.tableChunk (s : State) : Nat := s.hdr 0x14 4
def State.sectionCount (s : State) : Nat := s.hdr 0x18 2
def State.keySlot (s : State) : Nat := s.hdr 0x1A 1
def State.imgKind (s : State) : Nat := s.hdr 0x1B 1

/-- Chunks the section table spans (R294). -/
def State.tableChunks (s : State) : Nat := (s.sectionCount * 128 + 4095) / 4096

/-- A section table entry (R294). -/
structure Section where
  typ : Nat
  variant : Nat
  first : Nat
  chunks : Nat
  length : Nat
  place : Nat
  digest : Nat
  rsv : Nat
deriving DecidableEq, Repr

/-- Section table entry `i` (R294). -/
def State.imgSection (s : State) (i : Nat) : Section :=
  have e := field (s.chunk (s.tableChunk + i / 32)) (128 * (i % 32)) 128
  { typ := field e 0 2, variant := field e 2 2, first := field e 8 4, chunks := field e 0xC 4, length := field e 0x10 8,
    place := field e 0x18 8, digest := field e 0x50 48, rsv := field e 4 4 + field e 0x20 48 }

/-- The whole section table. -/
def State.imgSections (s : State) : List Section := (List.range s.sectionCount).map s.imgSection

/-- A shared section carries VARIANT 0xFFFF (R294). -/
def Section.shared (x : Section) : Bool := x.variant == 0xFFFF

/-- A placed section type (R295). -/
def placedType (t : Nat) : Bool := 0x10 ≤ t && t ≤ 0x13

/-- The section of a type for a variant, or the shared one. -/
def State.findSection (s : State) (t variant : Nat) : Option Section :=
  s.imgSections.find? fun x => x.typ == t && (x.shared || x.variant == variant)

/-- `n` bytes at offset `o` of an unplaced section, as a little-endian number. -/
def State.secNum (s : State) (x : Section) (o n : Nat) : Nat :=
  ofLeBytes ((List.range n).map fun i =>
    BitVec.ofNat 8 (field (s.chunk (x.first + (o + i) / 4096)) ((o + i) % 4096) 1))

/-- `n` bytes at offset `o` of the shared section of a type; 0 without it. -/
def State.sharedNum (s : State) (t o n : Nat) : Nat :=
  match s.findSection t 0xFFFF with
  | some x => s.secNum x o n
  | none => 0

/-- MANIFEST fields (R297). -/
def State.manifest (s : State) (o n : Nat) : Nat := s.sharedNum 1 o n

/-- Segments of the image (R297). -/
def State.segments (s : State) : Nat := s.manifest 8 4

/-- A virtual module ID's index (R298). -/
def State.vIndex (s : State) (v : Nat) : Nat :=
  (v / 64 % 64 * s.manifest 1 1 + v / 8 % 8) * s.manifest 2 1 + v % 8

/-- A virtual module ID lies in the grid (R298). -/
def State.inGrid (s : State) (v : Nat) : Bool :=
  v / 64 % 64 < s.manifest 0 1 && v / 8 % 8 < s.manifest 1 1 && v % 8 < s.manifest 2 1

/-- The variant of this module's virtual module (R298). -/
def State.variant (s : State) : Nat := s.sharedNum 2 (16 * s.vIndex (s.rd Reg.LDR_VMOD_VMOD)) 2

/-- The section of a type of this module's variant (R295). -/
def State.mySection (s : State) (t : Nat) : Option Section := s.findSection t s.variant

/-- Byte address of a placed section of this module's variant (R294). -/
def State.placeOf (s : State) (t : Nat) : Nat :=
  match s.mySection t with
  | some x => x.place
  | none => 0

/-- Length in bytes of a section of this module's variant. -/
def State.lengthOf (s : State) (t : Nat) : Nat :=
  match s.mySection t with
  | some x => x.length
  | none => 0

/-- A CONFIG value (R297): bytes at offset `o`. -/
def State.config (s : State) (o n : Nat) : Nat :=
  match s.mySection 0x15 with
  | some x => s.secNum x o n
  | none => 0

/-- Segment `k`'s entry (R302), as it stands in HBM; `fetchSeg` has the effects of fetching it, and an entry that was not fetched is
never used (R306). -/
def State.segEntry (s : State) (k : Nat) : Nat := (s.hbmPeek (s.placeOf 0x10 / 32 + (k - 1))).getD 0

/-- A fetch from a stack that is not UP: ECC_UNCORRECTABLE STACK, and the Palm halts (R290, R217). -/
def State.stackLost (s : State) (w : Nat) : State :=
  (s.eccFault (0x900 + w / stackWords)
    { code := 0x0305, block := 10, cause := 9, sub := 3, c := w, stack := w / stackWords }).palmHalt

/-- The device fetches segment `k`'s entry through lead queue 13 (R283, R305, R306): one fetched as poison, or from a stack that is
not UP (R290), does not count as fetched. -/
def State.fetchSeg (s : State) (k : Nat) : State :=
  if k = 0 ∨ s.segments < k then s
  else
    have w := s.placeOf 0x10 / 32 + (k - 1)
    have r := if s.stackUp (w / stackWords) then s.hbmReadN 13 w 1 else (s.stackLost w, [none])
    have rest := r.1.ldrs.segLost.filter (· != k)
    { r.1 with ldrs := { r.1.ldrs with segLost := if r.2 = [none] then k :: rest else rest } }

/-- Segment `k`'s entry has been fetched, if the sender says that the fetch has ended (R306). -/
def State.segFetched (s : State) (k : Nat) (fetched : Bool) : Bool := fetched && !s.ldrs.segLost.contains k

/-- Fields of a segment entry (R302). -/
def segOfs (e : Nat) : Nat := nbits e 255 208
def segGrace (e : Nat) : Nat := nbits e 207 193
def segResume (e : Nat) : Bool := nbit e 192
def segFirstOp (e : Nat) : Nat := nbits e 191 160
def segSet (e : Nat) : Nat := nbits e 159 128
def segN (e : Nat) : Nat := nbits e 127 112
def segPhase (e : Nat) : Nat := nbits e 111 107
def segTokens (e : Nat) : Nat := nbits e 106 99
def segIdle (e : Nat) : Nat := nbits e 98 91
def segLast (e : Nat) : Bool := nbit e 90

/-- SEAM_OFS of segment `k`; 0 for segment 0 (R303). -/
def State.seamOfs (s : State) (k : Nat) : Nat := if k = 0 then 0 else segOfs (s.segEntry k)

/-- Descriptors of the op stream (R295), and the first past segment `k`'s fetch group (R305). -/
def State.opCount (s : State) : Nat := s.lengthOf 0x11 / 32
def State.opsEnd (s : State) (k : Nat) : Nat := if k < s.segments then segFirstOp (s.segEntry (k + 1)) else s.opCount

/-- The tick of seam `k` of the running image (R303). -/
def State.seamTick (s : State) (k : Nat) : Nat := s.ldrs.start + s.seamOfs k - s.seamOfs (s.ldrs.startSeg - 1)

/-- The first segment after `k` whose opening changes the bank set (R95, R302). -/
def State.nextChange (s : State) (k : Nat) : Option Nat :=
  ((List.range (s.segments - k)).map fun i => k + 1 + i).find? fun j => segSet (s.segEntry j) != 0xFFFFFFFF

/-- Entry `p` of a program read from the program store (R304): its words hold four; a poisoned word, as one of a stack that is not UP,
gives the reserved KIND 0xF (R290). -/
def storeEntry (ws : List RWord) (p : Nat) : Word :=
  match (ws[p / 4]?).getD none with
  | some x => BitVec.ofNat 64 (x / 2 ^ (64 * (p % 4)))
  | none => BitVec.ofNat 64 (15 * 2 ^ 60)

/-- Automatic fill of one program of the shadow bank set, read through lead queue 12 (R95, R283, R304). -/
def State.fillProgram (s : State) (e l dir bank : Nat) : State :=
  have r := s.hbmReadN 12 (s.placeOf 0x13 / 32 + segSet e + (2 * l + dir) * (segN e / 4)) ((segN e + 3) / 4)
  r.1.forEach (List.range (segN e)) fun s p => s.setTab (progAddr l dir bank p) (storeEntry r.2 p)

/-- Automatic fill: the bank set of segment `k` is copied into the shadow banks and CUF_BANK_CFG (R95, R304). -/
def State.fillShadow (s : State) (k : Nat) : State :=
  have e := s.segEntry k
  have bank := 1 - s.rd Reg.CUF_STATUS_ACTIVE_BANK
  have s := (s.devWr Reg.CUF_BANK_CFG_N (segN e)).devWr Reg.CUF_BANK_CFG_LOOSE_PHASE (segPhase e)
  s.forEach allLinks fun s l => s.forEach [0, 1] fun s dir => s.fillProgram e l dir bank

/-- The Cuff begins to fill the shadow set for segment `k`, at 64 entries a crown tick (R95). -/
def State.startFill (s : State) (k : Nat) : State :=
  have n := segN (s.segEntry k)
  { (s.wr Reg.CUF_STATUS_VERIFY_BUSY 1).wr Reg.CUF_STATUS_VERIFY_OK 0 with
    cuff := { s.cuff with fill := some (k, s.cyc + 3 * n / 4) } }

/-- What a refusal names (R316, R317). -/
structure RefArgs where
  reason : Nat
  sub : Nat := 0
  seg : Nat := 0
  obj : Nat := 0
  index : Nat := 0
  value : Nat := 0
  bound : Nat := 0
  link : Nat := 0xFF
  pos : Nat := 0xFFFF
  op : Nat := 0xFFFFFFFF
deriving DecidableEq, Repr

/-- Record the first refusal of a load in LDR_REFUSE0 to LDR_REFUSE2 (R317). -/
def State.writeRefuse (s : State) (r : RefArgs) : State :=
  if s.ldrs.refused then s
  else
    have self := s.rd Reg.RTE_SELF_ID
    have s := { s with ldrs := { s.ldrs with refused := true } }
    have s := s.setReg Reg.LDR_REFUSE0 (BitVec.ofNat 64
      (2 ^ 56 * r.reason + 2 ^ 48 * (r.sub % 256) + 2 ^ 44 * (r.obj % 16) + 2 ^ 32 * self + r.seg % 2 ^ 32))
    have s := s.setReg Reg.LDR_REFUSE1 (BitVec.ofNat 64 (2 ^ 32 * (r.index % 2 ^ 32) + s.rd Reg.LDR_VMOD_VMOD))
    s.setReg Reg.LDR_REFUSE2 (BitVec.ofNat 64 (2 ^ 32 * (r.value % 2 ^ 32) + r.bound % 2 ^ 32))

/-- The IMAGE_REFUSED record of a refusal (R402). -/
def State.refuseArgs (s : State) (r : RefArgs) : FaultArgs :=
  { code := 0x0701, block := 13, cause := r.reason, sub := r.sub, a := 2 ^ 12 * r.obj + s.rd Reg.RTE_SELF_ID, b := r.index,
    c := 2 ^ 32 * (r.value % 2 ^ 32) + r.bound % 2 ^ 32, link := r.link, pos := r.pos, op := r.op }

/-- The device refuses the image: the registers, IMAGE_REFUSED, and the state REFUSED out of VERIFYING or ARMED (R310,
R317). -/
def State.refuseImage (s : State) (r : RefArgs) : State :=
  have s := (s.writeRefuse r).fault (s.refuseArgs r)
  if s.ldr = 4 ∨ s.ldr = 7 then s.wr Reg.LDR_STATUS_STATE 11 else s

/-- A refusal whose class's actions wait for the opening seam of segment `seg` (R97, R306, R344). -/
def State.refuseAt (s : State) (r : RefArgs) (seg : Nat) : State :=
  (s.writeRefuse r).faultAt (s.refuseArgs r) seg

/-- The time limit of a retrain in ct: quick 150,000, full 2,000,000 (R288). -/
def retrainLimit (kind : Nat) : Nat := if kind = 0 then 150000 else 2000000

/-- A retrain of an UP stack starts (R288). -/
def State.startRetrain (s : State) (k kind : Nat) : State :=
  have s := ((s.wr (Reg.HBM_STATUS_STATE k) 2).wr (Reg.HBM_STATUS_PENDING k) 0).count (Reg.HBM_RETRAIN_CNT k) 1
  { s with mem := { s.mem with retrain := SMap.set (fun _ => (0, 0)) s.mem.retrain k (1 + kind, s.cyc),
                               pendKind := SMap.set (fun _ => 0) s.mem.pendKind k 0 } }

/-- The last segment of the run of segments from `k` on that leave stack `st` idle (R289). -/
def State.idleRunEnd (s : State) (st k : Nat) : Nat :=
  have n := ((List.range (s.segments + 1 - k)).takeWhile fun i => nbit (segIdle (s.segEntry (k + i))) st).length
  k + n - 1

/-- At the opening seam of segment `k`, pending retrains start whose idle run is long enough (R289). -/
def State.pendingRetrains (s : State) (k : Nat) : State :=
  s.forEach (List.range 8) fun s st =>
    if s.rdb (Reg.HBM_STATUS_PENDING st) ∧ s.stackUp st ∧ nbit (segIdle (s.segEntry k)) st then
      have kind := SMap.get (fun _ => 0) s.mem.pendKind st - 1
      have len := s.seamOfs (s.idleRunEnd st k) - s.seamOfs (k - 1)
      if retrainLimit kind + 1024 ≤ len then s.startRetrain st kind else s
    else s

/-- The active set holds scheduled entries on a link (R99). -/
def State.schedActive (s : State) (l : Nat) : Bool :=
  have b := s.rd Reg.CUF_STATUS_ACTIVE_BANK
  match s.progOf l with
  | some p => (List.range s.roundN).any fun q =>
      isSchedSend (s.tab (progAddr p 0 b q)) || entKind (s.tab (progAddr p 1 b q)) != 0
  | none => false

/-- Show SCHED_ACTIVE on every link. -/
def State.showSched (s : State) : State :=
  s.forEach allLinks fun s l => s.wrb (Reg.LNK_SCHED_STATUS_SCHED_ACTIVE l) (s.schedActive l)

/-- The armed shadow set swaps in at a seam or image start (R96): `seam` is the index shown in LAST_SWAP_SEAM. -/
def State.swapBanks (s : State) (seam : Nat) : State :=
  have n := s.rd Reg.CUF_BANK_CFG_N
  have p := s.rd Reg.CUF_BANK_CFG_LOOSE_PHASE
  have s := s.wr Reg.CUF_STATUS_ACTIVE_BANK (1 - s.rd Reg.CUF_STATUS_ACTIVE_BANK)
  have s := (s.wr Reg.CUF_ACTIVE_CFG_N n).wr Reg.CUF_ACTIVE_CFG_LOOSE_PHASE p
  have s := ((s.wr Reg.CUF_STATUS_ARMED 0).wr Reg.CUF_STATUS_VERIFY_OK 0).wr Reg.CUF_STATUS_LAST_SWAP_SEAM seam
  (s.count Reg.CUF_SWAP_CNT 1).showSched

/-- This tick is the closing seam of the current segment, and SEAM_OPEN has still to come (R60, R306). -/
def State.seamDue (s : State) : Bool :=
  s.run && s.ldr == 8 && !s.cuff.stopped && !s.cuff.ended && s.now == s.rd Reg.CUF_SEAM_TICK_TICK

/-- This tick is the armed image start, which has still to come (R60, R310). -/
def State.startDue (s : State) : Bool := s.ldr == 7 && s.now == s.rd Reg.LDR_START_TICK_TICK

/-- What a tick does first, the image start and the seam, is done (R60). -/
def State.seamClear (s : State) : Bool := !s.seamDue && !s.startDue

/-- An armed epoch switch falls on this tick (R60, R183). -/
def State.epochDue (s : State) : Bool := s.rdb Reg.RTE_EPOCH_ARMED && s.now == s.rd Reg.RTE_EPOCH_TICK_TICK

/-- The armed set becomes active at this tick for segment `seg` (R95, R96). -/
def State.swapDue (s : State) (seg : Nat) : Bool :=
  s.rdb Reg.CUF_STATUS_ARMED && s.cuff.armedAt + 1024 ≤ s.now && (s.cuff.armSeg == 0 || s.cuff.armSeg == seg)

/-- After a swap the Cuff starts the next automatic fill, if a later segment changes banks (R95). -/
def State.nextFill (s : State) (seg : Nat) : State :=
  if s.rdb Reg.CUF_CTRL_FILL_AUTO then
    match s.nextChange seg with
    | some k => s.startFill k
    | none => s
  else s

/-- Commit segment `k` (R306): its number, closing seam, grace and IDLE mask, and a new segment's once-only faults. -/
def State.commitSegment (s : State) (k : Nat) : State :=
  have e := s.segEntry k
  have s := ((s.wr Reg.CUF_SEAM_SEGMENT k).wr Reg.CUF_SEAM_GRACE (segGrace e)).wr Reg.CUF_SEAM_TICK_TICK (s.seamTick k)
  have s := s.wr Reg.LDR_SEG_COMMITTED k
  have s := s.forEach allLinks fun s l =>
    s.setLk l { s.lk l with lagRaised := false, cmbRaised := false, misRaised := false }
  s.pendingRetrains k

end Sys2Proof.Machine
end

