-- ==== Sys2Proof/Machine/Crown.lean ====
section
/-! DEFINITION. Sys2Proof/Machine/Crown.lean: the reference, the crown counter, discipline by beacons, and lock states (R26 to
R45). -/
namespace Sys2Proof.Machine

/-- This module is the crown master (CRN_CTRL.ROLE). -/
def State.isMaster (s : State) : Bool := s.rdb Reg.CRN_CTRL_ROLE

/-- An image is loaded in the sense of R44: ADMITTED, ARMED or RUNNING. -/
def State.imageLoaded (s : State) : Bool := s.ldr == 6 || s.ldr == 7 || s.ldr == 8

/-- The active parent link (R42). -/
def State.parentLink (s : State) : Nat :=
  if s.rdb Reg.CRN_STATUS_ON_ALT then s.rd Reg.CRN_PARENT_ALT else s.rd Reg.CRN_PARENT_PRI

/-- Raise CROWN_UNLOCK with a cause of R44 (detail of R402). -/
def State.crownUnlock (s : State) (cause : Nat) : State :=
  s.fault { code := 0x0401, block := 2, cause := cause, sub := s.rd Reg.CRN_STATUS_STATE, a := s.rd Reg.CRN_STATUS_HOPS,
            b := (toSigned 16 (s.rd Reg.CRN_OFFSET_OFFSET)).natAbs }

/-- The hold age a non-master in HOLDOVER reports: from the oldest holdover on its path, in units of 4,096 ct (R43). An
ancestor's holdover has gone on since the parent last reported its age. -/
def State.holdAge (s : State) : Nat :=
  have above := if s.crown.parDepth = 0 then 0 else s.crown.parAge + (s.now - s.crown.parAt) / 4096
  match s.crown.holdSince with
  | some t => min 4095 (max ((s.now - t) / 4096) above)
  | none => 0

/-- Set the depth and age this module reports in its beacons (R43). -/
def State.reportHold (s : State) : State :=
  if s.isMaster then (s.wr Reg.CRN_STATUS_HOLD_DEPTH 0).wr Reg.CRN_STATUS_HOLD_AGE 0
  else if s.rd Reg.CRN_STATUS_STATE = 3 then
    (s.wr Reg.CRN_STATUS_HOLD_DEPTH (min 3 (s.crown.parDepth + 1))).wr Reg.CRN_STATUS_HOLD_AGE s.holdAge
  else (s.wr Reg.CRN_STATUS_HOLD_DEPTH s.crown.parDepth).wr Reg.CRN_STATUS_HOLD_AGE s.crown.parAge

/-- CROWN_UNLOCK HOLD_DEPTH: a non-master itself in HOLDOVER would report depth 3 (R44). -/
def State.checkDepth (s : State) : State :=
  if s.rd Reg.CRN_STATUS_STATE = 3 ∧ s.isMaster = false ∧ 3 ≤ s.crown.parDepth + 1 ∧ s.crown.depthRaised = false then
    { s with crown := { s.crown with depthRaised := true } }.crownUnlock 3
  else s

/-- CROWN_UNLOCK REF_HOLD: a non-master in HOLDOVER without a valid reference that has missed four consecutive exchanges
on its active parent link (R38, R44). -/
def State.checkRefHold (s : State) : State :=
  if s.rd Reg.CRN_STATUS_STATE = 3 ∧ s.isMaster = false ∧ s.rd Reg.CRN_STATUS_REF_OK = 0 ∧ 4 ≤ s.crown.missRun
      ∧ s.crown.refRaised = false then
    { s with crown := { s.crown with refRaised := true } }.crownUnlock 11
  else s

/-- In HOLDOVER a module that is not master runs at the servo's integral rate, averaged over the last 256 exchanges (R38);
the mean's rounding is the model's (log entry 56). -/
def State.holdTrim (s : State) : State :=
  if s.isMaster || s.crown.integ.isEmpty then s
  else s.wr Reg.CRN_TRIM_TRIM (ofSigned 32 (clampI (-(2 ^ 20)) (2 ^ 20) (meanRate s.crown.integ)))

/-- The module was LOCKED for fewer than 256 exchanges before this entry to HOLDOVER (R38, R44); one that enters from ACQUIRING
was LOCKED for none (log entry 56). -/
def State.heldEarly (s : State) : Bool :=
  !s.isMaster && (s.rd Reg.CRN_STATUS_STATE == 1 || (s.rd Reg.CRN_STATUS_STATE == 2 && decide (s.crown.lockedExch < 256)))

/-- Enter HOLDOVER: the prediction is void, and HOLD_EARLY and HOLD_DEPTH are checked (R36, R38, R41, R44). -/
def State.enterHoldover (s : State) : State :=
  have early := s.heldEarly && s.imageLoaded
  have s := s.holdTrim
  have s := { s with crown := { s.crown with
      lastAcc := none, smallRun := 0, bigRun := 0, holdSince := some s.now,
      limRaised := false, depthRaised := false, refRaised := false } }
  have s := (s.wr Reg.CRN_STATUS_STATE 3).reportHold
  have s := if early then s.crownUnlock 4 else s
  s.checkDepth

/-- A master whose EN is set starts its crown at CRN_START once PLL_LOCK and REF_OK hold (R41). -/
def State.tryMasterStart (s : State) : State :=
  if s.rd Reg.CRN_STATUS_STATE = 0 ∧ s.rdb Reg.CRN_CTRL_EN ∧ s.isMaster ∧ s.rdb Reg.CRN_STATUS_PLL_LOCK
      ∧ s.rdb Reg.CRN_STATUS_REF_OK then
    have s := ((s.wr Reg.CRN_NOW_CROWN (s.rd Reg.CRN_START_START)).wr Reg.CRN_STATUS_RUNNING 1).wr Reg.CRN_STATUS_STATE 2
    { (s.wr Reg.CRN_STATUS_HOPS 0).reportHold with crown := { s.crown with lockedExch := 0 } }
  else s

/-- Note since when REF_OK and PLL_LOCK have both held (R41). -/
def State.noteRef (s : State) : State :=
  if s.rdb Reg.CRN_STATUS_REF_OK ∧ s.rdb Reg.CRN_STATUS_PLL_LOCK then
    (match s.crown.refSince with
     | some _ => s
     | none => { s with crown := { s.crown with refSince := some s.cyc } })
  else { s with crown := { s.crown with refSince := none } }

/-- ROOT_PLL_LOCK (R26). -/
def execRootPllLock (s : State) : Host.Outcome State Fault Refusal :=
  .next ((s.wr Reg.CRN_STATUS_PLL_LOCK 1).noteRef.tryMasterStart)

/-- REFERENCE_LOST (R27, R41, R44): REF_OK clears, the PLL runs open-loop, LOCKED and ACQUIRING become HOLDOVER. -/
def execReferenceLost (s : State) : Host.Outcome State Fault Refusal :=
  if s.rdb Reg.CRN_STATUS_REF_OK then
    have s := ((s.wr Reg.CRN_STATUS_REF_OK 0).wr Reg.CRN_STATUS_PLL_LOCK 0).noteRef
    have s := if s.rd Reg.CRN_STATUS_STATE = 1 ∨ s.rd Reg.CRN_STATUS_STATE = 2 then s.enterHoldover else s
    .next ((s.crownUnlock 1).checkRefHold)
  else .next s

/-- REFERENCE_RESTORED (R27, R41). -/
def execReferenceRestored (s : State) : Host.Outcome State Fault Refusal :=
  .next ((s.wr Reg.CRN_STATUS_REF_OK 1).noteRef.tryMasterStart)

/-- CRN_EN_SET (R41, R42): a driver write of CRN_CTRL with EN 1. A write that finds EN already 1 leaves ROLE. -/
def execCrnEnSet (role altEn : Bool) (s : State) : Host.Outcome State Fault Refusal :=
  have s := s.wrb Reg.CRN_CTRL_ALT_EN altEn
  if s.rdb Reg.CRN_CTRL_EN then .next s
  else
    have s := ((s.wrb Reg.CRN_CTRL_ROLE role).wr Reg.CRN_CTRL_EN 1).wr Reg.CRN_STATUS_ON_ALT 0
    have s := { s with crown := { s.crown with acqRun := 0, slices := [], lastAcc := none, altPend := false, missRun := 0,
                                               hopRun := 0, smallRun := 0, bigRun := 0 } }
    .next s.tryMasterStart

/-- Enter FREE: the crown stops and returns to 0, and every armed action is cancelled (R30, R41, R61). HOPS and TRIM keep what
they last held (log entry 56), and the crown bridge's samples of the crown that has ended go (R366, log entry 45). -/
def State.enterFree (s : State) : State :=
  have loaded := s.imageLoaded
  have s := ((s.wr Reg.CRN_STATUS_RUNNING 0).wr Reg.CRN_STATUS_STATE 0).wr Reg.CRN_NOW_CROWN 0
  have s := ((s.wr Reg.CRN_STATUS_GOOD_RUN 0).wr Reg.CRN_STATUS_HOLD_DEPTH 0).wr Reg.CRN_STATUS_HOLD_AGE 0
  have s := { s with crown := { s.crown with
      lastAcc := none, missRun := 0, smallRun := 0, bigRun := 0, hopRun := 0, acqRun := 0, slices := [], req := none,
      mon := [], holdSince := none, altPend := false }, time := { s.time with samples := [] } }
  have s := if loaded then s.crownUnlock 7 else s
  have s := s.cancelArmed
  if s.rdb Reg.TIME_CTRL_OUT_SRC then s.outHoldover else s

/-- CRN_EN_CLEAR (R41, R61): a driver write of CRN_CTRL with EN 0, which takes its ROLE. -/
def execCrnEnClear (role altEn : Bool) (s : State) : Host.Outcome State Fault Refusal :=
  have was := s.rdb Reg.CRN_CTRL_EN
  have s := ((s.wrb Reg.CRN_CTRL_ALT_EN altEn).wrb Reg.CRN_CTRL_ROLE role).wr Reg.CRN_CTRL_EN 0
  if was then .next s.enterFree else .next s

/-- A beacon that carries this module's state (R33); stamps and slice are filled at departure. -/
def State.ownBeacon (s : State) (seq : Nat) : Beacon :=
  { seq := seq, stampA := 0, stampB := 0, state := s.rd Reg.CRN_STATUS_STATE, hops := s.rd Reg.CRN_STATUS_HOPS,
    masterId := s.rd Reg.CRN_PARENT_MASTER_ID, holdDepth := s.rd Reg.CRN_STATUS_HOLD_DEPTH,
    holdAge := s.rd Reg.CRN_STATUS_HOLD_AGE, highIndex := 0, highSlice := 0 }

/-- BEACON_REQUEST_TIMER (R33, R35, R389): at a multiple of 4,096 ct a non-master queues a request on its active parent link;
while FREE, of local monotonic (R40, R41). -/
def execBeaconRequestTimer (s : State) : Host.Outcome State Fault Refusal :=
  if s.rdb Reg.CRN_CTRL_EN ∧ s.isMaster = false ∧ s.beaconTime / 16 % 4096 = 0 then
    have q := s.crown.seqNext
    have l := s.parentLink
    have s := if s.isUp l && s.confirmed l then s.setLk l { s.lk l with pendReq := some (s.ownBeacon q) } else s
    .next { s with crown := { s.crown with seqNext := (q + 1) % 256, req := some (q, s.beaconTime, s.cyc) } }
  else .next s

/-- BEACON_REQ (R33, R36, R389): a request arrives on link `l` at stamp `t2` in sixteenths; a running crown queues a response. -/
def execBeaconReq (l : Fin 24) (b : Beacon) (t2 : Nat) (s : State) : Host.Outcome State Fault Refusal :=
  if s.crownRuns ∧ s.isUp l ∧ s.confirmed l then
    .next (s.setLk l { s.lk l with pendRsp := some ({ s.ownBeacon b.seq with stampA := t2 % 2 ^ 28 }, s.wireTick) })
  else .next s

/-- The full stamp nearest to `near` whose low 28 bits are `x` (R33). -/
def extendStamp (x near : Nat) : Int :=
  have base : Int := ((near - near % 2 ^ 28 + x : Nat) : Int)
  have d : Int := base - near
  if 2 ^ 27 ≤ d then base - 2 ^ 28 else if d < -(2 ^ 27) then base + 2 ^ 28 else base

/-- Half of a difference in sixteenths; an odd one rounds by the free choice of Config (R35). -/
def halfOffset (d : Int) : Int :=
  if d % 2 = 0 then d / 2 else if Config.offsetRoundUp d then (d + 1) / 2 else (d - 1) / 2

/-- The offset of one exchange in sixteenths (R35). -/
def beaconOffset (t1 : Nat) (t2 t3 : Int) (t4 : Nat) (asym : Int) : Int :=
  halfOffset (((t4 : Int) - t3) - (t2 - t1) + asym)

/-- What every missed or rejected exchange does (R36, R41, R44). -/
def State.missEffects (s : State) : State :=
  have acq := s.rd Reg.CRN_STATUS_STATE == 1
  have s := (s.wr Reg.CRN_STATUS_GOOD_RUN 0)
  have s := { s with crown := { s.crown with
      missRun := s.crown.missRun + 1, smallRun := 0, bigRun := 0, acqRun := 0, slices := [],
      acqExch := if acq then s.crown.acqExch + 1 else s.crown.acqExch } }
  s.checkRefHold

/-- A rejected exchange: counted in CRN_BCN_REJECT and treated as missed; four in a row for HOPS or MASTER_ID raise
CROWN_UNLOCK HOPS (R36, R44). -/
def State.rejectExchange (s : State) (tree : Bool) : State :=
  have run := if tree then s.crown.hopRun + 1 else 0
  have s := { (s.count Reg.CRN_BCN_REJECT 1).missEffects with crown :=
      { (s.count Reg.CRN_BCN_REJECT 1).missEffects.crown with hopRun := run } }
  if run = 4 then s.crownUnlock 9 else s

/-- An accepted exchange of a running crown: offset, runs, servo, tree status (R35, R36, R41, R43). -/
def State.acceptExchange (s : State) (b : Beacon) (off : Int) : State :=
  have st := s.rd Reg.CRN_STATUS_STATE
  have mag := off.natAbs
  have small := mag ≤ 3 && (st != 1 || b.state == 2)
  have s := ((s.wr Reg.CRN_OFFSET_OFFSET (ofSigned 16 off)).raise Reg.CRN_OFFSET_HWM (min mag 0xFFFF)).telRaise 1 mag
  have s := s.wr Reg.CRN_STATUS_GOOD_RUN (min 0xFFFF (s.rd Reg.CRN_STATUS_GOOD_RUN + 1))
  have integ := Config.servoIntegral s.freeCtr
  have s := (s.wr Reg.CRN_TRIM_TRIM (ofSigned 32 (clampI (-(2 ^ 20)) (2 ^ 20) (Config.servoTrim s.freeCtr)))).tickFree
  have s := s.wr Reg.CRN_STATUS_HOPS (b.hops + 1)
  have s := { s with crown := { s.crown with
      lastAcc := some off, lastAt := s.cyc, integ := (integ :: s.crown.integ).take 256, missRun := 0, hopRun := 0,
      smallRun := if small then s.crown.smallRun + 1 else 0,
      bigRun := if mag ≤ 3 then 0 else s.crown.bigRun + 1,
      lockedExch := if st = 2 then s.crown.lockedExch + 1 else s.crown.lockedExch,
      acqExch := if st = 1 then s.crown.acqExch + 1 else s.crown.acqExch } }
  s.reportHold.checkDepth

/-- What the trim has taken off the crown since the last accepted exchange, in sixteenths (R36): a negative trim slows the
crown. A part of a sixteenth rounds by the free choice of Config. -/
def State.trimCorrection (s : State) : Int :=
  have x : Int := -(toSigned 32 (s.rd Reg.CRN_TRIM_TRIM) * (16 * ((s.cyc - s.crown.lastAt : Nat) : Int)))
  if x % 2 ^ 32 ≠ 0 ∧ Config.correctionRoundUp x then x / 2 ^ 32 + 1 else x / 2 ^ 32

/-- The prediction test: an offset more than 2 ct from the prediction is rejected; without a prediction none is (R36). -/
def State.offPrediction (s : State) (off : Int) : Bool :=
  match s.crown.lastAcc with
  | some a => 32 < (off - (a - s.trimCorrection)).natAbs
  | none => false

/-- All three slices have been collected (R33). -/
def slicesHeld (sl : List (Nat × Nat × Nat)) : Bool := (List.range 3).all fun i => sl.any fun p => p.1 == i

/-- Bits [63:24] of the parent's crown at the newest stamp `x`, from the slices collected, each taken at its own stamp (R33):
a stamp above `x` lies before the last wrap of the 24 bits. -/
def sliceHigh (sl : List (Nat × Nat × Nat)) (x : Nat) : Nat :=
  have g := fun i => ((sl.find? fun p => p.1 == i).map Prod.snd).getD (0, 0)
  have wrap := fun i => decide (x < (g i).2)
  have a := ((g 0).1 + b2n (wrap 0)) % 2 ^ 16
  have b := ((g 1).1 + b2n (wrap 1 && a == 0)) % 2 ^ 16
  have c := ((g 2).1 + b2n (wrap 2 && a == 0 && b == 0)) % 2 ^ 8
  2 ^ 24 * a + 2 ^ 40 * b + 2 ^ 56 * c

/-- The acquisition load after three consecutive accepted responses: the crown starts at the parent's crown plus the
one-way delay, both stamps of this end in local monotonic (R41). -/
def State.acquire (s : State) (b : Beacon) (t1 t4 : Nat) (asym : Int) : State :=
  have turn : Nat := (b.stampB + 2 ^ 28 - b.stampA) % 2 ^ 28
  have delay : Int := (((t4 : Int) - t1) - turn - asym) / 2
  have parent : Nat := sliceHigh s.crown.slices b.stampB * 16 + b.stampB
  have s := ((s.wr Reg.CRN_NOW_CROWN (((parent : Int) + delay) / 16).toNat).wr Reg.CRN_STATUS_RUNNING 1).wr
    Reg.CRN_STATUS_STATE 1
  have s := s.wr Reg.CRN_STATUS_HOPS (b.hops + 1)
  { s.reportHold with crown := { s.crown with
      acqRun := 0, slices := [], acqExch := 0, acqRaised := false, smallRun := 0, bigRun := 0, lastAcc := none } }

/-- An exchange on the active parent link (R35, R36, R41). Responses accepted in FREE count toward the acquisition load and not
in GOOD_RUN (log entry 56). -/
def State.parentExchange (s : State) (l : Nat) (b : Beacon) (t1 t4 : Nat) : State :=
  have asym := toSigned 16 (s.rd (Reg.CRN_ASYM_ASYM l))
  have tree : Bool := b.masterId ≠ s.rd Reg.CRN_PARENT_MASTER_ID ∨ 16 ≤ b.hops
  have s := { s with crown := { s.crown with
      req := none, parState := b.state, parHops := b.hops, parDepth := b.holdDepth, parAge := b.holdAge,
      parAt := s.now, nbrState := SMap.set (fun _ => 0) s.crown.nbrState l b.state } }
  if s.rd Reg.CRN_STATUS_STATE = 0 then
    if tree then s.rejectExchange true
    else
      have s := { s with crown := { s.crown with
          acqRun := s.crown.acqRun + 1, slices := (b.highIndex, b.highSlice, b.stampB) :: s.crown.slices } }
      if 3 ≤ s.crown.acqRun ∧ slicesHeld s.crown.slices ∧ s.rdb Reg.CRN_STATUS_PLL_LOCK ∧ s.rdb Reg.CRN_STATUS_REF_OK then s.acquire b t1 t4 asym
      else s
  else
    have off := beaconOffset t1 (extendStamp b.stampA t4) (extendStamp b.stampB t4) t4 asym
    if tree then s.rejectExchange true
    else if s.offPrediction off then s.tickFree.rejectExchange false
    else s.acceptExchange b off

/-- A monitor exchange: MON_MAX, and above 8 ct CRN_MON_EXCESS and CROWN_UNLOCK (R39). -/
def State.monitorExchange (s : State) (l : Nat) (b : Beacon) (t1 t4 : Nat) : State :=
  have asym := toSigned 16 (s.rd (Reg.CRN_ASYM_ASYM l))
  have off := beaconOffset t1 (extendStamp b.stampA t4) (extendStamp b.stampB t4) t4 asym
  have s := { s with crown := { s.crown with
      mon := s.crown.mon.filter (fun m => m.1 != l),
      nbrState := SMap.set (fun _ => 0) s.crown.nbrState l b.state } }
  have s := s.raise Reg.CRN_OFFSET_MON_MAX (min off.natAbs 0xFFFF)
  if 128 < off.natAbs then (s.count Reg.CRN_MON_EXCESS 1).crownUnlock 8 else s

/-- BEACON_RSP (R35, R36, R39, R41): a response arrives on link `l` at stamp `t4` in sixteenths. One that matches neither
the outstanding request nor a monitor request does nothing. -/
def execBeaconRsp (l : Fin 24) (b : Beacon) (t4 : Nat) (s : State) : Host.Outcome State Fault Refusal :=
  match s.crown.req with
  | some (q, t1, _) =>
    if q = b.seq ∧ s.parentLink = l ∧ s.rdb Reg.CRN_CTRL_EN ∧ s.isMaster = false then .next (s.parentExchange l b t1 t4)
    else
      (match s.crown.mon.find? (fun m => m.1 == l.val && m.2.1 == b.seq) with
       | some m => .next (if s.crownRuns then s.monitorExchange l b m.2.2 t4 else s)
       | none => .next s)
  | none =>
    match s.crown.mon.find? (fun m => m.1 == l.val && m.2.1 == b.seq) with
    | some m => .next (if s.crownRuns then s.monitorExchange l b m.2.2 t4 else s)
    | none => .next s

/-- BEACON_MISS (R36): no matching response within 3,072 ct of the request, or the link layer dropped it for a CRC error
(`dropped`). -/
def execBeaconMiss (dropped : Bool) (s : State) : Host.Outcome State Fault Refusal :=
  match s.crown.req with
  | some (_, _, at0) =>
    if dropped ∨ at0 + 3072 ≤ s.cyc then
      .next (({ s with crown := { s.crown with req := none, hopRun := 0 } }).count Reg.CRN_BCN_MISS 1).missEffects
    else .next s
  | none => .next s

/-- CROWN_LOCKED (R41): sixteen consecutive accepted exchanges within 3/16 ct, from ACQUIRING or a non-master HOLDOVER. -/
def execCrownLocked (s : State) : Host.Outcome State Fault Refusal :=
  have st := s.rd Reg.CRN_STATUS_STATE
  if s.isMaster = false ∧ 16 ≤ s.crown.smallRun ∧ (st = 1 ∨ (st = 3 ∧ s.rdb Reg.CRN_STATUS_REF_OK)) then
    have s := s.wr Reg.CRN_STATUS_STATE 2
    .next { s with crown := { s.crown with lockedExch := 0, acqExch := 0, holdSince := none, altPend := false,
                                           limRaised := false, depthRaised := false, refRaised := false } }.reportHold
  else .next s

/-- CROWN_DRIFT (R41, R44): four consecutive accepted exchanges above 3/16 ct move LOCKED to ACQUIRING. -/
def execCrownDrift (s : State) : Host.Outcome State Fault Refusal :=
  if s.rd Reg.CRN_STATUS_STATE = 2 ∧ s.isMaster = false ∧ 4 ≤ s.crown.bigRun then
    have s := s.wr Reg.CRN_STATUS_STATE 1
    have s := { s with crown := { s.crown with lastAcc := none, acqExch := 0, acqRaised := false, bigRun := 0,
                                               smallRun := 0 } }
    .next (if s.imageLoaded then s.crownUnlock 6 else s)
  else .next s

/-- PARENT_LOST (R41, R42): four consecutive missed exchanges move a LOCKED non-master to HOLDOVER. -/
def execParentLost (s : State) : Host.Outcome State Fault Refusal :=
  if s.rd Reg.CRN_STATUS_STATE = 2 ∧ s.isMaster = false ∧ 4 ≤ s.crown.missRun then
    have s := s.enterHoldover
    have alt : Bool := s.rdb Reg.CRN_CTRL_ALT_EN ∧ s.rd Reg.CRN_STATUS_ON_ALT = 0
    .next ({ s with crown := { s.crown with altPend := alt } }).checkRefHold
  else .next s

/-- ALT_PARENT_SWITCH (R42): at the next multiple of 4,096 ct the alternate link becomes the active parent. -/
def execAltParentSwitch (s : State) : Host.Outcome State Fault Refusal :=
  if s.crown.altPend ∧ s.now % 4096 = 0 then
    .next { s.wr Reg.CRN_STATUS_ON_ALT 1 with crown :=
      { s.crown with altPend := false, lastAcc := none, missRun := 0, req := none } }
  else .next s

/-- MASTER_RELOCK (R41): REF_OK and PLL_LOCK have held for 65,536 ct. -/
def execMasterRelock (s : State) : Host.Outcome State Fault Refusal :=
  match s.crown.refSince with
  | some t =>
    if s.isMaster ∧ s.rd Reg.CRN_STATUS_STATE = 3 ∧ t + 65536 ≤ s.cyc then
      .next { s.wr Reg.CRN_STATUS_STATE 2 with crown := { s.crown with holdSince := none, lockedExch := 0 } }
    else .next s
  | none => .next s

/-- HOLD_LIMIT_REACHED (R44): a non-master in HOLDOVER reports a hold age that reaches HOLD_LIMIT (0 acts as 1). -/
def execHoldLimitReached (s : State) : Host.Outcome State Fault Refusal :=
  have s := s.reportHold
  if s.rd Reg.CRN_STATUS_STATE = 3 ∧ s.isMaster = false ∧ s.crown.limRaised = false
      ∧ max 1 (s.rd Reg.CRN_HOLD_HOLD_LIMIT) ≤ s.rd Reg.CRN_STATUS_HOLD_AGE then
    .next ({ s with crown := { s.crown with limRaised := true } }.crownUnlock 2)
  else .next s

/-- ACQ_LIMIT_REACHED (R44). -/
def execAcqLimitReached (s : State) : Host.Outcome State Fault Refusal :=
  if s.rd Reg.CRN_STATUS_STATE = 1 ∧ s.crown.acqRaised = false ∧ s.rd Reg.CRN_HOLD_ACQ_LIMIT ≤ s.crown.acqExch then
    .next ({ s with crown := { s.crown with acqRaised := true } }.crownUnlock 5)
  else .next s

/-- MONITOR_TIMER (R39): every 65,536 ct a running crown queues a monitor request on every trained in-mitten link that is
not its parent; a further link to the parent module is monitored too, so that R45 finds a report on it (log entry 56). -/
def execMonitorTimer (s : State) : Host.Outcome State Fault Refusal :=
  if s.crownRuns ∧ s.now % 65536 = 0 then
    have ls := allLinks.filter fun l =>
      s.isUp l && s.inMitten l && (s.isMaster || s.parentLink != l)
    .next (s.forEach ls fun s l =>
      have q := s.crown.seqNext
      have s := s.setLk l { s.lk l with pendReq := some (s.ownBeacon q) }
      { s with crown := { s.crown with
          seqNext := (q + 1) % 256, mon := (l, q, s.beaconTime) :: s.crown.mon.filter (fun m => m.1 != l) } })
  else .next s

end Sys2Proof.Machine
end

