-- ==== Sys2Proof/Machine/Region.lean ====
section
/-! DEFINITION. Sys2Proof/Machine/Region.lean: the clocks of the Palm regions and the Bonnet: cycles, stretches, divider steps
and crown estimates (R29, R47 to R55, R65), and the crossing buffers between regions (R57, R58). -/
namespace Sys2Proof.Machine

/-- Nominal period of a clock in twelfths of a crown tick: a region's divider, and 2.000 GHz of the Bonnet at 16 (R13, R29). -/
def State.nomPeriod (s : State) (g : Nat) : Nat := if g < 16 then s.rd (Reg.RGN_CLK_N_NOW g) else 6

/-- The power domain of a clock (R13). -/
def clockDomain (g : Nat) : Nat := if g < 16 then g else 29

/-- The crossing buffers as an op starts: the steady occupancy of seven words (R58). -/
def steadyBuf : List Nat := List.replicate 7 2

/-- A consumer sees a word two of its cycles after it was written (R58). -/
def wordSeen (b : List Nat) : Bool :=
  match b with
  | a :: _ => 2 ≤ a
  | [] => false

/-- The buffer after a cycle of its consumer, which has taken a word or not. -/
def afterConsumer (took : Bool) (b : List Nat) : List Nat := ((if took then b.drop 1 else b)).map fun a => min 2 (a + 1)

/-- The region west of `g`, and the one north of it, that feed it: both in the op (R57; log entry 57). -/
def State.feedsWest (s : State) (g : Nat) : Bool := g % 4 != 0 && (s.rg (g - 1)).active
def State.feedsNorth (s : State) (g : Nat) : Bool := decide (4 ≤ g) && (s.rg (g - 4)).active

/-- The regions east and south of `g` that it feeds. -/
def State.eatsEast (s : State) (g : Nat) : Bool := g % 4 != 3 && (s.rg (g + 1)).active
def State.eatsSouth (s : State) (g : Nat) : Bool := decide (g < 12) && (s.rg (g + 4)).active

/-- A crossing makes region `g` wait in the cycle that ends now: a buffer it reads is empty or one it writes is full (R57). -/
def State.crossStall (s : State) (g : Nat) : Bool :=
  (s.feedsWest g && !wordSeen (s.rg (g - 1)).east) || (s.feedsNorth g && !wordSeen (s.rg (g - 4)).south)
    || (s.eatsEast g && decide (16 ≤ (s.rg g).east.length)) || (s.eatsSouth g && decide (16 ≤ (s.rg g).south.length))

/-- One cycle of region `g` at its crossing buffers: a word from each it reads and to each it writes, or a counted wait
(R57, R58). -/
def State.crossCycle (s : State) (g : Nat) : State :=
  if g < 16 ∧ (s.rg g).active then
    have go := !s.crossStall g
    have s := if s.feedsWest g then s.setRg (g - 1) { s.rg (g - 1) with east := afterConsumer go (s.rg (g - 1)).east } else s
    have s := if s.feedsNorth g then s.setRg (g - 4) { s.rg (g - 4) with south := afterConsumer go (s.rg (g - 4)).south } else s
    if go then
      have s := if s.eatsEast g then s.setRg g { s.rg g with east := (s.rg g).east ++ [0] } else s
      if s.eatsSouth g then s.setRg g { s.rg g with south := (s.rg g).south ++ [0] } else s
    else s.count (Reg.RGN_XSTALL_CNT g) 1
  else s

/-- A clock cycle ends: the estimate takes the nominal period, a stretch ordered for the next period begins, and a stop
ordered for a step begins: 24 ct, to the next crown tick boundary (R47, R50, R53). -/
def State.endCycle (s : State) (g : Nat) : State :=
  have s := s.crossCycle g
  have r := s.rg g
  s.setRg g { r with gone := 0, cycle := r.cycle + 1, est := r.est + s.nomPeriod g, long := r.longNext, longNext := false,
                     stopDue := false, stepUntil := if r.stopDue then some (s.cyc + 24) else r.stepUntil }

/-- A twelfth of a crown tick passes for one clock. -/
def State.clockSub (s : State) (g : Nat) : State :=
  have r := s.rg g
  if r.stepUntil.isSome || r.rest then s
  else if r.gone + 1 < s.nomPeriod g * (if r.long then 2 else 1) then s.setRg g { r with gone := r.gone + 1 }
  else s.endCycle g

/-- A Crown clock cycle passes for the clocks of the domains that are on, consumers before their producers (R25, R29). -/
def State.clocksTick (s : State) : State :=
  have gs := ((List.range 17).filter fun g => s.domOn (clockDomain g)).reverse
  if gs.isEmpty then s else s.forEach (List.range 12) fun s _ => s.forEach gs State.clockSub

/-- Twelfths of a crown tick that the estimate has gained in the cycle in progress: it counts a stretched cycle once (R53). -/
def State.estPart (s : State) (g : Nat) : Nat := min (s.rg g).gone (s.nomPeriod g)

/-- Set an estimate to the crown, in twelfths: a region records the correction, and among the 64-ct ones its largest (R53, R64).
A stopped clock sets it when it resumes. -/
def State.setEst (s : State) (g : Nat) (mark : Bool) : State :=
  have part : Int := s.estPart g
  have err : Int := (12 * s.now : Nat) - ((s.rg g).est + part)
  have s := s.setRg g { s.rg g with est := (12 * s.now : Nat) - part }
  if g < 16 then
    (have s := s.wr (Reg.RGN_EST_ERR_LAST g) (ofSigned 16 err)
     if mark then s.raise (Reg.RGN_EST_ERR_HWM g) (min err.natAbs 0xFFFF) else s)
  else s

/-- Every running clock sets its estimate to the crown (R53). -/
def State.setEsts (s : State) (mark : Bool) : State :=
  s.forEach ((List.range 17).filter fun g => s.domOn (clockDomain g)) fun s g =>
    if (s.rg g).stepUntil.isSome || (s.rg g).rest then s else s.setEst g mark

/-- Region `g` takes part in an op from this tick: its divider restarts phase-aligned and its estimate is the crown; its crossing
buffers stand at the steady occupancy (R55, R58, R209). -/
def State.opEdge (s : State) (g : Nat) : State :=
  have s := if (s.rg g).stepUntil.isSome then s else s.setEst g false
  s.setRg g { s.rg g with est := (s.rg g).est + s.estPart g, gone := 0, long := false, rest := false, active := true, east := steadyBuf, south := steadyBuf }

/-- Region `g` enters REST at this tick: its clock stops (R207, R209). -/
def State.restEdge (s : State) (g : Nat) : State := s.setRg g { s.rg g with rest := true, active := false }

/-- The op in progress has ended: no more words cross (R207). -/
def State.crossEnd (s : State) : State :=
  s.forEach (List.range 16) fun s g => if (s.rg g).active then s.setRg g { s.rg g with active := false } else s

/-- Whether R47 lets the period after region cycle `c` be stretched: none of the seven cycles before it was, and fewer
than 51 of the last 1,024. -/
def mayStretch (h : List Nat) (c : Nat) : Bool :=
  h.all (fun x => x + 7 < c + 1) && ((h.filter fun x => c + 1 < x + 1024).length < 51)

/-- DROOP_DETECTED (R47, R48, R50, R52): region `g` (16 the Bonnet) sees a droop in its cycle in progress. A stopped clock reports
nothing; a stretch already ordered for the next period is not ordered twice (log entry 57). -/
def execDroopDetected (g : Fin 17) (s : State) : Host.Outcome State Fault Refusal :=
  have r := s.rg g
  if r.stepUntil.isSome ∨ r.rest then .next s
  else
    have s := s.setRg g { r with droopAt := s.cyc }
    if r.longNext then .next s
    else if mayStretch r.stretches r.cycle then
      have s := s.setRg g { s.rg g with longNext := true,
                                        stretches := (r.cycle + 1) :: (r.stretches.filter fun x => r.cycle + 1 < x + 1024) }
      .next (if g.val < 16 then s.count (Reg.RGN_STRETCH_CNT g) 1 else s)
    else if g.val < 16 then
      have n := s.rd (Reg.RGN_CLK_N_NOW g)
      if n < 20 then
        have s := s.setRg g { s.rg g with droopN := n + 1 }
        .next ((s.wr (Reg.RGN_STATUS_STEP_DROOP g) 1).startStep g)
      else .next s
    else .next (s.orderStop g)

/-- A region steps toward a faster divider if its causes allow one (R49). -/
def State.stepIfFaster (s : State) (g : Nat) : State :=
  if s.requiredN g < s.rd (Reg.RGN_CLK_N_NOW g) then s.startStep g else s

/-- DROOP_STEP_RETURN (R48): 100,000 ct without a droop return the region one divider toward N_TARGET. -/
def execDroopStepReturn (g : Fin 16) (s : State) : Host.Outcome State Fault Refusal :=
  have r := s.rg g
  if r.droopN ≠ 0 ∧ r.droopAt + 100000 ≤ s.cyc then
    have n := if r.droopN ≤ s.rd (Reg.RGN_CLK_N_TARGET g) + 1 then 0 else r.droopN - 1
    have s := s.setRg g { r with droopN := n, droopAt := s.cyc }
    .next ((s.wrb (Reg.RGN_STATUS_STEP_DROOP g) (n != 0)).stepIfFaster g)
  else .next s

/-- One divider slower for temperature, up to N = 20 (R49). -/
def State.thermStep (s : State) (g : Nat) : State :=
  have n := s.rd (Reg.RGN_CLK_N_NOW g)
  have s := s.wr (Reg.RGN_STATUS_STEP_THERM g) 1
  if n < 20 then
    (s.setRg g { s.rg g with thermN := n + 1, thermAt := s.cyc }).startStep g
  else s.setRg g { s.rg g with thermN := 20, thermAt := s.cyc }

/-- THERMAL_STEP_TIMER (R49): every 10,000 ct while a sensor of the region holds at or above 105 °C. -/
def execThermalStepTimer (g : Fin 16) (s : State) : Host.Outcome State Fault Refusal :=
  have r := s.rg g
  if r.above ∧ r.thermAt + 10000 ≤ s.cyc then .next (s.thermStep g) else .next s

/-- DIVIDER_RESTORE_STEP (R49, R65): every 10,000 ct after a cause clears, one divider faster toward what the causes
allow. -/
def execDividerRestoreStep (g : Fin 16) (s : State) : Host.Outcome State Fault Refusal :=
  have r := s.rg g
  if r.restoreAt + 10000 ≤ s.cyc then
    have n := if r.hot || r.thermN == 0 then r.thermN
             else if r.thermN ≤ s.rd (Reg.RGN_CLK_N_TARGET g) + 1 then 0 else r.thermN - 1
    have s := s.setRg g { r with thermN := n, restoreAt := s.cyc }
    have s := s.wrb (Reg.RGN_STATUS_STEP_THERM g) (n != 0)
    .next (s.stepIfFaster g)
  else .next s

/-- The divider a region resumes at: straight to a slower one, one at a time to a faster one (R49, R50, R65). -/
def resumeN (now required : Nat) : Nat :=
  if now < required then required else if required < now then now - 1 else now

/-- RGN_STATUS.BELOW_FLOOR: the region runs slower than N_FLOOR (R51, R65). -/
def State.showFloor (s : State) (g : Nat) : State :=
  s.wrb (Reg.RGN_STATUS_BELOW_FLOOR g) (s.rd (Reg.RGN_CLK_N_FLOOR g) < s.rd (Reg.RGN_CLK_N_NOW g))

/-- DIVIDER_STEP_RESUME (R50, R51, R53): the stop has ended, and the clock resumes at the divider the causes require now. -/
def execDividerStepResume (g : Fin 17) (s : State) : Host.Outcome State Fault Refusal :=
  match (s.rg g).stepUntil with
  | none => .next s
  | some u =>
    if u ≤ s.cyc then
      have s := (s.setRg g { s.rg g with stepUntil := none }).setEst g false
      .next (if g.val < 16 then
          (s.wr (Reg.RGN_CLK_N_NOW g) (resumeN (s.rd (Reg.RGN_CLK_N_NOW g)) (s.requiredN g))).showFloor g
        else s)
    else .next s

/-- A valid change of N_TARGET or N_FLOOR (R65): a slower divider takes one step, a faster one is restored 10,000 ct on as when
a cause clears. -/
def State.setDividers (s : State) (g target floor : Nat) : State :=
  have s := ((s.wr (Reg.RGN_CLK_N_TARGET g) target).wr (Reg.RGN_CLK_N_FLOOR g) floor).showFloor g
  have s := if s.requiredN g < s.rd (Reg.RGN_CLK_N_NOW g) then s.setRg g { s.rg g with restoreAt := s.cyc } else s
  s.stepIfSlower g

/-- RGN_CLK_WRITE (R65): a driver write of N_TARGET and N_FLOOR of region `g`. A write refused for RUN is not checked further
(log entry 56). -/
def execRgnClkWrite (g : Fin 16) (target floor : Nat) (s : State) : Host.Outcome State Fault Refusal :=
  .next (s.busWrite (Reg.RGN_CLK g) fun s => s.runLocked fun s =>
    if target < gradeMinN s ∨ 20 < floor ∨ floor < target then s.flag (Reg.RGN_STATUS_CFG_ERR g)
    else s.setDividers g target floor)

/-- ESTIMATE_CORRECTION (R53): at a crown multiple of 64 every running region and the Bonnet set their estimate to the
crown. -/
def execEstimateCorrection (s : State) : Host.Outcome State Fault Refusal :=
  if s.crownRuns ∧ s.now % 64 = 0 then .next (s.setEsts true) else .next s

end Sys2Proof.Machine
end

