-- ==== Sys2Proof/Machine/Router.lean ====
section
/-! DEFINITION. Sys2Proof/Machine/Router.lean: loose packets, their discards, delivery and reserved replies, routing phases,
the mesh, far-link credits, and the lattice assignment of one LOOSE stitch (R154 to R181, R406). -/
namespace Sys2Proof.Machine

/-- Fields of the route word, payload word 0 (R157). -/
def rwSrc (f : Flit) : Nat := nbits f.payload 255 244
def rwPkt (f : Flit) : Nat := nbits f.payload 243 228
def rwBorn (f : Flit) : Nat := nbits f.payload 227 212
def rwDstRank (f : Flit) : Nat := nbits f.payload 211 196
def rwDstQ (f : Flit) : Nat := nbits f.payload 195 188
def rwSrcRank (f : Flit) : Nat := nbits f.payload 187 172
def rwRtag (f : Flit) : Nat := nbits f.payload 171 156
def rwReplyN (f : Flit) : Nat := nbits f.payload 155 148
def rwKind (f : Flit) : Nat := nbits f.payload 147 144
/-- The endpoint header (R157), and the 352 bytes of data. -/
def rwHdr (f : Flit) : Nat := nbits f.payload 143 0
def rwData (f : Flit) : Nat := f.payload / 2 ^ 256

/-- Capture a discard (R181, R184): causes 1 TTL, 2 MITTEN, 3 ROUTE, 4 FULL, 5 PLACE, 6 VC, 7 STRAY; link 31 is local. -/
def State.dropLast (s : State) (cause link : Nat) (f : Flit) : State :=
  s.setReg Reg.RTE_DROP_LAST (BitVec.ofNat 64
    (2 ^ 60 * cause + 2 ^ 55 * link + 2 ^ 52 * (f.vc % 8) + 2 ^ 40 * (f.mitten % 4096) + 2 ^ 28 * (rwSrc f)
      + 2 ^ 16 * (f.dest % 4096) + rwPkt f))

/-- Discard an expired packet, with TTL_EXPIRED at most once in each window of 2^21 ct (R180, R181). -/
def State.dropTtl (s : State) (link : Nat) (f : Flit) : State :=
  have s := (s.count Reg.RTE_DROP_TTL_CNT 1).dropLast 1 link f
  have win := s.now / 2 ^ 21
  if s.route.ttlWin = some win then s
  else { s with route := { s.route with ttlWin := some win } }.fault
    { code := 0x0602, block := 7, sub := f.vc, b := 2 ^ 16 * (rwSrc f) + f.dest % 4096, c := rwPkt f }

/-- Discard a packet of another mitten (R179, R181). -/
def State.dropMitten (s : State) (link : Nat) (f : Flit) : State :=
  ((s.count Reg.RTE_DROP_MITTEN_CNT 1).dropLast 2 link f).mittenViol link 1 f.vc f.mitten

/-- Discard an unroutable packet, one of a disabled VC, or one that found its queue full (R154, R155, R161). -/
def State.dropRoute (s : State) (link : Nat) (f : Flit) : State := (s.count Reg.RTE_DROP_ROUTE_CNT 1).dropLast 3 link f
def State.dropVc (s : State) (link : Nat) (f : Flit) : State := (s.count Reg.RTE_DROP_VC_CNT 1).dropLast 6 link f
def State.dropFull (s : State) (link : Nat) (f : Flit) : State := (s.count Reg.RTE_DROP_FULL_CNT 1).dropLast 4 link f

/-- A virtual channel is enabled; VC 0 and VC 1 always are (R155). -/
def State.vcOn (s : State) (vc : Nat) : Bool := vc < 2 || nbit (s.rd Reg.RTE_CTRL_VC_EN) vc

/-- A packet is expired (R180). -/
def State.expired (s : State) (f : Flit) : Bool := 976 ≤ (s.now / 256 % 65536 + 65536 - rwBorn f) % 65536

/-- A router may take the packet's mitten (R179). -/
def State.mittenOk (s : State) (f : Flit) : Bool :=
  f.mitten == s.rd Reg.CUF_MITTEN_MITTEN || (f.mitten == 0 && f.vc < 2)

/-- A packet's route entry, read from its version of the route table (R160, R182, R280). -/
def State.readRoute (s : State) (f : Flit) : State × Word :=
  s.guardTab .route (f.epoch % 2) (f.dest % 4096) (s.tab (0x2010000 + 0x8000 * (f.epoch % 2) + f.dest % 4096 * 8))

/-- The router examines a packet before it assigns it: mitten, then age (R179, R180); the packet's route entry is read. Answers
whether it lives. -/
def State.examine (s : State) (link : Nat) (f : Flit) : State × Bool :=
  if !s.mittenOk f then (s.dropMitten link f, false)
  else if s.expired f then (s.dropTtl link f, false)
  else ((s.readRoute f).1, true)

/-- The key of a packet in the buffers that hold it (log entry 61). -/
def looseKey (f : Flit) : Nat := 2 ^ 16 * rwSrc f + rwPkt f

/-- A packet leaves a buffer of loose traffic: none when a word of it is uncorrectable, which discards it (R178, R280). -/
def State.readLoose (s : State) (x : Store) (inst q : Nat) (f : Flit) : State × Option Flit :=
  have r := s.guardWords x inst q (looseKey f) f.payload
  (r.1.dropUpsets x inst q (looseKey f), if r.2.2 then none else some { f with payload := r.2.1 % 2 ^ 3072 })

/-- The NI receive queue of a VC (R154). -/
def State.niQueue (s : State) (vc : Nat) : List (Nat × Flit) := SMap.get (fun _ => []) s.route.ni vc

/-- Replace an NI receive queue. -/
def State.setNi (s : State) (vc : Nat) (q : List (Nat × Flit)) : State :=
  { s with route := { s.route with ni := SMap.set (fun _ => []) s.route.ni vc q } }

/-- Slots of the VC 3 receive queue that are neither occupied nor reserved (R177). -/
def State.replyFree (s : State) : Nat :=
  128 - (s.niQueue 3).length - s.route.res.foldl (fun a r => a + r.2.1) 0

/-- Release a reservation: one flit of it for a reply, all of it for BUSY (R177). -/
def releaseRes (rtag : Nat) (all : Bool) : List (Nat × Nat × Nat) → List (Nat × Nat × Nat)
  | [] => []
  | r :: rs =>
    if r.1 = rtag then (if all ∨ r.2.1 ≤ 1 then rs else (r.1, r.2.1 - 1, r.2.2) :: rs)
    else r :: releaseRes rtag all rs

/-- The BUSY reply to a bounced request (R177): VC 3, KIND BUSY, its RTAG, toward its SRC. What R177 leaves open of the
route word is the free value of Config. -/
def State.busyReply (s : State) (f : Flit) : State :=
  have w := Config.busyWord s.freeCtr
  have rw := routeWord 0 0 0 0xFFFF (w % 256) (w / 256) (rwRtag f) 0 1 (w / 2 ^ 32)
  have b : Flit := { cls := 1, vc := 3, dest := rwSrc f, payload := rw }
  { s.tickFree with route := { s.route with busy := s.route.busy ++ [b] } }

/-- The NI's disposal of a packet that ejection hands it (R154, R176, R177): queued, bounced or discarded; `none` while a
bounce finds the BUSY queue full. -/
def State.niAccept (s : State) (link : Nat) (f : Flit) : Option State :=
  have q := s.niQueue f.vc
  if f.vc = 3 then
    if s.route.res.any fun r => r.1 == rwRtag f then
      have s := { s with route := { s.route with res := releaseRes (rwRtag f) (rwKind f == 1) s.route.res } }
      some (s.setNi 3 (q ++ [(link, f)]))
    else some ((s.count Reg.RTE_STRAY_CNT 1).dropLast 7 link f)
  else if q.length < 128 then some (s.setNi f.vc (q ++ [(link, f)]))
  else if (f.vc = 1 ∨ f.vc = 2 ∨ f.vc = 4 ∨ f.vc = 5) ∧ 0 < rwReplyN f then
    if s.route.busy.length < 16 then some ((s.busyReply f).count Reg.RTE_BOUNCE_CNT 1) else none
  else some (s.dropFull link f)

/-- Eject a packet in stitch `st`, at most four a stitch (R176). -/
def State.eject (s : State) (st link : Nat) (f : Flit) : Option State :=
  have n := if s.route.ejStitch = st then s.route.ejCount else 0
  if 4 ≤ n then none
  else
    match s.niAccept link f with
    | some s => some ({ s with route := { s.route with ejStitch := st, ejCount := n + 1 } }.count Reg.RTE_EJECT_CNT 1)
    | none => none

/-- Replace the turn buffer; RTE_TURN follows (R168). -/
def State.setTurn (s : State) (t : List (Nat × Flit)) : State :=
  have s := ({ s with route := { s.route with turn := t } }).wr Reg.RTE_TURN_OCC t.length
  (s.raise Reg.RTE_TURN_HWM t.length).telRaise 0 t.length

/-- A packet enters the turn buffer (R165, R171). -/
def State.turnIn (s : State) (link : Nat) (f : Flit) : State :=
  (s.setTurn (s.route.turn ++ [(link, f)])).count Reg.RTE_TURN_IN_CNT 1

/-- The route entry of a packet as the router reads it (R160, R182). -/
def State.routeEntry (s : State) (f : Flit) : Word := (s.readRoute f).2

/-- The ring dimension of a far link whose pair the plan has built (R17); 0 for a tree or bypass link. -/
def State.ringDim (s : State) (l : Nat) : Nat :=
  if 16 ≤ l ∧ l < 22 ∧ s.planned (l - l % 2) ∧ s.planned (l - l % 2 + 1) then (l - 14) / 2 else 0

/-- Routing phase of a packet from a link; 31 is local injection (R161). -/
def State.phaseOf (s : State) (link : Nat) : Nat :=
  if link = 31 then 0 else if link < 16 then 5 else if s.ringDim link = 0 then 4 else s.ringDim link

/-- Where a packet goes next (R161): its destination is here, the mesh of this pod, a far link with the credits it needs
there (R173), or nowhere. -/
inductive Hop where
  | here
  | mesh
  | far (link need : Nat)
  | lost
deriving DecidableEq, Repr

/-- A link may carry a packet of this mitten (R179). -/
def State.linkMitten (s : State) (l : Nat) (f : Flit) : Bool :=
  f.mitten == 0 || s.rd (Reg.LNK_SCHED_STATUS_NBR_MITTEN l) == f.mitten

/-- The four links of a side: 0 N, 1 E, 2 S, 3 W. -/
def sideLinks (side : Nat) : List Nat := [4 * side, 4 * side + 1, 4 * side + 2, 4 * side + 3]

/-- Near links that lead toward a destination of this pod, in the order tried (R16, R165): the axis with the larger
remaining distance first, x on a tie. -/
def State.productive (s : State) (dest : Nat) : List Nat :=
  have self := s.rd Reg.RTE_SELF_ID
  have x := self / 8 % 8
  have y := self % 8
  have dx := dest / 8 % 8
  have dy := dest % 8
  have xs := if x < dx then sideLinks 1 else if dx < x then sideLinks 3 else []
  have ys := if y < dy then sideLinks 0 else if dy < y then sideLinks 2 else []
  if max dy y - min dy y ≤ max dx x - min dx x then xs ++ ys else ys ++ xs

/-- The next hop of a packet that came from `link` (R161, R173, R179). A mesh packet all of whose productive links lead to another
mitten has no route. -/
def State.hop (s : State) (link : Nat) (f : Flit) : Hop :=
  if f.dest = s.rd Reg.RTE_SELF_ID then .here
  else
    have e := s.routeEntry f
    have p := s.phaseOf link
    if !nbit e.toNat 63 then .lost
    else
      have l := fget e 57 53
      match fget e 62 60 with
      | 1 => if (s.productive f.dest).all fun x => !s.linkMitten x f then .lost else .mesh
      | 2 =>
        have d := fget e 59 58
        if 4 ≤ p ∨ d < p ∨ !s.linkMitten l f then .lost
        else .far l (if p = d ∧ link ≠ l then 1 else 2)
      | 3 => if p = 5 ∨ !s.linkMitten l f then .lost else .far l 1
      | _ => .lost

/-- A failed member sends null slots only (R151). -/
def State.mute (s : State) (l : Nat) : Bool := (s.lk l).rxDownUntil.isSome

/-- Higher AGE first, then lower SRC, then lower PKT (R167). -/
def higherPriority (f g : Flit) : Bool :=
  f.age > g.age || (f.age == g.age && (rwSrc f < rwSrc g || (rwSrc f == rwSrc g && rwPkt f ≤ rwPkt g)))

/-- Insert by priority. -/
def insertPrio {α : Type} (key : α → Flit) (a : α) : List α → List α
  | [] => [a]
  | b :: bs => if higherPriority (key a) (key b) then a :: b :: bs else b :: insertPrio key a bs

/-- Sort by priority (R167). -/
def sortPrio {α : Type} (key : α → Flit) (l : List α) : List α := l.foldr (insertPrio key) []

/-- The packet's lattice age after more periods; it saturates (R167). -/
def older (f : Flit) (n : Nat) : Flit := { f with age := min 255 (f.age + n) }

/-- A stitch is LOOSE on near links (R164). -/
def State.looseStitch (s : State) (st : Nat) : Bool := st % 32 == s.rd Reg.CUF_ACTIVE_CFG_LOOSE_PHASE

/-- The LOOSE stitch nearest to stitch `t` (R165). -/
def State.nearestLoose (s : State) (t : Nat) : Nat :=
  have d := (t + 32 - s.rd Reg.CUF_ACTIVE_CFG_LOOSE_PHASE) % 32
  if d < 16 then t - d else t + 32 - d

/-- A loose flit departs for the first time on link `l` (R135, R184). -/
def State.sendLoose (s : State) (l st : Nat) (lat : Bool) (f : Flit) : State :=
  (s.txNew l 1 st { f with cls := 1, lat := lat } 0 0 st).countLoose l lat

/-- The VC input buffer of a far link (R172). -/
def State.vcBuf (s : State) (l v : Nat) : List Flit := SMap.get (fun _ => []) (s.lk l).vcBuf v

/-- Replace a VC input buffer; BUF_OCC and BUF_HWM follow (R184). -/
def State.setVcBuf (s : State) (l v : Nat) (q : List Flit) : State :=
  have x := s.lk l
  have s := s.setLk l { x with vcBuf := SMap.set (fun _ => []) x.vcBuf v q }
  (s.wr (Reg.LNK_VC_STATE_BUF_OCC l v) q.length).raise (Reg.LNK_VC_STATE_BUF_HWM l v) q.length

/-- The head of a VC input buffer leaves: its slot is freed and its credit becomes pending (R172). -/
def State.popVc (s : State) (l v : Nat) : State :=
  have s := s.setVcBuf l v ((s.vcBuf l v).drop 1)
  have x := s.lk l
  s.setLk l { x with freed := SMap.set (fun _ => 0) x.freed v ((SMap.get (fun _ => 0) x.freed v + 1) % 512), pendCred := true }

/-- The head of a VC buffer is read as it leaves (R280). -/
def State.takeVc (s : State) (l v : Nat) (f : Flit) : State × Option Flit := (s.popVc l v).readLoose .vcBuf l v f

/-- A packet that a buffer has given up is ejected in stitch `st`; one of which a word was lost is discarded. -/
def State.ejectRead (r : State × Option Flit) (st l : Nat) : State :=
  match r.2 with
  | some f => (r.1.eject st l f).getD r.1
  | none => r.1

/-- Serve the heads of one VC buffer in stitch `st`, `n` packets at most: a head is discarded if it is expired, of another mitten or
unroutable, ejected if it is for this module, and otherwise waits (R161, R174, R176, R179, R180). -/
def State.serveHead (s : State) (st l v : Nat) : Nat → State
  | 0 => s
  | n + 1 =>
    match s.vcBuf l v with
    | [] => s
    | f :: _ =>
      have r := s.examine l f
      if !r.2 then (r.1.takeVc l v f).1.serveHead st l v n
      else
        match r.1.hop l f with
        | .here => if (r.1.eject st l f).isSome then (State.ejectRead (r.1.takeVc l v f) st l).serveHead st l v n else r.1
        | .lost => ((r.1.dropRoute l f).takeVc l v f).1.serveHead st l v n
        | _ => r.1

/-- Serve the heads of every VC buffer of every far link in stitch `st` (R174, R176). -/
def State.serveFar (s : State) (st : Nat) : State :=
  s.forEach (List.range 8) fun s i => s.forEach (List.range 8) fun s v =>
    s.serveHead st (16 + i) v ((s.vcBuf (16 + i) v).length)

/-- Discard the alarm packets that are expired or of another mitten (R179, R180). -/
def State.sweepAlarms (s : State) : State :=
  s.forEach s.route.alarms fun s a =>
    have r := s.examine 31 a.flit
    if r.2 then r.1 else { r.1 with route := { r.1.route with alarms := r.1.route.alarms.erase a } }

/-- The injection order of VCs (R165). -/
def injOrder : List Nat := [0, 1, 3, 2, 4, 5, 6, 7]

/-- The oldest stamped packet of a VC waiting at injection. -/
def State.injHead (s : State) (v : Nat) : Option Inj := s.route.inj.find? fun i => i.vc == v

/-- The oldest stamped packet of a VC leaves injection. -/
def dropInj (v : Nat) : List Inj → List Inj
  | [] => []
  | i :: is => if i.vc = v then is else i :: dropInj v is

/-- Remove the oldest stamped packet of a VC. -/
def State.popInj (s : State) (v : Nat) : State := { s with route := { s.route with inj := dropInj v s.route.inj } }

/-- Stamp a packet at injection: PKT, BORN and EPOCH (R157, R182), and queue it to leave, or deliver it here (R159). -/
def State.stamp (s : State) (i : Inj) : State :=
  have p := i.flit.payload
  have pkt := s.route.pkt
  have body := p % 2 ^ 212 + 2 ^ 212 * (s.now / 256 % 65536) + 2 ^ 228 * pkt + 2 ^ 244 * (s.rd Reg.RTE_SELF_ID)
    + 2 ^ 256 * (p / 2 ^ 256)
  have f : Flit := { i.flit with payload := body, epoch := s.rd Reg.RTE_EPOCH_INJECT }
  have s : State := { s with route := { s.route with pkt := (pkt + 1) % 2 ^ 16 } }.count Reg.RTE_INJECT_CNT 1
  have res := if i.replyN = 0 then s.route.res else s.route.res ++ [(i.rtag, i.replyN, s.cyc)]
  have s : State := { s with route := { s.route with res := res } }
  have queued : State := { s with route := { s.route with inj := s.route.inj ++ [{ i with flit := f }] } }
  if f.dest = s.rd Reg.RTE_SELF_ID then (s.niAccept 31 f).getD queued else queued

/-- Packets waiting for a reservation are injected once it fits (R177). -/
def State.retryWait (s : State) : State :=
  have ws := s.route.wait
  ws.foldl (fun s i => if i.replyN ≤ s.replyFree then s.stamp i
                       else { s with route := { s.route with wait := s.route.wait ++ [i] } })
    { s with route := { s.route with wait := [] } }

/-- The oldest stamped packet of a VC at injection is examined before it is assigned, and while one is discarded, the next, `n` at
most (R161, R179, R180). Answers the state and, if one goes on, the packet and its next hop. -/
def State.injHop (s : State) (v : Nat) : Nat → State × Option (Flit × Hop)
  | 0 => (s, none)
  | n + 1 =>
    match s.injHead v with
    | none => (s, none)
    | some i =>
      have r := s.examine 31 i.flit
      if !r.2 then (r.1.popInj v).injHop v n
      else
        match r.1.hop 31 i.flit with
        | .lost => ((r.1.dropRoute 31 i.flit).popInj v).injHop v n
        | h => (r.1, some (i.flit, h))

/-- Examine the heads at injection of every VC. -/
def State.sweepInj (s : State) : State := s.forEach injOrder fun s v => (s.injHop v s.route.inj.length).1

/-- Where a candidate of the lattice comes from (R165). -/
inductive Source where
  | arrival (link : Nat)
  | turn
  | far (link vc : Nat)
  | inject (vc : Nat)
  | alarm
deriving DecidableEq, Repr

/-- A candidate of the lattice: where it comes from, its input link, and the packet with its lattice age. -/
structure Cand where
  src : Source
  link : Nat
  flit : Flit
deriving DecidableEq, Repr

/-- The state of an assignment: the free outputs and those blocked by a resend. -/
structure Assign where
  s : State
  free : List Nat
  blocked : List Nat
deriving Repr

/-- A placed or discarded candidate leaves the place where it waited, and is read there: none when a word of it is lost (R280). -/
def State.takeCand (s : State) (c : Cand) : State × Option Flit :=
  match c.src with
  | .arrival _ => (s, some c.flit)
  | .turn => (s.setTurn (s.route.turn.erase (c.link, c.flit))).readLoose .turn 0 0 c.flit
  | .far l v => s.takeVc l v c.flit
  | .inject v => (s.popInj v, some c.flit)
  | .alarm => (s, some c.flit)

/-- A candidate departs in the lattice on output `l` (R165). -/
def Assign.depart (a : Assign) (st : Nat) (c : Cand) (l : Nat) : Assign :=
  have r := a.s.takeCand c
  match r.2 with
  | some f => { a with s := r.1.sendLoose l st true f, free := a.free.erase l }
  | none => { a with s := r.1 }

/-- Rules 3 to 6 for a lattice arrival (R165). -/
def Assign.deflect (a : Assign) (st : Nat) (c : Cand) : Assign :=
  match a.free.head? with
  | some l => have a := a.depart st c l; { a with s := a.s.count Reg.RTE_DEFLECT_CNT 1 }
  | none =>
    if a.s.route.turn.length < 64 then { a with s := a.s.turnIn c.link c.flit }
    else
      match a.blocked.head? with
      | some l => { a with s := (a.s.sendLoose l st true c.flit).count Reg.RTE_FORCED_CNT 1, blocked := a.blocked.erase l }
      | none => { a with s := (a.s.count Reg.RTE_DROP_PLACE_CNT 1).dropLast 5 c.link c.flit }

/-- Assign one candidate (R165): examined first, ejected, sent on a productive output, else as its group allows. -/
def Assign.place (a : Assign) (st : Nat) (c : Cand) : Assign :=
  have r := a.s.examine c.link c.flit
  have a := { a with s := r.1 }
  if !r.2 then { a with s := (a.s.takeCand c).1 }
  else
    match a.s.hop c.link c.flit with
    | .here =>
      if (a.s.eject st c.link c.flit).isSome then { a with s := State.ejectRead (a.s.takeCand c) st c.link }
      else
        (match c.src with
         | .arrival _ => a.deflect st c
         | _ => a)
    | .mesh =>
      (match (a.s.productive c.flit.dest).find? fun l => l ∈ a.free with
       | some l => a.depart st c l
       | none => match c.src with
         | .arrival _ => a.deflect st c
         | _ => a)
    | _ => { a with s := ((a.s.dropRoute c.link c.flit).takeCand c).1 }

/-- The lattice arrival of link `l` for stitch `st`, three periods older, leaves the equaliser that holds it (R164, R165, R167,
R280). -/
def State.releaseOne (a : State × List Cand) (st l : Nat) : State × List Cand :=
  match (a.1.lk l).lat with
  | (t, f) :: rest =>
    if t ≤ st then
      have r := (a.1.setLk l { a.1.lk l with lat := rest }).readLoose .equaliser l 1 f
      (r.1, a.2 ++ (r.2.map fun g => (⟨.arrival l, l, older g 3⟩ : Cand)).toList)
    else a
  | [] => a

/-- The released lattice arrivals of stitch `st`, at most one a link (R165). -/
def State.release (s : State) (st : Nat) : State × List Cand :=
  (List.range 16).foldl (fun a l => State.releaseOne a st l) (s, [])

/-- The heads of far-link buffers that enter the mesh phase, at age 0 (R165, R167). -/
def State.meshHeads (s : State) : List Cand :=
  (List.range 8).flatMap fun i => (List.range 8).filterMap fun v =>
    match s.vcBuf (16 + i) v with
    | f :: _ => if s.hop (16 + i) f = .mesh then some ⟨.far (16 + i) v, 16 + i, { f with age := 0 }⟩ else none
    | [] => none

/-- Place the alarm packets bound to lattice links (R165 group 4, R406). -/
def Assign.alarms (a : Assign) (st : Nat) : Assign :=
  have as := a.s.route.alarms
  as.foldl (fun a x =>
    match (if x.kind = 0 then x.links.find? fun l => l ∈ a.free else none) with
    | some l => { a with s := a.s.sendLoose l st true x.flit, free := a.free.erase l }
    | none => { a with s := { a.s with route := { a.s.route with alarms := a.s.route.alarms ++ [x] } } })
    { a with s := { a.s with route := { a.s.route with alarms := [] } } }

/-- Place the oldest injection of one VC whose destination is in the mesh or here (R165 group 4). -/
def Assign.inject (a : Assign) (st v : Nat) : Assign :=
  have r := a.s.injHop v a.s.route.inj.length
  match r.2 with
  | some (f, .here) => { a with s := r.1 }.place st ⟨.inject v, 31, f⟩
  | some (f, .mesh) => { a with s := r.1 }.place st ⟨.inject v, 31, { f with age := 0 }⟩
  | _ => { a with s := r.1 }

/-- One period older for every packet that the LOOSE stitch leaves in the turn buffer (R167). -/
def State.ageTurn (s : State) : State :=
  { s with route := { s.route with turn := s.route.turn.map fun p => (p.1, older p.2 1) } }

/-- The lattice assignment of LOOSE stitch `st` (R165 to R168, R170). -/
def State.assignLattice (s : State) (st : Nat) : State :=
  have s := { s with route := { s.route with latAt := some st } }
  have outs := (List.range 16).filter fun l => s.isLattice l && !s.mute l
  have blocked := outs.filter fun l => s.replayDue l 1 st
  have free := outs.filter fun l => !(l ∈ blocked) && s.bufferFree l
  have roomy := blocked.filter s.bufferFree
  have turn0 := s.route.turn
  have r := s.sweepAlarms.release st
  have a : Assign := ⟨r.1, free, roomy⟩
  have a := (sortPrio Cand.flit r.2).foldl (fun a c => a.place st c) a
  have a := (sortPrio Cand.flit (turn0.map fun p => (⟨.turn, p.1, p.2⟩ : Cand))).foldl (fun a c => a.place st c) a
  have a := { a with s := a.s.serveFar st }
  have a := (sortPrio Cand.flit a.s.meshHeads).foldl (fun a c => a.place st c) a
  have a := a.alarms st
  have a := injOrder.foldl (fun a v => a.inject st v) a
  have forced := roomy.filter fun l => !(l ∈ a.blocked)
  have s := a.s.forEach (blocked.filter fun l => !(l ∈ forced)) fun s l => s.resendNext l 1 st true false
  have s := s.ageTurn
  if s.route.wait.isEmpty then s else s.count Reg.RTE_INJ_WAIT_CNT 1

/-- The first resend of a replay is still to come (R170). -/
def State.firstResend (s : State) (l : Nat) : Bool :=
  match (s.lk l).l.replay with
  | some (n, _) => n == (s.lk l).l.repOldest
  | none => false

/-- The highest-priority turn-buffer packet for which near link `l` is productive (R169). -/
def State.oppTurn (s : State) (l : Nat) : Option Cand :=
  ((sortPrio Prod.snd s.route.turn).find? fun p =>
    s.hop p.1 p.2 == .mesh && l ∈ s.productive p.2.dest && s.linkMitten l p.2).map fun p => ⟨.turn, p.1, p.2⟩

/-- A far-link head that enters the mesh phase over near link `l`; which of several is the free value of Config (R169). -/
def State.oppFar (s : State) (l : Nat) : Option Cand :=
  have cs := s.meshHeads.filter fun c => l ∈ s.productive c.flit.dest && s.linkMitten l c.flit
  if cs.isEmpty then none else cs[Config.farPick s.freeCtr % cs.length]?

/-- A local injection productive on near link `l` (R169). -/
def State.oppInject (s : State) (l : Nat) : Option Cand :=
  injOrder.findSome? fun v => (s.injHead v).bind fun i =>
    if s.hop 31 i.flit = .mesh ∧ l ∈ s.productive i.flit.dest ∧ s.linkMitten l i.flit
    then some ⟨.inject v, 31, { i.flit with age := 0 }⟩ else none

/-- Discard the expired and foreign packets of the turn buffer and of injection before an opportunistic choice (R179,
R180). -/
def State.sweep (s : State) : State :=
  (s.forEach s.route.turn fun s p =>
    have r := s.examine p.1 p.2
    if r.2 then r.1
    else (r.1.setTurn (r.1.route.turn.erase p)).dropUpsets .turn 0 0 (looseKey p.2)).sweepInj

/-- A candidate departs on link `l` outside the lattice; one of which a word is lost leaves the stitch empty (R280). -/
def State.sendCand (s : State) (l st : Nat) (c : Cand) : State :=
  have r := s.takeCand c
  match r.2 with
  | some f => r.1.sendLoose l st false f
  | none => r.1

/-- An opportunistic stitch of near link `l` (R169, R170, R171, R406): one loose flit at most, in the order of R169. -/
def State.oppSend (s : State) (l st : Nat) : State :=
  have s := s.sweepAlarms
  have alarm := if s.isLattice l then none else s.route.alarms.find? fun a => a.kind == 1 && l ∈ a.links
  if !s.isUp l || s.mute l then s
  else
    match alarm with
    | some a =>
      if s.bufferFree l then
        ({ s with route := { s.route with alarms := s.route.alarms.erase a } }).sendLoose l st false a.flit
      else s
    | none =>
      if s.replayDue l 1 st ∧ (!s.firstResend l ∨ (!s.isLattice l ∧ s.looseStitch st)) then s.resendNext l 1 st false false
      else if (s.lk l).l.replay.isSome || !s.bufferFree l || st < (s.lk l).oppUntil then s
      else
        have s := s.sweep
        match (s.oppTurn l).or ((s.oppFar l).or (s.oppInject l)) with
        | some c => (s.sendCand l st c).tickFree
        | none => s.tickFree

/-- The packets that wait for far output `l` on VC `v`, with the credits each needs (R173, R174, R406). -/
def State.farCands (s : State) (l v : Nat) : List (Cand × Nat) :=
  have heads := (List.range 8).filterMap fun i =>
    match s.vcBuf (16 + i) v with
    | f :: _ => (match s.hop (16 + i) f with
      | .far x n => if x = l then some ((⟨.far (16 + i) v, 16 + i, f⟩ : Cand), n) else none
      | _ => none)
    | [] => none
  have inj := match s.injHead v with
    | some i => (match s.hop 31 i.flit with
      | .far x n => if x = l then [((⟨.inject v, 31, i.flit⟩ : Cand), n)] else []
      | _ => [])
    | none => []
  have al := if v = 0 then (s.route.alarms.filter fun a => a.kind == 2 && l ∈ a.links).map fun a =>
      ((⟨.alarm, 31, a.flit⟩ : Cand), if s.ringDim l = 0 then 1 else 2) else []
  al ++ heads ++ inj

/-- Credits held for a VC of a far output (R172). -/
def State.credits (s : State) (l v : Nat) : Nat := s.rd (Reg.LNK_VC_STATE_CREDITS l v)

/-- Take an alarm packet that departs out of the list. -/
def State.takeAlarm (s : State) (c : Cand) (l : Nat) : State :=
  match s.route.alarms.find? fun a => a.kind == 2 && l ∈ a.links && a.flit == c.flit with
  | some a => { s with route := { s.route with alarms := s.route.alarms.erase a } }
  | none => s

/-- The order in which a far output tries its VCs: 0, 1, 3, then round-robin over 2, 4, 5, 6, 7 after the last grant
(R174). -/
def State.farOrder (s : State) (l : Nat) : List Nat :=
  have g := [2, 4, 5, 6, 7]
  have i := (g.findIdx fun v => v == (s.lk l).rr) + 1
  [0, 1, 3] ++ (g.drop i ++ g.take i)

/-- A far output's loose flit for an available stitch (R172 to R175). -/
def State.farSend (s : State) (l st : Nat) : State :=
  if !s.isUp l || s.mute l then s
  else
    have s := s.sweepAlarms.sweepInj
    if s.replayDue l 1 st then s.resendNext l 1 st false false
    else if (s.lk l).l.replay.isSome || !s.bufferFree l then s
    else
      have all := (s.farOrder l).map fun v => (v, s.farCands l v)
      have starved := all.any fun p => !p.2.isEmpty && s.credits l p.1 == 0
      have bubble := all.any fun p => s.credits l p.1 == 1 && p.2.any fun c => c.2 == 2
      have s := s.when starved fun s => s.count (Reg.LNK_CREDIT_WAIT_CNT l) 1
      have s := s.when bubble fun s => s.count (Reg.LNK_BUBBLE_WAIT_CNT l) 1
      match all.findSome? fun p =>
          have ok := p.2.filter fun c => c.2 ≤ s.credits l p.1
          (ok[Config.farPick s.freeCtr % max 1 ok.length]?).map fun c => (p.1, c.1) with
      | none => s.tickFree
      | some (v, c) =>
        have s := if c.src = .alarm then s.takeAlarm c l else s
        have r := s.takeCand c
        have s := if v ∈ [2, 4, 5, 6, 7] then r.1.setLk l { r.1.lk l with rr := v } else r.1
        match r.2 with
        | some f => ((s.wr (Reg.LNK_VC_STATE_CREDITS l v) (s.credits l v - 1)).sendLoose l st false f).tickFree
        | none => s.tickFree

/-- The router is offered a loose flit with the expected number, at stitch `st` (R155, R171, R179): the state, and whether
it is taken. A flit that R155, R179 or R180 discards is taken and discarded. -/
def State.offer (s : State) (l st : Nat) (f : Flit) : State × Bool :=
  if !s.mittenOk f then (s.dropMitten l f, true)
  else if !s.vcOn f.vc then (s.dropVc l f, true)
  else if isFar l then
    if (s.vcBuf l f.vc).length < 256 then
      ((s.setVcBuf l f.vc (s.vcBuf l f.vc ++ [f])).count (Reg.LNK_LOOSE_RX_CNT l) 1, true)
    else (s, false)
  else if f.lat ∧ s.isLattice l then
    have r := s.nearestLoose (st + 96 - s.rd (Reg.LNK_SCHED_STATUS_FLIGHT l))
    ((s.setLk l { s.lk l with lat := (s.lk l).lat ++ [(r, f)] }).count (Reg.LNK_LOOSE_RX_CNT l) 1, true)
  else if f.dest = s.rd Reg.RTE_SELF_ID then
    if s.expired f then (s.dropTtl l f, true)
    else
      match s.eject st l f with
      | some s => (s.count (Reg.LNK_LOOSE_RX_CNT l) 1, true)
      | none => (s, false)
  else if s.route.turn.length < 48 then ((s.turnIn l (older f 3)).count (Reg.LNK_LOOSE_RX_CNT l) 1, true)
  else (s, false)

/-- The oldest packet of a VC's receive queue that a consumer asks for leaves the queue, and is read there (R154, R280). -/
def State.niRead (s : State) (vc : Nat) (p : Flit → Bool) : Option (State × Nat × Option Flit) :=
  match (s.niQueue vc).find? fun x => p x.2 with
  | none => none
  | some x =>
    have r := (s.setNi vc ((s.niQueue vc).erase x)).readLoose .ni 0 vc x.2
    some (r.1, x.1, r.2)

/-- Take the oldest packet of a VC's receive queue that a consumer asks for (R154); none when there is none, or when a word of it is
lost. -/
def State.niTake (s : State) (vc : Nat) (p : Flit → Bool) : Option (State × Nat × Flit) :=
  match s.niRead vc p with
  | some (t, l, some f) => some (t, l, f)
  | _ => none

/-- What the consumer leaves behind where it takes nothing: a packet of which a word is lost is discarded (R178, R280). -/
def State.niLost (s : State) (vc : Nat) (p : Flit → Bool) : State :=
  match s.niRead vc p with
  | some (t, _, none) => t
  | _ => s

end Sys2Proof.Machine
end

