-- ==== Sys2Proof/Machine/Sched.lean ====
section
/-! DEFINITION. Sys2Proof/Machine/Sched.lean: the commands of scheduled traffic: sending and landing stitch by stitch, deposits,
bank preparation, the RUN bit, and seams (R66 to R121, R306 to R308). -/
namespace Sys2Proof.Machine

/-- A driver write to BAR2 offset `o` in domain `d`: ignored and recorded while the domain is off (R446). -/
def State.bar2Write (s : State) (d o : Nat) (f : State → State) : State :=
  if !s.live then s else if s.domOn d then f s else s.accErr 1 2 true o

/-- The power domain of a link (R445). -/
def linkDomain (l : Nat) : Nat := if l < 16 then 24 + l / 4 else 28

/-- One flit less to read for the first want that equals `w` (R250, R271). -/
def takeWant (w : Nat × Nat × Nat) : List (Nat × Nat × Nat) → List (Nat × Nat × Nat)
  | [] => []
  | x :: xs => if x = w then (w.1, w.2.1, w.2.2 - 1) :: xs else x :: takeWant w xs

/-- The next word the op in progress still reads from receive queues arrives (R250): take what the queues hold, in order. -/
def State.palmDrainQ (s : State) (l q : Nat) : Nat → State
  | 0 => s
  | n + 1 =>
    match s.palm.want.find? fun w => w.1 == l && w.2.1 == q && w.2.2 != 0 with
    | none => s
    | some w =>
      match s.rqTake l q with
      | none => s
      | some r =>
        have p := r.1.palm
        State.palmDrainQ { r.1 with palm := { p with want := takeWant w p.want, inbox := p.inbox ++ [(l, q, r.2)] } } l q n

/-- The Palm takes every flit it waits for that has been delivered (R105, R250). -/
def State.palmDrain (s : State) : State :=
  s.forEach s.palm.want fun s w => s.palmDrainQ w.1 w.2.1 ((s.rqList w.1 w.2.1).length)

/-- The oldest owed entry of a link departs (R70, R76, R102, R151); an entry whose word is uncorrectable stops the link (R280). -/
def State.departOwed (s : State) (l st : Nat) (o : Owed) (rest : List Owed) (brim : Bool) : State :=
  have g := s.guardEntry .owed l 0 o.stitch o.entry
  if g.2.isNone then g.1.stopLink l
  else
    have r := (g.1.dropUpsets .owed l 0 o.stitch).owedFlit l o
    have s := r.1.setLk l { r.1.lk l with owed := rest }
    have f := if o.prog = l then r.2 else { r.2 with carriedV := true, carried := s.bandMember o.prog }
    (s.txNew l 0 st f o.pos o.seg o.stitch).countSched l st o.stitch f.void brim

/-- Loose traffic may use the stitch (R169, R172). -/
def State.looseSend (s : State) (l st : Nat) : State := if isFar l then s.farSend l st else s.oppSend l st

/-- The link owes a flit: an owed entry, a resend, or one its peer's fresh start discarded (R100, R107, R135). Once scheduled
traffic has ended, what is still owed holds no stitch (R117). -/
def State.owes (s : State) (l : Nat) : Bool :=
  !s.cuff.stopped &&
    (!(s.lk l).owed.isEmpty || !(s.lk l).gone.isEmpty || (s.lk l).s.unacked.any fun u => u.again)

/-- A hold stitch (R102): nothing scheduled departs. Loose traffic may use it in an IDLE stitch of a near link, and in every
slot of a near link that is not a lattice link (R169). -/
def State.holdStitch (s : State) (l st k : Nat) : State :=
  have s := s.count (Reg.LNK_HOLD_CNT l) 1
  if !isFar l && (k == 0 || !s.isLattice l) then s.oppSend l st else s

/-- What a link sends in a stitch that is not LOOSE (R102); `k` is the kind of the stitch's own entry. Link-level replay goes on
after scheduled traffic has ended (R117). -/
def State.sendSched (s : State) (l st k : Nat) : State :=
  if s.schedPath l ∧ s.replayDue l 0 st then s.resendNext l 0 st false (k == 5)
  else
    match (if s.canSched l && (s.lk l).s.replay.isNone && s.bufferFree l then (s.lk l).owed else []) with
    | o :: rest => if s.owedReady o then s.departOwed l st o rest (k == 5) else s.holdStitch l st k
    | [] =>
      if s.owes l then s.holdStitch l st k
      else if k = 0 ∨ k = 5 ∨ (!isFar l ∧ !s.isLattice l) then s.looseSend l st
      else s

/-- The far-link heads for this module are ejected (R174, R176), once the lattice has had its stitch (R165). -/
def State.ejectFar (s : State) (st : Nat) : State :=
  if s.looseStitch st ∧ s.route.latAt ≠ some st then s else s.serveFar st

/-- STITCH_SEND (R102): link `l` in the current stitch, once a seam or image start of its tick is done (R60). A link of fewer than 8
lanes has a slot only where one starts that carries no LCW (R123). -/
def execStitchSend (l : Fin 24) (s : State) : Host.Outcome State Fault Refusal :=
  have st := s.stitch
  have w := s.rd (Reg.LNK_STATUS_WIDTH l)
  if (s.lk l).sendAt = some st ∨ s.seamClear = false then .next s
  else
    have s := ((s.setLk l { s.lk l with sendAt := some st }).beginStitch l st).ejectFar st
    have k := entKind (s.entryAt l 0 st)
    have s :=
      if s.isUp l ∧ slotFree w (s.wireTick / 2 * 2) = false then s
      else if isFar l ∧ k = 4 then s.farSend l st
      else if !isFar l ∧ s.looseStitch st then (if s.isLattice l then s else s.oppSend l st)
      else s.sendSched l st k
    .next (s.retryWait.showLists l)

/-- LANDING_STITCH (R74, R77, R80): the land entry of the current stitch joins the list, and lands if its flit is there and
nothing older waits; once a seam or image start of its tick is done (R60). -/
def execLandingStitch (l : Fin 24) (s : State) : Host.Outcome State Fault Refusal :=
  have st := s.stitch
  if s.seamClear = false then .next s
  else
    have s := s.beginStitch l st
    have s := match (s.lk l).expecting.head? with
      | some e => if e.stitch = st then s.landOldest l st else s
      | none => s
    .next (s.palmDrain.showLists l)

/-- LATE_LANDING (R103): the oldest expecting entry, its landing stitch past, lands now that its flit is present. -/
def execLateLanding (l : Fin 24) (s : State) : Host.Outcome State Fault Refusal :=
  have st := s.stitch
  have s := match (s.lk l).expecting.head? with
    | some e => if e.stitch < st then s.landOldest l st else s
    | none => s
  .next (s.palmDrain.showLists l)

/-- The first arrival of a link that is due and has no expecting entry to pair with (R78). -/
def State.unpaired (s : State) (l st : Nat) : Option Nat :=
  have x := s.lk l
  (List.range x.arrivals.length).find? fun i =>
    match x.arrivals[i]? with
    | some (a, _) => a + landDelay l ≤ st && (match x.expecting[i]? with
      | some e => a + landDelay l < e.stitch
      | none => true)
    | none => false

/-- UNEXPECTED_ARRIVAL (R78): the arrival is discarded with STITCH_MISMATCH UNEXPECTED. -/
def execUnexpectedArrival (l : Fin 24) (s : State) : Host.Outcome State Fault Refusal :=
  if s.cuff.stopped then .next s
  else
    match s.unpaired l s.stitch with
    | none => .next s
    | some i =>
      have x := s.lk l
      have a := x.arrivals.getD i (0, {})
      have s := s.setLk l { x with arrivals := x.arrivals.eraseIdx i }
      .next (s.stitchMismatch l 3 a.2.tag 0 (s.posAt (a.1 + landDelay l)))

/-- DEPOSIT (R83, R85, R250): the op in progress makes its next deposit to send queue `q` of link `l`. -/
def execDeposit (l : Fin 24) (q : Fin 8) (s : State) : Host.Outcome State Fault Refusal :=
  match s.palm.outgoing.find? fun d => d.1 == l.val && d.2.1 == q.val with
  | none => .next s
  | some d =>
    have op := match s.palm.running with
      | some r => nbits r.bits 255 224
      | none => 0xFFFFFFFF
    .next ({ s with palm := { s.palm with outgoing := s.palm.outgoing.erase d } }.deposit l q d.2.2.2 op)

/-- DEPOSIT_READY (R84): deposits whose last word entered 64 ct ago are ready. -/
def execDepositReady (l : Fin 24) (q : Fin 8) (s : State) : Host.Outcome State Fault Refusal :=
  .next (s.setSq l q ((s.sqList l q).map fun d => { d with ready := d.isReady s.now }))

/-- Refuse a Cuff write or command with WR_REFUSED. -/
def State.cufRefuse (s : State) : State := s.flag Reg.CUF_STATUS_WR_REFUSED

/-- BANK_VERIFY (R92, R95): a write of 1 to CUF_CTRL.VERIFY. -/
def execBankVerify (s : State) : Host.Outcome State Fault Refusal :=
  .next (s.busWrite Reg.CUF_CTRL fun s =>
    if s.rdb Reg.CUF_CTRL_FILL_AUTO ∨ s.rdb Reg.CUF_STATUS_VERIFY_BUSY ∨ s.rdb Reg.CUF_STATUS_ARMED then s.cufRefuse
    else s.startVerify 0)

/-- A verification ended with a refusal (R92, R97, R314, R316): in automatic mode during a run its class acts at the opening seam of
the segment; otherwise it acts at once, under the state the load is in (log entry 58). -/
def State.verifyFailed (s : State) (v : VerifySt) : State :=
  have s := (s.wr Reg.CUF_STATUS_VERIFY_FAIL 1).setReg Reg.CUF_VERIFY_ERR (BitVec.ofNat 64
    (2 ^ 60 * v.reason + 2 ^ 48 * v.link + 2 ^ 47 * v.dir + 2 ^ 32 * v.pos + v.seg % 2 ^ 32))
  have r : RefArgs := { reason := 10, sub := v.reason, seg := v.seg, obj := 1, index := v.link, value := v.pos, bound := v.dir,
                        link := v.link, pos := v.pos }
  if v.seg ≠ 0 ∧ s.ldr = 8 then s.refuseAt r v.seg else s.refuseImage r

/-- VERIFY_DONE (R92, R95): the verification in progress ends. -/
def execVerifyDone (s : State) : Host.Outcome State Fault Refusal :=
  match s.cuff.verify with
  | none => .next s
  | some v =>
    if s.cyc < v.done then .next s
    else
      have s := { s.wr Reg.CUF_STATUS_VERIFY_BUSY 0 with cuff := { s.cuff with verify := none } }
      if v.reason ≠ 0 then .next (s.verifyFailed v)
      else
        have s := (s.wr Reg.CUF_STATUS_VERIFY_OK 1).setReg Reg.CUF_VERIFY_ERR 0
        if v.seg = 0 then .next s
        else .next { s.wr Reg.CUF_STATUS_ARMED 1 with cuff := { s.cuff with armedAt := s.now, armSeg := v.seg } }

/-- BANK_ARM (R95, R96): a write of 1 to CUF_CTRL.ARM. -/
def execBankArm (s : State) : Host.Outcome State Fault Refusal :=
  .next (s.busWrite Reg.CUF_CTRL fun s =>
    if s.rdb Reg.CUF_CTRL_FILL_AUTO ∨ !s.rdb Reg.CUF_STATUS_VERIFY_OK ∨ s.rdb Reg.CUF_STATUS_ARMED then s.cufRefuse
    else { s.wr Reg.CUF_STATUS_ARMED 1 with cuff := { s.cuff with armedAt := s.now, armSeg := 0 } })

/-- AUTO_FILL_DONE (R95, R304): the shadow set holds the segment's bank set, and verification starts. -/
def execAutoFillDone (s : State) : Host.Outcome State Fault Refusal :=
  match s.cuff.fill with
  | none => .next s
  | some (k, t) => if s.cyc < t then .next s else .next ((s.fillShadow k).startVerify k)

/-- STITCH_TABLE_WRITE (R93): a BAR2 write to the entry of link `l`, direction `dir`, bank and position. -/
def execStitchTableWrite (l : Fin 24) (dir bank : Fin 2) (p : Fin 32768) (v : Word) (s : State) :
    Host.Outcome State Fault Refusal :=
  have o := progAddr l dir bank p
  .next (s.bar2Write (linkDomain l) o fun s =>
    if s.rd Reg.CUF_STATUS_ACTIVE_BANK = bank.val ∨ s.rdb Reg.CUF_STATUS_ARMED ∨ s.rdb Reg.CUF_STATUS_VERIFY_BUSY then s.cufRefuse
    else ((s.setTab o v).dropUpsets .program l (progQueue dir bank) (p / 4)).wr Reg.CUF_STATUS_VERIFY_OK 0)

/-- BANK_CFG_WRITE (R93): a write to CUF_BANK_CFG. -/
def execBankCfgWrite (n : Fin 65536) (phase : Fin 32) (s : State) : Host.Outcome State Fault Refusal :=
  .next (s.busWrite Reg.CUF_BANK_CFG fun s =>
    if s.rdb Reg.CUF_STATUS_ARMED ∨ s.rdb Reg.CUF_STATUS_VERIFY_BUSY then s.cufRefuse
    else if n.val % 32 ≠ 0 ∨ n.val = 0 ∨ 32768 < n.val then s.flag Reg.CUF_STATUS_CFG_ERR
    else ((s.drvWr Reg.CUF_BANK_CFG_N n).drvWr Reg.CUF_BANK_CFG_LOOSE_PHASE phase).wr Reg.CUF_STATUS_VERIFY_OK 0)

/-- The capacities of a queue configuration value (R99). -/
def capSum (v : Word) : Nat := ((List.range 8).map fun q => capField v q).sum

/-- QUEUE_CFG_WRITE (R99): a write to LNK_SQ_CFG, or LNK_RQ_CFG when `rq`. -/
def execQueueCfgWrite (l : Fin 24) (rq : Bool) (v : Word) (s : State) : Host.Outcome State Fault Refusal :=
  have a := if rq then Reg.LNK_RQ_CFG l else Reg.LNK_SQ_CFG l
  .next (s.busWrite a fun s =>
    if s.run then s.cufRefuse
    else if 512 < capSum v then s.flag Reg.CUF_STATUS_CFG_ERR
    else s.setReg a (fset (fset v 63 63 0) 13 7 0))

/-- CUF_RUN_SET (R98, R114, R407): RUN is set; a new run's first alarm and seam reports are awaited. -/
def execCufRunSet (s : State) : Host.Outcome State Fault Refusal :=
  .next (s.busWrite Reg.CUF_CTRL fun s =>
    if s.run then s
    else
      have s := (s.wr Reg.CUF_CTRL_RUN 1).wr Reg.FLT_ALARM_RX_VALID 0
      have s := s.forEach allLinks fun s l => s.wr (Reg.LNK_SEAM_RPT_VALID l) 0
      { s with flt := { s.flt with fwd := 0 } })

/-- Clearing RUN empties one link: queues, holds, lists and gauges, its band move, and a fresh start (R90, R98, R112, R135). -/
def State.clearLink (s : State) (l : Nat) : State :=
  have x := s.lk l
  have s := s.setLk l { x with
    owed := [], expecting := [], hold := [], arrivals := [], sq := [], sqDep := [], sqEnt := [], rq := [], gone := [],
    begunAt := none, misRaised := false, lagRaised := false, cmbRaised := false, leftRaised := false, owedFull := false,
    expectFull := false, reports := [], wasSched := false, fresh := true }
  have s := (s.wr (Reg.LNK_BAND_CARRIES l) l).wr (Reg.LNK_BAND_FAILED l) 0
  have s := (s.wr (Reg.LNK_LAG_SEND_LAG l) 0).wr (Reg.LNK_LAG_LAND_LAG l) 0
  have s := (((s.wr (Reg.LNK_LAG_OWED l) 0).wr (Reg.LNK_LAG_EXPECTING l) 0).freshStart l).clearUpsets l
  if s.isUp l then s.setLk l { s.lk l with pendTrain := some 1, reqCause := 0 } else s

/-- The states of R310 that clearing RUN returns to VERIFIED: ADMITTED to ENDED. -/
def ldrRunStates : List Nat := [6, 7, 8, 9, 10]

/-- Clearing RUN (R98, R112, R135, R217, R310). -/
def State.clearRun (s : State) : State :=
  have s := (s.wr Reg.CUF_CTRL_RUN 0).wr Reg.CUF_STATUS_RUNNING 0
  have s := s.forEach allLinks State.clearLink
  have s := if s.ldr ∈ ldrRunStates then s.wr Reg.LDR_STATUS_STATE 5 else s
  have s := ((s.wr Reg.FLT_STATUS_MITTEN_STOPPED 0).wr Reg.PLM_STATUS_HALTED 0).wr Reg.PLM_STATUS_QUEUE 0
  have s := ((s.wr Reg.CUF_SEAM_SEGMENT 0).wr Reg.CUF_SEAM_GRACE 0).wr Reg.CUF_SEAM_TICK_TICK 0
  have keep := s.palm.want.all fun w => w.2.2 == 0
  have s := { s with
    cuff := { s.cuff with ended := false, started := false, stopped := false, deferred := [], checkSeam := none },
    palm := { s.palm with queue := [], staging := none, staged := none, outgoing := [], spill := [], want := [], inbox := [],
                           running := if keep then s.palm.running else none,
                           masks := if keep && s.palm.running.isSome then s.palm.masks else none },
    flt := { s.flt with alarmPend := false } }
  have s := if keep then s else s.wr Reg.PLM_STATUS_RUNNING 0
  ((s.wr Reg.PLM_STATUS_STAGING 0).wr Reg.PLM_STATUS_BUDGET_WAIT 0).showSched

/-- CUF_RUN_CLEAR (R98). -/
def execCufRunClear (s : State) : Host.Outcome State Fault Refusal :=
  .next (s.busWrite Reg.CUF_CTRL fun s => if s.run then s.clearRun else s)

/-- The actions a refusal deferred to the opening seam of segment `k` (R97, R306, R344, R398). -/
def State.takeDeferred (s : State) (k : Nat) : State :=
  have due := s.cuff.deferred.filter fun d => d.1 == k
  if due.isEmpty then s
  else
    have s : State := { s with cuff := { s.cuff with deferred := s.cuff.deferred.filter fun d => d.1 != k } }
    (s.forEach due fun s d => s.classActions (d.2.2 / 2 ^ 16 % 256) d.2.1 d.2.2).updFaultN

/-- Stitch `s.stitch` begins on every link (R100, R103, R110). -/
def State.beginAll (s : State) : State := s.forEach allLinks fun s l => s.beginStitch l s.stitch

/-- The segment after segment `k` opens (R67, R95, R306): `swapped` when a bank set became active, `fetched` when its entry's
fetch has ended by now. -/
def State.openNext (s : State) (k t : Nat) (swapped fetched : Bool) : State :=
  have s := { s with cuff := { s.cuff with prevOpen := s.cuff.openTick, openTick := t } }
  if !s.segFetched (k + 1) fetched then s.refuseImage { reason := 20, sub := 1, seg := k + 1 }
  else
    have s := s.commitSegment (k + 1)
    (if swapped then s.nextFill (k + 1) else s).beginAll

/-- SEAM_OPEN (R53, R60, R96, R305, R306, R308): at the tick of the current segment's closing seam. `fetched` says whether the fetch of
the entry of the segment to be committed has ended by now; the fetch of the one after it starts. -/
def execSeamOpen (fetched : Bool) (s : State) : Host.Outcome State Fault Refusal :=
  have k := s.rd Reg.CUF_SEAM_SEGMENT
  have t := s.rd Reg.CUF_SEAM_TICK_TICK
  if s.seamDue = false then .next s
  else
    have last := segLast (s.segEntry k)
    have s := s.takeDeferred (k + 1)
    if s.cuff.stopped then .next s
    else
      have s := s.forEach allLinks fun s l =>
        s.setLk l { s.lk l with wasSched := s.rdb (Reg.LNK_SCHED_STATUS_SCHED_ACTIVE l), misRaised := false }
      have s := { s with cuff := { s.cuff with checkSeam := some (k, t, t + s.rd Reg.CUF_SEAM_GRACE), prevN := s.roundN } }
      have swapped := s.swapDue (k + 1)
      have s := (if swapped then s.swapBanks k else s).setEsts false
      .next (if last then { s with cuff := { s.cuff with ended := true } }
             else (s.openNext k t swapped fetched).when (s.segFetched (k + 1) fetched) fun s => s.fetchSeg (k + 2))

/-- The seat at the far end of a link: the one it has identified, else the one the plan cables it to (R115, R387). -/
def State.farSeat (s : State) (l : Nat) : Option Nat :=
  match (s.lk l).ident with
  | some i => some i.2.2.1
  | none => if s.planned l then some (s.rd (Reg.LNK_PLAN_NBR_SEAT l)) else none

/-- The links of segment k that held scheduled entries, and the seat at the far end of each (R115). -/
def State.checkedNbrs (s : State) : List (Nat × Nat) :=
  (allLinks.filter fun l => (s.lk l).wasSched).filterMap fun l => (s.farSeat l).map fun seat => (l, seat)

/-- Links to a seat. -/
def State.linksTo (s : State) (seat : Nat) : List Nat := allLinks.filter fun l => s.farSeat l == some seat

/-- Reports received from a seat on any link: arrival tick, index, link (R115). -/
def State.reportsFrom (s : State) (seat : Nat) : List (Nat × Nat × Nat) :=
  (s.linksTo seat).flatMap fun l => (s.lk l).reports.map fun r => (r.1, r.2, l)

/-- The newest of some reports. -/
def newest (rs : List (Nat × Nat × Nat)) : Option (Nat × Nat × Nat) :=
  rs.foldl (fun a r => match a with
    | none => some r
    | some b => if b.1 < r.1 then some r else a) none

/-- The report that disagrees, from one seat, at the check of seam `k` at tick `t` (R115, R116): index received and link. -/
def State.badReport (s : State) (k t seat : Nat) : Option (Nat × Nat) :=
  have rs := s.reportsFrom seat
  have early := newest (rs.filter fun r => r.1 + 8 < t)
  have bad := (rs.filter fun r => t ≤ r.1 + 8 && r.2.1 != k % 65536 && r.2.1 != (k + 1) % 65536).map fun r => (r.2.1, r.2.2)
  have bad := match early with
    | some r => if t ≤ r.1 + 2056 ∧ r.2.1 ≠ k % 65536 then (r.2.1, r.2.2) :: bad else bad
    | none => bad
  bad.foldl (fun a b => match a with
    | none => some b
    | some c => if b.2 < c.2 then some b else a) none

/-- No report is present from a seat at the check of a seam at tick `t` (R115). -/
def State.noReport (s : State) (t seat : Nat) : Bool :=
  match newest ((s.reportsFrom seat).filter fun r => r.1 + 8 < t) with
  | some r => r.1 + 2056 < t
  | none => true

/-- The link that NO_REPORT names for a seat (R116). -/
def State.reportLink (s : State) (seat : Nat) : Nat :=
  match newest (s.reportsFrom seat) with
  | some r => r.2.2
  | none => ((s.linksTo seat).head?).getD 0

/-- The tick from which a descriptor launches (R246); none for one that resolves to no segment. -/
def Desc.tick (d : Desc) : Option Nat := d.seg.map fun _ => d.opened + nbits d.bits 192 177

/-- The oldest op of the segments up to `k`, whose closing seam is at `t`, that has not completed (R115, R116): one in progress
or queued, or one not fetched yet. -/
def State.oldestOp (s : State) (k t : Nat) : Option Nat :=
  have q := s.palm.running.toList ++ s.palm.queue
  match q.find? fun d => match d.tick with
    | some x => x < t
    | none => false with
  | some d => some (nbits d.bits 255 224)
  | none => if s.palm.nextFetch < s.opsEnd k then some s.palm.nextFetch else none

/-- The first failing condition of the check of seam `k` at tick `t` (R116): cause, link, value, op. -/
def State.seamFailure (s : State) (k t st : Nat) : Option (Nat × Nat × Nat × Nat) :=
  have seats := ((s.checkedNbrs.map Prod.snd).dedup)
  have bads := seats.filterMap (s.badReport k t)
  have bad := bads.foldl (fun (a : Option (Nat × Nat)) b => match a with
    | none => some b
    | some c => if b.2 < c.2 then some b else a) none
  match bad with
  | some b => some (1, b.2, b.1, 0)
  | none =>
    match allLinks.find? fun l => landLag (s.lk l) st != 0 with
    | some l => some (2, l, min 65535 (landLag (s.lk l) st), 0)
    | none =>
      match allLinks.find? fun l => sendLag (s.lk l) st != 0 with
      | some l => some (3, l, min 65535 (sendLag (s.lk l) st), 0)
      | none =>
        match s.oldestOp k t with
        | some op => some (4, 0, op % 65536, op)
        | none =>
          match (seats.filter (s.noReport t)).map s.reportLink with
          | [] => none
          | l :: ls => some (5, ls.foldl min l, 0, 0)

/-- A failed seam check (R116): the result, one fault, and both segments' outputs invalid. -/
def State.seamFailed (s : State) (k : Nat) (f : Nat × Nat × Nat × Nat) : State :=
  have s := ((s.wr Reg.CUF_SEAM_RESULT_CAUSE f.1).wr Reg.CUF_SEAM_RESULT_LINK f.2.1).wr Reg.CUF_SEAM_RESULT_VALUE f.2.2.1
  have s := s.wr Reg.CUF_SEAM_RESULT_SEAM k
  have s := { s with cuff := { s.cuff with invalid := s.cuff.invalid ++ [k, k + 1] } }
  if f.1 = 1 then
    s.fault { code := 0x0203, block := 6, cause := 1, a := f.2.2.1, b := k, link := f.2.1, seam := some k }
  else if f.1 = 4 then
    s.fault { code := 0x0202, block := 8, cause := 4, b := f.2.2.2, op := f.2.2.2, seam := some k }
  else
    s.fault { code := 0x0202, block := 6, cause := f.1, a := f.2.2.1, link := f.2.1, seam := some k }

/-- A seam check that passes (R115, R307, R308). -/
def State.seamPassed (s : State) (k : Nat) : State :=
  have s := (((s.wr Reg.CUF_SEAM_RESULT_CAUSE 0).wr Reg.CUF_SEAM_RESULT_LINK 0).wr Reg.CUF_SEAM_RESULT_VALUE 0).wr
    Reg.CUF_SEAM_RESULT_SEAM k
  have s := (s.count Reg.CUF_SEAM_PASS_CNT 1).wr Reg.LDR_SEG_VALID k
  if s.cuff.ended then s.wr Reg.LDR_STATUS_STATE 10 else s

/-- SEAM_CHECK (R115 to R118): at seam tick plus grace. -/
def execSeamCheck (s : State) : Host.Outcome State Fault Refusal :=
  match s.cuff.checkSeam with
  | none => .next s
  | some (k, t, due) =>
    if s.now ≠ due then .next s
    else
      have s := { s with cuff := { s.cuff with checkSeam := none } }
      if !s.run ∨ s.cuff.stopped then .next s
      else
        match s.seamFailure k t s.stitch with
        | some f => .next (s.seamFailed k f)
        | none => .next (s.seamPassed k)

end Sys2Proof.Machine
end

