-- ==== Sys2Proof/Machine/Hbm.lean ====
section
/-! DEFINITION. Sys2Proof/Machine/Hbm.lean: the commands of the HBM stacks: write-back, scrub, refresh, training and retrains,
and the caps (R281 to R292). -/
namespace Sys2Proof.Machine

/-- HBM_WRITE_BACK (R281, R284): the corrected word `w` is written back to its stack, within the stack's OTHER share. -/
def execHbmWriteBack (w : Nat) (s : State) : Host.Outcome State Fault Refusal :=
  if w ∈ s.mem.writeBack ∧ s.stackUp (w / stackWords) then
    have s := s.capUse (w / stackWords) 1 (burstWords w 1)
    have s : State := { s with mem := { s.mem with writeBack := s.mem.writeBack.filter (· != w) } }
    match decodeWord (s.hbmStored w) with
    | .corrected _ st => .next (s.hbmStore w st)
    | _ => .next s
  else .next s

/-- An error arises in a word of a store on the die (R278, R280): in a tile's SRAM its stored bits flip, or its cells stop to hold what
is written; in the others the error is kept with the item until it is read. -/
def State.storeUpset (s : State) (u : Upset) : State :=
  match u.store with
  | .sram =>
    have a := sramAddr u.inst u.item
    { s with sram := s.sram.writeBytes a (List.zipWith (fun x y => x ^^^ y) (s.sram.readBytes a 36) (leBytes 36 u.mask)) }
  | .sramCell => { s with mem := { s.mem with sramDefect := (12288 * u.inst + u.item) :: s.mem.sramDefect } }
  | _ => { s with mem := { s.mem with upsets := s.mem.upsets ++ [u] } }

/-- What radiation or wear did to a stack's cells since the last command: bits flipped in stored bytes of the stack (byte
address, pattern), and words whose cells no longer hold what is written. -/
def State.upset (s : State) (k : Nat) (upsets : List (Nat × BitVec 8)) (defects : List Nat) : State :=
  have s := s.forEach upsets fun s u =>
    have a := 36 * stackWords * k + u.1 % (36 * stackWords)
    { s with hbm := s.hbm.write a (s.hbm.read a ^^^ u.2) }
  { s with mem := { s.mem with defect := (defects.map fun w => stackWords * k + w % stackWords) ++ s.mem.defect } }

/-- Bursts of 256 bytes in a stack (R15, R282). -/
def stackBursts : Nat := 2 ^ 28

/-- The scrub's interval has passed since its last bursts on stack `k`; an INTERVAL below 4,096 acts as 4,096 (R282, R292). -/
def State.scrubDue (s : State) (k : Nat) : Bool :=
  have last := SMap.get (fun _ => 0) s.mem.scrubAt k
  last == 0 || decide (last - 1 + max 4096 (s.rd (Reg.HBM_SCRUB_INTERVAL k)) ≤ s.cyc)

/-- SCRUB_BURST (R282): the scrub of stack `k` reads one burst on each of the 32 channels, in address order, once in an INTERVAL; a
pass ends at the stack's last burst. The command carries the errors that have arisen: `upsets` and `defects` in the stack, `stores`
in the die's other stores (R278; log entry 49). -/
def execScrubBurst (k : Fin 8) (upsets : List (Nat × BitVec 8)) (defects : List Nat) (stores : List Upset) (s : State) :
    Host.Outcome State Fault Refusal :=
  have s := (s.upset k upsets defects).forEach stores State.storeUpset
  if s.rdb (Reg.HBM_CTRL_SCRUB_EN k) ∧ s.stackUp k ∧ s.scrubDue k then
    have s : State := { s with mem := { s.mem with scrubAt := SMap.set (fun _ => 0) s.mem.scrubAt k (s.cyc + 1) } }
    have p := s.rd (Reg.HBM_SCRUB_POSITION k)
    have s := s.forEach (List.range 256) fun s i => (s.hbmRead (stackWords * k.val + (8 * p + i) % stackWords) 1).1
    have s := s.wr (Reg.HBM_SCRUB_POSITION k) ((p + 32) % stackBursts)
    .next (if stackBursts ≤ p + 32 then s.count (Reg.HBM_SCRUB_PASS_CNT k) 1 else s)
  else .next s

/-- REFRESH (R285, R291): a channel's refresh; the interval to its next one follows the stack temperature. -/
def execRefresh (k : Fin 8) (_channel : Fin 32) (s : State) : Host.Outcome State Fault Refusal :=
  if s.stackUp k then
    .next (s.wrb (Reg.HBM_STATUS_REFRESH_2X k) (decide (85 ≤ toSigned 8 (s.rd (Reg.HBM_STATUS_TEMP k)))))
  else .next s

/-- A retrain of a kind (0 quick, 1 full) becomes due; a full one due stays full (R289). -/
def State.retrainDue (s : State) (k kind : Nat) : State :=
  have kind := if s.rdb (Reg.HBM_STATUS_RETRAIN_DUE k) then max kind (s.rd (Reg.HBM_STATUS_DUE_KIND k)) else kind
  (s.wr (Reg.HBM_STATUS_RETRAIN_DUE k) 1).wr (Reg.HBM_STATUS_DUE_KIND k) kind

/-- PERIODIC_TRAINING (R285, R289): a channel trains; `below` says that it found its timing margin below the limit. -/
def execPeriodicTraining (k : Fin 8) (_channel : Fin 32) (below : Bool) (s : State) : Host.Outcome State Fault Refusal :=
  if s.stackUp k && below then .next (s.retrainDue k 0) else .next s

/-- A write to HBM_CTRL (R289, R291): KIND, SEAM_RETRAIN and SCRUB_EN, then the request if `req`. -/
def State.hbmCtrl (s : State) (k : Nat) (full seam scrub req : Bool) : State :=
  have s := ((s.wrb (Reg.HBM_CTRL_KIND k) full).wrb (Reg.HBM_CTRL_SEAM_RETRAIN k) seam).wrb (Reg.HBM_CTRL_SCRUB_EN k) scrub
  have pend := s.rdb (Reg.HBM_STATUS_PENDING k)
  if req then
    if !s.stackUp k then s.flag (Reg.HBM_STATUS_CFG_ERR k)
    else if seam then
      { s.wr (Reg.HBM_STATUS_PENDING k) 1 with
        mem := { s.mem with pendKind := SMap.set (fun _ => 0) s.mem.pendKind k (1 + b2n full) } }
    else s.startRetrain k (b2n full)
  else if pend && !seam && s.stackUp k then s.startRetrain k (SMap.get (fun _ => 0) s.mem.pendKind k - 1)
  else s

/-- HBM_RETRAIN_REQUEST (R289): a driver write of 1 to HBM_CTRL.RETRAIN with the register's other fields. -/
def execHbmRetrainRequest (k : Fin 8) (full seam scrub : Bool) (s : State) : Host.Outcome State Fault Refusal :=
  .next (s.busWrite (Reg.HBM_CTRL k) fun s => s.hbmCtrl k full seam scrub true)

/-- HBM_RETRAIN_DONE (R288): the retrain in progress completes within its limit; a full one takes a new reference temperature. -/
def execHbmRetrainDone (k : Fin 8) (s : State) : Host.Outcome State Fault Refusal :=
  have r := SMap.get (fun _ => (0, 0)) s.mem.retrain k
  if s.rd (Reg.HBM_STATUS_STATE k) = 2 ∧ s.cyc ≤ r.2 + retrainLimit (r.1 - 1) then
    have s := s.wr (Reg.HBM_STATUS_STATE k) 1
    have s := if s.rd (Reg.HBM_STATUS_DUE_KIND k) ≤ r.1 - 1 then
        (s.wr (Reg.HBM_STATUS_RETRAIN_DUE k) 0).wr (Reg.HBM_STATUS_DUE_KIND k) 0 else s
    have temp := s.rd (Reg.HBM_STATUS_TEMP k)
    .next { s with mem := { s.mem with
      retrain := SMap.set (fun _ => (0, 0)) s.mem.retrain k (0, 0),
      trainTemp := if r.1 = 2 then SMap.set (fun _ => 0) s.mem.trainTemp k temp else s.mem.trainTemp } }
  else .next s

/-- HBM_RETRAIN_TIMEOUT (R288): the retrain fails or exceeds its limit: FAILED, ECC_UNCORRECTABLE STACK, TRAIN_FAILED. -/
def execHbmRetrainTimeout (k : Fin 8) (s : State) : Host.Outcome State Fault Refusal :=
  if s.rd (Reg.HBM_STATUS_STATE k) = 2 then
    have s : State := { s.wr (Reg.HBM_STATUS_STATE k) 3 with
      mem := { s.mem with retrain := SMap.set (fun _ => (0, 0)) s.mem.retrain k (0, 0) } }
    .next (s.eccFault (0x900 + k.val) { code := 0x0305, block := 10, cause := 9, sub := 3, a := 1, stack := k })
  else .next s

/-- HBM_CAP_WRITE (R292, R99): ignored while RUN is 1 with WR_REFUSED, and with CFG_ERR when the caps would exceed 40. -/
def execHbmCapWrite (k : Fin 8) (other bonnet : Fin 256) (s : State) : Host.Outcome State Fault Refusal :=
  .next (s.busWrite (Reg.HBM_CAP k) fun s => s.runLocked fun s =>
    if 40 < bonnet.val + other.val then s.flag (Reg.HBM_STATUS_CFG_ERR k)
    else (s.wr (Reg.HBM_CAP_OTHER k) other).wr (Reg.HBM_CAP_BONNET k) bonnet)

end Sys2Proof.Machine
end

