-- ==== Sys2Proof/Machine/Loose.lean ====
section
/-! DEFINITION. Sys2Proof/Machine/Loose.lean: the commands of loose traffic: injection, the lattice, replies, the rank and route
tables and the route epochs (R154 to R184). -/
namespace Sys2Proof.Machine

/-- The module an injector's address names (R158, R159): the seat, and the DST_RANK the packet carries; `none` where the NI
refuses. -/
def State.resolve (s : State) (vc : Nat) : Addr → Option (Nat × Nat)
  | .rank r =>
    have e := (s.guardTab .rank 0 r (s.tab (0x2000000 + 8 * r))).2
    if r < 4096 ∧ nbit e.toNat 63 then some (fget e 11 0, r) else none
  | .coord m => if s.rdb Reg.RTE_CTRL_COORD_EN then some (m % 4096, 0xFFFF) else none
  | .management m => if vc < 2 then some (m % 4096, 0xFFFF) else none

/-- The rank-table entry that an address names is read (R158, R280). -/
def State.readRank (s : State) : Addr → State
  | .rank r => if r < 4096 then (s.guardTab .rank 0 r (s.tab (0x2000000 + 8 * r))).1 else s
  | _ => s

/-- The mitten a packet is injected in: 0 for management on VC 0 or VC 1, else this module's (R159, R179). -/
def State.injMitten (s : State) : Addr → Nat
  | .management _ => 0
  | _ => s.rd Reg.CUF_MITTEN_MITTEN

/-- A refused injection (R155, R159, R177): counted and shown as a discard from link 31. -/
def State.inject (s : State) (vc : Nat) (a : Addr) (dstQ srcRank rtag replyN hdr data : Nat) : State :=
  have f : Flit := { cls := 1, vc := vc, mitten := s.injMitten a, payload := routeWord 0 0 0 0xFFFF dstQ srcRank rtag replyN 0 hdr
                                                                                 + 2 ^ 256 * (data % 2 ^ 2816) }
  if !s.vcOn vc then s.dropVc 31 f
  else
    have s := s.readRank a
    match s.resolve vc a with
    | none => s.dropRoute 31 f
    | some (m, rank) =>
      have f : Flit := { f with dest := m, payload := routeWord 0 0 0 rank dstQ srcRank rtag replyN 0 hdr + 2 ^ 256 * (data % 2 ^ 2816) }
      if 128 < replyN then s.dropRoute 31 f
      else
        have i : Inj := { vc := vc, flit := f, replyN := replyN, rtag := rtag }
        if s.replyFree < replyN then { s with route := { s.route with wait := s.route.wait ++ [i] } } else s.stamp i

/-- LOOSE_INJECT (R155, R157, R159, R177, R182): a consumer hands the NI a packet; `hdr` is its endpoint header and `data` its
352 bytes. -/
def execLooseInject (vc : Fin 8) (addr : Addr) (dstQ : Fin 256) (srcRank rtag : Fin 65536) (replyN : Fin 256) (hdr : BitVec 144)
    (data : Nat) (s : State) : Host.Outcome State Fault Refusal :=
  .next (s.inject vc addr dstQ srcRank rtag replyN hdr.toNat data)

/-- LATTICE_ASSIGN (R165): the assignment of the current stitch, if it is LOOSE and has not been made. -/
def execLatticeAssign (s : State) : Host.Outcome State Fault Refusal :=
  have st := s.stitch
  if !s.looseStitch st ∨ s.route.latAt = some st then .next s else .next (s.retryWait.assignLattice st)

/-- BUSY_INJECT (R177): the oldest queued BUSY reply is injected toward its request's source. -/
def execBusyInject (s : State) : Host.Outcome State Fault Refusal :=
  match s.route.busy with
  | [] => .next s
  | f :: rest =>
    have s : State := { s with route := { s.route with busy := rest } }
    have f : Flit := { f with mitten := s.rd Reg.CUF_MITTEN_MITTEN }
    if !s.vcOn 3 then .next (s.dropVc 31 f)
    else .next (s.stamp { vc := 3, flit := f, replyN := 0, rtag := rwRtag f })

/-- RESERVATION_TIMEOUT (R177): a reservation of tag `rtag` held 500,000 ct after its request was injected is released. -/
def execReservationTimeout (rtag : Fin 65536) (s : State) : Host.Outcome State Fault Refusal :=
  have res := s.route.res.filter fun r => !(r.1 == rtag.val && r.2.2 + 500000 ≤ s.cyc)
  .next ({ s with route := { s.route with res := res } }.retryWait)

/-- OPP_SUPPRESS_END (R169): 2,048 st after a refusal link `l` sends opportunistically again. -/
def execOppSuppressEnd (l : Fin 24) (s : State) : Host.Outcome State Fault Refusal :=
  if (s.lk l).oppUntil ≤ s.stitch then .next (s.setLk l { s.lk l with oppUntil := 0 }) else .next s

/-- RANK_TABLE_WRITE (R158): a BAR2 write to entry `r`; reserved bits read 0. -/
def execRankTableWrite (r : Fin 4096) (v : Word) (s : State) : Host.Outcome State Fault Refusal :=
  have o := 0x2000000 + 8 * r.val
  .next (s.bar2Write 28 o fun s =>
    if s.run then s.flag Reg.RTE_STATUS_WR_REFUSED else (s.setTab o (fset v 62 12 0)).dropUpsets .rank 0 0 (r / 4))

/-- A route entry may be written for destination `m` (R160): an invalid one always, a VALID one unless it is reserved or
inconsistent. -/
def State.routeOk (s : State) (m : Nat) (v : Word) : Bool :=
  have act := fget v 62 60
  have dim := fget v 59 58
  have l := fget v 57 53
  have inside := m / 64 == s.rd Reg.RTE_SELF_ID / 64
  if !nbit v.toNat 63 then true
  else if act = 1 then inside && dim == 0 && l == 0
  else if act = 2 then !inside && dim != 0 && (l == 2 * dim + 14 || l == 2 * dim + 15)
  else if act = 3 then !inside && dim == 0 && 16 ≤ l && l < 24 && s.ringDim l == 0
  else false

/-- The tick from which the inactive route version may be written and a switch armed (R182, R183). -/
def State.routeFree (s : State) : Bool := s.rd Reg.RTE_LAST_SWITCH_TICK + 250016 ≤ s.now

/-- A write to entry `m` of route version `e` (R160, R182). -/
def State.routeWrite (s : State) (e m : Nat) (v : Word) : State :=
  if s.rd Reg.RTE_EPOCH_INJECT = e ∨ !s.routeFree then s.flag Reg.RTE_STATUS_WR_REFUSED
  else if !s.routeOk m v then s.flag Reg.RTE_STATUS_CFG_ERR
  else (s.setTab (0x2010000 + 0x8000 * e + 8 * m) (fset v 52 0 0)).dropUpsets .route e 0 (m / 4)

/-- The key under which the cycle's marks hold a route-table entry, by its BAR2 offset (R22). -/
def routeKey (o : Nat) : Nat := 2 ^ 40 + o

/-- ROUTE_TABLE_WRITE (R22, R160, R182): a BAR2 write; an entry that a management write has written in this cycle keeps that
value. -/
def execRouteTableWrite (epoch : Fin 2) (dest : Fin 4096) (v : Word) (s : State) : Host.Outcome State Fault Refusal :=
  have o := 0x2010000 + 0x8000 * epoch.val + 8 * dest.val
  .next (s.bar2Write 28 o fun s =>
    if SMap.get (fun _ => 0) s.same.mgmt (routeKey o) = 0 then s.routeWrite epoch dest v else s)

/-- A write of 1 to RTE_EPOCH.ARM (R59, R61, R183): refused before LAST_SWITCH + 250,016 ct, LATE for a tick less than 1,024 ct
ahead or while the crown is FREE. -/
def State.epochArm (s : State) : State :=
  if s.rd Reg.CRN_STATUS_STATE = 0 then s.flag Reg.RTE_EPOCH_LATE
  else if !s.routeFree then s.flag Reg.RTE_STATUS_WR_REFUSED
  else if s.rd Reg.RTE_EPOCH_TICK_TICK < s.now + 1024 then s.flag Reg.RTE_EPOCH_LATE
  else s.wr Reg.RTE_EPOCH_ARMED 1

/-- EPOCH_ARM (R183). -/
def execEpochArm (s : State) : Host.Outcome State Fault Refusal := .next (s.busWrite Reg.RTE_EPOCH State.epochArm)

/-- EPOCH_SWITCH (R60, R183): at the armed tick. -/
def execEpochSwitch (s : State) : Host.Outcome State Fault Refusal :=
  have t := s.rd Reg.RTE_EPOCH_TICK_TICK
  if s.epochDue ∧ s.seamClear then
    .next (((s.wr Reg.RTE_EPOCH_INJECT (1 - s.rd Reg.RTE_EPOCH_INJECT)).wr Reg.RTE_LAST_SWITCH_TICK t).wr Reg.RTE_EPOCH_ARMED 0)
  else .next s

end Sys2Proof.Machine
end

