-- ==== Sys2Proof/Machine/FnTable.lean ====
section
/-! DEFINITION. Sys2Proof/Machine/FnTable.lean: the function tables (R261): the exact functions in fixed point, and a table's result,
free within two units in the last place of the exact value. -/
namespace Sys2Proof.Machine

/-- Fraction bits of the fixed point in which the exact functions are worked out (log entry 13). -/
def fnBits : Nat := 320

/-- The terms of z + z³/3 + z⁵/5 + …; `t` is the power to start from. -/
def atanhSum (z2 : Nat) : Nat → Nat → Nat → Nat
  | 0, _, _ => 0
  | f + 1, t, i => t / (2 * i + 1) + atanhSum z2 f (t * z2 / 2 ^ fnBits) (i + 1)

/-- The inverse hyperbolic tangent of a fixed-point number up to 1/3. -/
def atanhFix (z : Nat) : Nat := atanhSum (z * z / 2 ^ fnBits) 110 z 0

/-- The natural logarithm of 2: twice the inverse hyperbolic tangent of 1/3. -/
def ln2Fix : Nat := 2 * atanhFix (2 ^ fnBits / 3)

/-- The terms of 1 + r + r²/2 + …. -/
def expSum (r : Nat) : Nat → Nat → Nat → Nat
  | 0, _, _ => 0
  | f + 1, t, i => t + expSum r f (t * r / 2 ^ fnBits / (i + 1)) (i + 1)

/-- e to the power x, or to −x, of a fixed-point x ≥ 0: a significand and its exponent of 2. -/
def expParts (neg : Bool) (x : Nat) : Nat × Int :=
  have k := x / ln2Fix
  have m := expSum (x - k * ln2Fix) 90 (2 ^ fnBits) 0
  if neg then (2 ^ (2 * fnBits) / m, -(k : Int) - fnBits) else (m, (k : Int) - fnBits)

/-- n × 2^e in fixed point, at most 512: beyond it every function here has reached its limit in FP32. -/
def fixMag (n : Nat) (e : Int) : Nat := min (512 * 2 ^ fnBits) (scale2 n (e + fnBits))

/-- The whole part of a square root; `f` bounds its bits. -/
def rootN : Nat → Nat → Nat
  | 0, _ => 0
  | f + 1, x =>
    have r := 2 * rootN f (x / 4)
    if (r + 1) * (r + 1) ≤ x then r + 1 else r

/-- ln (n × 2^e) of a positive number. -/
def logVal (n : Nat) (e : Int) : Val :=
  have top := 2 ^ Nat.log2 n
  have part : Nat := 2 * atanhFix ((n - top) * 2 ^ fnBits / (n + top))
  have sum : Int := ((Nat.log2 n : Nat) + e) * ln2Fix + part
  .fin (sum < 0) sum.natAbs (-(fnBits : Int))

/-- 1 / √(n × 2^e) of a positive number. -/
def rsqrtVal (n : Nat) (e : Int) : Val :=
  have m := if e % 2 = 0 then n else 2 * n
  .fin false (rootN (fnBits + 1) (2 ^ (2 * fnBits) / m)) (-(e / 2) - fnBits)

/-- 1 / (1 + e^−x). -/
def sigmoidVal (s : Bool) (n : Nat) (e : Int) : Val :=
  have p := expParts true (fixMag n e)
  have den := 2 ^ fnBits + scale2 p.1 (p.2 + fnBits)
  if s then .fin false (p.1 * 2 ^ fnBits / den) p.2 else .fin false (2 ^ (2 * fnBits) / den) (-(fnBits : Int))

/-- (1 − e^−2x) / (1 + e^−2x), with x's sign. -/
def tanhVal (s : Bool) (n : Nat) (e : Int) : Val :=
  have p := expParts true (fixMag n (e + 1))
  have w := scale2 p.1 (p.2 + fnBits)
  .fin s ((2 ^ fnBits - w) * 2 ^ fnBits / (2 ^ fnBits + w)) (-(fnBits : Int))

/-- The exact value of a table's function at a finite input (R261): 1 EXP, 2 LOG, 3 RSQRT, 4 SIGMOID, 7 TANH; none where it has none,
and for GELU_TANH, whose formula no rule states. -/
def exactFn (fn : Nat) (v : Val) : Option Val :=
  match v with
  | .fin s n e =>
    match fn with
    | 1 => have p := expParts s (fixMag n e); some (.fin false p.1 p.2)
    | 2 => if s || n == 0 then none else some (logVal n e)
    | 3 => if s || n == 0 then none else some (rsqrtVal n e)
    | 4 => some (sigmoidVal s n e)
    | 7 => some (tanhVal s n e)
    | _ => none
  | _ => none

/-- FP32 bits lie within two units in the last place of an exact value (R261). -/
def within2 (y : Val) (c : Nat) : Bool :=
  match y, valF32 c with
  | .fin s n e, .fin t m g =>
    have lead : Int := if n = 0 then -149 else (Nat.log2 n : Nat) + e
    have q : Int := max lead (-126) - 23
    have e0 := min e (min g q)
    (signedAt s n e e0 - signedAt t m g e0).natAbs ≤ 2 * 2 ^ (q - e0).toNat
  | _, _ => false

/-- The FP32 bits `d` steps above given ones. -/
def stepBits (x : Nat) (d : Int) : Nat :=
  have i : Int := if 2 ^ 31 ≤ x then -((x - 2 ^ 31 : Nat) : Int) else x
  if i + d < 0 then 2 ^ 31 + (i + d).natAbs else (i + d).natAbs

/-- A result of SIGMOID or TANH is not beyond the function's limits (R261). -/
def inLimits (fn c : Nat) : Bool :=
  match fn with
  | 4 => c ≤ 0x3F800000
  | 7 => c % 2 ^ 31 ≤ 0x3F800000
  | _ => true

/-- SIGMOID or TANH has saturated: its exact value rounds to a limit (R261). -/
def saturated (fn c : Nat) : Bool := (fn == 4 && (c == 0 || c == 0x3F800000)) || (fn == 7 && c % 2 ^ 31 == 0x3F800000)

/-- The table's result for a finite input of exact value `y`: the FP32 number within two units in the last place that the free value of
Config picks, or the nearest. -/
def tableBits (fn x : Nat) (y : Val) : Nat :=
  have near := toF32 y
  have c := stepBits near (((Config.fnTable fn x).toNat % 9 : Nat) - 4)
  if (valF32 near).isInf || saturated fn near then near
  else if within2 y c && inLimits fn c then c
  else near

end Sys2Proof.Machine
end

