-- ==== Sys2Proof/Machine/Tile.lean ====
section
/-! DEFINITION. Sys2Proof/Machine/Tile.lean: what an op works on: descriptor and argument fields (R245), the two grids
(R203, R204), tile SRAM (R202), elements in words (R227 to R230, R249), output rows (R237 to R240, R251, R252), value
exceptions (R242 to R244) and accumulator entries (R236, R253). -/
namespace Sys2Proof.Machine

/-- The fields of a descriptor and its argument record (R245). -/
structure Op where
  opx : Nat
  opcode : Nat
  rnd : Nat
  fmtA : Nat
  fmtB : Nat
  fmtOut : Nat
  cls : Nat
  read : Nat
  write : Nat
  stage : Nat
  rowLo : Nat
  rowHi : Nat
  colLo : Nat
  colHi : Nat
  imm : Nat
  flags : Nat
  hbmBase : Nat
  hbmLen : Nat
  rowDiv : Nat
  colMod : Nat
  rowStride : Nat
  colStride : Nat
  a : Nat
  b : Nat
  c : Nat
  d : Nat
  m : Nat
  stg : Nat
  dim0 : Nat
  dim1 : Nat
  dim2 : Nat
  ks : Nat
  inQ : Nat
  outQ : Nat
deriving DecidableEq, Repr, Inhabited

/-- Decode a descriptor and its argument record (R245); ROW_DIV 0 and KS 0 act as 1. -/
def Desc.op (x : Desc) : Op :=
  have d := x.bits
  have g := x.arg.getD 0
  { opx := nbits d 255 224, opcode := nbits d 223 219, rnd := nbits d 218 217, fmtA := nbits d 215 211,
    fmtB := nbits d 210 206, fmtOut := nbits d 205 201, cls := nbits d 176 129, read := nbits d 128 117,
    write := nbits d 116 105, stage := nbits d 104 93, rowLo := nbits d 92 87, rowHi := nbits d 86 81,
    colLo := nbits d 80 75, colHi := nbits d 74 69, imm := nbits d 44 13, flags := nbits d 12 0,
    hbmBase := nbits g 255 222, hbmLen := nbits g 221 208, rowDiv := max 1 (nbits g 207 202), colMod := nbits g 201 196,
    rowStride := nbits g 195 176, colStride := nbits g 175 156, a := nbits g 155 142, b := nbits g 141 128,
    c := nbits g 127 114, d := nbits g 113 100, m := nbits g 99 86, stg := nbits g 85 72, dim0 := nbits g 71 56,
    dim1 := nbits g 55 40, dim2 := nbits g 39 24, ks := max 1 (nbits g 23 18), inQ := nbits g 17 9, outQ := nbits g 8 0 }

/-- Width of the active rectangle (R245). -/
def Op.width (o : Op) : Nat := o.colHi + 1 - o.colLo

/-- The active logical tiles in ascending rectangle index (R245); SEAM_WAIT names none (R272). -/
def Op.tiles (o : Op) : List Nat :=
  if o.opcode = 0x11 then []
  else (List.range (o.rowHi + 1 - o.rowLo)).flatMap fun r => (List.range o.width).map fun c => 64 * (o.rowLo + r) + o.colLo + c

/-- First HBM word of the extent of logical tile `t` (R245). -/
def Op.hbmStart (o : Op) (t : Nat) : Nat :=
  have r := t / 64 - o.rowLo
  have k := t % 64 - o.colLo
  o.hbmBase + r / o.rowDiv * o.rowStride + (if o.colMod = 0 then k else k % o.colMod) * o.colStride

/-- IN_Q and OUT_Q (R245). -/
def Op.inValid (o : Op) : Bool := nbit o.inQ 8
def Op.inLink (o : Op) : Nat := nbits o.inQ 7 3
def Op.inQueue (o : Op) : Nat := nbits o.inQ 2 0
def Op.outValid (o : Op) : Bool := nbit o.outQ 8
def Op.outLink (o : Op) : Nat := nbits o.outQ 7 3
def Op.outQueue (o : Op) : Nat := nbits o.outQ 2 0

/-- The load class of region `g` (R211, R245). -/
def Op.classOf (o : Op) (g : Nat) : Nat := o.cls / 2 ^ (3 * g) % 8

/-- The region of a logical tile (R203). -/
def regionOf (t : Nat) : Nat := 4 * (t / 64 / 16) + t % 64 / 16

/-- The Liner entry of a logical tile (R204). -/
def linerEntry (t : Nat) : Nat := 16 * regionOf t + t / 64 % 16

/-- SKIP of entry `e` of the Liner copy in force (R204, R205). -/
def State.skipOf (s : State) (e : Nat) : Nat := fget (s.reg (Reg.PLM_LINER_FORCE (e / 2))) (32 * (e % 2) + 21) (32 * (e % 2) + 17)

/-- The physical tile of a logical tile (R203, R204). -/
def State.physOf (s : State) (t : Nat) : Nat :=
  have k := t % 16
  68 * (t / 64) + 17 * (regionOf t % 4) + (if k < s.skipOf (linerEntry t) then k else k + 1)

/-- A physical tile is fenced (R220). -/
def State.fenced (s : State) (p : Nat) : Bool := nbit (s.reg (Reg.PLM_FENCE (p / 64))).toNat (p % 64)

/-- The most recent Palm fault (R223). -/
def State.palmLast (s : State) (kind detail region tile bank op : Nat) : State :=
  s.setReg Reg.PLM_FAULT_LAST (BitVec.ofNat 64
    (2 ^ 60 * kind + 2 ^ 56 * detail + 2 ^ 52 * (region % 16) + 2 ^ 40 * (tile % 4096) + 2 ^ 36 * (bank % 16) + op % 2 ^ 32))

/-- Elements of a row that one group holds: 512 in a 6-bit format; 352, 448 or 704 block-scaled (R228, R229). -/
def groupElems (fmt : Nat) : Nat := if isScaled fmt then 32 * (352 / (4 * elemBits fmt)) else 512

/-- The format lays rows out in groups of twelve words (R228). -/
def grouped (fmt : Nat) : Bool := isScaled fmt || elemBits fmt == 6

/-- Words of one row of `n` elements (R228, R249). -/
def rowWords (fmt n : Nat) : Nat :=
  if grouped fmt then 12 * ((n + groupElems fmt - 1) / groupElems fmt) else (n * elemBits fmt + 255) / 256

/-- Bit offset of element `j` of a row (R227 to R229). -/
def elemOff (fmt j : Nat) : Nat :=
  if isScaled fmt then 3072 * (j / groupElems fmt) + j % groupElems fmt * elemBits fmt else j * elemBits fmt

/-- Axis of a REDUCE: 0 TILE, 1 ROW, 2 COLUMN (R262). -/
def Op.axis (o : Op) : Nat := nbits o.flags 4 3

/-- The KCH or k of an IMM (R268, R270). -/
def Op.kch (o : Op) : Nat := o.imm % 256

/-- Words of a row of KCH 32-bit values. -/
def Op.kchWords (o : Op) : Nat := (o.kch + 7) / 8

/-- Words of one token's row (R270, R271). -/
def Op.tokenWords (o : Op) : Nat := rowWords o.fmtA o.dim2

/-- Words of one writing tile's output (R250, R256 to R271): 0 for an operation that writes none to C or OUT_Q. -/
def Op.cWords (o : Op) : Nat :=
  match o.opcode with
  | 0x01 => if nbit o.flags 0 then 0 else o.dim0 * rowWords o.fmtOut o.dim1
  | 0x02 => if nbit o.flags 0 then 0 else o.dim0 * rowWords o.fmtOut o.dim1
  | 0x03 => if nbit o.flags 0 then 0 else o.dim0 * rowWords o.fmtOut o.dim1
  | 0x04 => o.dim0 * rowWords o.fmtOut o.dim2
  | 0x08 => if o.axis = 0 then rowWords o.fmtA o.dim0 else o.dim0 * rowWords o.fmtA o.dim1
  | 0x09 => o.dim1 * rowWords o.fmtA o.dim0
  | 0x0A => o.dim0 * o.dim1
  | 0x0B => if nbit o.flags 0 then 0 else o.dim2 * o.dim1
  | 0x0C => o.dim0 * rowWords o.fmtOut o.kch
  | 0x0D => o.dim0 * o.kchWords
  | 0x0E => if nbit o.flags 0 then 0 else o.dim0 * rowWords o.fmtOut o.dim2
  | 0x10 => if o.flags % 4 = 1 then 0 else o.hbmLen
  | 0x11 => 0
  | _ => o.dim0 * rowWords o.fmtOut o.dim1

/-- Write one word of logical tile `t`; a fenced tile writes nothing (R220). -/
def State.sramWrite (s : State) (t w : Nat) (v : RWord) : State :=
  have p := s.physOf t
  if s.fenced p then s
  else { s with sram := s.sram.writeBytes (sramAddr p w) (encodeWord (bytesOf v)) }

/-- Write consecutive words of a tile. -/
def State.sramWriteN (s : State) (t w : Nat) : List RWord → State
  | [] => s
  | v :: vs => (s.sramWrite t w v).sramWriteN t (w + 1) vs

/-- Fence a physical tile (R220, R386). -/
def State.fence (s : State) (p : Nat) : State :=
  (s.setReg (Reg.PLM_FENCE (p / 64)) (s.reg (Reg.PLM_FENCE (p / 64)) ||| BitVec.ofNat 64 (2 ^ (p % 64)))).wr
    Reg.PLM_STATUS_FENCED 1

/-- The tiles whose output in an op takes words of tile `t`: its own, that of the last tile of its group (R256, R273), and those of
its line of a reduction (R262). -/
def Op.fedBy (o : Op) (t : Nat) : List Nat :=
  have r := t / 64
  have k := t % 64 - o.colLo
  if 1 ≤ o.opcode ∧ o.opcode ≤ 3 ∧ nbit o.flags 0 = false then [t, 64 * r + o.colLo + k / o.ks * o.ks + o.ks - 1]
  else if o.opcode = 0x08 ∧ o.axis = 1 then
    if nbit o.flags 5 then o.tiles.filter fun u => u / 64 == r else [t, 64 * r + o.colHi]
  else if o.opcode = 0x08 ∧ o.axis = 2 then
    if nbit o.flags 5 then o.tiles.filter fun u => u % 64 == t % 64 else [t, 64 * o.rowHi + t % 64]
  else [t]

/-- What tile `t` would still give the op in progress is poisoned (R220, R273): deposits not yet made, and the C extents that take
its words. -/
def State.poisonRest (s : State) (t : Nat) : State :=
  match s.palm.running with
  | none => s
  | some d =>
    have o := d.op
    if !s.palm.effect || !(o.tiles.contains t) then s
    else
      have us := o.fedBy t
      have out := s.palm.outgoing.map fun x =>
        if us.contains x.2.2.1 then (x.1, x.2.1, x.2.2.1, { x.2.2.2 with payload := 0, void := true, poison := true }) else x
      have s : State := { s with palm := { s.palm with outgoing := out } }
      if o.outValid then s else s.forEach us fun s u => s.sramWriteN u o.c (List.replicate o.cWords none)

/-- A tile fails and is fenced (R219, R220): reported, its PLM_FENCE bit set, and the Palm halted by the record's class. -/
def State.tileFail (s : State) (t cause : Nat) : State :=
  have p := s.physOf t
  have op := match s.palm.running with
    | some d => d.op.opx
    | none => 0xFFFFFFFF
  have s := ((s.poisonRest t).fence p).palmLast 4 cause (regionOf t) t 0 op
  (s.fault { code := 0x0304, block := 9, cause := cause, region := regionOf t, tile := t, ptile := p, op := op }).palmHalt

/-- An uncorrectable SRAM word (R202, R280): reported, written with zeros and read back; the tile fails when its cells do not hold
them. -/
def State.sramBad (s : State) (t p w op : Nat) : State :=
  have g := regionOf t
  have s := s.count (Reg.RGN_SRAM_UNCORR_CNT g) 1
  have s := s.palmLast 5 0 g t (w / 1024) op
  have s := s.eccFault (0x10000 + p)
    { code := 0x0305, block := 9, cause := 1, a := p, c := w, region := g, tile := t, ptile := p, op := op }
  have s := { s with sram := s.sram.writeBytes (sramAddr p w) (encodeWord (leBytes 32 0)) }
  if 12288 * p + w ∈ s.mem.sramDefect then s.tileFail t 3 else s

/-- Read one word of logical tile `t` (R202, R220, R279): a fenced tile's words are poisoned. -/
def State.sramRead (s : State) (op t w : Nat) : State × RWord :=
  have p := s.physOf t
  if s.fenced p then (s, none)
  else
    match decodeWord (s.sram.readBytes (sramAddr p w) 36) with
    | .ok d => (s, wordOf d)
    | .corrected _ st =>
      (if st.take 32 = poisonBytes then s else s.count (Reg.RGN_SRAM_CORR_CNT (regionOf t)) 1, wordOf (st.take 32))
    | .bad => (s.sramBad t p w op, none)

/-- Read consecutive words of a tile, counting the poisoned ones (R252). -/
def State.sramReadN (s : State) (op t w : Nat) : Nat → State × List RWord
  | 0 => (s, [])
  | n + 1 =>
    have r := s.sramRead op t w
    have s := if r.2 = none then r.1.count Reg.PLM_POISON_IN_CNT 1 else r.1
    have q := s.sramReadN op t (w + 1) n
    (q.1, r.2 :: q.2)

/-- An element as an op reads it: its bits, its value with its block's scale, and whether it is poisoned or of a block
whose scale is NaN (R230, R252). -/
structure El where
  bits : Nat
  v : Val
  poison : Bool := false
  snan : Bool := false
deriving DecidableEq, Repr, Inhabited

/-- A buffer read from a tile: its words, the words of a row, and its format. -/
structure Buf where
  words : List RWord
  stride : Nat
  fmt : Nat
deriving DecidableEq, Repr

/-- Word `i` of a buffer; beyond it, poison. -/
def Buf.word (x : Buf) (i : Nat) : RWord := (x.words[i]?).getD none

/-- Element `j` of row `r` (R227 to R230). -/
def Buf.el (x : Buf) (r j : Nat) : El :=
  have o := elemOff x.fmt j
  have w := elemBits x.fmt
  have i := r * x.stride + o / 256
  have k := r * x.stride + (o + w - 1) / 256
  match x.word i, x.word k with
  | some lo, some hi =>
    have b := (if i = k then lo else lo + 2 ^ 256 * hi) / 2 ^ (o % 256) % 2 ^ w
    if isScaled x.fmt then
      have blk := j / 32
      have per := groupElems x.fmt / 32
      match x.word (r * x.stride + blk / per * 12 + 11) with
      | some sw =>
        have sc := field sw (blk % per) 1
        if sc = 255 then ⟨b, .nan, false, true⟩ else ⟨b, (decodeElem x.fmt b).scale ((sc : Int) - 127), false, false⟩
      | none => ⟨0, .fin false 0 0, true, false⟩
    else ⟨b, decodeElem x.fmt b, false, false⟩
  | _, _ => ⟨0, .fin false 0 0, true, false⟩

/-- `n` elements of row `r`. -/
def Buf.row (x : Buf) (r n : Nat) : List El := (List.range n).map fun j => x.el r j

/-- Read `rows` rows of `n` elements from word `w` of a tile (R249). -/
def State.readBuf (s : State) (op t w fmt rows n : Nat) : State × Buf :=
  have k := rowWords fmt n
  have r := s.sramReadN op t w (rows * k)
  (r.1, ⟨r.2, k, fmt⟩)

/-- The value exceptions of one element (R242 to R244, R248); `l64` counts saturated additions. -/
structure Exc where
  l64 : Nat := 0
  ovf : Bool := false
  inv : Bool := false
  nanIn : Bool := false
  csat : Bool := false
  cnan : Bool := false
  snan : Bool := false
deriving DecidableEq, Repr, Inhabited

/-- Exceptions of two steps together. -/
def Exc.join (x y : Exc) : Exc :=
  ⟨x.l64 + y.l64, x.ovf || y.ovf, x.inv || y.inv, x.nanIn || y.nanIn, x.csat || y.csat, x.cnan || y.cnan, x.snan || y.snan⟩

/-- The lowest KIND among an element's exceptions (R243, R244). -/
def Exc.kind (x : Exc) : Nat :=
  if x.l64 ≠ 0 then 1 else if x.ovf then 2 else if x.inv then 3 else if x.nanIn then 4 else if x.csat then 5
  else if x.cnan then 6 else if x.snan then 7 else 0

/-- Record the exceptions of a tile's elements, in order (R242 to R244). -/
def State.numRecord (s : State) (op t : Nat) (es : List Exc) : State :=
  have g := regionOf t
  match es.find? fun e => e.kind != 0 with
  | none => s
  | some e =>
    have s :=
      if fget (s.reg (Reg.RGN_NUM_STATUS g)) 6 0 = 0 then
        ((s.wr (Reg.RGN_NUM_FIRST_KIND g) e.kind).wr (Reg.RGN_NUM_FIRST_TILE g) t).wr (Reg.RGN_NUM_FIRST_OP g) op
      else s
    have l64 := (es.map Exc.l64).sum
    have any := fun (s : State) (f : Fld) (p : Exc → Bool) => if es.any p then s.flag f else s
    have s := any s (Reg.RGN_NUM_STATUS_L64_SAT g) fun e => e.l64 != 0
    have s := any s (Reg.RGN_NUM_STATUS_FP_OVF g) Exc.ovf
    have s := any s (Reg.RGN_NUM_STATUS_FP_INV g) Exc.inv
    have s := any s (Reg.RGN_NUM_STATUS_NAN_IN g) Exc.nanIn
    have s := any s (Reg.RGN_NUM_STATUS_CONV_SAT g) Exc.csat
    have s := any s (Reg.RGN_NUM_STATUS_CONV_NAN g) Exc.cnan
    have s := any s (Reg.RGN_NUM_STATUS_SCALE_NAN g) Exc.snan
    have s := s.count (Reg.RGN_L64_SAT_CNT g) l64
    have s := s.count (Reg.RGN_FPEXC_CNT g) (es.filter fun e => e.ovf || e.inv || e.nanIn || e.snan).length
    s.count (Reg.RGN_CONV_CNT g) (es.filter fun e => e.csat || e.cnan).length

/-- An output element before its conversion. -/
structure Out where
  v : Val
  poison : Bool := false
  exc : Exc := {}
deriving DecidableEq, Repr, Inhabited

/-- Words that hold a row of elements: `bits` by element, `scales` by block, poisoned elements poison their words (R227 to
R229, R252). -/
def layRow (fmt : Nat) (bits scales : List Nat) (poison : List Bool) : List RWord :=
  have w := elemBits fmt
  have data := bits.zipIdx.foldl (fun a p => a + p.1 % 2 ^ w * 2 ^ elemOff fmt p.2) 0
  have per := groupElems fmt / 32
  have sc := scales.zipIdx.foldl (fun a p => a + p.1 % 256 * 2 ^ (3072 * (p.2 / per) + 2816 + 8 * (p.2 % per))) 0
  have bad := fun (i : Nat) => poison.zipIdx.any fun p =>
    p.1 && (elemOff fmt p.2 / 256 == i || (elemOff fmt p.2 + w - 1) / 256 == i)
  (List.range (rowWords fmt bits.length)).map fun i => if bad i then none else some (nbits (data + sc) (256 * i + 255) (256 * i))

/-- Convert one element (R237, R238, R240): `r` is its stochastic number. RAW has no conversion; its bytes are free. -/
def convOut (fmt rnd r idx : Nat) (x : Out) : Conv × Exc :=
  if x.poison then (⟨0, false, false⟩, {})
  else
    have c : Conv := if fmt = 0 then ⟨Config.rawElem idx % 256, false, false⟩ else encodeElem fmt rnd r x.v
    (c, x.exc.join { csat := c.sat, cnan := c.nanMapped })

/-- Block `b` of a block-scaled row (R239): its scale byte and its elements. -/
def convBlock (fmt rnd : Nat) (sr : Nat → Nat) (base : Nat) (xs : List Out) : Nat × List (Conv × Exc) :=
  if xs.any fun x => x.poison then
    (Config.poisonScale (base / 32) % 256, xs.map fun _ => (⟨0, false, false⟩, {}))
  else
    have sc := blockScale fmt (xs.map Out.v)
    have one := fun (p : Out × Nat) =>
      if sc = 255 then ((⟨0, false, false⟩ : Conv), p.1.exc)
      else
        have r := convOut fmt rnd (sr (base + p.2)) (base + p.2) { p.1 with v := p.1.v.scale (127 - (sc : Int)) }
        (clampConv fmt r.1, r.2)
    (sc, xs.zipIdx.map one)

/-- A list cut into pieces of `n` elements; `k` bounds their number. -/
def pieces {α : Type} (n : Nat) : Nat → List α → List (List α)
  | 0, _ => []
  | k + 1, l => if l.isEmpty then [] else l.take n :: pieces n k (l.drop n)

/-- A row of output elements converted and laid in words; `base` is the element index of its first (R237 to R240, R251,
R252). A poisoned element poisons its whole block. -/
def outRow (fmt rnd : Nat) (sr : Nat → Nat) (base : Nat) (xs : List Out) : List RWord × List Exc :=
  if isScaled fmt then
    have bs := pieces 32 xs.length xs
    have cs := bs.zipIdx.map fun p => convBlock fmt rnd sr (base + 32 * p.2) p.1
    have es := cs.flatMap Prod.snd
    have bad := bs.flatMap fun b => b.map fun _ => b.any Out.poison
    (layRow fmt (es.map fun e => e.1.bits) (cs.map Prod.fst) bad, es.map Prod.snd)
  else
    have es := xs.zipIdx.map fun p => convOut fmt rnd (sr (base + p.2)) (base + p.2) p.1
    (layRow fmt (es.map fun e => e.1.bits) [] (xs.map Out.poison), es.map Prod.snd)

/-- Rows of output elements one after another, elements numbered on through them (R251). -/
def outRows (fmt rnd : Nat) (sr : Nat → Nat) : Nat → List (List Out) → List RWord × List Exc
  | _, [] => ([], [])
  | base, xs :: rest =>
    have r := outRow fmt rnd sr base xs
    have q := outRows fmt rnd sr (base + xs.length) rest
    (r.1 ++ q.1, r.2 ++ q.2)

/-- The stochastic numbers of a tile's output (R240, R241). -/
def State.srOf (s : State) (o : Op) (t elem : Nat) : Nat := srNumber (s.rd Reg.PLM_SR_SEED_SEED) o.opx t elem

/-- Rows of elements moved unchanged (R252). -/
def moveRows (fmt : Nat) (rows : List (List El)) : List RWord :=
  rows.flatMap fun r => layRow fmt (r.map El.bits) [] (r.map El.poison)

/-- Convert a tile's output rows, record their exceptions, and answer the words. -/
def State.finish (s : State) (o : Op) (t : Nat) (rows : List (List Out)) : State × List RWord :=
  have r := outRows o.fmtOut o.rnd (s.srOf o t) 0 rows
  (s.numRecord o.opx t r.2, r.1)

/-- A flit of twelve words (R218, R250): a poisoned word makes it a poisoned void marker. -/
def wordsFlit (fmt : Nat) (ws : List RWord) : Flit :=
  if ws.any fun w => w.isNone then { cls := 0, fmt := fmt, void := true, poison := true }
  else { cls := 0, fmt := fmt, payload := (ws.map fun w => w.getD 0).foldr (fun w a => w + 2 ^ 256 * a) 0 }

/-- The words a receive-queue flit fills (R252). -/
def flitWords (f : Flit) : List RWord :=
  if f.poison then List.replicate 12 none
  else if f.void then List.replicate 12 (some 0)
  else (List.range 12).map fun k => some (nbits f.payload (256 * k + 255) (256 * k))

/-- A writing tile's output (R250): to its C extent at word `w`, or deposited to OUT_Q. Words of a fenced tile are poisoned
(R220). -/
def State.putOut (s : State) (o : Op) (t w fmt : Nat) (ws : List RWord) : State :=
  have ws := if s.fenced (s.physOf t) then ws.map fun _ => none else ws
  if o.outValid then
    have fs := (pieces 12 ws.length ws).map fun p => (o.outLink, o.outQueue, t, wordsFlit fmt p)
    { s with palm := { s.palm with outgoing := s.palm.outgoing ++ fs } }
  else s.sramWriteN t w ws

/-- An accumulator entry of a logical tile (R253); entry (i, j) is number 64 i + j. -/
def State.accOf (s : State) (t i j : Nat) : Acc := SMap.get (fun _ => {}) s.palm.acc (4096 * s.physOf t + 64 * i + j)

/-- Replace an accumulator entry. -/
def State.setAcc (s : State) (t i j : Nat) (x : Acc) : State :=
  { s with palm := { s.palm with acc := SMap.set (fun _ => {}) s.palm.acc (4096 * s.physOf t + 64 * i + j) x } }

/-- Leave every entry of a tile as an unpoisoned long sum of zero (R253). -/
def State.clearAcc (s : State) (t : Nat) : State :=
  have p := s.physOf t
  { s with palm := { s.palm with acc := SMap.clear s.palm.acc fun k => k / 4096 == p } }

/-- A word access out of bounds that an op computed from data (R215): counted, and BOUNDS raised once for the op. `detail`
is 3 for SRAM, 4 for HBM; `addr` the SRAM word address or HBM byte address. -/
def State.boundsData (s : State) (o : Op) (t detail addr : Nat) : State :=
  have s := s.count Reg.PLM_BOUNDS_CNT 1
  if s.palm.boundsRaised then s
  else
    have s : State := { s with palm := { s.palm with boundsRaised := true } }
    have g := regionOf t
    (s.palmLast 2 detail g t 0 o.opx).fault
      { code := 0x0302, block := 8, cause := detail, c := addr, region := g, tile := t, ptile := s.physOf t, op := o.opx }

/-- The stacks that hold `n` words from word `w` are UP (R290). -/
def State.stacksUp (s : State) (w n : Nat) : Bool :=
  n == 0 || (List.range ((w + n - 1) / stackWords + 1 - w / stackWords)).all fun i =>
    w / stackWords + i < 8 && s.stackUp (w / stackWords + i)

/-- An HBM access of `n` words from word `w` lies inside the allocation (R214, R290). -/
def State.hbmInside (s : State) (w n : Nat) (write : Bool) : Bool :=
  n == 0 || (s.stacksUp w n && (List.range 16).any fun k =>
    s.rdb (Reg.PLM_HBM_WIN_EN k) && (!write || s.rdb (Reg.PLM_HBM_WIN_WR k))
      && 2048 * (s.rd (Reg.PLM_HBM_WIN_BASE k)) ≤ w && w + n ≤ 2048 * (s.rd (Reg.PLM_HBM_WIN_LIMIT k)))

/-- SRAM words lie in banks of a mask (R215, R249). -/
def inBanks (mask w n : Nat) : Bool :=
  n == 0 || (w + n ≤ 12288 && (List.range ((w + n - 1) / 1024 + 1 - w / 1024)).all fun i => nbit mask (w / 1024 + i))

/-- Read `n` HBM words by an address computed from data (R215): poison when it is out of bounds. -/
def State.hbmData (s : State) (o : Op) (t w n : Nat) : State × List RWord :=
  if s.hbmInside w n false then
    have r := s.hbmReadPalm w n
    (r.1.count Reg.PLM_POISON_IN_CNT (r.2.filter fun x => x.isNone).length, r.2)
  else ((s.boundsData o t 4 (32 * w)).count Reg.PLM_POISON_IN_CNT n, List.replicate n none)

/-- Write HBM words by an address computed from data (R215): discarded when it is out of bounds. -/
def State.hbmPut (s : State) (o : Op) (t w : Nat) (ws : List RWord) : State :=
  if s.hbmInside w ws.length true then s.hbmWriteN w ws else s.boundsData o t 4 (32 * w)

end Sys2Proof.Machine
end

