-- ==== Sys2Proof/Machine/TileMath.lean ====
section
/-! DEFINITION. Sys2Proof/Machine/TileMath.lean: what the arithmetic operations compute in the tiles: MATMUL, MATMUL_ACC, CONV2D,
ATTEND, SOFTMAX, NORM, ELEMENT, REDUCE, TRANSPOSE and CONVERT (R233 to R236, R256 to R264). -/
namespace Sys2Proof.Machine

/-- An FP32 value with the exceptions met in making it (R235, R248). -/
structure F32 where
  bits : Nat
  exc : Exc := {}
deriving DecidableEq, Repr, Inhabited

/-- The exceptions of one FP32 step. -/
def F32Res.exc (r : F32Res) : Exc := { ovf := r.ovf, inv := r.inv }

/-- Sum, difference and product, each rounded to nearest even (R235). -/
def F32.add (a b : F32) : F32 := have r := addF32 a.bits b.bits; ⟨r.bits, (a.exc.join b.exc).join r.exc⟩
def F32.sub (a b : F32) : F32 :=
  have r := roundF32 (addVal (valF32 a.bits) (valF32 b.bits).negate); ⟨r.bits, (a.exc.join b.exc).join r.exc⟩
def F32.mul (a b : F32) : F32 := have r := mulF32 a.bits b.bits; ⟨r.bits, (a.exc.join b.exc).join r.exc⟩

/-- A quotient of finite values with enough bits, and a sticky bit, to be rounded once. -/
def quotVal (s : Bool) (n : Nat) (e : Int) (m : Nat) (g : Int) : Val :=
  have k := 64 + Nat.log2 m
  have q := 2 ^ k * n / m
  .fin s (2 * q + b2n (2 ^ k * n % m != 0)) (e - g - k - 1)

/-- DIV (R261): IEEE 754, one rounding; x/0 gives ±∞ with FP_OVF, 0/0 and ∞/∞ the NaN with FP_INV. -/
def divF32 (a b : Val) : F32Res :=
  match a, b with
  | .nan, _ => ⟨nanF32, false, false⟩
  | _, .nan => ⟨nanF32, false, false⟩
  | .inf _, .inf _ => ⟨nanF32, false, true⟩
  | .inf x, .fin t _ _ => ⟨toF32 (.inf (x != t)), false, false⟩
  | .fin s _ _, .inf y => ⟨toF32 (.fin (s != y) 0 0), false, false⟩
  | .fin s n e, .fin t m g =>
    if m = 0 then (if n = 0 then ⟨nanF32, false, true⟩ else ⟨toF32 (.inf (s != t)), true, false⟩)
    else if n = 0 then ⟨toF32 (.fin (s != t) 0 0), false, false⟩
    else roundF32 (quotVal (s != t) n e m g, false)

/-- Quotient of FP32 values. -/
def F32.div (a b : F32) : F32 := have r := divF32 (valF32 a.bits) (valF32 b.bits); ⟨r.bits, (a.exc.join b.exc).join r.exc⟩

/-- FP32 zero, one and minus infinity. -/
def F32.zero : F32 := ⟨0, {}⟩
def F32.one : F32 := ⟨0x3F800000, {}⟩
def F32.negInf : F32 := ⟨0xFF800000, {}⟩

/-- Function tables (R261): 1 EXP, 2 LOG, 3 RSQRT, 4 SIGMOID, 6 GELU_TANH, 7 TANH, with the edge values the rule states; every other
result is a free value of Config, within two units in the last place of the exact value where the function has one. -/
def tableF (fn x : Nat) : F32Res :=
  have v := valF32 x
  if v.isNan then ⟨nanF32, false, false⟩
  else
    have free : F32Res := ⟨((exactFn fn v).map fun y => tableBits fn x y).getD (Config.fnTable fn x).toNat, false, false⟩
    have below := v.neg && (match v with | .fin _ n _ => n != 0 | _ => true)
    match fn with
    | 1 => if v.isInf then ⟨if v.neg then 0 else x, false, false⟩ else free
    | 2 => if below then ⟨nanF32, false, true⟩ else if x = 0 then ⟨0xFF800000, false, false⟩ else free
    | 3 => if below then ⟨nanF32, false, true⟩ else if x = 0 then ⟨0x7F800000, false, false⟩ else free
    | 4 => if v.isInf then ⟨if v.neg then 0 else 0x3F800000, false, false⟩ else free
    | 7 => if v.isInf then ⟨if v.neg then 0xBF800000 else 0x3F800000, false, false⟩ else free
    | _ => free

/-- A function table applied to an FP32 value. -/
def F32.table (fn : Nat) (a : F32) : F32 := have r := tableF fn a.bits; ⟨r.bits, a.exc.join r.exc⟩

/-- The exceptions an element brings as an operand (R230, R235). -/
def El.exc (e : El) : Exc := { nanIn := e.v.isNan && !e.snan, snan := e.snan }

/-- An element converted to FP32. -/
def El.f32 (e : El) : F32 := ⟨toF32 e.v, e.exc⟩

/-- Neighbouring pairs added (R234). -/
def addPairs : List F32 → List F32
  | x :: y :: rest => x.add y :: addPairs rest
  | [x] => [x]
  | [] => []

/-- The five-level tree over 32 values, a short group filled with +0 (R234). -/
def treeSum (xs : List F32) : F32 :=
  have l := xs ++ List.replicate (32 - xs.length) F32.zero
  ((addPairs (addPairs (addPairs (addPairs (addPairs l))))).head?).getD F32.zero

/-- Groups of 32, each by the tree, added in ascending order (R259). -/
def groupSum (xs : List F32) : F32 :=
  match (pieces 32 xs.length xs).map treeSum with
  | [] => F32.zero
  | g :: gs => gs.foldl F32.add g

/-- The larger of FP32 values as R187 orders them; NaN if any is NaN. -/
def maxF32 (xs : List Nat) : Nat := (cmbMinMax true 0x01 xs).bits

/-- A format whose products accumulate exactly in L64 (R233). -/
def exactFmt (f : Nat) : Bool := f == 4 || (6 ≤ f && f ≤ 10)

/-- A dot product is on the L64 path (R233, R236). -/
def longPath (fa fb : Nat) : Bool := exactFmt fa && exactFmt fb

/-- An exact product of the long sum's path, in units of 2^-18 (R231, R233). -/
def longProd (x y : El) : Int :=
  match (mulVal x.v y.v).1 with
  | .fin s n e => signedAt s n e (-18)
  | _ => 0

/-- One product into a long sum (R232, R233): a NaN element adds nothing and marks the entry. -/
def longStep (a : Nat × Bool × Exc) (p : El × El) : Nat × Bool × Exc :=
  if p.1.v.isNan || p.2.v.isNan then (a.1, true, a.2.2.join { nanIn := true })
  else
    have r := satL64 (toSigned 64 a.1 + longProd p.1 p.2)
    (r.1, a.2.1, if r.2 then a.2.2.join { l64 := 1 } else a.2.2)

/-- The exact sum of products of a group, rounded once (R234, R235). -/
def groupExact (ps : List (El × El)) : F32 :=
  have prods := ps.map fun p => mulVal p.1.v p.2.v
  have vs := prods.map Prod.fst ++ List.replicate (32 - ps.length) (Val.fin false 0 0)
  have inv := prods.any Prod.snd || (vs.any (fun v => v.isInf && v.neg) && vs.any (fun v => v.isInf && !v.neg))
  have sum := match vs with
    | [] => Val.fin false 0 0
    | v :: rest => rest.foldl (fun a b => (addVal a b).1) v
  have r := roundF32 (sum, inv)
  ⟨r.bits, r.exc⟩

/-- The value of one group on the FP32 path (R234). -/
def groupValue (fa fb : Nat) (ps : List (El × El)) : F32 :=
  have tree := fa == 1 || fa == 3 || fb == 1 || fb == 3
  have g := if tree then treeSum (ps.map fun p => have r := roundF32 (mulVal p.1.v p.2.v); ⟨r.bits, r.exc⟩) else groupExact ps
  { g with exc := ps.foldl (fun e p => e.join (p.1.exc.join p.2.exc)) g.exc }

/-- A dot product added to an accumulator entry (R233, R234), with its exceptions. -/
def dotAcc (fa fb : Nat) (a : Acc) (ps : List (El × El)) : Acc × Exc :=
  if longPath fa fb then
    have r := ps.foldl longStep (a.val, a.nan, {})
    ({ a with val := r.1, nan := r.2.1, isF32 := false }, r.2.2)
  else
    have r := (pieces 32 ps.length ps).foldl (fun (x : F32) g => x.add (groupValue fa fb g)) ⟨a.val, {}⟩
    ({ a with val := r.bits, nan := false, isF32 := true }, r.exc)

/-- The value an accumulator entry converts from (R233, R238). -/
def Acc.value (a : Acc) : Val :=
  if a.nan then .nan
  else if a.isF32 then valF32 a.val
  else
    have x := toSigned 64 a.val
    .fin (x < 0) x.natAbs (-18)

/-- An entry in place as MATMUL_ACC starts from it (R253): converted by RNE where its kind is not the op's. -/
def Acc.start (long : Bool) (a : Acc) : Acc × Exc :=
  if long then
    if a.isF32 then
      match valF32 a.val with
      | .nan => ({ val := 0, isF32 := false, poison := a.poison, nan := true }, {})
      | v =>
        have c := encodeElem 0x0B 0 0 v
        ({ val := c.bits, isF32 := false, poison := a.poison, nan := false }, { csat := c.sat })
    else (a, {})
  else if a.isF32 then (a, {})
  else ({ val := toF32 a.value, isF32 := true, poison := a.poison, nan := false }, {})

/-- The sum of two tiles' entries in a split chain (R256): FP32 rounded to nearest even, L64 exact with saturation. -/
def Acc.chain (a b : Acc) : Acc × Exc :=
  have poison := a.poison || b.poison
  if a.isF32 then
    have r := addF32 a.val b.val
    ({ val := r.bits, isF32 := true, poison := poison, nan := false }, r.exc)
  else
    have r := satL64 (toSigned 64 a.val + toSigned 64 b.val)
    ({ val := r.1, isF32 := false, poison := poison, nan := a.nan || b.nan }, { l64 := b2n r.2 })

/-- What one tile of a matrix operation holds: the tile, and its entries in row order with their exceptions. -/
structure Part where
  tile : Nat
  accs : List (Acc × Exc)
deriving DecidableEq, Repr

/-- The entries of one tile (R253, R256): `rowA` gives the elements of row i, `rowB` those of row j. -/
def State.partOf (s : State) (o : Op) (t : Nat) (rowA rowB : List (List El)) : Part :=
  have long := longPath o.fmtA o.fmtB
  ⟨t, rowA.zipIdx.flatMap fun (ra, i) => rowB.zipIdx.map fun (rb, j) =>
    have a0 : Acc × Exc := if o.opcode = 0x02 then (s.accOf t i j).start long else ({ isF32 := !long }, {})
    if a0.1.poison || ra.any El.poison || rb.any El.poison then ({ a0.1 with poison := true }, {})
    else
      have r := dotAcc o.fmtA o.fmtB a0.1 (ra.zip rb)
      (r.1, a0.2.join r.2)⟩

/-- A poisoned entry drops its exceptions (R242). -/
def accExc (p : Acc × Exc) : Exc := if p.1.poison then {} else p.2

/-- The partial sums of a group passed eastward (R256): the sum, and each later tile's own part with the exceptions of its
additions. -/
def chainParts : Part → List Part → List (Acc × Exc) × List Part
  | p, [] => (p.accs, [])
  | p, q :: rest =>
    have sums := (p.accs.zip q.accs).map fun (x, y) =>
      have r := x.1.chain y.1
      (r.1, y.2.join r.2)
    have next : Part := ⟨q.tile, sums⟩
    have r := chainParts next rest
    (r.1, next :: r.2)

/-- Every word that a fenced tile gives is poisoned (R220, R273). -/
def State.fencePart (s : State) (p : Part) : Part :=
  if s.fenced (s.physOf p.tile) then { p with accs := p.accs.map fun x => ({ x.1 with poison := true }, {}) } else p

/-- One group of a split reduction: chain, convert and write in the tile of the last slice (R256). -/
def State.writeGroup (s : State) (o : Op) (g : List Part) : State :=
  match g.map s.fencePart with
  | [] => s
  | p :: rest =>
    have r := chainParts p rest
    have last := (((p :: rest).getLast?).map Part.tile).getD 0
    have others := ((p :: r.2).filter fun x => x.tile != last)
    have s := s.forEach others fun s x => s.numRecord o.opx x.tile (x.accs.map accExc)
    have outs := r.1.map fun x => ({ v := x.1.value, poison := x.1.poison, exc := accExc x } : Out)
    have w := s.finish o last (pieces o.dim1 o.dim0 outs)
    w.1.putOut o last o.c o.fmtOut w.2

/-- Store a tile's entries (KEEP, R253). -/
def State.keepPart (s : State) (o : Op) (p : Part) : State :=
  have p := s.fencePart p
  have s := if o.opcode = 0x02 then s else s.clearAcc p.tile
  have s := s.forEach p.accs.zipIdx fun s x => s.setAcc p.tile (x.2 / o.dim1) (x.2 % o.dim1) x.1.1
  s.numRecord o.opx p.tile (p.accs.map accExc)

/-- The end of a matrix operation (R253, R256): KEEP leaves the entries; otherwise chain, output, and entries zero. -/
def State.matrixEnd (s : State) (o : Op) (parts : List Part) : State :=
  if nbit o.flags 0 then s.forEach parts fun s p => s.keepPart o p
  else
    have s := s.forEach (pieces o.ks parts.length parts) fun s g => s.writeGroup o g
    s.forEach parts fun s p => s.clearAcc p.tile

/-- Read the operands of every tile of a matrix operation; `rowsA` reads A. -/
def State.matrixParts (s : State) (o : Op) (k : Nat) (rowsA : State → Nat → State × List (List El)) : State × List Part :=
  o.tiles.foldl (fun (a : State × List Part) t =>
    have ra := rowsA a.1 t
    have b := ra.1.readBuf o.opx t o.b o.fmtB o.dim1 k
    have rb := (List.range o.dim1).map fun j => b.2.row j k
    (b.1, a.2 ++ [b.1.partOf o t ra.2 rb])) (s, [])

/-- MATMUL and MATMUL_ACC (R256). -/
def State.opMatmul (s : State) (o : Op) : State :=
  have r := s.matrixParts o o.dim2 fun s t =>
    have a := s.readBuf o.opx t o.a o.fmtA o.dim0 o.dim2
    (a.1, (List.range o.dim0).map fun i => a.2.row i o.dim2)
  r.1.matrixEnd o r.2

/-- The shape values of CONV2D (R257). -/
def Op.kh (o : Op) : Nat := nbits o.imm 31 28
def Op.kw (o : Op) : Nat := nbits o.imm 27 24
def Op.stride (o : Op) : Nat := nbits o.imm 23 20
def Op.pad (o : Op) : Nat := nbits o.imm 19 16
def Op.wi (o : Op) : Nat := nbits o.imm 15 0
def Op.wo (o : Op) : Nat := nbits o.flags 12 1
/-- Rows of the input map: those the kernel reaches, less the padding (R257 leaves them to the A extent; log entry 27). -/
def Op.hi (o : Op) : Nat := (o.dim0 / o.wo - 1) * o.stride + o.kh - 2 * o.pad

/-- Element k of output position i of the streamed im2col (R257). -/
def convEl (o : Op) (a : Buf) (i k : Nat) : El :=
  have y := (i / o.wo) * o.stride + k / (o.kw * o.dim2)
  have x := (i % o.wo) * o.stride + k / o.dim2 % o.kw
  if o.pad ≤ y ∧ y - o.pad < o.hi ∧ o.pad ≤ x ∧ x - o.pad < o.wi then a.el (y - o.pad) ((x - o.pad) * o.dim2 + k % o.dim2)
  else ⟨0, .fin false 0 0, false, false⟩

/-- CONV2D (R257). -/
def State.opConv (s : State) (o : Op) : State :=
  have k := o.kh * o.kw * o.dim2
  have r := s.matrixParts o k fun s t =>
    have a := s.readBuf o.opx t o.a o.fmtA o.hi (o.wi * o.dim2)
    (a.1, (List.range o.dim0).map fun i => (List.range k).map fun j => convEl o a.2 i j)
  r.1.matrixEnd o r.2

/-- A dot product as one FP32 value (R258): the long sum or the FP32 sum, rounded to nearest even. -/
def dotF32 (fa fb : Nat) (ps : List (El × El)) : F32 :=
  have r := dotAcc fa fb { isF32 := !longPath fa fb } ps
  ⟨toF32 r.1.value, r.2⟩

/-- The running state of one query row (R258). -/
structure AttRow where
  m : Nat
  l : F32
  o : List F32
  exc : Exc
deriving DecidableEq, Repr

/-- One key block of one query row (R258): scores by key (masked keys none), the value rows of the block. -/
def attBlock (o : Op) (q : List El) (keys : List (Bool × List El)) (vals : List (List El)) (a : AttRow) : AttRow :=
  have sc := keys.map fun (masked, k) =>
    if masked then F32.negInf else (dotF32 o.fmtA o.fmtA (q.zip k)).mul ⟨o.imm, {}⟩
  have exc := sc.foldl (fun e x => e.join x.exc) a.exc
  have m' := maxF32 (a.m :: sc.map F32.bits)
  if keys.all Prod.fst then a
  else if m' = F32.negInf.bits then { a with exc := exc }
  else
    have mm : F32 := ⟨m', {}⟩
    have p := sc.map fun x => ((⟨x.bits, {}⟩ : F32).sub mm).table 1
    have c := ((⟨a.m, {}⟩ : F32).sub mm).table 1
    have l := (a.l.mul c).add (groupSum p)
    have cs := p.map fun x => encodeElem o.fmtB 0 0 (valF32 x.bits)
    have exc := exc.join { csat := cs.any Conv.sat, cnan := cs.any Conv.nanMapped }
    have pb := cs.map fun c => (⟨c.bits, decodeElem o.fmtB c.bits, false, false⟩ : El)
    have outs := a.o.zipIdx.map fun (x, j) =>
      (x.mul c).add (dotF32 o.fmtB o.fmtB (pb.zip (vals.map fun v => v.getD j ⟨0, .fin false 0 0, false, false⟩)))
    { m := m', l := l, o := outs, exc := exc }

/-- Whether key `j` is masked for query `i` (R258); `bm` is the bitmap extent. -/
def attMasked (o : Op) (bm : List RWord) (i j : Nat) : Bool :=
  match o.flags % 4 with
  | 1 => i + 64 * nbits o.flags 12 2 < j
  | 2 => nbit (((bm[i * ((o.dim1 + 255) / 256) + j / 256]?).getD none).getD 0) (j % 256)
  | _ => false

/-- One query row of ATTEND (R258): its output elements. -/
def attRow (o : Op) (q : List El) (k v : Buf) (bm : List RWord) (i : Nat) : List Out :=
  have per := (o.dim1 + 255) / 256
  have bmBad := o.flags % 4 == 2 && (List.range per).any fun w => ((bm[i * per + w]?).getD none).isNone
  have live := (List.range o.dim1).filter fun j => !attMasked o bm i j
  have kBad := live.any fun j => (k.row j o.dim2).any El.poison
  have read := (List.range o.dim1).filter fun j => live.any fun x => x / 64 == j / 64
  have vBad := fun (c : Nat) => read.any fun j => (v.el j c).poison
  have start : AttRow := { m := F32.negInf.bits, l := F32.zero, o := List.replicate o.dim2 F32.zero, exc := {} }
  have blocks := pieces 64 o.dim1 (List.range o.dim1)
  have r := blocks.foldl (fun a js => attBlock o q (js.map fun j => (attMasked o bm i j, k.row j o.dim2))
    (js.map fun j => v.row j o.dim2) a) start
  r.o.zipIdx.map fun (x, c) =>
    have y := if r.l.bits = 0 then F32.zero else x.div r.l
    { v := valF32 y.bits, poison := (live != [] && q.any El.poison) || bmBad || kBad || vBad c, exc := y.exc.join { r.exc with l64 := if c = 0 then r.exc.l64 else 0 } }

/-- ATTEND (R258). -/
def State.opAttend (s : State) (o : Op) : State :=
  s.forEach o.tiles fun s t =>
    have q := s.readBuf o.opx t o.a o.fmtA o.dim0 o.dim2
    have k := q.1.readBuf o.opx t o.b o.fmtA o.dim1 o.dim2
    have v := k.1.readBuf o.opx t o.d o.fmtB o.dim1 o.dim2
    have b := if o.flags % 4 = 2 then v.1.sramReadN o.opx t o.m (o.dim0 * ((o.dim1 + 255) / 256)) else (v.1, [])
    have rows := (List.range o.dim0).map fun i => attRow o (q.2.row i o.dim2) k.2 v.2 b.2 i
    have r := b.1.finish o t rows
    (r.1.putOut o t o.c o.fmtOut r.2).clearAcc t

/-- The softmax of FP32 values (R259): a row whose maximum is −∞ gives +0. -/
def softmaxRow (xs : List F32) : List F32 :=
  have m := maxF32 (xs.map F32.bits)
  if m = F32.negInf.bits then xs.map fun x => { F32.zero with exc := x.exc }
  else
    have e := xs.map fun x => (x.sub ⟨m, {}⟩).table 1
    have s := groupSum e
    e.map fun y => y.div s

/-- An operation over rows of DIM1 elements at A_ADDR, row by row (R249); `f` gives a row's output elements. -/
def State.rowOp (s : State) (o : Op) (f : State → Nat → List El → State × List Out) : State :=
  s.forEach o.tiles fun s t =>
    have a := s.readBuf o.opx t o.a o.fmtA o.dim0 o.dim1
    have r := (List.range o.dim0).foldl (fun (x : State × List (List Out)) i =>
      have y := f x.1 t (a.2.row i o.dim1)
      (y.1, x.2 ++ [y.2])) (a.1, [])
    have w := r.1.finish o t r.2
    (w.1.putOut o t o.c o.fmtOut w.2).clearAcc t

/-- SOFTMAX (R259). -/
def State.opSoftmax (s : State) (o : Op) : State :=
  s.rowOp o fun s _ row =>
    have k : F32 := if o.imm = 0 then F32.one else ⟨o.imm, {}⟩
    have bad := row.any El.poison
    (s, (softmaxRow (row.map fun e => e.f32.mul k)).map fun y => { v := valF32 y.bits, poison := bad, exc := y.exc })

/-- One row of NORM (R260): gain and bias rows where used. -/
def normRow (o : Op) (row : List El) (gain bias : Option (List El)) : List Out :=
  have xs := row.map El.f32
  have n : F32 := ⟨toF32 (.fin false o.dim1 0), {}⟩
  have eps : F32 := ⟨o.imm, {}⟩
  have layer := nbit o.flags 0
  have mu := (groupSum xs).div n
  have cs := if layer then xs.map fun x => x.sub mu else xs
  have r := (((groupSum (cs.map fun x => x.mul x)).div n).add eps).table 3
  have bad := row.any El.poison
  cs.zipIdx.map fun (x, j) =>
    have y := x.mul r
    have g := gain.map fun g => g.getD j default
    have b := bias.map fun b => b.getD j default
    have y := match g with
      | some e => y.mul e.f32
      | none => y
    have y := match b with
      | some e => y.add e.f32
      | none => y
    { v := valF32 y.bits, poison := bad || (g.map El.poison).getD false || (b.map El.poison).getD false, exc := y.exc }

/-- NORM (R260). -/
def State.opNorm (s : State) (o : Op) : State :=
  s.forEach o.tiles fun s t =>
    have a := s.readBuf o.opx t o.a o.fmtA o.dim0 o.dim1
    have g := if nbit o.flags 1 then a.1.readBuf o.opx t o.b o.fmtB 1 o.dim1 else (a.1, ⟨[], 0, 0⟩)
    have b := if nbit o.flags 2 then g.1.readBuf o.opx t o.d o.fmtB 1 o.dim1 else (g.1, ⟨[], 0, 0⟩)
    have gain := if nbit o.flags 1 then some (g.2.row 0 o.dim1) else none
    have bias := if nbit o.flags 2 then some (b.2.row 0 o.dim1) else none
    have rows := (List.range o.dim0).map fun i => normRow o (a.2.row i o.dim1) gain bias
    have r := b.1.finish o t rows
    (r.1.putOut o t o.c o.fmtOut r.2).clearAcc t

/-- One step on exact values, rounded to FP32 (R261). -/
def stepF32 (e : Exc) (r : Val × Bool) : F32 := have q := roundF32 r; ⟨q.bits, e.join q.exc⟩

/-- x × sigmoid(x) (R261). -/
def siluF32 (x : F32) : F32 := x.mul (x.table 4)

/-- ELEMENT's functions of one input (R261). -/
def elementUnary (fn : Nat) (a : El) : F32 :=
  match fn with
  | 0x05 => siluF32 a.f32
  | 0x08 => have m := maxF32 [toF32 a.v, 0]; ⟨m, a.exc⟩
  | 0x09 => ⟨toF32 a.v.negate, a.exc⟩
  | 0x0A => ⟨toF32 (if a.v.neg then a.v.negate else a.v), a.exc⟩
  | 0x0B => stepF32 a.exc (mulVal a.v a.v)
  | f => a.f32.table f

/-- ELEMENT's functions of two inputs (R261). -/
def elementBinary (fn : Nat) (a b : El) : F32 :=
  have e := a.exc.join b.exc
  match fn with
  | 0x20 => stepF32 e (addVal a.v b.v)
  | 0x21 => stepF32 e (addVal a.v b.v.negate)
  | 0x22 => stepF32 e (mulVal a.v b.v)
  | 0x23 => have r := divF32 a.v b.v; ⟨r.bits, e.join r.exc⟩
  | 0x24 => ⟨(cmbMinMax true 0x01 [toF32 a.v, toF32 b.v]).bits, e⟩
  | 0x25 => ⟨(cmbMinMax false 0x01 [toF32 a.v, toF32 b.v]).bits, e⟩
  | _ => a.f32.mul (siluF32 b.f32)

/-- A function of two inputs (R261). -/
def Op.binary (o : Op) : Bool := 0x20 ≤ o.flags % 256

/-- The second operand comes from B_ADDR (R261). -/
def Op.readsB (o : Op) : Bool := o.binary && !nbit o.flags 8

/-- ELEMENT (R261). -/
def State.opElement (s : State) (o : Op) : State :=
  s.forEach o.tiles fun s t =>
    have a := s.readBuf o.opx t o.a o.fmtA o.dim0 o.dim1
    have b := if o.readsB then a.1.readBuf o.opx t o.b o.fmtB o.dim0 o.dim1 else (a.1, ⟨[], 0, 0⟩)
    have rows := (List.range o.dim0).map fun i => (List.range o.dim1).map fun j =>
      have x := a.2.el i j
      have y : El := if o.readsB then b.2.el i j else ⟨o.imm, valF32 o.imm, false, false⟩
      have r := if o.binary then elementBinary (o.flags % 256) x y else elementUnary (o.flags % 256) x
      ({ v := valF32 r.bits, poison := x.poison || (o.binary && y.poison), exc := r.exc } : Out)
    have r := b.1.finish o t rows
    (r.1.putOut o t o.c o.fmtOut r.2).clearAcc t

/-- CONVERT (R264). -/
def State.opConvert (s : State) (o : Op) : State :=
  s.rowOp o fun s _ row => (s, row.map fun e => { v := e.v, poison := e.poison, exc := { snan := e.snan } })

/-- A reduced element: bits, poison and exceptions. -/
structure Red where
  bits : Nat
  poison : Bool
  exc : Exc := {}
deriving DecidableEq, Repr, Inhabited

/-- One reduction step (R187, R262): acc ∘ own. -/
def redStep (op fmt : Nat) (a b : Red) : Red :=
  have r := cmbElem op fmt [a.bits, b.bits]
  if a.poison || b.poison then ⟨0, true, {}⟩
  else ⟨r.bits, false, { l64 := b2n r.sat, ovf := r.ovf, inv := r.inv, nanIn := r.nanIn }⟩

/-- An element as a reduction takes it (R226, R262): a NaN is recorded, and is written as the canonical one. -/
def redOf (fmt : Nat) (e : El) : Red :=
  if e.poison then ⟨0, true, {}⟩ else ⟨canonBits fmt e.bits, false, { nanIn := e.v.isNan }⟩

/-- A row reduced within a tile (R262): ADD_FP32 by R259's grouping, the others in order. -/
def redRow (op fmt : Nat) (row : List El) : Red :=
  if row.any El.poison then ⟨0, true, {}⟩
  else if op = 0 then
    have r := groupSum (row.map fun e => (⟨e.bits, e.exc⟩ : F32))
    ⟨r.bits, false, r.exc⟩
  else
    match row with
    | [] => ⟨0, false, {}⟩
    | e :: es => es.foldl (fun (a : Red) x =>
        have r := redStep op fmt a ⟨x.bits, false, {}⟩
        { r with exc := a.exc.join r.exc }) (redOf fmt e)

/-- Rows of reduced elements as words. -/
def redWords (fmt : Nat) (rows : List (List Red)) : List RWord :=
  rows.flatMap fun r => layRow fmt (r.map Red.bits) [] (r.map Red.poison)

/-- The tiles of each line of a REDUCE along an axis, first to last (R262). -/
def Op.axisLines (o : Op) : List (List Nat) :=
  if o.axis = 1 then
    (List.range (o.rowHi + 1 - o.rowLo)).map fun r => (List.range o.width).map fun c => 64 * (o.rowLo + r) + o.colLo + c
  else
    (List.range o.width).map fun c => (List.range (o.rowHi + 1 - o.rowLo)).map fun r => 64 * (o.rowLo + r) + o.colLo + c

/-- One line of a REDUCE across tiles (R262): the reduced matrix, element by element, own operand last. -/
def State.reduceLine (s : State) (o : Op) (line : List Nat) : State × List (List Red) :=
  line.foldl (fun (a : State × List (List Red)) t =>
    have b := a.1.readBuf o.opx t o.a o.fmtA o.dim0 o.dim1
    have fenced := b.1.fenced (b.1.physOf t)
    have own := (List.range o.dim0).map fun i => (b.2.row i o.dim1).map fun e => redOf o.fmtA { e with poison := e.poison || fenced }
    match a.2 with
    | [] => (if line.length = 1 then b.1.numRecord o.opx t (own.flatten.map Red.exc) else b.1, own)
    | acc =>
      have sums := (acc.zip own).map fun (x, y) => (x.zip y).map fun (p, q) => redStep (o.flags % 8) o.fmtA p q
      (b.1.numRecord o.opx t (sums.flatten.map Red.exc), sums)) (s, [])

/-- The tiles that write a REDUCE across tiles, with their results (R262): the last of each line, or all with ALL. -/
def State.opReduceAxis (s : State) (o : Op) : State :=
  have r := o.axisLines.foldl (fun (a : State × List (Nat × List RWord)) line =>
    have x := a.1.reduceLine o line
    have ws := redWords o.fmtA x.2
    have dst := if nbit o.flags 5 then line else line.drop (line.length - 1)
    (x.1, a.2 ++ dst.map fun t => (t, ws))) (s, [])
  have s := r.1.forEach o.tiles fun s t =>
    match r.2.find? fun p => p.1 == t with
    | some p => s.putOut o t o.c o.fmtA p.2
    | none => s
  s.forEach o.tiles State.clearAcc

/-- REDUCE (R262). -/
def State.opReduce (s : State) (o : Op) : State :=
  if o.axis = 0 then
    s.forEach o.tiles fun s t =>
      have a := s.readBuf o.opx t o.a o.fmtA o.dim0 o.dim1
      have rs := (List.range o.dim0).map fun i => redRow (o.flags % 8) o.fmtA (a.2.row i o.dim1)
      have s := a.1.numRecord o.opx t (rs.map Red.exc)
      (s.putOut o t o.c o.fmtA (redWords o.fmtA [rs])).clearAcc t
  else s.opReduceAxis o

/-- The words that a TRANSPOSE over its own operand leaves (R263 states none). -/
def overlapWords (k n : Nat) : List RWord := (List.range n).map fun i => some (Config.overlapWord k i % 2 ^ 256)

/-- TRANSPOSE (R263). The rule bars extents that overlap and states no check of it (R247, R255) and no result: the words written are
then the free value of Config. -/
def State.opTranspose (s : State) (o : Op) : State :=
  s.forEach o.tiles fun s t =>
    have a := s.readBuf o.opx t o.a o.fmtA o.dim0 o.dim1
    have rows := (List.range o.dim1).map fun j => (List.range o.dim0).map fun i => a.2.el i j
    have ws := moveRows o.fmtA rows
    have n := o.dim0 * rowWords o.fmtA o.dim1
    have apart : Bool := o.outValid || o.a + n ≤ o.c || o.c + ws.length ≤ o.a
    have s := a.1.putOut o t o.c o.fmtA (if apart then ws else overlapWords s.freeCtr ws.length)
    (if apart then s else s.tickFree).clearAcc t

end Sys2Proof.Machine
end

