-- ==== Sys2Proof/Machine/TileMove.lean ====
section
/-! DEFINITION. Sys2Proof/Machine/TileMove.lean: what the movement and routing operations do in the tiles: COPY, GATHER,
SCATTER_ADD, TOPK, DISPATCH and COMBINE (R265 to R271), and the fill of A extents from a receive queue (R250). -/
namespace Sys2Proof.Machine

/-- The words of one HBM read, shared by tiles of one start address (R245). -/
def State.stageRead (a : State × SMap (List RWord)) (w n : Nat) : State × SMap (List RWord) :=
  if a.2.any fun p => p.1 == w then a
  else
    have r := a.1.hbmReadPalm w n
    (r.1, SMap.set (fun _ => []) a.2 w r.2)

/-- The HBM extents of an op's tiles, each distinct one read once (R245, R286). -/
def State.hbmExtentsRead (s : State) (o : Op) : State × SMap (List RWord) :=
  o.tiles.foldl (fun a t => State.stageRead a (o.hbmStart t) o.hbmLen) (s, [])

/-- COPY (R265): direction 0 HBM to SRAM, 1 SRAM to HBM, 2 SRAM to SRAM. -/
def State.opCopy (s : State) (o : Op) : State :=
  have ext := if o.flags % 4 = 0 then s.hbmExtentsRead o else (s, [])
  ext.1.forEach o.tiles fun s t =>
    match o.flags % 4 with
    | 0 =>
      have ws := SMap.get (fun _ => []) ext.2 (o.hbmStart t)
      have s := s.count Reg.PLM_POISON_IN_CNT (ws.filter fun x => x.isNone).length
      (s.putOut o t o.c o.fmtA ws).clearAcc t
    | 1 =>
      have r := s.sramReadN o.opx t o.a o.hbmLen
      (r.1.hbmWriteN (o.hbmStart t) r.2).clearAcc t
    | _ =>
      have r := s.sramReadN o.opx t o.a o.hbmLen
      (r.1.putOut o t o.c o.fmtA r.2).clearAcc t

/-- The 32-bit value `i` of packed words (R266, R269). -/
def idxAt (ws : List RWord) (i : Nat) : Option Nat := ((ws[i / 8]?).getD none).map fun w => field w (4 * (i % 8)) 4

/-- Row `idx` of a GATHER or SCATTER_ADD table in SRAM at word `base`, or in HBM (R266): read by a computed address. -/
def State.tableRow (s : State) (o : Op) (t base idx : Nat) : State × List RWord :=
  have w := if nbit o.flags 0 then o.hbmBase + idx * o.dim1 else base + idx * o.dim1
  if o.dim2 ≤ idx then
    ((s.boundsData o t (if nbit o.flags 0 then 4 else 3) (if nbit o.flags 0 then 32 * w else w)).count
      Reg.PLM_POISON_IN_CNT o.dim1, List.replicate o.dim1 none)
  else if nbit o.flags 0 then s.hbmData o t w o.dim1
  else s.sramReadN o.opx t w o.dim1

/-- GATHER (R266). -/
def State.opGather (s : State) (o : Op) : State :=
  s.forEach o.tiles fun s t =>
    have b := s.sramReadN o.opx t o.b ((o.dim0 + 7) / 8)
    have r := (List.range o.dim0).foldl (fun (a : State × List RWord) i =>
      match idxAt b.2 i with
      | none => (a.1, a.2 ++ List.replicate o.dim1 none)
      | some idx =>
        if idx = 0xFFFFFFFF then (a.1, a.2 ++ List.replicate o.dim1 (some 0))
        else
          have x := a.1.tableRow o t o.a idx
          (x.1, a.2 ++ x.2)) (b.1, [])
    (r.1.putOut o t o.c o.fmtA r.2).clearAcc t

/-- Words added element by element (R267): ADD_FP32 or the long sum. -/
def addWords (fmt : Nat) (xs ys : List RWord) : List RWord × List Exc :=
  have w := elemBits fmt
  have per := 256 / w
  have rs := (xs.zip ys).map fun (x, y) =>
    match x, y with
    | some a, some b =>
      have es := (List.range per).map fun i =>
        redStep (if fmt = 1 then 0 else 1) fmt ⟨payloadElem w a i, false, {}⟩ ⟨payloadElem w b i, false, {}⟩
      ((some (packElems w (es.map Red.bits)) : RWord), es.map Red.exc)
    | _, _ => (none, [])
  (rs.map Prod.fst, rs.flatMap Prod.snd)

/-- Write a table row back (R267). -/
def State.tablePut (s : State) (o : Op) (t idx : Nat) (ws : List RWord) : State :=
  if nbit o.flags 0 then s.hbmPut o t (o.hbmBase + idx * o.dim1) ws else s.sramWriteN t (o.c + idx * o.dim1) ws

/-- One source row of SCATTER_ADD (R267): 0xFFFFFFFF is skipped; a poisoned index poisons every row it may name (R252). -/
def State.scatterRow (s : State) (o : Op) (t : Nat) (idx : Option Nat) (src : List RWord) : State :=
  match idx with
  | none => s.forEach (List.range o.dim2) fun s k => s.tablePut o t k (List.replicate o.dim1 none)
  | some k =>
    if k = 0xFFFFFFFF then s
    else
      have r := s.tableRow o t o.c k
      if o.dim2 ≤ k then r.1
      else
        have x := addWords o.fmtA r.2 src
        (r.1.numRecord o.opx t x.2).tablePut o t k x.1

/-- One source row of SCATTER_ADD added to a table that leaves by OUT_Q (R250, R267): as `scatterRow`, on its words. -/
def State.scatterInto (a : State × List RWord) (o : Op) (t : Nat) (idx : Option Nat) (src : List RWord) : State × List RWord :=
  match idx with
  | none => (a.1, a.2.map fun _ => none)
  | some k =>
    if k = 0xFFFFFFFF then a
    else if o.dim2 ≤ k then ((a.1.tableRow o t o.c k).1, a.2)
    else
      have x := addWords o.fmtA ((a.2.drop (k * o.dim1)).take o.dim1) src
      (a.1.numRecord o.opx t x.2, a.2.take (k * o.dim1) ++ x.1 ++ a.2.drop ((k + 1) * o.dim1))

/-- SCATTER_ADD (R267); with OUT_Q the table is deposited in place of being written (R250). -/
def State.opScatter (s : State) (o : Op) : State :=
  s.forEach o.tiles fun s t =>
    have b := s.sramReadN o.opx t o.b ((o.dim0 + 7) / 8)
    have s :=
      if o.outValid && !nbit o.flags 0 then
        have r := (List.range o.dim0).foldl (fun (a : State × List RWord) i =>
          have x := a.1.sramReadN o.opx t (o.a + i * o.dim1) o.dim1
          State.scatterInto (x.1, a.2) o t (idxAt b.2 i) x.2) (b.1.sramReadN o.opx t o.c (o.dim2 * o.dim1))
        r.1.putOut o t o.c o.fmtA r.2
      else
        b.1.forEach (List.range o.dim0) fun s i =>
          have a := s.sramReadN o.opx t (o.a + i * o.dim1) o.dim1
          a.1.scatterRow o t (idxAt b.2 i) a.2
    s.clearAcc t

/-- Insert a value in descending order, equal values by lower index, NaN below −∞ (R268). -/
def insertTop (x : Nat × Val) : List (Nat × Val) → List (Nat × Val)
  | [] => [x]
  | y :: ys =>
    have above := match x.2, y.2 with
      | .nan, _ => false
      | _, .nan => true
      | a, b => !leVal a b && !(leVal (match a with | .fin _ 0 e => .fin false 0 e | v => v)
                                       (match b with | .fin _ 0 e => .fin false 0 e | v => v))
    if above then x :: y :: ys else y :: insertTop x ys

/-- The k largest of a row: their indices (R268). -/
def topIndices (k : Nat) (row : List El) : List Nat :=
  ((row.zipIdx.foldl (fun a p => insertTop (p.2, p.1.v) a) []).take k).map Prod.fst

/-- Rows of 32-bit values as words (R249, R268, R270). -/
def rows32 (rows : List (List (Option Nat))) : List RWord :=
  rows.flatMap fun r => layRow 0x01 (r.map fun x => x.getD 0) [] (r.map fun x => x.isNone)

/-- TOPK (R268). -/
def State.opTopk (s : State) (o : Op) : State :=
  s.forEach o.tiles fun s t =>
    have a := s.readBuf o.opx t o.a o.fmtA o.dim0 o.dim1
    have rows := (List.range o.dim0).map fun i =>
      have row := a.2.row i o.dim1
      have bad := row.any El.poison
      have ix := topIndices o.kch row
      have els := ix.map fun j => row.getD j default
      have vs : List Out :=
        if nbit o.flags 0 then (softmaxRow (els.map El.f32)).map fun y => { v := valF32 y.bits, poison := bad, exc := y.exc }
        else els.map fun e => { v := e.v, poison := bad }
      (vs, ix.map fun j => if bad then none else some j)
    have r := a.1.finish o t (rows.map Prod.fst)
    have s := r.1.putOut o t o.c o.fmtOut r.2
    (s.sramWriteN t o.d (rows32 (rows.map Prod.snd))).clearAcc t

/-- A dispatch or return table entry (R269). -/
structure Expert where
  isLocal : Bool
  link : Nat
  q : Nat
  cap : Nat
  laddr : Nat
  rank : Nat
  spillQ : Nat
  bad : Bool
deriving DecidableEq, Repr, Inhabited

/-- Entry `e` of the table's words (R269). -/
def expertAt (ws : List RWord) (e : Nat) : Expert :=
  match (ws[e / 4]?).getD none with
  | none => { (default : Expert) with bad := true }
  | some w =>
    have x := field w (8 * (e % 4)) 8
    { isLocal := nbit x 63, link := nbits x 62 58, q := nbits x 57 55, cap := nbits x 54 44, laddr := nbits x 43 30,
      rank := nbits x 29 14, spillQ := nbits x 13 6, bad := false }

/-- The rectangle's first tile. -/
def Op.firstTile (o : Op) : Nat := 64 * o.rowLo + o.colLo

/-- A choice of DISPATCH: token, choice, STATE, expert, slot (R270). -/
structure Choice where
  token : Nat
  c : Nat
  st : Nat
  expert : Nat
  slot : Nat
deriving DecidableEq, Repr, Inhabited

/-- The placement of every choice, every token's choice 0 first (R270): the used slots, and the choices made. -/
def placeChoices (spill : Bool) (table : List Expert) (idx : Nat → Nat → Option Nat) (tokens kch : Nat) : List Choice :=
  (((List.range kch).flatMap fun c => (List.range tokens).map fun t => (t, c)).foldl
    (fun (a : SMap Nat × List Choice) p =>
      have bad : Choice := ⟨p.1, p.2, 3, 0, 0⟩
      match idx p.1 p.2 with
      | none => (a.1, a.2 ++ [bad])
      | some e =>
        match table[e]? with
        | none => (a.1, a.2 ++ [bad])
        | some x =>
          have used := SMap.get (fun _ => 0) a.1 e
          if x.bad then (a.1, a.2 ++ [bad])
          else if used < x.cap then (SMap.set (fun _ => 0) a.1 e (used + 1), a.2 ++ [⟨p.1, p.2, 0, e, used⟩])
          else (a.1, a.2 ++ [⟨p.1, p.2, if spill then 2 else 1, e, 0⟩])) ([], [])).2

/-- The slot-map entry of a choice (R270). -/
def Choice.entry (kch : Nat) (x : Choice) : Nat :=
  have w := Config.slotMapOpen (x.token * kch + x.c)
  have e := if x.st = 3 then w / 65536 % 256 else x.expert % 256
  2 ^ 30 * x.st + 65536 * e + (if x.st = 0 then x.slot else w) % 65536

/-- The packets of one spilled row (R197, R270): parts of 352 bytes on VC 4. -/
def spillParts (o : Op) (x : Choice) (e : Expert) (row : List RWord) : List Inj :=
  have data := (row.zipIdx.map fun p => p.1.getD (Config.spilledPoison p.2)).foldr (fun w a => w % 2 ^ 256 + 2 ^ 256 * a) 0
  have bytes := 32 * row.length
  (List.range ((bytes + 351) / 352)).map fun k =>
    have hdr := 2 ^ 128 * (x.token % 2 ^ 16) + 2 ^ 120 * (x.expert % 256) + 2 ^ 114 * (x.c % 64) + 2 ^ 98 * (k % 2 ^ 16)
      + 2 ^ 82 * (o.opx % 2 ^ 16)
    have f : Flit := { cls := 1, vc := 4, dest := e.rank,
                       payload := routeWord 0 0 0 e.rank e.spillQ 0xFFFF 0 0 0 hdr + 2 ^ 256 * (field data (352 * k) 352) }
    { vc := 4, flit := f, replyN := 0, rtag := 0 }

/-- The op injects its spilled packets until the NI refuses one (R159, R270). -/
def State.spillSend (s : State) : List Inj → State
  | [] => { s with palm := { s.palm with spill := [] } }
  | i :: rest =>
    if !s.vcOn 4 then { s.dropVc 31 i.flit with palm := { s.palm with spill := i :: rest } }
    else
      match s.resolve 4 (.rank i.flit.dest) with
      | none => { s.dropRoute 31 i.flit with palm := { s.palm with spill := i :: rest } }
      | some (m, _) => (s.stamp { i with flit := { i.flit with dest := m, mitten := s.rd Reg.CUF_MITTEN_MITTEN } }).spillSend rest

/-- A token's row (R270): from A of its tile, or from HBM. -/
def State.tokenRow (s : State) (o : Op) (tiles : List Nat) (tok : Nat) : State × List RWord :=
  have t := tiles.getD (tok / o.dim0) 0
  if nbit o.flags 0 then s.hbmData o t (o.hbmBase + tok * o.tokenWords) o.tokenWords
  else s.sramReadN o.opx t (o.a + tok % o.dim0 * o.tokenWords) o.tokenWords

/-- Flits of one slot (R195, R270): the token's row, or one void marker per flit. -/
def slotFlits (fmt n : Nat) (row : Option (List RWord)) : List Flit :=
  match row with
  | some ws => (pieces 12 ws.length ws).map fun p => wordsFlit fmt p
  | none => List.replicate (n / 12) { cls := 0, fmt := fmt, void := true }

/-- One slot of an expert leaves (R270): deposited for logical tile `origin`, or written to a tile of this module. -/
def State.putSlot (s : State) (o : Op) (tiles : List Nat) (x : Expert) (slot origin : Nat) (row : Option (List RWord)) : State :=
  have n := o.tokenWords
  if x.isLocal then
    have t := tiles.getD (slot % tiles.length) 0
    have w := x.laddr + slot / tiles.length * n
    if inBanks o.write w n then s.sramWriteN t w (row.getD (List.replicate n (some 0))) else s.boundsData o t 3 w
  else
    have fs := (slotFlits o.fmtA n row).map fun f => (x.link, x.q, origin, f)
    { s with palm := { s.palm with outgoing := s.palm.outgoing ++ fs } }

/-- What stands for the tile of a slot that no token fills. -/
def noTile : Nat := 4096

/-- DISPATCH (R270). -/
def State.opDispatch (s : State) (o : Op) : State :=
  have tiles := o.tiles
  have tokens := tiles.length * o.dim0
  have m := s.sramReadN o.opx o.firstTile o.m ((o.dim1 + 3) / 4)
  have table := (List.range o.dim1).map (expertAt m.2)
  have d := tiles.foldl (fun (a : State × List RWord) t =>
    have r := a.1.sramReadN o.opx t o.d (o.dim0 * o.kchWords)
    (r.1, a.2 ++ r.2)) (m.1, [])
  have idx := fun t c => idxAt (d.2.drop (t * o.kchWords)) c
  have cs := placeChoices (nbit o.flags 1) table idx tokens o.kch
  have s := d.1.forEach cs fun s x =>
    match idx x.token x.c with
    | some e => if o.dim1 ≤ e then (s.boundsData o o.firstTile 3 (o.m + e / 4)).count Reg.PLM_POISON_IN_CNT 1 else s
    | none => s
  have s := s.count Reg.PLM_DROP_CNT (cs.filter fun x => x.st == 1 || x.st == 3).length
  have s := s.count Reg.PLM_SPILL_CNT (cs.filter fun x => x.st == 2).length
  have s := s.forEach tiles.zipIdx fun s (t, i) =>
    have rows := (List.range o.dim0).map fun r => (List.range o.kch).map fun c =>
      (cs.find? fun x => x.token == i * o.dim0 + r && x.c == c).map (Choice.entry o.kch)
    s.putOut o t o.c o.fmtA (rows32 rows)
  have s := s.forEach table.zipIdx fun s (x, e) => s.forEach (List.range x.cap) fun s slot =>
    match cs.find? fun y => y.st == 0 && y.expert == e && y.slot == slot with
    | some y =>
      have r := s.tokenRow o tiles y.token
      r.1.putSlot o tiles x slot (tiles.getD (y.token / o.dim0) 0) (some r.2)
    | none => s.putSlot o tiles x slot noTile none
  have sp := (cs.filter fun x => x.st == 2).foldl (fun (a : State × List Inj) x =>
    have r := a.1.tokenRow o tiles x.token
    (r.1, a.2 ++ spillParts o x (table.getD x.expert default) r.2)) (s, [])
  (sp.1.spillSend sp.2).forEach tiles State.clearAcc

/-- The result of one slot read by COMBINE (R271): its words, and whether it came back void. -/
structure SlotRes where
  expert : Nat
  slot : Nat
  words : List RWord
  void : Bool
deriving DecidableEq, Repr, Inhabited

/-- Take the first flits of a queue out of what the op has read. -/
def takeInbox (l q : Nat) : Nat → List (Nat × Nat × Flit) → List Flit × List (Nat × Nat × Flit)
  | _, [] => ([], [])
  | 0, xs => ([], xs)
  | n + 1, x :: xs =>
    if x.1 = l ∧ x.2.1 = q then
      have r := takeInbox l q n xs
      (x.2.2 :: r.1, r.2)
    else
      have r := takeInbox l q (n + 1) xs
      (r.1, x :: r.2)

/-- The results of every slot, experts and slots ascending (R271). -/
def State.slotResults (s : State) (o : Op) (table : List Expert) : State × List SlotRes :=
  have tiles := o.tiles
  have n := o.tokenWords
  (table.zipIdx.flatMap fun (x, e) => (List.range x.cap).map fun k => (x, e, k)).foldl
    (fun (a : State × List SlotRes) (x, e, k) =>
      if x.isLocal then
        have t := tiles.getD (k % tiles.length) 0
        have w := x.laddr + k / tiles.length * n
        if inBanks o.read w n then
          have r := a.1.sramReadN o.opx t w n
          (r.1, a.2 ++ [⟨e, k, r.2, false⟩])
        else ((a.1.boundsData o t 3 w).count Reg.PLM_POISON_IN_CNT n, a.2 ++ [⟨e, k, List.replicate n none, false⟩])
      else
        have r := takeInbox x.link x.q (n / 12) a.1.palm.inbox
        have s : State := { a.1 with palm := { a.1.palm with inbox := r.2 } }
        have ws := r.1.flatMap flitWords
        (s.count Reg.PLM_POISON_IN_CNT (ws.filter fun w => w.isNone).length,
          a.2 ++ [⟨e, k, ws, r.1.any fun f => f.void && !f.poison⟩])) (s, [])

/-- One token of COMBINE (R252, R271): its output elements, and how many of its placed choices came back void. A poisoned result,
weight, slot-map word or return-table word poisons the token. -/
def combineToken (o : Op) (map wts : List RWord) (row : Nat) (table : List Expert) (res : List SlotRes) : List Out × Nat :=
  have at' := fun (ws : List RWord) c => idxAt (ws.drop (row * o.kchWords)) c
  have picks := (List.range o.kch).map fun c => (at' map c, at' wts c)
  have lost := fun (e : Nat) => ((table[e]?).map Expert.bad).getD false
  have mapBad := picks.any fun p => match p.1 with
    | none => true
    | some m => nbits m 31 30 == 0 && lost (nbits m 23 16)
  have used := picks.filterMap fun p =>
    match p.1 with
    | some m =>
      if nbits m 31 30 = 0 then (res.find? fun r => r.expert == nbits m 23 16 && r.slot == nbits m 15 0).map fun r => (r, p.2)
      else none
    | none => none
  have voids := (used.filter fun u => u.1.void).length
  have live := used.filter fun u => !u.1.void
  have bad := mapBad || live.any fun u => u.2.isNone || u.1.words.any fun w => w.isNone
  have outs := (List.range o.dim2).map fun j =>
    live.foldl (fun (a : Out) u =>
      have y := (⟨u.1.words, o.tokenWords, o.fmtA⟩ : Buf).el 0 j
      have w : El := ⟨u.2.getD 0, valF32 (u.2.getD 0), u.2.isNone, false⟩
      have p := stepF32 (w.exc.join y.exc) (mulVal w.v y.v)
      have r := (⟨toF32 a.v, a.exc⟩ : F32).add p
      { v := valF32 r.bits, poison := a.poison || y.poison || w.poison, exc := r.exc })
      { v := .fin false 0 0, poison := bad }
  (outs, voids)

/-- COMBINE (R271). -/
def State.opCombine (s : State) (o : Op) : State :=
  have tiles := o.tiles
  have m := s.sramReadN o.opx o.firstTile o.m ((o.dim1 + 3) / 4)
  have table := (List.range o.dim1).map (expertAt m.2)
  have res := m.1.slotResults o table
  have n := rowWords o.fmtOut o.dim2
  res.1.forEach tiles.zipIdx fun s (t, i) =>
    have b := s.sramReadN o.opx t o.b (o.dim0 * o.kchWords)
    have d := b.1.sramReadN o.opx t o.d (o.dim0 * o.kchWords)
    have toks := (List.range o.dim0).map fun r => combineToken o b.2 d.2 r table res.2
    have s := d.1.count Reg.PLM_VOID_IN_CNT (toks.map Prod.snd).sum
    have r := s.finish o t (toks.map Prod.fst)
    have s :=
      if nbit o.flags 0 then
        r.1.forEach (pieces n r.2.length r.2).zipIdx fun s (ws, k) => s.hbmPut o t (o.hbmBase + (i * o.dim0 + k) * n) ws
      else r.1.putOut o t o.c o.fmtOut r.2
    s.clearAcc t

/-- Words of one tile's A extent (R250). -/
def Op.aWords (o : Op) : Nat :=
  match o.opcode with
  | 0x01 => o.dim0 * rowWords o.fmtA o.dim2
  | 0x02 => o.dim0 * rowWords o.fmtA o.dim2
  | 0x03 => o.hi * rowWords o.fmtA (o.wi * o.dim2)
  | 0x04 => o.dim0 * rowWords o.fmtA o.dim2
  | 0x0A => if nbit o.flags 0 then 0 else o.dim2 * o.dim1
  | 0x0B => o.dim0 * o.dim1
  | 0x0D => if nbit o.flags 0 then 0 else o.dim0 * o.tokenWords
  | 0x0E => 0
  | 0x10 => if o.flags % 4 = 0 then 0 else o.hbmLen
  | 0x11 => 0
  | _ => o.dim0 * rowWords o.fmtA o.dim1

/-- Fill one tile's A extent from flits of a receive queue (R250, R252). -/
def State.fillTile (s : State) (o : Op) (t : Nat) (fs : List Flit) : State :=
  have s := s.count Reg.PLM_VOID_IN_CNT (fs.filter fun f => f.void && !f.poison).length
  s.sramWriteN t o.a (fs.flatMap flitWords)

/-- Fill the A extents of every active tile from what the op has read of IN_Q (R250). -/
def State.fillA (s : State) (o : Op) : State :=
  if o.inValid then
    have n := o.aWords / 12
    s.forEach o.tiles fun s t =>
      have r := takeInbox o.inLink o.inQueue n s.palm.inbox
      ({ s with palm := { s.palm with inbox := r.2 } }).fillTile o t r.1
  else s

end Sys2Proof.Machine
end

