-- ==== Sys2Proof/Machine/PalmCheck.lean ====
section
/-! DEFINITION. Sys2Proof/Machine/PalmCheck.lean: what the Palm controller checks before it launches a descriptor: its fields
(R247), its power tokens (R211, R212) and its static bounds (R214, R215, R249). -/
namespace Sys2Proof.Machine

/-- A format code of R71. -/
def fmtKnown (f : Nat) : Bool := f ≤ 0x0B || (0x14 ≤ f && f ≤ 0x18)

/-- An unscaled MAC format (R201, R236). -/
def macPlain (f : Nat) : Bool := 0x01 ≤ f && f ≤ 0x0A

/-- A MAC format, block-scaled codes included (R247). -/
def macFmt (f : Nat) : Bool := macPlain f || (0x14 ≤ f && f ≤ 0x18)

/-- FP32, FP16, BF16 or an 8-bit format (R247). -/
def smallOut (f : Nat) : Bool := f ∈ [0x01, 0x02, 0x03, 0x04, 0x05, 0x09]

/-- The format a reduction pairs with (R72); any format for a reserved reduction, which FLAGS refuses. -/
def reduceFmt (red f : Nat) : Bool :=
  match red with
  | 0 => f == 0x01
  | 1 => f == 0x0B
  | 2 => f == 0x01 || f == 0x03
  | 3 => f == 0x01 || f == 0x03
  | 4 => f == 0x00
  | _ => true

/-- FMT_A is accepted (R247). -/
def Op.fmtAOk (o : Op) : Bool :=
  match o.opcode with
  | 0x01 => macFmt o.fmtA
  | 0x02 => macFmt o.fmtA
  | 0x03 => macFmt o.fmtA
  | 0x04 => macPlain o.fmtA
  | 0x05 => smallOut o.fmtA
  | 0x06 => smallOut o.fmtA
  | 0x07 => o.fmtA != 0
  | 0x08 => reduceFmt (o.flags % 8) o.fmtA
  | 0x09 => !isScaled o.fmtA && elemBits o.fmtA != 6
  | 0x0B => o.fmtA == 0x01 || o.fmtA == 0x0B
  | 0x0C => 0x01 ≤ o.fmtA && o.fmtA ≤ 0x03
  | 0x0E => o.fmtA != 0
  | 0x0F => o.fmtA != 0
  | 0x11 => o.fmtA == 0
  | _ => true

/-- FMT_B is accepted, or 0 where the operation does not use it (R247). -/
def Op.fmtBOk (o : Op) : Bool :=
  match o.opcode with
  | 0x01 => macFmt o.fmtB
  | 0x02 => macFmt o.fmtB
  | 0x03 => macFmt o.fmtB
  | 0x04 => macPlain o.fmtB
  | 0x06 => if nbit o.flags 1 || nbit o.flags 2 then smallOut o.fmtB else o.fmtB == 0
  | 0x07 => if o.readsB then o.fmtB != 0 else o.fmtB == 0
  | _ => o.fmtB == 0

/-- FMT_OUT is accepted (R247). -/
def Op.fmtOutOk (o : Op) : Bool :=
  match o.opcode with
  | 0x01 => true
  | 0x02 => true
  | 0x03 => true
  | 0x04 => smallOut o.fmtOut
  | 0x05 => smallOut o.fmtOut
  | 0x06 => smallOut o.fmtOut
  | 0x07 => o.fmtOut != 0
  | 0x0C => 0x01 ≤ o.fmtOut && o.fmtOut ≤ 0x03
  | 0x0E => o.fmtOut != 0
  | 0x0F => o.fmtOut != 0
  | 0x11 => o.fmtOut == 0
  | _ => o.fmtOut == o.fmtA

/-- FLAGS bits an operation uses (R256 to R272). -/
def flagMask (opcode : Nat) : Nat :=
  match opcode with
  | 0x01 => 0x0001
  | 0x02 => 0x0001
  | 0x03 => 0x1FFF
  | 0x04 => 0x1FFF
  | 0x06 => 0x0007
  | 0x07 => 0x01FF
  | 0x08 => 0x003F
  | 0x0A => 0x0001
  | 0x0B => 0x0001
  | 0x0C => 0x0001
  | 0x0D => 0x0003
  | 0x0E => 0x0001
  | 0x10 => 0x0003
  | _ => 0

/-- A function of ELEMENT (R261). -/
def knownFunc (f : Nat) : Bool := (0x01 ≤ f && f ≤ 0x0B) || (0x20 ≤ f && f ≤ 0x26)

/-- FLAGS hold no unused bit and no reserved value (R247, R258, R261, R262, R265). -/
def Op.flagsOk (o : Op) : Bool :=
  o.flags &&& flagMask o.opcode == o.flags &&
    (match o.opcode with
     | 0x04 => o.flags % 4 != 3
     | 0x07 => knownFunc (o.flags % 256)
     | 0x08 => o.flags % 8 ≤ 4 && o.axis != 3
     | 0x10 => o.flags % 4 != 3
     | _ => true)

/-- Elements of the reduction index of a matrix operation (R256, R257). -/
def Op.redLen (o : Op) : Nat := if o.opcode = 0x03 then o.kh * o.kw * o.dim2 else o.dim2

/-- Shape limits common to MATMUL, MATMUL_ACC and CONV2D (R256, R257). -/
def Op.matShapeOk (o : Op) : Bool :=
  1 ≤ o.dim0 && o.dim0 ≤ 64 && 1 ≤ o.dim1 && o.dim1 ≤ 64 && 1 ≤ o.dim2
    && (!(elemBits o.fmtA == 4 || elemBits o.fmtB == 4) || o.redLen % 2 == 0)
    && (!(isScaled o.fmtA || isScaled o.fmtB) || o.redLen % 32 == 0)
    && (!isScaled o.fmtOut || o.dim1 % 32 == 0)

/-- CONV2D's own shape limits (R257). -/
def Op.convShapeOk (o : Op) : Bool :=
  1 ≤ o.kh && 1 ≤ o.kw && 1 ≤ o.stride && 1 ≤ o.wo && o.wo ≤ 64 && o.dim0 % o.wo == 0
    && o.kw ≤ o.wi + 2 * o.pad && o.wo ≤ (o.wi + 2 * o.pad - o.kw) / o.stride + 1

/-- Shape values within the operation's limits, and KS divides the width (R247, R256 to R270). -/
def Op.shapeOk (o : Op) : Bool :=
  o.width % o.ks == 0 &&
    (match o.opcode with
     | 0x01 => o.matShapeOk
     | 0x02 => o.matShapeOk
     | 0x03 => o.convShapeOk && o.matShapeOk
     | 0x04 => 1 ≤ o.dim0 && o.dim0 ≤ 64 && 1 ≤ o.dim1 && o.dim1 ≤ 65535 && 1 ≤ o.dim2 && o.dim2 ≤ 256
     | 0x05 => 1 ≤ o.dim0 && o.dim0 ≤ 4096 && 1 ≤ o.dim1
     | 0x09 => 1 ≤ o.dim0 && o.dim0 ≤ 4096 && 1 ≤ o.dim1 && o.dim1 ≤ 4096
     | 0x0C => 1 ≤ o.kch && o.kch ≤ 64 && o.kch ≤ o.dim1
     | 0x0D => o.dim1 ≤ 256 && o.tokenWords % 12 == 0
     | 0x0E => o.dim1 ≤ 256 && o.tokenWords % 12 == 0
     | 0x0F => !isScaled o.fmtOut || o.dim1 % 32 == 0
     | _ => true)

/-- The queue fields (R247, R250, R265). -/
def Op.queueOk (o : Op) : Bool :=
  o.inLink ≤ 23 && o.outLink ≤ 23 && (!o.inValid || o.aWords % 12 == 0) && (!o.outValid || o.cWords % 12 == 0)
    && !(o.opcode == 0x10 && o.flags % 4 ≤ 1 && (o.inValid || o.outValid))

/-- The op makes its own HBM access (R245). -/
def Op.ownHbm (o : Op) : Bool :=
  (o.opcode == 0x10 && o.flags % 4 ≤ 1)
    || ((o.opcode == 0x0A || o.opcode == 0x0B || o.opcode == 0x0D || o.opcode == 0x0E) && nbit o.flags 0)

/-- The rectangle (R245, R272). -/
def Op.rectOk (o : Op) : Bool :=
  o.rowLo ≤ o.rowHi && o.colLo ≤ o.colHi
    && (o.opcode != 0x11 || (o.rowLo == 0 && o.rowHi == 0 && o.colLo == 0 && o.colHi == 0))

/-- The ARG field: an argument record, or 0 for SEAM_WAIT (R247, R272). -/
def Desc.argOk (d : Desc) : Bool := if nbits d.bits 223 219 = 0x11 then nbits d.bits 68 45 == 0 else d.arg.isSome

/-- The first failing check of R247, by its FIELD code; 0 for none. -/
def Desc.field (d : Desc) : Nat :=
  have o := d.op
  if o.opcode = 0 ∨ 0x11 < o.opcode then 1
  else if o.rnd = 3 then 2
  else if !(fmtKnown o.fmtA && fmtKnown o.fmtB && fmtKnown o.fmtOut && o.fmtAOk && o.fmtBOk && o.fmtOutOk) then 3
  else if !o.rectOk then 4
  else if d.seg.isNone then 9
  else if !d.argOk then 7
  else if nbit d.bits 216 ∨ ((o.opcode = 0x01 ∨ o.opcode = 0x02) ∧ o.imm ≠ 0) then 8
  else if !o.flagsOk then 11
  else if o.opcode = 0x11 then 0
  else if !o.shapeOk then 5
  else if !o.queueOk then 6
  else if o.stage ≠ 0 ∧ o.ownHbm then 10
  else 0

/-- Tokens of a load class on a grade (R211); reserved codes cost 0. -/
def classCost (grade cls : Nat) : Nat :=
  have row := match grade with
    | 0 => [0, 1, 3, 9, 12, 16]
    | 1 => [0, 1, 3, 8, 10, 13]
    | _ => [0, 1, 2, 6, 7, 9]
  row.getD cls 0

/-- The class region `g` counts as: REST while its domain is off (R424). -/
def State.opClass (s : State) (o : Op) (g : Nat) : Nat := if s.domOn g then o.classOf g else 0

/-- The token sum of an op (R208, R211). -/
def State.tokenSum (s : State) (o : Op) : Nat :=
  ((List.range 16).map fun g => classCost (s.rd Reg.GEN_FUSE_GRADE) (s.opClass o g)).sum

/-- The class a MAC on a format needs (R212). -/
def macClass (f : Nat) : Nat :=
  match elemBits f with
  | 4 => 5
  | 6 => 4
  | 8 => 4
  | _ => 3

/-- The class an op needs (R212, R247). -/
def Op.needClass (o : Op) : Nat :=
  if 0x01 ≤ o.opcode ∧ o.opcode ≤ 0x04 then min (macClass o.fmtA) (macClass o.fmtB)
  else if o.opcode = 0x11 then 1
  else 2

/-- Region `g` holds an active tile. -/
def Op.holds (o : Op) (g : Nat) : Bool :=
  o.opcode != 0x11 && o.rowLo / 16 ≤ g / 4 && g / 4 ≤ o.rowHi / 16 && o.colLo / 16 ≤ g % 4 && g % 4 ≤ o.colHi / 16

/-- The lowest region that breaks R212. -/
def State.classFail (s : State) (o : Op) : Option Nat :=
  (List.range 16).find? fun g => 5 < s.opClass o g || (o.holds g && s.opClass o g < o.needClass)

/-- A named SRAM extent: start, words, and the mask its banks must lie in (R249). -/
def Op.sramExtents (o : Op) : List (Nat × Nat × Nat) :=
  have rw := o.read &&& o.write
  have ina := if o.inValid then rw else o.read
  have out := if o.outValid then [] else [(o.c, o.cWords, o.write)]
  have mat := [(o.a, o.aWords, ina), (o.b, o.dim1 * rowWords o.fmtB o.redLen, o.read)] ++ out
  have ext := match o.opcode with
    | 0x01 => mat
    | 0x02 => mat
    | 0x03 => mat
    | 0x04 =>
      [(o.a, o.aWords, ina), (o.b, o.dim1 * rowWords o.fmtA o.dim2, o.read),
       (o.d, o.dim1 * rowWords o.fmtB o.dim2, o.read),
       (o.m, if o.flags % 4 = 2 then o.dim0 * ((o.dim1 + 255) / 256) else 0, o.read)] ++ out
    | 0x06 =>
      [(o.a, o.aWords, ina), (o.b, if nbit o.flags 1 then rowWords o.fmtB o.dim1 else 0, o.read),
       (o.d, if nbit o.flags 2 then rowWords o.fmtB o.dim1 else 0, o.read)] ++ out
    | 0x07 => [(o.a, o.aWords, ina), (o.b, if o.readsB then o.dim0 * rowWords o.fmtB o.dim1 else 0, o.read)] ++ out
    | 0x0A => [(o.a, o.aWords, ina), (o.b, (o.dim0 + 7) / 8, o.read)] ++ out
    | 0x0B => [(o.a, o.aWords, ina), (o.b, (o.dim0 + 7) / 8, o.read), (o.c, o.cWords, rw)]
    | 0x0C => [(o.a, o.aWords, ina)] ++ out ++ [(o.d, o.dim0 * o.kchWords, o.write)]
    | 0x0D =>
      [(o.a, o.aWords, ina), (o.d, o.dim0 * o.kchWords, o.read), (o.m, (o.dim1 + 3) / 4, o.read)] ++ out
    | 0x0E =>
      [(o.b, o.dim0 * o.kchWords, o.read), (o.d, o.dim0 * o.kchWords, o.read), (o.m, (o.dim1 + 3) / 4, o.read)] ++ out
    | 0x11 => []
    | _ => [(o.a, o.aWords, ina)] ++ out
  if o.stage = 0 then ext else ext ++ [(o.stg, o.hbmLen, o.stage)]

/-- Each active tile's named HBM extent: of staging, or of COPY (R245). -/
def Op.hbmExtents (o : Op) : List Nat :=
  if o.stage ≠ 0 ∨ (o.opcode = 0x10 ∧ o.flags % 4 ≤ 1) then o.tiles.map o.hbmStart else []

/-- The static check of R215: DETAIL and the address of the first failure. -/
def State.staticBounds (s : State) (o : Op) : Option (Nat × Nat) :=
  have banks := s.rd Reg.PLM_SRAM_ALLOC_BANKS
  match (List.range 12).find? fun b => nbit (o.read ||| o.write ||| o.stage) b && !nbit banks b with
  | some b => some (1, 1024 * b)
  | none =>
    match o.sramExtents.find? fun e => !inBanks e.2.2 e.1 e.2.1 with
    | some e => some (1, e.1)
    | none =>
      have wr := o.opcode == 0x10 && o.flags % 4 == 1
      match o.hbmExtents.find? fun w => !s.hbmInside w o.hbmLen wr with
      | some w => some (2, 32 * w)
      | none => none

/-- The static check at launch (R215), of the staging extents too when words of them came from a stack that was not UP (R290). -/
def State.launchBounds (s : State) (o : Op) : Option (Nat × Nat) :=
  match s.staticBounds o with
  | some x => some x
  | none => if s.palm.stagedBad then (o.hbmExtents.head?).map fun w => (2, 32 * w) else none

end Sys2Proof.Machine
end

