-- ==== Sys2Proof/Machine/Lcw.lean ====
section
/-! DEFINITION. Sys2Proof/Machine/Lcw.lean: the link control word: its fields, the word a link sends, and the frames it starts
(R122, R130 to R134, R144). -/
namespace Sys2Proof.Machine

/-- VAR of a beacon (R132). -/
def beaconVar (b : Beacon) : Nat :=
  2 ^ 107 * (b.seq % 2 ^ 8) + 2 ^ 79 * (b.stampA % 2 ^ 28) + 2 ^ 51 * (b.stampB % 2 ^ 28) + 2 ^ 49 * (b.state % 4)
    + 2 ^ 44 * (b.hops % 2 ^ 5) + 2 ^ 32 * (b.masterId % 2 ^ 12) + 2 ^ 30 * (b.holdDepth % 4) + 2 ^ 18 * (b.holdAge % 2 ^ 12)
    + 2 ^ 16 * (b.highIndex % 4) + b.highSlice % 2 ^ 16

/-- Slice `i` of a crown time (R33). -/
def crownSlice (now i : Nat) : Nat :=
  match i with
  | 0 => nbits now 39 24
  | 1 => nbits now 55 40
  | _ => nbits now 63 56

/-- The fields every LCW carries, bits [56:0] (R130). -/
def State.lcwFields (s : State) (l : Nat) : Nat :=
  have x := s.lk l
  have down := x.rxDownUntil.isSome || !s.rdb (Reg.LNK_STATUS_RX_LOCK l)
  have c := s.rd (Reg.LNK_BAND_CARRIES l)
  have seamV := s.run && s.cuff.started
  2 ^ 45 * (s.rd (Reg.LNK_SEQ_SCHED_RX_EXPECT l) % 4096) + 2 ^ 33 * (s.rd (Reg.LNK_SEQ_LOOSE_RX_EXPECT l) % 4096)
    + 2 ^ 32 * (b2n x.s.nakOpen) + 2 ^ 31 * (b2n x.l.nakOpen) + 2 ^ 29 * (x.s.nnumTx % 4) + 2 ^ 27 * (x.l.nnumTx % 4)
    + 2 ^ 26 * (b2n seamV) + 2 ^ 10 * (if seamV then s.rd Reg.CUF_SEAM_SEGMENT % 65536 else 0) + 2 ^ 9 * (b2n down)
    + 2 ^ 8 * (b2n (c != l)) + 2 ^ 5 * (if c = l then 0 else s.bandMember c)

/-- What an LCW could tell of this instant. -/
def State.lcwView (s : State) (l : Nat) : LcwView :=
  have x := s.lk l
  { fields := s.lcwFields l, train := x.pendTrain, req := x.pendReq.isSome, cred := x.pendCred }

/-- What an LCW that starts now tells: things as they stood 2 st ago (R134); without that much history since the link came UP,
as they stand. -/
def State.lcwShown (s : State) (l : Nat) : LcwView := ((s.lk l).past[3]?).getD (s.lcwView l)

/-- An LCW stands in the frame in progress (R122, R123): behind the frame word, or in a slot of its own. -/
def State.lcwOut (s : State) (l w : Nat) : State :=
  have s := s.emit (.lcw l w)
  match (s.lk l).frame with
  | some (t, x) =>
    have k := (s.wireTick - t) / slotLen (s.rd (Reg.LNK_STATUS_WIDTH l))
    have x := if k = 0 then putBits x 8 192 w else putBits x (slotAt k) 3200 w
    s.setLk l { s.lk l with frame := some (t, x) }
  | none => s

/-- Send an LCW of a TYPE and VAR on link `l`. -/
def State.sendLcw (s : State) (l typ var : Nat) : State :=
  have s := s.lcwOut l (lcwSeal (2 ^ 172 * typ + 2 ^ 57 * (var % 2 ^ 115) + (s.lcwShown l).fields))
  s.setLk l { s.lk l with prevCred := typ == 4, lcwSent := some s.wireTick }

/-- The stamp of a beacon that leaves now, in sixteenths modulo 2^28: local monotonic while FREE (R40, R41). -/
def State.stampNow (s : State) : Nat := s.beaconTime % 2 ^ 28

/-- Send a beacon response: t3 and the next HIGH_INDEX at departure (R33). -/
def State.sendRsp (s : State) (l : Nat) (b : Beacon) : State :=
  have i := SMap.get (fun _ => 0) s.crown.hiIdx l
  have s := s.setLk l { s.lk l with pendRsp := none }
  have s := s.sendLcw l 2 (beaconVar { b with stampB := s.stampNow, highIndex := i, highSlice := crownSlice s.now i })
  { s with crown := { s.crown with hiIdx := SMap.set (fun _ => 0) s.crown.hiIdx l ((i + 1) % 3) } }

/-- Send a beacon request: t1 at departure, in the base that stamps beacons (R41), kept for its exchange (R33, R39). Its
HIGH_INDEX is 0: the rotation is a response's (log entry 56). -/
def State.sendReq (s : State) (l : Nat) (b : Beacon) : State :=
  have t1 := s.beaconTime
  have s := s.setLk l { s.lk l with pendReq := none }
  have s := s.sendLcw l 1 (beaconVar { b with stampA := t1 % 2 ^ 28, stampB := 0, highIndex := 0, highSlice := crownSlice s.now 0 })
  have req := match s.crown.req with
    | some (q, t, c) => if q = b.seq then some (q, t1, c) else some (q, t, c)
    | none => none
  have mon := s.crown.mon.map fun m => if m.1 = l ∧ m.2.1 = b.seq then (m.1, m.2.1, t1) else m
  { s with crown := { s.crown with req := req, mon := mon } }

/-- Send a TRAIN word (R132, R149). -/
def State.sendTrain (s : State) (l code : Nat) : State :=
  have x := s.lk l
  have s := s.setLk l { x with pendTrain := none }
  s.sendLcw l 3 (2 ^ 111 * code + 2 ^ 47 * (s.rd Reg.GEN_SERIAL_SERIAL) + 2 ^ 42 * l + 2 ^ 38 * x.propWidth + 2 ^ 35 * x.propGroup)

/-- VAR of an IDENT word (R132). -/
def State.identVar (s : State) (l : Nat) : Nat :=
  2 ^ 51 * (s.rd Reg.GEN_SERIAL_SERIAL) + 2 ^ 46 * l + 2 ^ 34 * (s.rd Reg.RTE_SELF_ID) + 2 ^ 22 * (s.rd Reg.CUF_MITTEN_MITTEN)

/-- Send an IDENT word (R132). -/
def State.sendIdent (s : State) (l : Nat) : State :=
  have v := s.identVar l
  (s.setLk l { s.lk l with identAt := some s.cyc, identVar := some v }).sendLcw l 5 v

/-- No IDENT has been sent in the last 1,024 ct (R133, order 3). -/
def State.identDue (s : State) (l : Nat) : Bool :=
  match (s.lk l).identAt with
  | some t => decide (t + 1024 ≤ s.cyc)
  | none => true

/-- An IDENT is pending at its second place in R133's order when it would tell something new (log entry 33). -/
def State.identNew (s : State) (l : Nat) : Bool := (s.lk l).identVar != some (s.identVar l)

/-- Send the freed-slot counts of a far link, VC 7 first (R132, R172). -/
def State.sendCredit (s : State) (l : Nat) : State :=
  have fs := (s.lk l).freed
  have var := (List.range 8).foldl (fun a v => a + 2 ^ (43 + 9 * v) * (SMap.get (fun _ => 0) fs v % 512)) 0
  have s := s.setLk l { s.lk l with pendCred := false }
  s.sendLcw l 4 var

/-- The items of R133 from IDENT on, in their order; with none pending the LCW is NONE. -/
def State.sendLater (s : State) (l : Nat) : State :=
  have x := s.lk l
  have v := s.lcwShown l
  have cred : Bool := isFar l && x.pendCred && v.cred
  if s.identDue l then s.sendIdent l
  else if cred && !x.prevCred then s.sendCredit l
  else
    match (if v.req then x.pendReq else none) with
    | some b => s.sendReq l b
    | none => if s.identNew l then s.sendIdent l else if cred then s.sendCredit l else s.sendLcw l 0 0

/-- The frame of `w` lanes that was in progress has been sent whole (R122). -/
def State.frameEnd (s : State) (l w : Nat) : State :=
  match (s.lk l).frame with
  | some (t, x) => s.emit (.frame l t (frameLanes w x))
  | none => s

/-- A frame starts on link `l` (R122, R125): its frame word, and null flits until something departs (R128). -/
def State.frameNext (s : State) (l w : Nat) : State :=
  have t := s.wireTick
  s.setLk l { s.lk l with frame := some (t, frameStart (frameWord w l (t / frameLen w))) }

/-- This end's NEGOTIATE fields (R144): its proposal, or once the peer's is known the lane group it wants at the agreed width. -/
def State.ownFields (s : State) (l : Nat) : PeerFields :=
  have x := s.lk l
  { serial := s.rd Reg.GEN_SERIAL_SERIAL, link := l, seat := s.rd Reg.GEN_PLAN_SEAT_SEAT, width := x.propWidth, group := x.propGroup,
    expS := s.rd (Reg.LNK_SEQ_SCHED_RX_EXPECT l), expL := s.rd (Reg.LNK_SEQ_LOOSE_RX_EXPECT l), fresh := x.fresh }

/-- What a crown tick does on one link (R122, R134, R144): the view of it that LCWs will carry, the start of a frame while UP, and a
training frame every 32 ct while it trains. -/
def State.linkTick (s : State) (l : Nat) : State :=
  if s.isUp l then
    have w := s.rd (Reg.LNK_STATUS_WIDTH l)
    have s := s.setLk l { s.lk l with past := (s.lcwView l :: (s.lk l).past).take 4 }
    if s.wireTick % frameLen w = 0 then (s.frameEnd l w).frameNext l w else s
  else if s.lstate l ≠ 0 ∧ s.wireTick % 32 = 0 then
    s.emit (.training l (trainFrame (s.lstate l) (s.ownFields l) (s.rd (Reg.LNK_SCHED_STATUS_FLIGHT l)) (Config.pipeLatency l)))
  else s

end Sys2Proof.Machine
end

