-- ==== Sys2Proof/Machine/Crypto.lean ====
section
/-! DEFINITION. Sys2Proof/Machine/Crypto.lean: the published algorithms the spec names: SHA-384 (FIPS 180-4), ECDSA over P-384
(FIPS 186-5), and AES-256-GCM (SP 800-38D), for images (R294, R296) and BRP datagrams (R331). -/
namespace Sys2Proof.Machine

/-- Big-endian bytes of a number. -/
def beBytes (n x : Nat) : List Byte := (leBytes n x).reverse

/-- The number big-endian bytes spell. -/
def ofBeBytes (l : List Byte) : Nat := l.foldl (fun a b => 256 * a + b.toNat) 0

/-- Round constants of SHA-384. -/
def shaK : List Nat :=
  [0x428A2F98D728AE22, 0x7137449123EF65CD, 0xB5C0FBCFEC4D3B2F, 0xE9B5DBA58189DBBC] ++
  [0x3956C25BF348B538, 0x59F111F1B605D019, 0x923F82A4AF194F9B, 0xAB1C5ED5DA6D8118] ++
  [0xD807AA98A3030242, 0x12835B0145706FBE, 0x243185BE4EE4B28C, 0x550C7DC3D5FFB4E2] ++
  [0x72BE5D74F27B896F, 0x80DEB1FE3B1696B1, 0x9BDC06A725C71235, 0xC19BF174CF692694] ++
  [0xE49B69C19EF14AD2, 0xEFBE4786384F25E3, 0x0FC19DC68B8CD5B5, 0x240CA1CC77AC9C65] ++
  [0x2DE92C6F592B0275, 0x4A7484AA6EA6E483, 0x5CB0A9DCBD41FBD4, 0x76F988DA831153B5] ++
  [0x983E5152EE66DFAB, 0xA831C66D2DB43210, 0xB00327C898FB213F, 0xBF597FC7BEEF0EE4] ++
  [0xC6E00BF33DA88FC2, 0xD5A79147930AA725, 0x06CA6351E003826F, 0x142929670A0E6E70] ++
  [0x27B70A8546D22FFC, 0x2E1B21385C26C926, 0x4D2C6DFC5AC42AED, 0x53380D139D95B3DF] ++
  [0x650A73548BAF63DE, 0x766A0ABB3C77B2A8, 0x81C2C92E47EDAEE6, 0x92722C851482353B] ++
  [0xA2BFE8A14CF10364, 0xA81A664BBC423001, 0xC24B8B70D0F89791, 0xC76C51A30654BE30] ++
  [0xD192E819D6EF5218, 0xD69906245565A910, 0xF40E35855771202A, 0x106AA07032BBD1B8] ++
  [0x19A4C116B8D2D0C8, 0x1E376C085141AB53, 0x2748774CDF8EEB99, 0x34B0BCB5E19B48A8] ++
  [0x391C0CB3C5C95A63, 0x4ED8AA4AE3418ACB, 0x5B9CCA4F7763E373, 0x682E6FF3D6B2B8A3] ++
  [0x748F82EE5DEFB2FC, 0x78A5636F43172F60, 0x84C87814A1F0AB72, 0x8CC702081A6439EC] ++
  [0x90BEFFFA23631E28, 0xA4506CEBDE82BDE9, 0xBEF9A3F7B2C67915, 0xC67178F2E372532B] ++
  [0xCA273ECEEA26619C, 0xD186B8C721C0C207, 0xEADA7DD6CDE0EB1E, 0xF57D4F7FEE6ED178] ++
  [0x06F067AA72176FBA, 0x0A637DC5A2C898A6, 0x113F9804BEF90DAE, 0x1B710B35131C471B] ++
  [0x28DB77F523047D84, 0x32CAAB7B40C72493, 0x3C9EBE0A15C9BEBC, 0x431D67C49C100D4C] ++
  [0x4CC5D4BECB3E42B6, 0x597F299CFC657E2A, 0x5FCB6FAB3AD6FAEC, 0x6C44198C4A475817]

/-- Initial hash value of SHA-384. -/
def shaH : List Nat :=
  [0xCBBB9D5DC1059ED8, 0x629A292A367CD507, 0x9159015A3070DD17, 0x152FECD8F70E5939] ++
  [0x67332667FFC00B31, 0x8EB44A8768581511, 0xDB0C2E0D64F98FA7, 0x47B5481DBEFA4FA4]

/-- Rotate a 64-bit word right. -/
def ror64 (x : Word) (n : Nat) : Word := (x >>> n) ||| (x <<< (64 - n))

/-- The next word of a message schedule whose last sixteen words are `w`, newest first. -/
def shaNextW (w : List Word) : Word :=
  have a := w.getD 1 0
  have b := w.getD 14 0
  (ror64 a 19 ^^^ ror64 a 61 ^^^ (a >>> 6)) + w.getD 6 0 + (ror64 b 1 ^^^ ror64 b 8 ^^^ (b >>> 7)) + w.getD 15 0

/-- Extend a message schedule, newest first, by `n` words. -/
def shaSchedule (w : List Word) : Nat → List Word
  | 0 => w
  | n + 1 => shaSchedule (shaNextW w :: w) n

/-- One round: the working variables a to h, and a schedule word with its constant. -/
def shaRound (v : List Word) (wk : Word × Nat) : List Word :=
  match v with
  | [a, b, c, d, e, f, g, h] =>
    have t1 := h + (ror64 e 14 ^^^ ror64 e 18 ^^^ ror64 e 41) + ((e &&& f) ^^^ (~~~e &&& g)) + BitVec.ofNat 64 wk.2 + wk.1
    have t2 := (ror64 a 28 ^^^ ror64 a 34 ^^^ ror64 a 39) + ((a &&& b) ^^^ (a &&& c) ^^^ (b &&& c))
    [t1 + t2, a, b, c, d + t1, e, f, g]
  | v => v

/-- Compress one 128-byte block. -/
def shaBlock (h : List Word) (blk : List Byte) : List Word :=
  have w0 := (List.range 16).map fun i => BitVec.ofNat 64 (ofBeBytes ((blk.drop (8 * i)).take 8))
  have w := (shaSchedule w0.reverse 64).reverse
  (h.zip ((w.zip shaK).foldl shaRound h)).map fun p => p.1 + p.2

/-- Compress `n` blocks. -/
def shaBlocks (h : List Word) (m : List Byte) : Nat → List Word
  | 0 => h
  | n + 1 => shaBlocks (shaBlock h (m.take 128)) (m.drop 128) n

/-- SHA-384 of a message, as a 384-bit number (its bytes in big-endian order). -/
def sha384 (m : List Byte) : Nat :=
  have pad := List.replicate ((239 - m.length % 128) % 128) (0 : Byte)
  have p := m ++ [0x80] ++ pad ++ beBytes 16 (8 * m.length)
  have h := shaBlocks (shaH.map (BitVec.ofNat 64)) p (p.length / 128)
  (h.take 6).foldl (fun a w => 2 ^ 64 * a + w.toNat) 0

/-- b^e mod m, taking `n` bits of e. -/
def powModN (m : Nat) : Nat → Nat → Nat → Nat
  | 0, _, _ => 1 % m
  | n + 1, b, e => (if e % 2 = 1 then b else 1) * powModN m n (b * b % m) (e / 2) % m

/-- The inverse modulo a 384-bit prime. -/
def invMod (m a : Nat) : Nat := powModN m 384 (a % m) (m - 2)

/-- P-384: the field prime, the group order, b, and the base point. -/
def p384P : Nat := 0xFFFFFFFFFFFFFFFFFFFFFFFFFFFFFFFFFFFFFFFFFFFFFFFFFFFFFFFFFFFFFFFEFFFFFFFF0000000000000000FFFFFFFF
def p384N : Nat := 0xFFFFFFFFFFFFFFFFFFFFFFFFFFFFFFFFFFFFFFFFFFFFFFFFC7634D81F4372DDF581A0DB248B0A77AECEC196ACCC52973
def p384B : Nat := 0xB3312FA7E23EE7E4988E056BE3F82D19181D9C6EFE8141120314088F5013875AC656398D8A2ED19D2A85C8EDD3EC2AEF
def p384Gx : Nat := 0xAA87CA22BE8B05378EB1C71EF320AD746E1D3B628BA79B9859F741E082542A385502F25DBF55296C3A545E3872760AB7
def p384Gy : Nat := 0x3617DE4A96262C6F5D9E98BF9292DC29F8F41DBD289A147CE9DA3113B5F0B8C00A60B1CE1D7E819D7A431D7C90EA0E5F

/-- Difference in the field. -/
def fsub (a b : Nat) : Nat := (a + p384P - b % p384P) % p384P

/-- The sum of two points; none is the point at infinity. -/
def ptAdd : Option (Nat × Nat) → Option (Nat × Nat) → Option (Nat × Nat)
  | none, q => q
  | p, none => p
  | some (x1, y1), some (x2, y2) =>
    if x1 = x2 ∧ (y1 + y2) % p384P = 0 then none
    else
      have l := if x1 = x2 then fsub (3 * x1 * x1) 3 * invMod p384P (2 * y1) % p384P
               else fsub y2 y1 * invMod p384P (fsub x2 x1) % p384P
      have x3 := fsub (l * l) (x1 + x2)
      some (x3, fsub (l * fsub x1 x3) y1)

/-- `k` times a point, taking `n` bits of k. -/
def ptMul : Nat → Nat → Option (Nat × Nat) → Option (Nat × Nat)
  | 0, _, _ => none
  | n + 1, k, p => ptAdd (if k % 2 = 1 then p else none) (ptMul n (k / 2) (ptAdd p p))

/-- ECDSA over P-384: the public key (x, y), the hash of the message, and the signature (r, s) (FIPS 186-5). -/
def ecdsaOk (qx qy e r sg : Nat) : Bool :=
  have inRange := decide (0 < r ∧ r < p384N ∧ 0 < sg ∧ sg < p384N ∧ qx < p384P ∧ qy < p384P)
  have onCurve := qy * qy % p384P == fsub (qx * qx * qx + p384B) (3 * qx)
  if !inRange || !onCurve then false
  else
    have w := invMod p384N sg
    match ptAdd (ptMul 384 (e * w % p384N) (some (p384Gx, p384Gy))) (ptMul 384 (r * w % p384N) (some (qx, qy))) with
    | some (x, _) => x % p384N == r
    | none => false

/-- The S-box of AES. -/
def aesSbox : List Nat :=
  [0x63, 0x7C, 0x77, 0x7B, 0xF2, 0x6B, 0x6F, 0xC5, 0x30, 0x01, 0x67, 0x2B, 0xFE, 0xD7, 0xAB, 0x76] ++
  [0xCA, 0x82, 0xC9, 0x7D, 0xFA, 0x59, 0x47, 0xF0, 0xAD, 0xD4, 0xA2, 0xAF, 0x9C, 0xA4, 0x72, 0xC0] ++
  [0xB7, 0xFD, 0x93, 0x26, 0x36, 0x3F, 0xF7, 0xCC, 0x34, 0xA5, 0xE5, 0xF1, 0x71, 0xD8, 0x31, 0x15] ++
  [0x04, 0xC7, 0x23, 0xC3, 0x18, 0x96, 0x05, 0x9A, 0x07, 0x12, 0x80, 0xE2, 0xEB, 0x27, 0xB2, 0x75] ++
  [0x09, 0x83, 0x2C, 0x1A, 0x1B, 0x6E, 0x5A, 0xA0, 0x52, 0x3B, 0xD6, 0xB3, 0x29, 0xE3, 0x2F, 0x84] ++
  [0x53, 0xD1, 0x00, 0xED, 0x20, 0xFC, 0xB1, 0x5B, 0x6A, 0xCB, 0xBE, 0x39, 0x4A, 0x4C, 0x58, 0xCF] ++
  [0xD0, 0xEF, 0xAA, 0xFB, 0x43, 0x4D, 0x33, 0x85, 0x45, 0xF9, 0x02, 0x7F, 0x50, 0x3C, 0x9F, 0xA8] ++
  [0x51, 0xA3, 0x40, 0x8F, 0x92, 0x9D, 0x38, 0xF5, 0xBC, 0xB6, 0xDA, 0x21, 0x10, 0xFF, 0xF3, 0xD2] ++
  [0xCD, 0x0C, 0x13, 0xEC, 0x5F, 0x97, 0x44, 0x17, 0xC4, 0xA7, 0x7E, 0x3D, 0x64, 0x5D, 0x19, 0x73] ++
  [0x60, 0x81, 0x4F, 0xDC, 0x22, 0x2A, 0x90, 0x88, 0x46, 0xEE, 0xB8, 0x14, 0xDE, 0x5E, 0x0B, 0xDB] ++
  [0xE0, 0x32, 0x3A, 0x0A, 0x49, 0x06, 0x24, 0x5C, 0xC2, 0xD3, 0xAC, 0x62, 0x91, 0x95, 0xE4, 0x79] ++
  [0xE7, 0xC8, 0x37, 0x6D, 0x8D, 0xD5, 0x4E, 0xA9, 0x6C, 0x56, 0xF4, 0xEA, 0x65, 0x7A, 0xAE, 0x08] ++
  [0xBA, 0x78, 0x25, 0x2E, 0x1C, 0xA6, 0xB4, 0xC6, 0xE8, 0xDD, 0x74, 0x1F, 0x4B, 0xBD, 0x8B, 0x8A] ++
  [0x70, 0x3E, 0xB5, 0x66, 0x48, 0x03, 0xF6, 0x0E, 0x61, 0x35, 0x57, 0xB9, 0x86, 0xC1, 0x1D, 0x9E] ++
  [0xE1, 0xF8, 0x98, 0x11, 0x69, 0xD9, 0x8E, 0x94, 0x9B, 0x1E, 0x87, 0xE9, 0xCE, 0x55, 0x28, 0xDF] ++
  [0x8C, 0xA1, 0x89, 0x0D, 0xBF, 0xE6, 0x42, 0x68, 0x41, 0x99, 0x2D, 0x0F, 0xB0, 0x54, 0xBB, 0x16]

/-- One byte through the S-box. -/
def subByte (b : Nat) : Nat := aesSbox.getD b 0

/-- Times x in the field of AES. -/
def aesDouble (a : Nat) : Nat := if 128 ≤ a then (2 * a % 256) ^^^ 0x1B else 2 * a

/-- The next four-byte word of the 256-bit key schedule; `w` holds the words so far, newest first. -/
def aesNextWord (w : List (List Nat)) : List Nat :=
  have i := w.length
  have t := w.getD 0 []
  have t :=
    if i % 8 = 0 then
      (match (t.rotateLeft 1).map subByte with
       | [] => []
       | b :: bs => (b ^^^ 2 ^ (i / 8 - 1)) :: bs)
    else if i % 8 = 4 then t.map subByte else t
  (t.zip (w.getD 7 [])).map fun p => p.1 ^^^ p.2

/-- Extend a key schedule by `n` words. -/
def aesExpand (w : List (List Nat)) : Nat → List (List Nat)
  | 0 => w
  | n + 1 => aesExpand (aesNextWord w :: w) n

/-- The fifteen round keys of a 256-bit key, 16 bytes each. -/
def aesKeys (key : Nat) : List (List Nat) :=
  have kb := (beBytes 32 key).map BitVec.toNat
  have w0 := (List.range 8).map fun i => (kb.drop (4 * i)).take 4
  have w := (aesExpand w0.reverse 52).reverse
  (List.range 15).map fun i => ((w.drop (4 * i)).take 4).flatten

/-- XOR of two byte lists. -/
def xorL (a b : List Nat) : List Nat := (a.zip b).map fun p => p.1 ^^^ p.2

/-- Substitute and shift rows: byte i of the result comes from column i / 4 + row. -/
def aesSubShift (x : List Nat) : List Nat :=
  (List.range 16).map fun i => subByte (x.getD ((i / 4 + i % 4) % 4 * 4 + i % 4) 0)

/-- Mix one byte of a column. -/
def aesMix (x : List Nat) : List Nat :=
  (List.range 16).map fun i =>
    have c := i / 4 * 4
    have a := x.getD (c + i % 4) 0
    have b := x.getD (c + (i + 1) % 4) 0
    aesDouble a ^^^ (aesDouble b ^^^ b) ^^^ x.getD (c + (i + 2) % 4) 0 ^^^ x.getD (c + (i + 3) % 4) 0

/-- Encrypt one block of 16 bytes. -/
def aesBlock (keys : List (List Nat)) (x : List Nat) : List Nat :=
  have x := xorL x (keys.getD 0 [])
  have x := ((keys.drop 1).take 13).foldl (fun x k => xorL (aesMix (aesSubShift x)) k) x
  xorL (aesSubShift x) (keys.getD 14 [])

/-- Encrypt one block given as a big-endian number. -/
def aesNum (keys : List (List Nat)) (x : Nat) : Nat :=
  (aesBlock keys ((beBytes 16 x).map BitVec.toNat)).foldl (fun a b => 256 * a + b) 0

/-- Product in GF(2^128) as GCM orders its bits, taking bits of `x` from the highest. -/
def ghMul (x v : Nat) : Nat → Nat
  | 0 => 0
  | n + 1 => (if nbit x n then v else 0) ^^^ ghMul x (if v % 2 = 1 then v / 2 ^^^ (0xE1 * 2 ^ 120) else v / 2) n

/-- Blocks of 16 bytes as big-endian numbers, the last padded with zeros. -/
def gcmBlocks (m : List Byte) : List Nat :=
  (List.range ((m.length + 15) / 16)).map fun i =>
    have b := (m.drop (16 * i)).take 16
    ofBeBytes b * 2 ^ (8 * (16 - b.length))

/-- GHASH. -/
def ghash (h : Nat) (bs : List Nat) : Nat := bs.foldl (fun y b => ghMul (y ^^^ b) h 128) 0

/-- Counter mode from counter 2 on (encryption and decryption alike). -/
def gcmCtr (keys : List (List Nat)) (iv : Nat) (m : List Byte) : List Byte :=
  have ks := (List.range ((m.length + 15) / 16)).flatMap fun i => beBytes 16 (aesNum keys (2 ^ 32 * iv + 2 + i))
  (m.zip ks).map fun p => p.1 ^^^ p.2

/-- The GCM tag over additional data and ciphertext. -/
def gcmTag (keys : List (List Nat)) (iv : Nat) (aad ct : List Byte) : Nat :=
  have h := aesNum keys 0
  ghash h (gcmBlocks aad ++ gcmBlocks ct ++ [2 ^ 64 * (8 * aad.length) + 8 * ct.length]) ^^^ aesNum keys (2 ^ 32 * iv + 1)

end Sys2Proof.Machine
end

