-- ==== Sys2Proof/Machine/Load.lean ====
section
/-! DEFINITION. Sys2Proof/Machine/Load.lean: the load's life: what a module needs and holds, the checks of VERIFYING, admission,
arming, conversion of a start time, refusal and image start (R293 to R317, R367). -/
namespace Sys2Proof.Machine

/-- Refuse a load command or write (R310). -/
def State.ldrRefuse (s : State) : State := s.flag Reg.LDR_STATUS_WR_REFUSED

/-- The module is a broadcast source: it needs every chunk (R323). -/
def State.isSource (s : State) : Bool := s.rd Reg.LDR_BCAST_CFG_ROLE == 2

/-- Every chunk of a range is held. -/
def State.holdsAll (s : State) (first n : Nat) : Bool := (List.range n).all fun i => s.hasChunk (first + i)

/-- The header and the whole section table are held (R321). -/
def State.tableHeld (s : State) : Bool := s.hasChunk 0 && s.holdsAll s.tableChunk s.tableChunks

/-- A section is held whole. -/
def State.sectionHeld (s : State) (x : Section) : Bool := s.holdsAll x.first x.chunks

/-- The shared section of a type is held. -/
def State.sharedHeld (s : State) (t : Nat) : Bool :=
  match s.findSection t 0xFFFF with
  | some x => s.sectionHeld x
  | none => false

/-- The module's variant can be read: the manifest and VMODS are held. -/
def State.variantKnown (s : State) : Bool := s.sharedHeld 1 && s.sharedHeld 2

/-- The module needs a section: a shared one of the image's kind, or one of its variant (R310). -/
def State.needsSection (s : State) (known : Bool) (x : Section) : Bool :=
  s.isSource || (if s.imgKind = 1 then x.shared && 0x100 ≤ x.typ
                 else (x.shared && x.typ < 0x100) || (known && !x.shared && x.variant == s.variant))

/-- The chunks the module needs, as far as it knows them: ranges of first chunk and count (R310, R321). -/
def State.neededRanges (s : State) : List (Nat × Nat) :=
  if !s.hasChunk 0 then [(0, 1)]
  else if !s.tableHeld then [(0, 1), (s.tableChunk, s.tableChunks)]
  else if s.isSource then [(0, s.imgChunks)]
  else
    have known := s.variantKnown
    [(0, 1), (s.tableChunk, s.tableChunks)] ++
      ((s.imgSections.filter (s.needsSection known)).map fun x => (x.first, x.chunks))

/-- Chunk `c` is needed. -/
def inRanges (rs : List (Nat × Nat)) (c : Nat) : Bool := rs.any fun r => r.1 ≤ c && c < r.1 + r.2

/-- Needed chunks not held. -/
def State.missingIn (s : State) (rs : List (Nat × Nat)) : List Nat :=
  rs.flatMap fun r => (List.range r.2).filterMap fun i => if s.hasChunk (r.1 + i) then none else some (r.1 + i)

/-- Nothing needed is missing and no more can come to be known (R310). -/
def State.loadComplete (s : State) : Bool :=
  s.tableHeld && (s.isSource || s.imgKind == 1 || s.variantKnown) && (s.missingIn s.neededRanges).isEmpty

/-- The placed section of this module that a chunk belongs to (R295). -/
def State.placedIn (s : State) (c : Nat) : Option Section :=
  if !s.tableHeld || s.imgKind == 1 || !s.variantKnown then none
  else s.imgSections.find? fun x =>
    placedType x.typ && (x.shared || x.variant == s.variant) && x.first ≤ c && c < x.first + x.chunks

/-- The order in which the load area keeps chunks (the layout is the model's): header, table, shared sections, the unplaced
sections of the variant, and on a source the sections of other variants. -/
def State.areaRanges (s : State) : List (Nat × Nat) :=
  have own := fun (x : Section) => s.imgKind == 1 || x.shared || (x.variant == s.variant && !placedType x.typ)
  have other := fun (x : Section) => s.isSource && !x.shared && x.variant != s.variant
  [(0, 1), (s.tableChunk, s.tableChunks)] ++ ((s.imgSections.filter own) ++ s.imgSections.filter other).map fun x => (x.first, x.chunks)

/-- How many chunks of some ranges come before chunk `c`; none when it is in no range. -/
def slotIn (c : Nat) : List (Nat × Nat) → Option Nat
  | [] => none
  | r :: rs => if r.1 ≤ c ∧ c < r.1 + r.2 then some (c - r.1) else (slotIn c rs).map fun n => n + r.2

/-- Byte address of chunk `c` in the load area, once the variant is known; none outside LDR_AREA. -/
def State.areaAddr (s : State) (c : Nat) : Option Nat :=
  if !s.tableHeld || !(s.imgKind == 1 || s.variantKnown) then none
  else
    match slotIn c s.areaRanges with
    | some n =>
      have a := 65536 * s.rd Reg.LDR_AREA_BASE + 4096 * n
      if a + 4096 ≤ 65536 * s.rd Reg.LDR_AREA_LIMIT then some a else none
    | none => none

/-- The contents of a chunk held: from its place in HBM, or from the load area. -/
def State.chunkNum (s : State) (c : Nat) : Nat :=
  match s.placedIn c with
  | some x => ofLeBytes (s.hbmBytes (x.place + 4096 * (c - x.first)) 4096)
  | none => s.chunk c

/-- LENGTH bytes of a section held. -/
def State.sectionBytes (s : State) (x : Section) : List Byte :=
  ((List.range x.chunks).flatMap fun i => leBytes 4096 (s.chunkNum (x.first + i))).take x.length

/-- Show LDR_STATUS.MISSING and VARIANT. -/
def State.showLoad (s : State) : State :=
  have s := s.wr Reg.LDR_STATUS_MISSING (s.missingIn s.neededRanges).length
  if s.tableHeld && s.imgKind == 0 && s.variantKnown then s.wr Reg.LDR_STATUS_VARIANT s.variant else s

/-- Item 1 of R311. -/
def State.checkHeader (s : State) : Option RefArgs :=
  if s.hdr 0 4 ≠ 0x314E5753 then some { reason := 1, sub := 1 }
  else if s.hdr 4 2 ≠ 1 ∨ s.hdr 6 2 ≠ 0 then some { reason := 1, sub := 2 }
  else if 1 < s.imgKind ∨ s.imgChunks < 2 ∨ 2 ^ 24 < s.imgChunks ∨ s.tableChunk = 0 ∨ s.sectionCount = 0
      ∨ s.imgChunks < s.tableChunk + s.tableChunks ∨ s.hdr 8 8 = 0 ∨ s.hdr 0x1C 228 ≠ 0 ∨ s.hdr 0x1C1 63 ≠ 0
      ∨ s.hdr 0x200 3584 ≠ 0 then
    some { reason := 1, sub := 3 }
  else none

/-- The signed message (R296): the header with SIGNATURE 0, then the section table. -/
def State.signedMessage (s : State) : List Byte :=
  have h := leBytes 512 (s.chunk 0)
  have t := (List.range s.tableChunks).flatMap fun i => leBytes 4096 (s.chunk (s.tableChunk + i))
  h.take 0x100 ++ List.replicate 96 0 ++ h.drop 0x160 ++ t.take (128 * s.sectionCount)

/-- The hash a key slot holds (R296); 0 when empty. -/
def State.keyHash (s : State) : Nat :=
  if s.keySlot = 0xFF then s.boot.fwHash
  else if s.keySlot < 4 then SMap.get (fun _ => 0) s.boot.keys s.keySlot
  else 0

/-- Item 2 of R311 (R296). -/
def State.checkSignature (s : State) : Option RefArgs :=
  have h := leBytes 512 (s.chunk 0)
  have key := (h.drop 0x160).take 97
  have num := fun (o n : Nat) => ofBeBytes ((h.drop o).take n)
  have good := decide (s.keyHash ≠ 0) && sha384 key == s.keyHash && key.head? == some 4
    && (s.keySlot == 0xFF) == (s.imgKind == 1)
    && ecdsaOk (num 0x161 48) (num 0x191 48) (sha384 s.signedMessage) (num 0x100 48) (num 0x130 48)
  if good then none else some { reason := 2 }

/-- Padding that R294 requires to be 0: past the last entry of the table, and past a section's LENGTH in its last chunk, as far as the
module holds those chunks. -/
def State.tablePad (s : State) : Bool :=
  have used := 128 * s.sectionCount - 4096 * (s.tableChunks - 1)
  s.chunk (s.tableChunk + s.tableChunks - 1) / 2 ^ (8 * used) % 2 ^ (8 * (4096 - used)) == 0
def State.sectionPad (s : State) (x : Section) : Bool :=
  have last := x.first + x.chunks - 1
  have used := x.length - 4096 * (x.chunks - 1)
  !s.hasChunk last || s.chunkNum last / 2 ^ (8 * used) % 2 ^ (8 * (4096 - used)) == 0

/-- Section `i` breaks R294; `prev` is the first chunk free after those before it. -/
def State.tableBad (s : State) (prev : Nat) (x : Section) : Bool :=
  x.rsv != 0 || decide (x.first < prev) || x.chunks == 0 || decide (s.imgChunks < x.first + x.chunks)
    || decide (x.length ≤ 4096 * (x.chunks - 1)) || decide (4096 * x.chunks < x.length)
    || (if placedType x.typ then x.place % 4096 != 0 else x.place != 0) || !s.sectionPad x

/-- A section's type does not fit its scope or the image's kind (R295). -/
def typeBad (kind : Nat) (x : Section) : Bool :=
  if kind = 1 then
    !(x.shared && ((x.typ == 0x100 && x.chunks ≤ 64) || (x.typ == 0x101 && x.chunks ≤ 256)))
  else if x.shared then !(1 ≤ x.typ && x.typ ≤ 4)
  else !(0x10 ≤ x.typ && x.typ ≤ 0x16 && x.variant < 4096)

/-- First chunk free before section `i`. -/
def State.chunksBefore (s : State) (i : Nat) : Nat :=
  if i = 0 then s.tableChunk + s.tableChunks else (s.imgSection (i - 1)).first + (s.imgSection (i - 1)).chunks

/-- The variants that VMODS names (R298). -/
def State.namedVariants (s : State) : List Nat :=
  ((List.range (s.manifest 0 1 * s.manifest 1 1 * s.manifest 2 1)).map fun v => s.sharedNum 2 (16 * v) 2).dedup

/-- How many sections of a type and variant there are. -/
def countSections (l : List Section) (t v : Nat) : Nat := (l.filter fun x => x.typ == t && x.variant == v).length

/-- Sections that R295 requires are missing or doubled. -/
def State.setBad (s : State) : Bool :=
  have l := s.imgSections
  if s.imgKind = 1 then l.any fun x => countSections l x.typ x.variant != 1
  else [1, 2, 3, 4].any (fun t => countSections l t 0xFFFF != 1)
    || l.any (fun x => countSections l x.typ x.variant != 1)
    || s.namedVariants.any fun v => [0x10, 0x11, 0x12, 0x13, 0x14, 0x15].any fun t => countSections l t v != 1

/-- Item 3 of R311. -/
def State.checkTable (s : State) : Option RefArgs :=
  have is := List.range s.sectionCount
  match is.find? fun i => s.tableBad (s.chunksBefore i) (s.imgSection i) with
  | some i => some { reason := 1, sub := 4, obj := 5, index := i }
  | none =>
    match is.find? fun i => typeBad s.imgKind (s.imgSection i) with
    | some i => some { reason := 1, sub := 5, obj := 5, index := i }
    | none =>
      if s.setBad then some { reason := 1, sub := 5 }
      else if s.tablePad then none
      else some { reason := 1, sub := 4, obj := 5, index := s.sectionCount }

/-- Item 4 of R311 (R297, R298). -/
def State.checkGrid (s : State) : Option RefArgs :=
  have vp := s.manifest 0 1
  have vx := s.manifest 1 1
  have vy := s.manifest 2 1
  have v := s.rd Reg.LDR_VMOD_VMOD
  have e := s.sharedNum 2 (16 * s.vIndex v) 8
  have len := match s.findSection 2 0xFFFF with
    | some x => x.length
    | none => 0
  have bad := vp == 0 || decide (64 < vp) || vx == 0 || decide (8 < vx) || vy == 0 || decide (8 < vy)
    || s.manifest 6 2 == 0 || decide (4096 < s.manifest 6 2) || s.segments == 0 || decide (2 ^ 24 ≤ s.segments)
    || decide (len < 16 * (vp * vx * vy)) || !s.inGrid v || decide (s.manifest 6 2 ≤ s.variant)
    || field e 2 1 / 2 != 0 || field e 3 5 != 0
    || [0x10, 0x11, 0x12, 0x13, 0x14, 0x15].any fun t => (s.mySection t).isNone
  if bad then some { reason := 4 } else none

/-- HBM words of chunk `c`, where it is kept: its place, or the load area; none before the LDR knows it (R295, R321). -/
def State.chunkAddr (s : State) (c : Nat) : Option Nat :=
  match s.placedIn c with
  | some x => some (x.place + 4096 * (c - x.first))
  | none => s.areaAddr c

/-- Every word of section `x` in HBM reads as data (R279). -/
def State.sectionReads (s : State) (x : Section) : Bool :=
  (List.range x.chunks).all fun i => ((s.chunkAddr (x.first + i)).map fun a => s.hbmHeld a 4096).getD true

/-- Item 5 of R311: the digest of every section held; one with a poisoned word has none (R279). -/
def State.checkDigests (s : State) : Option RefArgs :=
  ((List.range s.sectionCount).find? fun i =>
    have x := s.imgSection i
    s.sectionHeld x && (!s.sectionReads x || sha384 (s.sectionBytes x) != ofBeBytes (leBytes 48 x.digest))).map fun i =>
      { reason := 3, obj := 5, index := i }

/-- Item 6 of R311. -/
def State.checkVcMask (s : State) : Option RefArgs :=
  if s.manifest 3 1 % 4 ≠ 3 then some { reason := 25 } else none

/-- Item 7 of R311: N_TARGET of every region. -/
def State.checkGrade (s : State) : Option RefArgs :=
  have n := fun (g : Nat) => s.config (8 * g) 1 % 32
  ((List.range 16).find? fun g => n g < gradeMinN s).map fun g =>
    { reason := 6, obj := 6, index := g, value := n g, bound := gradeMinN s }

/-- The grade's power-token budget (R208, R211). -/
def State.tokenBudget (s : State) : Nat :=
  match s.rd Reg.GEN_FUSE_GRADE with
  | 0 => 208
  | 1 => 162
  | _ => 115

/-- Item 8 of R311. -/
def State.checkTokens (s : State) : Option RefArgs :=
  ((List.range s.segments).find? fun i => s.tokenBudget < segTokens (s.segEntry (i + 1))).map fun i =>
    { reason := 7, seg := i + 1, value := segTokens (s.segEntry (i + 1)), bound := s.tokenBudget }

/-- Item 9 of R311 for segment `k` (R113, R164, R303): a tick off multiples of 64 is LOOSE_ALIGN, though it also breaks the
round length. -/
def State.checkSegment (s : State) (k : Nat) : Option RefArgs :=
  have e := s.segEntry k
  have n := segN e
  have dur := segOfs e - s.seamOfs (k - 1)
  have next := if k = s.segments then dur else s.seamOfs (k + 1) - segOfs e
  have named : Bool := segSet e != 0xFFFFFFFF
  if segOfs e % 64 ≠ 0 ∨ segPhase e ≠ s.manifest 5 1 then some { reason := 22, seg := k }
  else if n % 32 ≠ 0 ∨ n = 0 ∨ 32768 < n ∨ dur < 2048 ∨ 65536 < dur ∨ dur % (2 * n) ≠ 0
      ∨ (!named ∧ n ≠ segN (s.segEntry (k - 1))) ∨ (!named ∧ (k = 1 ∨ segResume e)) ∨ segLast e ≠ (k == s.segments)
      ∨ nbits e 89 0 ≠ 0 then
    some { reason := 13, seg := k, value := dur / 2, bound := if dur < 2048 then 1024 else 32768 }
  else if next ≤ segGrace e then some { reason := 14, seg := k, value := segGrace e, bound := next }
  else none

/-- Item 9 of R311. -/
def State.checkSegments (s : State) : Option RefArgs :=
  if s.lengthOf 0x10 ≠ 32 * s.segments then some { reason := 13 }
  else (List.range s.segments).findSome? fun i => s.checkSegment (i + 1)

/-- Item 10 of R311 (R305). -/
def State.checkOps (s : State) : Option RefArgs :=
  (List.range s.segments).findSome? fun i =>
    have a := segFirstOp (s.segEntry (i + 1))
    have b := if i + 1 = s.segments then s.lengthOf 0x11 / 32 else segFirstOp (s.segEntry (i + 2))
    if b < a ∨ 112 < b - a then some { reason := 28, seg := i + 1, value := b - a, bound := 112 } else none

/-- LINKMAP of this module's link `l` (R299). -/
def State.linkMap (s : State) (l : Nat) : Nat := s.sharedNum 4 (96 * s.vIndex (s.rd Reg.LDR_VMOD_VMOD) + 4 * l) 4

/-- Item 11 of R311. -/
def State.checkSeat (s : State) : Option RefArgs :=
  (allLinks.find? fun l =>
    have e := s.linkMap l
    have nbr := match (s.lk l).ident with
      | some i => i.2.1 == nbits e 16 12
      | none => false
    nbit e 31 && !(s.isUp l && s.inMitten l && (!nbit e 30 || s.rdb (Reg.LNK_SCHED_STATUS_FIT l)) && nbr)).map fun l =>
      { reason := 5, obj := 7, index := 32 * s.rd Reg.LDR_VMOD_VMOD + l }

/-- The checks of VERIFYING, in order (R311). -/
def State.imageChecks (s : State) : Option RefArgs :=
  if s.imgKind = 1 then ((s.checkHeader.or s.checkSignature).or s.checkTable).or s.checkDigests
  else
    (((((((((s.checkHeader.or s.checkSignature).or s.checkTable).or s.checkGrid).or s.checkDigests).or s.checkVcMask).or
      s.checkGrade).or s.checkTokens).or s.checkSegments).or s.checkOps).or s.checkSeat

/-- The LDR reads a section held, for its digest, through lead queue 15 (R281, R283, R311). -/
def State.readSection (s : State) (x : Section) : State :=
  if !s.sectionHeld x then s
  else
    s.forEach (List.range x.chunks) fun s i =>
      match s.chunkAddr (x.first + i) with
      | some a => (s.hbmReadN 15 (a / 32) 128).1
      | none => s

/-- The clean loader state of a new load. -/
def State.clearLoad (s : State) : State :=
  have s := ((s.wr Reg.LDR_STATUS_MISSING 0).wr Reg.LDR_STATUS_VARIANT 0).wr Reg.LDR_STATUS_ROUND 0
  have s := s.wr Reg.LDR_BCAST_STATUS_BUSY 0
  { s with ldrs := { s.ldrs with segLost := [], held := [], got := [], asm := [], phase := 0, reports := [], toSend := [] } }

/-- LOAD_OPEN (R307, R310, R317): the driver's load begins; no segment of the new image is valid (log entry 59). -/
def execLoadOpen (s : State) : Host.Outcome State Fault Refusal :=
  if s.ldr ≠ 0 ∨ s.run then .next s.ldrRefuse
  else
    have s := ((((s.clearLoad.wr Reg.LDR_SEG_VALID 0).wr Reg.LDR_STATUS_STATE 1).setReg Reg.LDR_REFUSE0 0).setReg Reg.LDR_REFUSE1 0).setReg
      Reg.LDR_REFUSE2 0
    .next ({ s with ldrs := { s.ldrs with refused := false } }.showLoad)

/-- LOAD_CLOSE (R310, R325). -/
def execLoadClose (s : State) : Host.Outcome State Fault Refusal :=
  if s.run ∨ s.ldr = 8 ∨ s.ldr = 9 ∨ s.ldr = 10 then .next s.ldrRefuse
  else .next (s.clearLoad.wr Reg.LDR_STATUS_STATE 0)

/-- LOAD_VERIFY (R310, R311): VERIFYING begins. -/
def execLoadVerify (s : State) : Host.Outcome State Fault Refusal :=
  if s.ldr ≠ 3 then .next s.ldrRefuse else .next (s.wr Reg.LDR_STATUS_STATE 4)

/-- LOAD_VERIFY_DONE (R311): the checks end. The digests read the sections. -/
def execLoadVerifyDone (s : State) : Host.Outcome State Fault Refusal :=
  if s.ldr ≠ 4 then .next s
  else
    have res := s.imageChecks
    have s := s.forEach s.imgSections State.readSection
    match res with
    | none => .next (s.wr Reg.LDR_STATUS_STATE 5)
    | some r => .next (s.refuseImage r)

/-- The Bonnet's KV pages start free: every page of the declaration (R347, R353). -/
def State.freshPages (s : State) (n : Nat) : State :=
  have s := { s with bar2 := SMap.clear s.bar2 fun o => decide (0x4100000 ≤ o) }
  (s.wr Reg.BON_PAGES_FREE n).wr Reg.BON_PAGES_MIN_FREE n

/-- At admission the Bonnet, and the LDR for its record check, read the declaration that BON_CFG names (R337, R344, R353); one
that cannot be read sets CFG_ERR. -/
def State.readDecl (s : State) : State :=
  have none' : State := { s with ldrs := { s.ldrs with decl := 0, declared := false },
                                 bon := { s.bon with decl := 0, declared := false } }
  if !s.domOn 29 ∨ !s.rdb Reg.BON_CFG_VALID then none'
  else
    have a := s.rd Reg.BON_CFG_ADDR
    have r := s.hbmReadN 14 (a / 32) ((a % 32 + 159) / 32)
    if r.2.any Option.isNone then { r.1 with ldrs := none'.ldrs, bon := none'.bon }.flag Reg.BON_STATUS_CFG_ERR
    else
      have d := joinRWords r.2 / 2 ^ (8 * (a % 32)) % 2 ^ 1024
      have s : State := { r.1 with ldrs := { s.ldrs with decl := d, declared := true },
                                   bon := { s.bon with decl := d, declared := true, reqs := [], record := none, outs := [] } }
      s.freshPages (field d 0x48 4)

/-- ADMIT (R310, R311): the loader admits the image; ignored for a firmware bundle. -/
def execAdmit (s : State) : Host.Outcome State Fault Refusal :=
  if s.ldr ≠ 5 ∨ s.run ∨ s.imgKind = 1 then .next s.ldrRefuse
  else .next ((s.wr Reg.LDR_STATUS_STATE 6).readDecl)

/-- IMAGE_ARM (R305, R314): accepted, or refused with WR_REFUSED, LATE or ARM_ERR. The start segment's entry and the one after it are
fetched. -/
def execImageArm (s : State) : Host.Outcome State Fault Refusal :=
  have j := s.rd Reg.LDR_START_SEG_SEGMENT
  have tick := s.rd Reg.LDR_START_TICK_TICK
  have auto := s.rdb Reg.CUF_CTRL_FILL_AUTO
  have margin := 1024 + (if auto then 9 * segN (s.segEntry j) / 4 else 0)
  if s.ldr ≠ 6 then .next s.ldrRefuse
  else if !s.rdb Reg.CRN_STATUS_RUNNING ∨ tick % 64 ≠ 0 ∨ tick < s.now + margin then .next (s.flag Reg.LDR_STATUS_LATE)
  else if !s.run ∨ !s.rdb Reg.PLM_STATUS_LINER_OK ∨ j = 0 ∨ s.segments < j ∨ (j ≠ 1 ∧ !segResume (s.segEntry j))
      ∨ (!auto ∧ !s.rdb Reg.CUF_STATUS_ARMED) then
    .next (s.flag Reg.LDR_STATUS_ARM_ERR)
  else
    have s := s.wr Reg.LDR_STATUS_STATE 7
    have s := ({ s with ldrs := { s.ldrs with startSeg := j } }.fetchSeg j).fetchSeg (j + 1)
    .next (if auto then (s.wr Reg.CUF_STATUS_ARMED 0).startFill j else s)

/-- The newest sample of a base (R366): 0 PTP-A, 1 PTP-B, 2 output time, 3 local monotonic. -/
def Sample.base (x : Sample) (b : Nat) : Option Nat :=
  match b with
  | 0 => x.a
  | 1 => x.b
  | 2 => x.out
  | _ => some x.mono

/-- ρ of a base from the samples that end with `x` (R366). -/
def Sample.rho (x : Sample) (b : Nat) : Int := Config.bridgeRate (4 * x.c + b)

/-- The crown tick of a time of base `b` in 2^-16 ns (R366): to_crown. -/
def State.toCrown (s : State) (b t : Nat) : Option Int :=
  match s.time.samples.head? with
  | some x => (x.base b).map fun xk =>
      have num : Int := 2 ^ 32 * (((t : Int) - xk))
      have den : Int := 65536 * (2 ^ 32 + x.rho b)
      (x.c : Int) - (-num) / den
  | none => none

/-- The least multiple of 64 not below `t`, in the 64 bits of a tick. -/
def ceil64 (t : Int) : Nat := ((t + 63) / 64 * 64).toNat % 2 ^ 64

/-- CONVERT_START_TIME (R315, R367): LDR_START_PTP of the domain given becomes LDR_START_TICK. -/
def execConvertStartTime (domain : Bool) (s : State) : Host.Outcome State Fault Refusal :=
  have s := s.wrb Reg.LDR_CTRL_DOMAIN domain
  if s.ldr = 7 ∨ s.ldr = 8 then .next s.ldrRefuse
  else if !s.domLocked (b2n domain) ∨ !s.rdb Reg.CRN_STATUS_RUNNING then .next (s.flag Reg.TIME_STATUS_CONV_ERR)
  else
    match s.toCrown (b2n domain) (65536 * (s.rd Reg.LDR_START_PTP_TIME)) with
    | some t => .next (s.wr Reg.LDR_START_TICK_TICK (ceil64 t))
    | none => .next (s.flag Reg.TIME_STATUS_CONV_ERR)

/-- REFUSE (R310, R317): the loader refuses, with what it wrote into LDR_REFUSE0 to LDR_REFUSE2. -/
def execRefuse (s : State) : Host.Outcome State Fault Refusal :=
  if s.ldr < 3 ∨ 7 < s.ldr then .next s.ldrRefuse
  else
    have obj := s.rd Reg.LDR_REFUSE0_OBJ
    have idx := s.rd Reg.LDR_REFUSE1_INDEX
    have s := { s.wr Reg.LDR_STATUS_STATE 11 with ldrs := { s.ldrs with refused := true } }
    .next (s.fault { code := 0x0701, block := 13, cause := s.rd Reg.LDR_REFUSE0_REASON, sub := s.rd Reg.LDR_REFUSE0_SUB,
                     a := 2 ^ 12 * obj + s.rd Reg.LDR_REFUSE0_MODULE, b := idx, c := (s.reg Reg.LDR_REFUSE2).toNat,
                     link := if obj = 1 then idx % 256 else 0xFF, stack := if obj = 3 then idx % 256 else 0xFF,
                     region := if obj = 6 then idx % 256 else 0xFF, op := if obj = 2 then idx else 0xFFFFFFFF })

/-- R45: LOCKED, and every trained link to a module of the mitten last reported LOCKED. -/
def State.startLocked (s : State) : Bool :=
  s.rd Reg.CRN_STATUS_STATE == 2 && allLinks.all fun l =>
    !(s.isUp l && s.inMitten l) || SMap.get (fun _ => 0) s.crown.nbrState l == 2

/-- The image starts at this tick at segment `j` (R53, R96, R306, R314); no segment before `j` counts as valid in this run's
place of it (R307, log entry 59). -/
def State.startImage (s : State) (j : Nat) (fetched : Bool) : State :=
  have t := s.now
  have swapped := s.swapDue j
  have s := s.wr Reg.LDR_STATUS_STATE 8
  have s := { s.wr Reg.CUF_STATUS_RUNNING 1 with
    cuff := { s.cuff with started := true, ended := false, prevOpen := t, prevN := 0, openTick := t, invalid := [] },
    ldrs := { s.ldrs with start := t, nextCheck := 0 },
    bon := { s.bon with nextWin := 0, nextMirror := 0, nextOut := 0 },
    palm := { s.palm with nextFetch := segFirstOp (s.segEntry j), lastSeg := j } }
  have s := (if swapped then s.swapBanks (j - 1) else s).setEsts false
  (s.wr Reg.LDR_SEG_VALID (j - 1)).openNext (j - 1) t swapped fetched

/-- IMAGE_START (R45, R60, R306, R310, R314, R407): at the armed tick; `fetched` says whether the start segment's entry has been
fetched by now. -/
def execImageStart (fetched : Bool) (s : State) : Host.Outcome State Fault Refusal :=
  if s.ldr ≠ 7 ∨ s.now ≠ s.rd Reg.LDR_START_TICK_TICK then .next s
  else if !s.startLocked then
    .next (((s.fault
      { code := 0x0401, block := 2, cause := 10, sub := s.rd Reg.CRN_STATUS_STATE, a := s.rd Reg.CRN_STATUS_HOPS,
        b := (toSigned 16 (s.rd Reg.CRN_OFFSET_OFFSET)).natAbs }).flag Reg.LDR_STATUS_START_FAIL).wr Reg.LDR_STATUS_STATE 5)
  else if s.flt.alarmPend then .next ((s.wr Reg.LDR_STATUS_STATE 8).endScheduled)
  else .next (s.startImage s.ldrs.startSeg fetched)

end Sys2Proof.Machine
end

