-- ==== Sys2Proof/Machine/Phases.lean ====
section
/-! DEFINITION. Sys2Proof/Machine/Phases.lean: what bring-up, power and resets share: the loss of a block's state, domain groups
and their order, the phases of bring-up, and the Liner's RAM copy (R204, R376 to R391, R393, R423 to R425, R445, R446). -/
namespace Sys2Proof.Machine

/-- The region of a physical tile (R203). -/
def regionOfPhys (p : Nat) : Nat := 4 * (p / 68 / 16) + p % 68 / 17

/-- Tiles and cores that receive firmware: physical tiles 0–4,351, Bonnet cores 4,352–4,375 (R324, R397). -/
def fwReceivers : List Nat := List.range 4376

/-- Region `g` loses its state: registers, clock, SRAM, accumulators and tile firmware (R393, R446). -/
def State.loseRegion (s : State) (g : Nat) : State :=
  have s := ((s.clearRegs fun a => domainOf a == some g).setRg g {}).wipeUpsets fun u => u.store == .crossing && u.inst == g
  { s with sram := SMap.clear s.sram fun k => regionOfPhys (k / 36 / 12288) == g,
           palm := { s.palm with acc := SMap.clear s.palm.acc fun k => regionOfPhys (k / 4096) == g },
           ldrs := { s.ldrs with fw := SMap.clear s.ldrs.fw fun k => decide (k < 4352) && regionOfPhys k == g } }

/-- Stack `k`'s controller returns to reset (R445); its record of HARD words with it (R281). -/
def State.loseStackCtl (s : State) (k : Nat) : State :=
  have s := (s.clearRegs fun a => domainOf a == some (16 + k)).wipeUpsets fun u => u.store == .leadQueue && u.inst == k
  { s with mem := { s.mem with
      hard := s.mem.hard.filter fun w => w / stackWords != k, writeBack := s.mem.writeBack.filter fun w => w / stackWords != k,
      capTok := SMap.clear s.mem.capTok (· / 2 == k), capWait := SMap.clear s.mem.capWait (· / 2 == k),
      scrubAt := SMap.clear s.mem.scrubAt (· == k), retrain := SMap.clear s.mem.retrain (· == k), pendKind := SMap.clear s.mem.pendKind (· == k) } }

/-- Stack `k` loses power: its contents are lost as well (R425). -/
def State.loseStack (s : State) (k : Nat) : State :=
  have s := s.loseStackCtl k
  { s with hbm := SMap.clear s.hbm fun a => a / 36 / stackWords == k,
           mem := { s.mem with trainTemp := SMap.clear s.mem.trainTemp (· == k) } }

/-- The Bonnet loses its state: registers, sessions, page table, every store and its firmware (R351, R393). -/
def State.loseBonnet (s : State) : State :=
  have s := ((s.clearRegs fun a => domainOf a == some 29).setRg 16 {}).wipeUpsets fun u => u.store == .bonnet
  { s with bar2 := SMap.clear s.bar2 (fun o => decide (0x4000000 ≤ o)), bon := {},
           ldrs := { s.ldrs with fw := SMap.clear s.ldrs.fw fun k => decide (4352 ≤ k) } }

/-- A register of the Cuff's domains other than LNK_PLAN (R393, R445). -/
def isCuffReg (a : Nat) : Bool :=
  (match domainOf a with
   | some d => decide (24 ≤ d ∧ d ≤ 28)
   | none => false) && !(allLinks.any fun l => a == Reg.LNK_PLAN l)

/-- The Cuff loses its state: RUN clears, every link leaves UP, tables, queues and buffers empty
(R393), and the alarm key table empties (R407, R415). The Palm halts. -/
def State.loseCuff (s : State) : State :=
  have s := (s.clearRun.clearRegs isCuffReg).wipeUpsets fun u => storeBlock u.store == 6 || storeBlock u.store == 7
  have s : State := { s with bar2 := SMap.clear s.bar2 (fun o => decide (o < 0x3000000)), links := [], cuff := {}, route := {},
                             flt := { s.flt with keys := [], fwd := 0 } }
  s.showDisc.wr Reg.PLM_STATUS_HALTED 1

/-- The domains of the groups of R423: the Cuff, the Bonnet, HBM, and the quarters of the Palm. -/
def groupDomains (g : Nat) : List Nat :=
  match g with
  | 0 => [24, 25, 26, 27, 28]
  | 1 => [29]
  | 2 => [16, 17, 18, 19, 20, 21, 22, 23]
  | q => (List.range 4).map fun i => 4 * (q - 3) + i

/-- The groups in order. -/
def allGroups : List Nat := [0, 1, 2, 3, 4, 5, 6]

/-- Set or clear one bit of a field. -/
def State.setBit (s : State) (f : Fld) (i : Nat) (b : Bool) : State :=
  have v := s.rd f
  s.wr f (if b then (if nbit v i then v else v + 2 ^ i) else (if nbit v i then v - 2 ^ i else v))

/-- A domain the driver keeps off by PWR_CTRL (R424). -/
def State.keptOff (s : State) (d : Nat) : Bool :=
  (d < 16 && s.rdb Reg.PWR_CTRL_PALM_OFF) || (16 ≤ d && d < 24 && nbit (s.rd Reg.PWR_CTRL_STACK_OFF) (d - 16))

/-- The domains of a group that are to be on. -/
def State.wanted (s : State) (g : Nat) : List Nat := (groupDomains g).filter fun d => !s.keptOff d

/-- A group has a domain that is to be on and is not good. -/
def State.groupLacks (s : State) (g : Nat) : Bool := (s.wanted g).any fun d => !s.domOn d

/-- The supply warning's step cause holds for every powered region while it lasts (R49, R421). -/
def State.supplyCause (s : State) : State :=
  if s.rd Reg.PWR_STATUS_INPUT = 1 then
    s.forEach ((List.range 16).filter s.domOn) fun s g => s.wr (Reg.RGN_STATUS_STEP_SUPPLY g) 1
  else s

/-- One domain is switched off, and its block loses its state (R424, R425, R446). -/
def State.domainOff (s : State) (d : Nat) : State :=
  have was := nbit (s.rd Reg.PWR_DOMAIN_ON) d
  have s := (s.setBit Reg.PWR_DOMAIN_ON d false).setBit Reg.PWR_DOMAIN_PGOOD d false
  if !was then s
  else if d < 16 then s.loseRegion d
  else if d < 24 then s.loseStack (d - 16)
  else if d = 29 then s.loseBonnet
  else if d = 28 then s.loseCuff
  else s

/-- A group is switched off. -/
def State.groupOff (s : State) (g : Nat) : State := s.forEach (groupDomains g) State.domainOff

/-- GEN_BOOT_STATUS.PHASE: the highest phase running. -/
def State.showPhase (s : State) : State := s.wr Reg.GEN_BOOT_STATUS_PHASE (s.boot.running.foldl max 0)

/-- Bring-up waits for the driver: for GO, for FW_START, or between repairs (R378, R397). -/
def State.waitsDriver (s : State) : Bool :=
  if s.boot.running = [] then s.rd Reg.GEN_BOOT_STATUS_READY == 0 && s.rd Reg.GEN_BOOT_STATUS_STOP_CAUSE == 0
  else s.boot.running.contains 7 && !s.rdb Reg.LDR_FW_STATUS_BUSY

/-- Powering the Palm waits for COOL_OK (R423, R428). -/
def State.waitsCool (s : State) : Bool :=
  (match s.boot.groups with
   | g :: _ => decide (3 ≤ g) && s.boot.groupAt.isNone
   | [] => false) && !s.rdb Reg.PWR_STATUS_COOL_FILT

/-- Show the waits, and count them out of the phase they belong to (R378). -/
def State.showWaits (s : State) : State :=
  have drv := s.waitsDriver
  have cool := s.waitsCool
  have s := (s.wrb Reg.GEN_BOOT_STATUS_WAIT_DRIVER drv).wrb Reg.GEN_BOOT_STATUS_WAIT_COOL cool
  have phase := if s.boot.running.contains 7 then 7 else 2
  match s.boot.waitFrom with
  | none => if drv || cool then { s with boot := { s.boot with waitFrom := some s.cyc } } else s
  | some t =>
    if drv || cool then s
    else
      have w := SMap.get (fun _ => 0) s.boot.waits phase + (s.cyc - t)
      { s with boot := { s.boot with waitFrom := none, waits := SMap.set (fun _ => 0) s.boot.waits phase w } }

/-- Switch on the next group when its time has come (R423). -/
def State.powerStep (s : State) : State :=
  match s.boot.groups, s.boot.groupAt with
  | g :: _, some t =>
    if t ≤ s.cyc then s.forEach (s.wanted g) fun s d => s.setBit Reg.PWR_DOMAIN_ON d true else s
  | _, _ => s

/-- The next group may be switched on no earlier than `t`, and the Palm's only with COOL_OK (R423, R428). -/
def State.powerNext (s : State) (t : Nat) : State :=
  match s.boot.groups with
  | [] => s
  | g :: _ =>
    if s.boot.groupAt.isSome ∨ (3 ≤ g ∧ !s.rdb Reg.PWR_STATUS_COOL_FILT) then s.showWaits
    else ({ s with boot := { s.boot with groupAt := some (max t s.cyc) } }.powerStep).showWaits

/-- A link is enabled by bring-up (R376, phase 5): its training starts in DETECT, in quick form first in warm mode. -/
def State.bringLink (s : State) (l : Nat) : State :=
  have s := ((s.devWr (Reg.LNK_CTRL_EN l) 1).wr (Reg.LNK_TRAIN_INFO_CAUSE l) 1).wr (Reg.LNK_TRAIN_INFO_FAILS l) 0
  (s.setLk l { s.lk l with full := !s.boot.warm, prevWidth := 0 }).setTraining l 1

/-- The work a phase begins with (R376, R387, R388, R390). -/
def State.phaseWork (s : State) (p : Nat) : State :=
  match p with
  | 5 =>
    have s := s.devWr Reg.RTE_SELF_ID (s.rd Reg.GEN_PLAN_SEAT_SEAT)
    s.forEach allLinks State.bringLink
  | 8 => s.forEach allLinks State.evalLink
  | _ => s

/-- A phase starts (R376); the wait for GO is no part of phase 2 (R378). -/
def State.startPhase (s : State) (p : Nat) : State :=
  have b := s.boot
  have s := { s with boot := { b with
      waitFrom := if p = 2 then none else b.waitFrom,
      running := p :: b.running.filter (· != p), ended := b.ended.filter (· != p),
      start := SMap.set (fun _ => 0) b.start p s.cyc, waits := SMap.set (fun _ => 0) b.waits p 0,
      repairs := if p = 7 then 0 else b.repairs } }
  (s.showPhase.phaseWork p).showWaits

/-- A phase ends and its duration is recorded without the waits (R378). -/
def State.stopPhase (s : State) (p : Nat) : State :=
  have d := s.cyc - SMap.get (fun _ => 0) s.boot.start p - SMap.get (fun _ => 0) s.boot.waits p
  have s := { s with boot := { s.boot with running := s.boot.running.filter (· != p), ended := p :: s.boot.ended } }
  ((s.wr (Reg.GEN_PHASE_TIME_RAN (p - 1)) 1).wr (Reg.GEN_PHASE_TIME_DURATION (p - 1)) d).showPhase

/-- Phases that start because a phase has ended (R376). Phase 5 has no end of its own; it ends where phase 8 begins. -/
def State.endPhase (s : State) (p : Nat) : State :=
  if !s.boot.running.contains p then s
  else
    have s := s.stopPhase p
    have both := s.boot.ended.contains 4 && s.boot.ended.contains 6
    match p with
    | 2 => if s.boot.warm then s.startPhase 6 else s
    | 3 => s.startPhase 6
    | 4 => if both then s.startPhase 7 else s
    | 6 => if both then s.startPhase 7 else s
    | 7 => ((if s.boot.running.contains 5 then s.stopPhase 5 else s).startPhase 8)
    | 8 => s.startPhase 9
    | _ => s.showWaits

/-- Phases 3, 4 and 5 that the powering of a group starts (R376). -/
def State.groupStarts (s : State) (g : Nat) : State :=
  match g with
  | 0 => s.startPhase 5
  | 2 => s.startPhase 4
  | 6 => if s.boot.warm then s else s.startPhase 3
  | _ => s

/-- Phase 2 begins in the mode decided (R376, R377, R379): the groups not yet good are powered, and what is powered already
is only checked. -/
def State.bringUp (s : State) (warm : Bool) : State :=
  have s := ((s.wr Reg.GEN_BOOT_STATUS_READY 0).wr Reg.GEN_BOOT_STATUS_SHORT 0).wr Reg.GEN_BOOT_STATUS_LINER_NEW 0
  have s := s.wrb Reg.GEN_BOOT_STATUS_WARM_RAN warm
  have s := s.count (if warm then Reg.GEN_WARM_CNT else Reg.GEN_COLD_CNT) 1
  have s := s.forEach (List.range 8) fun s i => s.wr (Reg.GEN_PHASE_TIME_RAN (i + 1)) 0
  have s := { s with boot := { s.boot with
      warm := warm, running := [], ended := [1], groups := allGroups.filter s.groupLacks, groupAt := none, inPhase := true } }
  (s.startPhase 2).powerNext s.cyc

/-- The lower end of the half-register that holds Liner entry `e` (R204). -/
def linerLo (e : Nat) : Nat := 32 * (e % 2)

/-- Write BAD of entry `e` of the RAM copy; SKIP and UNMAPPABLE follow (R204, R223). -/
def State.setLinerBad (s : State) (e bad : Nat) : State :=
  have a := Reg.PLM_LINER_RAM (e / 2)
  have n := ((List.range 17).filter fun i => nbit bad i)
  have v := fset (s.reg a) (linerLo e + 16) (linerLo e) bad
  have v := fset v (linerLo e + 21) (linerLo e + 17) (n.head?.getD 16)
  s.setReg a (fset v (linerLo e + 31) (linerLo e + 31) (if 2 ≤ n.length then 1 else 0))

/-- BAD of entry `e` of the RAM copy (R204). -/
def State.linerBad (s : State) (e : Nat) : Nat := fget (s.reg (Reg.PLM_LINER_RAM (e / 2))) (linerLo e + 16) (linerLo e)

/-- Bits set among the 17 of a BAD mask. -/
def badCount (b : Nat) : Nat := ((List.range 17).filter fun i => nbit b i).length

/-- Every entry of the RAM copy is mappable (R204). -/
def State.linerMappable (s : State) : Bool := (List.range 256).all fun e => badCount (s.linerBad e) ≤ 1

/-- The Liner entry and local column of a physical tile (R203, R204). -/
def physEntry (p : Nat) : Nat := 16 * regionOfPhys p + p / 68 % 16
def physColumn (p : Nat) : Nat := p % 68 % 17

/-- Mark a physical tile bad in the RAM copy, counting a new bit in LINER_NEW (R385, R386). -/
def State.markBad (s : State) (p : Nat) : State :=
  have b := s.linerBad (physEntry p)
  if nbit b (physColumn p) then s
  else
    (s.setLinerBad (physEntry p) (b + 2 ^ physColumn p)).wr Reg.GEN_BOOT_STATUS_LINER_NEW
      (min 255 (s.rd Reg.GEN_BOOT_STATUS_LINER_NEW + 1))

/-- The load of R205 by the device itself: it begins, or an unmappable entry clears LINER_OK. Answers whether it began. -/
def State.loadLiner (s : State) : State × Bool :=
  if s.linerMappable then
    ({ s.wr Reg.PLM_STATUS_LINER_BUSY 1 with palm := { s.palm with linerUntil := some (s.cyc + 2048) } }, true)
  else (s.wr Reg.PLM_STATUS_LINER_OK 0, false)

end Sys2Proof.Machine
end

