-- ==== Sys2Proof/Machine/Palm.lean ====
section
/-! DEFINITION. Sys2Proof/Machine/Palm.lean: the Palm controller: fetch, staging, launch and completion of operations (R206 to
R217, R245 to R247, R272), tiles that fail (R219, R220), and the Liner (R205). -/
namespace Sys2Proof.Machine

/-- The descriptor at the queue head is checked (R247): refused, with the Palm halted, at the first failing field. -/
def State.checkHead (s : State) : State :=
  match s.palm.queue with
  | [] => s
  | d :: _ =>
    if d.lost ∨ d.field = 0 ∨ s.rdb Reg.PLM_STATUS_HALTED then s
    else
      have opx := nbits d.bits 255 224
      have s := (s.wr Reg.PLM_DESC_ERR_FIELD d.field).wr Reg.PLM_DESC_ERR_OP opx
      (s.refuseImage { reason := 8, sub := d.field, seg := d.seg.getD 0, obj := 2, index := opx, op := opx }).palmHalt

/-- HAZARD (R216): DETAIL and the lowest bank in conflict of a STAGE mask with the READ and WRITE masks of the op before. -/
def hazardsOf (stage : Nat) (k : Nat × Nat) : List (Nat × Nat) :=
  have low := fun (m : Nat) => (List.range 12).find? fun b => nbit (stage &&& m) b
  ((low k.1).map fun b => (1, b)).toList ++ ((low k.2).map fun b => (2, b)).toList

/-- Staging of the descriptor at the queue head starts (R210, R216). -/
def State.startStaging (s : State) : State :=
  match s.palm.queue with
  | [] => s
  | d :: _ =>
    have o := d.op
    if s.rdb Reg.PLM_STATUS_HALTED ∨ d.lost ∨ d.field ≠ 0 ∨ o.stage = 0 then s
    else
      match hazardsOf o.stage (s.palm.masks.getD (0, 0)) with
      | [] => { s.wr Reg.PLM_STATUS_STAGING 1 with palm := { s.palm with staging := some o.opx, stagedBad := false } }
      | hs => s.forEach hs fun s h =>
          (s.palmLast 3 h.1 0 0 h.2 o.opx).fault { code := 0x0303, block := 8, cause := h.1, sub := h.2, op := o.opx }

/-- Descriptors of the fetch groups the device may fetch now (R305, R306). -/
def State.fetchEnd (s : State) : Nat := s.opsEnd (s.rd Reg.LDR_SEG_COMMITTED + 1)

/-- The segment a descriptor resolves to (R246). -/
def State.resolveSeg (s : State) (seg : Nat) : Option Nat :=
  have k := s.palm.lastSeg
  ((List.range (min 256 (s.segments + 1 - k))).map fun i => k + i).find? fun j => j % 256 == seg

/-- A descriptor enters the op queue: its segment is resolved, and at the queue's head it is checked and staged (R246, R210). -/
def State.enqueue (s : State) (word : RWord) (arg : Option RWord) : State :=
  have bits := word.getD 0
  have seg := s.resolveSeg (nbits bits 200 193)
  have d : Desc := { bits := bits, arg := arg.map fun v => v.getD 0, seg := seg, opened := s.seamTick (seg.getD 1 - 1),
                     lost := word.isNone || arg == some none }
  have first := s.palm.queue.isEmpty
  have s := { s with palm := { s.palm with queue := s.palm.queue ++ [d], nextFetch := s.palm.nextFetch + 1,
                                           lastSeg := if d.lost then s.palm.lastSeg else seg.getD s.palm.lastSeg } }
  have s := s.wr Reg.PLM_STATUS_QUEUE s.palm.queue.length
  if first then s.checkHead.startStaging else s

/-- DESCRIPTOR_FETCH (R245, R246, R283, R290): the next descriptor and its argument record are read through lead queue 13 and enter
the op queue; one that a stack not UP keeps is not launched. -/
def execDescriptorFetch (s : State) : Host.Outcome State Fault Refusal :=
  if !s.cuff.started ∨ s.ldr ≠ 8 ∨ 8 ≤ s.palm.queue.length ∨ s.fetchEnd ≤ s.palm.nextFetch then .next s
  else
    have w := s.placeOf 0x11 / 32 + s.palm.nextFetch
    if !s.stackUp (w / stackWords) then .next (s.stackLost w)
    else
      have r := s.hbmReadN 13 w 1
      match r.2.headD none with
      | none => .next (r.1.enqueue none none)
      | some bits =>
        have aw := s.placeOf 0x12 / 32 + nbits bits 68 45
        if nbits bits 223 219 = 0x11 ∨ s.lengthOf 0x12 / 32 ≤ nbits bits 68 45 then .next (r.1.enqueue (some bits) none)
        else if !s.stackUp (aw / stackWords) then .next (r.1.stackLost aw)
        else
          have a := r.1.hbmReadN 13 aw 1
          .next (a.1.enqueue (some bits) (some (a.2.headD none)))

/-- STAGING_DONE (R210): every STAGE word of the descriptor at the queue head has been written. -/
def execStagingDone (s : State) : Host.Outcome State Fault Refusal :=
  match s.palm.queue with
  | [] => .next s
  | d :: _ =>
    have o := d.op
    if s.palm.staging ≠ some o.opx then .next s
    else
      have bad := o.tiles.any fun t => !s.stacksUp (o.hbmStart t) o.hbmLen
      have r := s.hbmExtentsRead o
      have s := r.1.forEach o.tiles fun s t => s.sramWriteN t o.stg (SMap.get (fun _ => []) r.2 (o.hbmStart t))
      .next { s.wr Reg.PLM_STATUS_STAGING 0 with palm := { s.palm with staging := none, staged := some o.opx, stagedBad := bad } }

/-- One word of a tile without counting: what COMBINE's controller part reads to know which queues it drains. -/
def State.sramPeek (s : State) (t w : Nat) : RWord :=
  have p := s.physOf t
  if s.fenced p then none
  else
    match decodeWord (s.sram.readBytes (sramAddr p w) 36) with
    | .ok d => wordOf d
    | .corrected _ st => wordOf (st.take 32)
    | .bad => none

/-- The flits an op reads from receive queues, in order: link, queue, count (R250, R271). -/
def State.wants (s : State) (o : Op) : List (Nat × Nat × Nat) :=
  if o.opcode = 0x0E then
    have ws := (List.range ((o.dim1 + 3) / 4)).map fun i => s.sramPeek o.firstTile (o.m + i)
    ((List.range o.dim1).map (expertAt ws)).filterMap fun x =>
      if x.isLocal || x.bad then none else some (x.link, x.q, x.cap * (o.tokenWords / 12))
  else if o.inValid then [(o.inLink, o.inQueue, o.tiles.length * (o.aWords / 12))]
  else []

/-- What an operation does to the tiles once its inputs are there (R250, R256 to R272). -/
def State.opData (s : State) (o : Op) : State :=
  have s := s.fillA o
  match o.opcode with
  | 0x01 => s.opMatmul o
  | 0x02 => s.opMatmul o
  | 0x03 => s.opConv o
  | 0x04 => s.opAttend o
  | 0x05 => s.opSoftmax o
  | 0x06 => s.opNorm o
  | 0x07 => s.opElement o
  | 0x08 => s.opReduce o
  | 0x09 => s.opTranspose o
  | 0x0A => s.opGather o
  | 0x0B => s.opScatter o
  | 0x0C => s.opTopk o
  | 0x0D => s.opDispatch o
  | 0x0E => s.opCombine o
  | 0x0F => s.opConvert o
  | 0x10 => s.opCopy o
  | _ => s

/-- The op in progress makes its results once every flit it reads has been delivered (R105, R250). -/
def State.palmTry (s : State) : State :=
  have s := s.palmDrain
  match s.palm.running with
  | none => s
  | some d =>
    if s.palm.effect || s.palm.want.any fun w => w.2.2 != 0 then s
    else
      have s := s.opData d.op
      { s with palm := { s.palm with effect := true, want := [], inbox := [] } }

/-- The op-start edge (R53, R55, R207, R209): every active region restarts at the launch tick with its estimate at the crown,
the others enter REST, and the Bonnet sets its estimate too. -/
def State.restartRegions (s : State) (o : Op) : State :=
  have s := s.forEach (List.range 16) fun s g => if s.opClass o g = 0 then s.restEdge g else s.opEdge g
  if s.domOn (clockDomain 16) && (s.rg 16).stepUntil.isNone then s.setEst 16 false else s

/-- The launch itself (R208 to R210): `t` is the op's tick, `sum` its tokens. -/
def State.launch (s : State) (d : Desc) (rest : List Desc) (t sum : Nat) : State :=
  have o := d.op
  have s := (s.wr Reg.PLM_OP_INDEX_LAUNCHED o.opx).wr Reg.PLM_LAUNCH_TICK_TICK s.now
  have s := ((s.wr Reg.PLM_BUDGET_LAST sum).raise Reg.PLM_BUDGET_PEAK sum).telRaise 2 sum
  have cls := ((List.range 16).map fun g => 2 ^ (3 * g) * (s.opClass o g)).sum
  have s := ((s.wr Reg.PLM_CLASS_CLASS cls).wr Reg.PLM_STATUS_RUNNING 1).wr Reg.PLM_STATUS_BUDGET_WAIT 0
  have s := s.count Reg.PLM_LAUNCH_CNT 1
  have s := if t < s.now then s.count Reg.PLM_LATE_LAUNCH_CNT 1 else s
  have s := (s.restartRegions o).wr Reg.PLM_STATUS_QUEUE rest.length
  have s := { s with palm := { s.palm with queue := rest, running := some d, effect := false, boundsRaised := false,
                                           masks := some (o.read, o.write), staged := none, stagedBad := false, want := s.wants o, inbox := [] } }
  (s.checkHead.startStaging).palmTry

/-- Staging of a descriptor is complete (R208, R210). -/
def State.stagedOk (s : State) (o : Op) : Bool := o.stage == 0 || s.palm.staged == some o.opx

/-- The checks of R208 from the token sum on, and the launch. -/
def State.launchChecks (s : State) (d : Desc) (rest : List Desc) (t : Nat) : State :=
  have o := d.op
  have sum := s.tokenSum o
  have budget := s.rd Reg.PLM_BUDGET_GRADE
  have power : FaultArgs := { code := 0x0301, block := 8, a := sum, b := budget, op := o.opx }
  if budget < sum then (s.palmLast 1 1 0 0 0 o.opx).fault { power with cause := 1 }
  else
    match s.classFail o with
    | some g => (s.palmLast 1 2 g 0 0 o.opx).fault { power with cause := 2, region := g }
    | none =>
      match s.launchBounds o with
      | some (det, addr) =>
        (s.palmLast 2 det 0 0 0 o.opx).fault { code := 0x0302, block := 8, cause := det, c := addr, op := o.opx }
      | none =>
        if s.rd Reg.PLM_BUDGET_EFFECTIVE < sum then s.wr Reg.PLM_STATUS_BUDGET_WAIT 1
        else s.launch d rest t sum

/-- The event of an operation's row (R208, R247): the descriptor at the queue head is checked; if it is the operation of
opcode `code` and its waits are over, it launches or stops at the first failing check. A seam, image start or epoch switch of
this tick comes first (R60), and nothing launches once the image has ENDED (R308). -/
def State.opEvent (s : State) (code : Nat) : State :=
  if !s.rdb Reg.CRN_STATUS_RUNNING || s.rdb Reg.PLM_STATUS_HALTED || !s.seamClear || s.epochDue || s.ldr == 10 then s
  else
    have s := s.checkHead
    match s.palm.queue with
    | [] => s
    | d :: rest =>
      match d.tick with
      | none => s
      | some t =>
        if d.lost ∨ d.field ≠ 0 ∨ d.op.opcode ≠ code ∨ s.now < t ∨ s.rdb Reg.PLM_STATUS_RUNNING ∨ !s.stagedOk d.op then s
        else s.launchChecks d rest t

/-- The counter of the wait the controller is in this cycle (R208), if any. -/
def State.palmWait (s : State) : Option Nat :=
  if !s.cuff.started || !s.rdb Reg.CRN_STATUS_RUNNING || s.rdb Reg.PLM_STATUS_HALTED then none
  else
    match s.palm.queue with
    | [] => if s.palm.nextFetch < s.opCount then some Reg.PLM_FETCH_WAIT_CNT else none
    | d :: _ =>
      match d.tick with
      | none => none
      | some t =>
        if s.now < t ∨ s.rdb Reg.PLM_STATUS_RUNNING then none
        else if !s.stagedOk d.op then some Reg.PLM_STAGE_WAIT_CNT
        else if s.tokenSum d.op ≤ s.rd Reg.PLM_BUDGET_GRADE ∧ s.rd Reg.PLM_BUDGET_EFFECTIVE < s.tokenSum d.op then
          some Reg.PLM_BUDGET_WAIT_CNT
        else none

/-- MATMUL (R256). -/
def execMatmul (s : State) : Host.Outcome State Fault Refusal := .next (s.opEvent 0x01)
/-- MATMUL_ACC (R256). -/
def execMatmulAcc (s : State) : Host.Outcome State Fault Refusal := .next (s.opEvent 0x02)
/-- CONV2D (R257). -/
def execConv2d (s : State) : Host.Outcome State Fault Refusal := .next (s.opEvent 0x03)
/-- ATTEND (R258). -/
def execAttend (s : State) : Host.Outcome State Fault Refusal := .next (s.opEvent 0x04)
/-- SOFTMAX (R259). -/
def execSoftmax (s : State) : Host.Outcome State Fault Refusal := .next (s.opEvent 0x05)
/-- NORM (R260). -/
def execNorm (s : State) : Host.Outcome State Fault Refusal := .next (s.opEvent 0x06)
/-- ELEMENT (R261). -/
def execElement (s : State) : Host.Outcome State Fault Refusal := .next (s.opEvent 0x07)
/-- REDUCE (R262). -/
def execReduce (s : State) : Host.Outcome State Fault Refusal := .next (s.opEvent 0x08)
/-- TRANSPOSE (R263). -/
def execTranspose (s : State) : Host.Outcome State Fault Refusal := .next (s.opEvent 0x09)
/-- GATHER (R266). -/
def execGather (s : State) : Host.Outcome State Fault Refusal := .next (s.opEvent 0x0A)
/-- SCATTER_ADD (R267). -/
def execScatterAdd (s : State) : Host.Outcome State Fault Refusal := .next (s.opEvent 0x0B)
/-- TOPK (R268). -/
def execTopk (s : State) : Host.Outcome State Fault Refusal := .next (s.opEvent 0x0C)
/-- DISPATCH (R270). -/
def execDispatch (s : State) : Host.Outcome State Fault Refusal := .next (s.opEvent 0x0D)
/-- COMBINE (R271). -/
def execCombine (s : State) : Host.Outcome State Fault Refusal := .next (s.opEvent 0x0E)
/-- CONVERT (R264). -/
def execConvert (s : State) : Host.Outcome State Fault Refusal := .next (s.opEvent 0x0F)
/-- COPY (R265). -/
def execCopy (s : State) : Host.Outcome State Fault Refusal := .next (s.opEvent 0x10)
/-- SEAM_WAIT (R272). -/
def execSeamWait (s : State) : Host.Outcome State Fault Refusal := .next (s.opEvent 0x11)

/-- The op in progress has finished in every active region (R207): its results are made, its deposits and spilled packets
have left, and for SEAM_WAIT the seam that closes its segment has come (R272). -/
def State.opFinished (s : State) (d : Desc) : Bool :=
  s.palm.effect && s.palm.outgoing.isEmpty && s.palm.spill.isEmpty
    && (d.op.opcode != 0x11 || s.seamTick (d.seg.getD 0) ≤ s.now)

/-- A word of region `u.inst`'s crossing buffers is read with an error while the op runs (R57, R278, R280): an uncorrectable one poisons
what one of the region's tiles would still give the op (R252; log entry 63). Without an op the buffers hold nothing. -/
def State.crossError (s : State) (u : Upset) : State :=
  match s.palm.running with
  | none => s
  | some d =>
    if !(s.rg u.inst).active then s
    else
      have r := s.guardWords .crossing u.inst u.queue u.item 0
      have ts := d.op.tiles.filter fun t => regionOf t == u.inst
      if r.2.2 then r.1.tickFree.poisonRest (ts.getD (Config.crossTile s.freeCtr % max 1 ts.length) 4096) else r.1

/-- The crossing buffers' errors are met as their words move on (R57, R280). -/
def State.crossTick (s : State) : State :=
  s.forEach (s.mem.upsets.filter fun u => u.store == .crossing) fun s u =>
    (s.crossError u).dropUpsets .crossing u.inst u.queue u.item

/-- OP_COMPLETE (R207, R208): the controller sees the op complete. -/
def execOpComplete (s : State) : Host.Outcome State Fault Refusal :=
  have s := s.palmTry
  have s := s.spillSend s.palm.spill
  match s.palm.running with
  | none => .next s
  | some d =>
    if s.opFinished d then
      have s := (s.wr Reg.PLM_OP_INDEX_DONE d.op.opx).wr Reg.PLM_STATUS_RUNNING 0
      .next { s.crossEnd with palm := { s.palm with running := none, effect := false } }
    else .next s

/-- PALM_STOP (R217): a driver write of 1 to PLM_CTRL.STOP. -/
def execPalmStop (s : State) : Host.Outcome State Fault Refusal := .next (s.busWrite Reg.PLM_CTRL State.palmHalt)

/-- LINER_LOAD (R205): a driver write of 1 to PLM_CTRL.LINER_LOAD starts the copy, or is refused. -/
def execLinerLoad (s : State) : Host.Outcome State Fault Refusal :=
  .next (s.busWrite Reg.PLM_CTRL fun s =>
    have ok := s.linerMappable
    if s.run ∨ s.rdb Reg.PLM_STATUS_LINER_BUSY ∨ !ok then
      have s := s.flag Reg.PLM_STATUS_WR_REFUSED
      if ok then s else s.wr Reg.PLM_STATUS_LINER_OK 0
    else { s.wr Reg.PLM_STATUS_LINER_BUSY 1 with palm := { s.palm with linerUntil := some (s.cyc + 2048) } })

/-- The RAM copy becomes the copy in force (R205). -/
def State.copyLiner (s : State) : State :=
  s.forEach (List.range 128) fun s k => s.setReg (Reg.PLM_LINER_FORCE k) (s.reg (Reg.PLM_LINER_RAM k))

/-- LINER_LOAD_DONE (R205, R310): 2,048 ct after it began the copy is in force; an ADMITTED load becomes VERIFIED. -/
def execLinerLoadDone (s : State) : Host.Outcome State Fault Refusal :=
  match s.palm.linerUntil with
  | none => .next s
  | some u =>
    if s.cyc < u then .next s
    else
      have s := s.wr Reg.PLM_STATUS_LINER_BUSY 0
      have s := if s.palm.linerForce then s else s.copyLiner.wr Reg.PLM_STATUS_LINER_OK 1
      have s := { s with palm := { s.palm with linerUntil := none, linerForce := false },
                         boot := { s.boot with reset := none } }
      have s := if s.ldr = 6 then s.wr Reg.LDR_STATUS_STATE 5 else s
      .next (s.endPhase 6)

/-- TILE_WATCHDOG (R219): logical tile `t` fails; `cause` counts from 0: four heartbeats missed, the residue check, or a word
that stays uncorrectable. A heartbeat or a residue belongs to an op in progress whose active tile it is, and the third to a tile with
a word whose cells are defective; a read of such a word meets it too (R202). -/
def execTileWatchdog (t : Fin 4096) (cause : Fin 3) (s : State) : Host.Outcome State Fault Refusal :=
  have active := match s.palm.running with
    | some d => d.op.tiles.contains t.val
    | none => false
  have worn := s.mem.sramDefect.any fun w => w / 12288 == s.physOf t
  if s.fenced (s.physOf t) ∨ (if cause.val = 2 then !worn else !active) then .next s else .next (s.tileFail t (cause.val + 1))

end Sys2Proof.Machine
end

