-- ==== Sys2Proof/Machine/Store.lean ====
section
/-! DEFINITION. Sys2Proof/Machine/Store.lean: the layout of NVM, its copies and headers, and what the device keeps of them (R380,
R381, R383). -/
namespace Sys2Proof.Machine

/-- First sector of copy `c` of a section and the sectors of a copy (R380). -/
def nvmBase (sect c : Nat) : Nat × Nat :=
  match sect with
  | 0 => (0, 4)
  | 1 => (16 + 4 * c, 4)
  | 2 => (64 + 128 * c, 128)
  | 3 => (384 + 16 * c, 16)
  | 4 => (448 + 4 * c, 4)
  | _ => (512, 5)

/-- Most data bytes a copy of a section holds: sector 0 is the header's. -/
def nvmRoom (sect : Nat) : Nat := 4096 * ((nvmBase sect 0).2 - 1)

/-- The first twenty bytes of a copy header (R380). -/
def nvmHeader (sect gen : Nat) (data : List Byte) : List Byte :=
  [0x4E, 0x56, 0x53, 0x31, BitVec.ofNat 8 sect, 0, 0, 0] ++ leBytes 4 gen ++ leBytes 4 data.length ++ leBytes 4 (crc32 data)

/-- `n` bytes at byte `o` of a copy's data. -/
def State.copyBytes (s : State) (sect c o n : Nat) : List Byte := s.nvm.bytes.readBytes (4096 * ((nvmBase sect c).1 + 1) + o) n

/-- A copy's header, and its GENERATION and LENGTH. -/
def State.copyHeader (s : State) (sect c : Nat) : List Byte := s.nvm.bytes.readBytes (4096 * (nvmBase sect c).1) 20
def State.copyGen (s : State) (sect c : Nat) : Nat := ofLeBytes (((s.copyHeader sect c).drop 8).take 4)
def State.copyLen (s : State) (sect c : Nat) : Nat := ofLeBytes (((s.copyHeader sect c).drop 12).take 4)

/-- A copy is valid: its header and CRC check (R381). -/
def State.copyValid (s : State) (sect c : Nat) : Bool :=
  have n := s.copyLen sect c
  decide (n ≤ nvmRoom sect) && !(sect == 0 && c == 1)
    && s.copyHeader sect c == nvmHeader sect (s.copyGen sect c) (s.copyBytes sect c 0 n)

/-- The copy to choose: the valid one with the higher GENERATION, or the only valid one (R381). -/
def State.pickCopy (s : State) (sect : Nat) : Option Nat :=
  match s.copyValid sect 0, s.copyValid sect 1 with
  | true, true => if s.copyGen sect 0 < s.copyGen sect 1 then some 1 else some 0
  | true, false => some 0
  | false, true => some 1
  | false, false => none

/-- The chosen copy of a section, as NVM_STATUS shows it (R381). -/
def State.chosen (s : State) (sect : Nat) : Option Nat :=
  if nbit (s.rd Reg.NVM_STATUS_VALID) sect then some (b2n (nbit (s.rd Reg.NVM_STATUS_CHOSEN_B) sect)) else none

/-- Show a section's chosen copy in NVM_STATUS and NVM_SECT. -/
def State.choose (s : State) (sect : Nat) (c : Option Nat) : State :=
  match c with
  | none =>
    (((s.setBit Reg.NVM_STATUS_VALID sect false).setBit Reg.NVM_STATUS_CHOSEN_B sect false).wr (Reg.NVM_SECT_GENERATION sect) 0).wr
      (Reg.NVM_SECT_LENGTH sect) 0
  | some c =>
    (((s.setBit Reg.NVM_STATUS_VALID sect true).setBit Reg.NVM_STATUS_CHOSEN_B sect (c == 1)).wr
      (Reg.NVM_SECT_GENERATION sect) (s.copyGen sect c)).wr (Reg.NVM_SECT_LENGTH sect) (s.copyLen sect c)

/-- `n` bytes at offset `o` of a section's chosen contents, as a number with the first byte lowest; 0 beyond LENGTH or without a
valid copy. -/
def State.kept (s : State) (sect o n : Nat) : Nat :=
  match s.chosen sect with
  | some c => if o + n ≤ s.copyLen sect c then ofLeBytes (s.copyBytes sect c o n) else 0
  | none => 0

/-- The same bytes as a big-endian number. -/
def State.keptBe (s : State) (sect o n : Nat) : Nat := ofBeBytes (leBytes n (s.kept sect o n))

/-- The device keeps the key slots of SETTINGS and the firmware key hash of IDENTITY (R296, R381, R383). -/
def State.keepKeys (s : State) : State :=
  have ks : SMap Nat := (List.range 4).foldl (fun m i => SMap.set (fun _ => 0) m i (s.keptBe 4 (0x40 + 48 * i) 48)) []
  { s with boot := { s.boot with keys := ks, fwHash := s.keptBe 0 0x08 48 } }

/-- Load the sections of R383 into their registers; an invalid one leaves them at their reset values (R381). -/
def State.loadSections (s : State) : State :=
  have s := s.keepKeys.setReg Reg.GEN_SERIAL (BitVec.ofNat 64 (s.kept 0 0 8))
  have s :=
    if (s.chosen 3).isNone then s
    else
      have s := (s.devWr Reg.GEN_PLAN_SEAT_SEAT (s.kept 3 0 8)).devReg Reg.CRN_PARENT (BitVec.ofNat 64 (s.kept 3 8 8 &&& 0xFFF1F1F))
      s.forEach allLinks fun s l =>
        (s.devReg (Reg.LNK_PLAN l) (BitVec.ofNat 64 (s.kept 3 (0x10 + 8 * l) 8 &&& 0xFFF01F3))).devWr (Reg.CRN_ASYM_ASYM l)
          (s.kept 3 (0xD0 + 8 * l) 8)
  have s :=
    if (s.chosen 4).isNone then s
    else
      have s := (s.devWr Reg.GEN_BOOT_CTRL_MODE (b2n (nbit (s.kept 4 0 8) 1))).devWr Reg.GEN_BOOT_CTRL_ALLOW_DEGRADED
        (b2n (nbit (s.kept 4 0 8) 2))
      s.devReg Reg.GEN_DISC_WAIT (BitVec.ofNat 64 (s.kept 4 8 8))
  if (s.chosen 2).isNone then s
  else
    s.forEach (List.range 2) fun s p =>
      (s.devWr (Reg.TIME_PORT_LAT_INGRESS p) (Config.calLatency (2 * p))).devWr (Reg.TIME_PORT_LAT_EGRESS p) (Config.calLatency (2 * p + 1))

/-- SETTINGS starts bring-up by itself (R377). -/
def State.autoGo (s : State) : Bool := nbit (s.kept 4 0 8) 0

/-- The hottest junction sensor now, then each stack (R379). -/
def State.temps (s : State) : List Int :=
  have rg := (List.range 16).map fun g => toSigned 8 (s.rd (Reg.PWR_TEMP_RGN_TEMP g))
  have die := (List.range 7).map fun i => toSigned 8 (s.rd ⟨Reg.PWR_TEMP_DIE, 8 * i + 7, 8 * i⟩)
  (rg ++ die).foldl max (rg.headD 0) :: (List.range 8).map fun k => toSigned 8 (s.rd (Reg.HBM_STATUS_TEMP k))

/-- The capture temperatures of the chosen CAL copy (R379, R380). -/
def State.calTemps (s : State) : List Int :=
  match s.chosen 2 with
  | none => []
  | some c =>
    match SMap.get (fun _ => []) s.nvm.calTemps c with
    | [] => (List.range 9).map (Config.calTemp (ofLeBytes (((s.copyHeader 2 c).drop 16).take 4)))
    | l => l

/-- The conditions of warm mode that fail, by bit (R379). -/
def State.warmFails (s : State) : Nat :=
  have near := (s.temps.zip s.calTemps).all fun p => decide ((p.1 - p.2).natAbs ≤ 10)
  b2n (s.rd Reg.GEN_RESET_STATUS_LAST != 4) + 2 * b2n (s.chosen 2).isNone + 4 * b2n !near
    + 8 * b2n (s.rdb Reg.GEN_BOOT_STATUS_FAULT_SINCE_READY || !(s.boot.lastReady == 1 || s.boot.lastReady == 2))

/-- Phase 2 starts in the mode that R379 allows of the one asked for. -/
def State.startBringUp (s : State) : State :=
  have asked := s.rdb Reg.GEN_BOOT_CTRL_MODE
  have fails := if asked then s.warmFails else 0
  (s.wr Reg.GEN_BOOT_STATUS_WARM_REFUSED fails).bringUp (asked && fails == 0)

end Sys2Proof.Machine
end

