-- ==== Sys2Proof/Machine/Boot.lean ====
section
/-! DEFINITION. Sys2Proof/Machine/Boot.lean: the phases of bring-up: power-on, GO, domains, BIST, training, Liner, discovery and
readiness (R376 to R391, R423). -/
namespace Sys2Proof.Machine

/-- Bring-up stops with a cause; the phase it stopped in stays shown (R376, R397). -/
def State.stopBoot (s : State) (cause : Nat) : State := (s.wr Reg.GEN_BOOT_STATUS_STOP_CAUSE cause).updFaultN

/-- AON_POWER_GOOD (R376, R377, R381, R383): phase 1 runs; `pll` says whether the root PLL locks within the phase's limit. -/
def execAonPowerGood (pll : Bool) (s : State) : Host.Outcome State Fault Refusal :=
  if s.pwr.aonHeld ∨ !s.pwr.closed ∨ s.boot.running ≠ [] ∨ s.boot.ended ≠ [] then .next s
  else
    have s := s.startPhase 1
    if !pll then .next (s.stopBoot 1)
    else
      have s := s.forEach (List.range 5) fun s k => s.choose k (s.pickCopy k)
      have s := (s.wr Reg.NVM_LOG_NEXT s.nvm.logNext).wr Reg.NVM_LOG_ENTRIES s.nvm.logCount
      have s := s.wr Reg.NVM_STATUS_WEAR_MAX ((s.nvm.wear.map Prod.snd).foldl max 0)
      if (s.chosen 0).isNone then .next (s.stopBoot 2)
      else
        have s := s.loadSections.endPhase 1
        .next (if s.autoGo then s.startBringUp else s).updFaultN

/-- BOOT_GO (R377, R396): a write to GEN_BOOT_CTRL with GO 1. Phase 2 starts as this cycle ends, and not if a reset begins in it. -/
def execBootGo (mode allow : Bool) (s : State) : Host.Outcome State Fault Refusal :=
  have s := (s.drvWr Reg.GEN_BOOT_CTRL_MODE (b2n mode)).drvWr Reg.GEN_BOOT_CTRL_ALLOW_DEGRADED (b2n allow)
  if s.rd Reg.GEN_BOOT_STATUS_PHASE ≠ 0 ∨ !s.boot.ended.contains 1 ∨ s.same.reset then .next (s.flag Reg.GEN_BOOT_STATUS_WR_REFUSED)
  else .next { s with same := { s.same with go := true } }

/-- Phase 2 starts if GO was written in the cycle that ends (R377, R396). -/
def State.goDue (s : State) : State := if s.same.go then s.startBringUp.updFaultN else s

/-- The phases that a powered group starts, unless they have started (R376): 5 with the Cuff, 4 with HBM, 3 with the Palm. -/
def State.readyPhases (s : State) : State :=
  have due : List (Nat × List Nat) := [(5, [0]), (4, [2])] ++ (if s.boot.warm then [] else [(3, [3, 4, 5, 6])])
  s.forEach due fun s d =>
    if d.2.any (s.boot.groups.contains ·) || s.boot.running.contains d.1 || s.boot.ended.contains d.1 then s else s.startPhase d.1

/-- In phase 2, the powered groups start their phases, and the last one ends the phase (R376). -/
def State.domainsDone (s : State) : State :=
  if !s.boot.inPhase || !s.boot.running.contains 2 then s
  else
    have s := s.readyPhases
    if s.boot.groups = [] then { s.endPhase 2 with boot := { (s.endPhase 2).boot with inPhase := false } } else s

/-- DOMAIN_POWER_GOOD (R376, R423): the group switched on last is good, or, with nothing to power, the power-good check of phase 2
has passed. -/
def execDomainPowerGood (s : State) : Host.Outcome State Fault Refusal :=
  match s.boot.groups, s.boot.groupAt with
  | [], _ => .next s.domainsDone
  | g :: rest, some t =>
    if s.cyc < t then .next s
    else
      have s := s.forEach (s.wanted g) fun s d => s.setBit Reg.PWR_DOMAIN_PGOOD d true
      have s := s.supplyCause
      have s := { s with boot := { s.boot with groups := rest, groupAt := none } }.domainsDone
      .next (s.powerNext (if 3 ≤ g then t + 1000000 else s.cyc))
  | _ :: _, none => .next s

/-- DOMAIN_POWER_TIMEOUT (R423): the group is not good within 10,000,000 ct. -/
def execDomainPowerTimeout (s : State) : Host.Outcome State Fault Refusal :=
  match s.boot.groups, s.boot.groupAt with
  | _ :: _, some t =>
    if s.cyc < t + 10000000 then .next s
    else
      have stop := s.boot.inPhase
      have s := { s with boot := { s.boot with groups := [], groupAt := none } }
      .next (if stop then s.stopBoot 3 else s)
  | _, _ => .next s

/-- BIST_DONE (R376, R384): phase 3 ends; `failed` are the physical tiles that fail a test. -/
def execBistDone (failed : List Nat) (s : State) : Host.Outcome State Fault Refusal :=
  if !s.boot.running.contains 3 then .next s
  else
    have s := s.forEach (List.range 68) fun s k =>
      s.setReg (Reg.PLM_BIST k) (BitVec.ofNat 64 (((failed.filter fun p => p / 64 == k).dedup).map fun p => 2 ^ (p % 64)).sum)
    .next ({ s with sram := [] }.endPhase 3)

/-- HBM_TRAINING_DONE (R288, R376): phase 4 ends; every powered stack is UP, or FAILED when its bit of `failed` is set. -/
def execHbmTrainingDone (failed : BitVec 8) (s : State) : Host.Outcome State Fault Refusal :=
  if !s.boot.running.contains 4 then .next s
  else
    have s := s.forEach (List.range 8) fun s k =>
      if !s.domOn (16 + k) then s
      else
        have s := s.wr (Reg.HBM_STATUS_STATE k) (if nbit failed.toNat k then 3 else 1)
        if s.boot.warm then s
        else { s with mem := { s.mem with
          trainTemp := SMap.set (fun _ => 0) s.mem.trainTemp k (s.rd (Reg.HBM_STATUS_TEMP k)) } }
    .next (s.endPhase 4)

/-- The RAM copy as the chosen LINER copy holds it, all zeros without one (R385). -/
def State.linerFromNvm (s : State) : State :=
  s.forEach (List.range 256) fun s e => s.setLinerBad e (s.kept 1 (4 * e) 4 % 2 ^ 17)

/-- Physical tiles that PLM_BIST marks failed. -/
def State.bistFailed (s : State) : List Nat :=
  (List.range 68).flatMap fun k =>
    have v := (s.reg (Reg.PLM_BIST k)).toNat
    if v = 0 then [] else ((List.range 64).filter fun i => nbit v i).map fun i => 64 * k + i

/-- LINER_BUILD (R385): phase 6 builds the RAM copy and loads it; an unmappable entry ends the phase with LINER_OK 0. -/
def execLinerBuild (s : State) : Host.Outcome State Fault Refusal :=
  if !s.boot.running.contains 6 ∨ s.rdb Reg.PLM_STATUS_LINER_BUSY then .next s
  else
    have s := if s.boot.warm then s else s.linerFromNvm.forEach s.bistFailed State.markBad
    have r := s.loadLiner
    .next (if r.2 then r.1 else r.1.endPhase 6)

/-- DISCOVERY_EVAL (R388, R390): link `l` and its swap partners are evaluated. -/
def execDiscoveryEval (l : Fin 24) (s : State) : Host.Outcome State Fault Refusal := .next (s.discover l)

/-- DISCOVERY_END (R376, R388, R390): at GEN_DISC_WAIT, or once no REQUIRED link is PENDING. -/
def execDiscoveryEnd (s : State) : Host.Outcome State Fault Refusal :=
  have limit := 1000000 * (if s.boot.warm then s.rd Reg.GEN_DISC_WAIT_WARM else s.rd Reg.GEN_DISC_WAIT_COLD)
  have open' := allLinks.any fun l => s.rd (Reg.LNK_PLAN_EXPECT l) == 1 && s.rd (Reg.LNK_DISC_RESULT l) == 7
  if !s.boot.running.contains 8 ∨ (open' ∧ s.cyc < SMap.get (fun _ => 0) s.boot.start 8 + limit) then .next s
  else
    have s := s.endPhase 8
    .next (s.forEach (allLinks.filter fun l => s.rd (Reg.LNK_DISC_RESULT l) == 7) State.evalLink)

/-- The shortfalls found, by bit (R391). -/
def State.shortfalls (s : State) : Nat :=
  have res := fun (l : Nat) => s.rd (Reg.LNK_DISC_RESULT l)
  have exp := fun (l : Nat) => s.rd (Reg.LNK_PLAN_EXPECT l)
  have thin := allLinks.any fun l => (res l == 6 && (exp l == 1 || exp l == 2)) || (res l == 4 && exp l == 1)
  b2n thin + 2 * b2n (allLinks.any fun l => res l == 3 || res l == 2)
    + 4 * b2n ((List.range 8).any fun k => s.rd (Reg.HBM_STATUS_STATE k) == 3) + 8 * b2n (!s.rdb Reg.PLM_STATUS_LINER_OK)
    + 16 * b2n s.bon.held + 32 * b2n (s.rd Reg.GEN_BOOT_STATUS_STOP_CAUSE != 0)

/-- Readiness from the shortfalls (R391): 1 READY, 2 READY_DEGRADED, 3 NOT_READY. -/
def readiness (short : Nat) (allow : Bool) : Nat :=
  if short = 0 then 1 else if allow && !nbit short 1 && !nbit short 5 then 2 else 3

/-- READINESS_REPORT (R379, R391): phase 9. -/
def execReadinessReport (s : State) : Host.Outcome State Fault Refusal :=
  if !s.boot.running.contains 9 then .next s
  else
    have short := s.shortfalls
    have r := readiness short (s.rdb Reg.GEN_BOOT_CTRL_ALLOW_DEGRADED)
    have s := (s.wr Reg.GEN_BOOT_STATUS_SHORT short).wr Reg.GEN_BOOT_STATUS_READY r
    have s := if r = 3 then s else s.wr Reg.GEN_BOOT_STATUS_FAULT_SINCE_READY 0
    .next ({ s with boot := { s.boot with lastReady := r, reported := true } }.endPhase 9).updFaultN

/-- REDISCOVER (R390, R396): a write to GEN_BOOT_CTRL with REDISCOVER 1 runs phases 8 and 9 again. -/
def execRediscover (mode allow : Bool) (s : State) : Host.Outcome State Fault Refusal :=
  have s := (s.drvWr Reg.GEN_BOOT_CTRL_MODE (b2n mode)).drvWr Reg.GEN_BOOT_CTRL_ALLOW_DEGRADED (b2n allow)
  if s.run ∨ s.rd Reg.GEN_BOOT_STATUS_PHASE ≠ 0 ∨ !s.boot.reported then .next (s.flag Reg.GEN_BOOT_STATUS_WR_REFUSED)
  else .next (s.startPhase 8)

end Sys2Proof.Machine
end

