-- ==== Sys2Proof/Machine/Chunks.lean ====
section
/-! DEFINITION. Sys2Proof/Machine/Chunks.lean: chunks on the way to a module: parts, assembly, relay, repair rounds, chunks over
PCIe, and firmware to tiles and cores (R320 to R325, R386). -/
namespace Sys2Proof.Machine

/-- Queue a packet of the LDR toward a module (R320, R322): KIND DATA, in this module's mitten. -/
def State.ldrQueue (s : State) (vc dest hdr data : Nat) : State :=
  have rw := routeWord 0 0 0 0xFFFF 0 0xFFFF 0 0 0 hdr
  have f : Flit := { cls := 1, vc := vc, mitten := s.rd Reg.CUF_MITTEN_MITTEN, dest := dest,
                     payload := rw + 2 ^ 256 * (data % 2 ^ 2816) }
  { s with ldrs := { s.ldrs with toSend := s.ldrs.toSend ++ [{ vc := vc, flit := f, replyN := 0, rtag := 0 }] } }

/-- The LDR injects what waits, in order, on the VCs that are enabled (R321). -/
def State.ldrPump (s : State) : State :=
  have go := s.ldrs.toSend.filter fun i => s.vcOn i.vc
  have s := { s with ldrs := { s.ldrs with toSend := s.ldrs.toSend.filter fun i => !s.vcOn i.vc } }
  s.forEach go State.stamp

/-- The valid children of the broadcast tree; none while the role is off (R321, R326). -/
def State.children (s : State) : List Nat :=
  have v := (s.reg Reg.LDR_BCAST_CHILD).toNat
  if s.rd Reg.LDR_BCAST_CFG_ROLE = 0 then [] else (List.range 4).filterMap fun i => if nbit v (16 * i + 15) then some (nbits v (16 * i + 11) (16 * i)) else none

/-- Send the packet of endpoint header and data to each of some modules. -/
def State.ldrSendTo (s : State) (ms : List Nat) (vc hdr data : Nat) : State :=
  s.forEach ms fun s m => s.ldrQueue vc m hdr data

/-- Endpoint header of a chunk part (R320). -/
def partHdr (tag chunk part round relay crc : Nat) : Nat :=
  2 ^ 112 * (tag % 2 ^ 32) + 2 ^ 88 * (chunk % 2 ^ 24) + 2 ^ 84 * part + 2 ^ 80 * round + 2 ^ 79 * relay + 2 ^ 44 * (crc % 2 ^ 32)

/-- The 352 bytes that part `p` of a chunk carries; part 11 carries 224 (R320). -/
def partData (x p : Nat) : Nat := x / 2 ^ (2816 * p) % (if p = 11 then 2 ^ 1792 else 2 ^ 2816)

/-- Send chunk `c` in twelve parts to modules (R320, R322). -/
def State.sendChunk (s : State) (ms : List Nat) (round relay c : Nat) : State :=
  have x := s.chunkNum c
  have crc := crc32 (leBytes 4096 x)
  have tag := s.rd Reg.LDR_IMAGE_ID_ID
  s.forEach (List.range 12) fun s p => s.ldrSendTo ms 6 (partHdr tag c p round relay crc) (partData x p)

/-- Write 4,096 bytes of HBM. -/
def State.hbmChunk (s : State) (a x : Nat) : State :=
  s.hbmWriteCap 1 (a / 32) ((List.range 128).map fun i => some (x / 2 ^ (256 * i) % 2 ^ 256))

/-- Write a needed chunk where it belongs (R295, R321): its place in HBM, or the load area, of which the LDR keeps a view. -/
def State.putChunk (s : State) (c x : Nat) : State :=
  match s.placedIn c with
  | some sec => s.hbmChunk (sec.place + 4096 * (c - sec.first)) x
  | none =>
    have s := match s.areaAddr c with
      | some a => s.hbmChunk a x
      | none => s
    { s with ldrs := { s.ldrs with held := SMap.set (fun _ => 0) s.ldrs.held c x } }

/-- Chunks kept until the module's variant was known go to their places (R295). -/
def State.placeKept (s : State) : State :=
  have kept := s.ldrs.held
  have s := { s with ldrs := { s.ldrs with held := SMap.clear s.ldrs.held fun k => (s.placedIn k).isSome } }
  s.forEach kept fun s e => s.putChunk e.1 e.2

/-- The last needed chunk is held (R310). -/
def State.checkComplete (s : State) : State :=
  have s := s.showLoad
  if s.ldr = 1 ∧ s.loadComplete then s.wr Reg.LDR_STATUS_STATE 3 else s

/-- A chunk with all its bytes arrives (R321 from step 4): CRC, duplicate, needed, stored. -/
def State.takeChunk (s : State) (c x crc : Nat) : State :=
  if crc32 (leBytes 4096 x) ≠ crc then s.count Reg.LDR_CHUNK_CRC_CNT 1
  else if s.hasChunk c then s.count Reg.LDR_CHUNK_DUP_CNT 1
  else if !inRanges s.neededRanges c then s
  else
    have known := s.tableHeld && (s.imgKind == 1 || s.variantKnown)
    have s := (s.putChunk c x).count Reg.LDR_CHUNK_RX_CNT 1
    have s := { s with ldrs := { s.ldrs with got := SMap.set (fun _ => false) s.ldrs.got c true } }
    (if !known && s.tableHeld && (s.imgKind == 1 || s.variantKnown) then s.placeKept else s).checkComplete

/-- The assemblies after a part of a chunk (R321, step 3); a part of a 65th chunk evicts the oldest. -/
def State.addPart (s : State) (c crc p x : Nat) : State :=
  match s.ldrs.asm.find? fun a => a.chunk == c with
  | some a =>
    have b := { a with parts := SMap.set (fun _ => 2 ^ 2816) a.parts p x }
    { s with ldrs := { s.ldrs with asm := s.ldrs.asm.map fun y => if y.chunk = c then b else y } }
  | none =>
    have b : Asm := { chunk := c, crc := crc, parts := SMap.set (fun _ => 2 ^ 2816) [] p x }
    if s.ldrs.asm.length < 64 then { s with ldrs := { s.ldrs with asm := s.ldrs.asm ++ [b] } }
    else { s.count Reg.LDR_PART_EVICT_CNT 1 with ldrs := { s.ldrs with asm := s.ldrs.asm.tail ++ [b] } }

/-- The chunk whose twelve parts are all here leaves assembly (R321, step 4). -/
def State.finishChunk (s : State) (c : Nat) : State :=
  match s.ldrs.asm.find? fun a => a.chunk == c && a.parts.length == 12 with
  | none => s
  | some a =>
    have s := { s with ldrs := { s.ldrs with asm := s.ldrs.asm.filter fun y => y.chunk != c } }
    s.takeChunk c (a.parts.foldl (fun n p => n + 2 ^ (2816 * p.1) * p.2) 0) a.crc

/-- Show the highest round seen (R326). -/
def State.seeRound (s : State) (r : Nat) : State := s.raise Reg.LDR_STATUS_ROUND r

/-- A part arrives (R321). -/
def State.takePart (s : State) (f : Flit) : State :=
  have h := rwHdr f
  have mine : Bool := nbits h 143 112 == s.rd Reg.LDR_IMAGE_ID_ID % 2 ^ 32
  have relay := nbit h 79
  if s.ldr = 1 ∧ !mine then s.count Reg.LDR_STRAY_CNT 1
  else
    have s := if relay then s.ldrSendTo s.children 6 h (rwData f) else s
    if s.ldr ≠ 1 then s.count Reg.LDR_STRAY_CNT 1
    else
      have c := nbits h 111 88
      have p := nbits h 87 84
      if 12 ≤ p then s
      else ((s.seeRound (nbits h 83 80)).addPart c (nbits h 75 44) p (partData (2 ^ (2816 * p) * (rwData f)) p)).finishChunk c

/-- CHUNK_PART (R320, R321): the LDR takes the oldest packet of the VC 6 receive queue. -/
def execChunkPart (s : State) : Host.Outcome State Fault Refusal :=
  match s.niTake 6 (fun _ => true) with
  | none => .next (s.niLost 6 fun _ => true)
  | some (s, _, f) => .next (s.takePart f).ldrPump

/-- The 4,096 bytes of the BAR2 chunk window (R323). -/
def State.chunkWindow (s : State) : Nat :=
  (List.range 512).foldr (fun i a => (s.tab (0x3000000 + 8 * i)).toNat + 2 ^ 64 * a) 0

/-- CHUNK_SUBMIT (R323): a write of chunk number and CRC to LDR_CHUNK. -/
def execChunkSubmit (chunk : Fin 16777216) (crc : BitVec 32) (s : State) : Host.Outcome State Fault Refusal :=
  if s.ldr ≠ 1 then .next s.ldrRefuse else .next (s.takeChunk chunk s.chunkWindow crc.toNat)

/-- The source settles before it sends ROUND_END (R322). -/
def State.settle (s : State) : State :=
  { s with ldrs := { s.ldrs with phase := 2, phaseEnd := s.cyc + s.rd Reg.LDR_BCAST_TIME_SETTLE } }

/-- Send every chunk down the tree (R322). -/
def State.sendAll (s : State) (round : Nat) : State :=
  s.forEach (List.range s.imgChunks) fun s c => s.sendChunk s.children round 1 c

/-- BCAST (R322): a source that holds the whole image starts round 0. -/
def execBcast (s : State) : Host.Outcome State Fault Refusal :=
  if !s.isSource ∨ s.ldr < 3 ∨ s.ldr = 11 ∨ s.rdb Reg.LDR_BCAST_STATUS_BUSY ∨ !s.loadComplete then .next s.ldrRefuse
  else
    have s := ((s.wr Reg.LDR_BCAST_STATUS_BUSY 1).wr Reg.LDR_BCAST_STATUS_DONE 0).wr Reg.LDR_BCAST_STATUS_ROUND 0
    have s := s.wr Reg.LDR_BCAST_STATUS_REPORTS 0
    .next (s.sendAll 0).settle.ldrPump

/-- BCAST_SETTLE_END (R322): ROUND_END goes down the tree and the source waits for reports. -/
def execBcastSettleEnd (s : State) : Host.Outcome State Fault Refusal :=
  if s.ldrs.phase ≠ 2 ∨ s.cyc < s.ldrs.phaseEnd then .next s
  else
    have r := s.rd Reg.LDR_BCAST_STATUS_ROUND
    have hdr := 1 * 2 ^ 136 + 2 ^ 104 * (s.rd Reg.LDR_IMAGE_ID_ID % 2 ^ 32) + 2 ^ 100 * r
    have s := (s.ldrSendTo s.children 1 hdr 0).wr Reg.LDR_BCAST_STATUS_REPORTS 0
    .next { s with ldrs := { s.ldrs with
      phase := 3, phaseEnd := s.cyc + s.rd Reg.LDR_BCAST_TIME_REPORT_WAIT, reports := [] } }.ldrPump

/-- A range of a report in chunk numbers: COUNT 0 reaches to the end of the image (R322). -/
def State.rangeChunks (s : State) (r : Nat × Nat) : List Nat :=
  have n := if r.2 = 0 then s.imgChunks - r.1 else min r.2 (s.imgChunks - r.1)
  (List.range n).map fun i => r.1 + i

/-- The rounds are over (R322): LDR_BCAST_SEEN names the modules that reported complete. -/
def State.bcastDone (s : State) : State :=
  have full := (s.ldrs.reports.filter fun r => r.2.2 && r.2.1.isEmpty).map Prod.fst
  have s := s.forEach (List.range 64) fun s k =>
    s.setReg (Reg.LDR_BCAST_SEEN k) (BitVec.ofNat 64
      (((full.dedup).filter fun m => m / 64 == k).foldl (fun a m => a + 2 ^ (m % 64)) 0))
  { ((s.wr Reg.LDR_BCAST_STATUS_BUSY 0).wr Reg.LDR_BCAST_STATUS_DONE 1) with ldrs := { s.ldrs with phase := 0 } }

/-- Raise LOAD_INCOMPLETE (R322, R324, R402). -/
def State.loadIncomplete (s : State) (cause sub a b : Nat) : State :=
  s.fault { code := 0x0702, block := 13, cause := cause, sub := sub, a := a, b := b }

/-- REPORT_WAIT_END (R322): done, given up after round 8, or a round of resends. -/
def execReportWaitEnd (s : State) : Host.Outcome State Fault Refusal :=
  if s.ldrs.phase ≠ 3 ∨ s.cyc < s.ldrs.phaseEnd then .next s
  else
    have rs := s.ldrs.reports
    have r := s.rd Reg.LDR_BCAST_STATUS_ROUND
    have short : Bool := decide ((rs.filter fun x => x.2.2).length < s.rd Reg.LDR_BCAST_CFG_EXPECT)
    have lacking := rs.filter fun x => !x.2.1.isEmpty
    have named := (lacking.map fun x => (x.1, x.2.1.flatMap s.rangeChunks))
    if !short ∧ lacking.isEmpty then .next s.bcastDone
    else if r = 8 then
      have n := if short then s.imgChunks else (named.map fun x => x.2.length).sum
      .next (s.bcastDone.loadIncomplete 1 r 0 n)
    else
      have s := s.wr Reg.LDR_BCAST_STATUS_ROUND (r + 1)
      have s :=
        if short then (s.sendAll (r + 1)).count Reg.LDR_REPAIR_TX_CNT s.imgChunks
        else s.forEach named fun s x =>
          (s.forEach x.2 fun s c => s.sendChunk [x.1] (r + 1) 0 c).count Reg.LDR_REPAIR_TX_CNT x.2.length
      .next s.settle.ldrPump

/-- Ascending chunk numbers as ranges of first and count. -/
def toRanges : List Nat → List (Nat × Nat)
  | [] => []
  | c :: cs =>
    match toRanges cs with
    | (f, n) :: rs => if f = c + 1 then (c, n + 1) :: rs else (c, 1) :: (f, n) :: rs
    | [] => [(c, 1)]

/-- Everything from chunk `c` on as one range; from chunk 0 its COUNT is the largest, since a range of zeros ends a report. -/
def fromChunk (c : Nat) : Nat × Nat := (c, if c = 0 then 2 ^ 24 - 1 else 0)

/-- What the module reports missing (R322): while it cannot know all it needs, everything from the lowest on. -/
def State.reportRanges (s : State) : List (Nat × Nat) :=
  have m := s.missingIn s.neededRanges
  if s.loadComplete then []
  else if !s.tableHeld ∨ (!s.isSource ∧ s.imgKind ≠ 1 ∧ !s.variantKnown) then [fromChunk (m.foldl min (m.headD 0))]
  else
    have rs := toRanges (m.mergeSort (fun a b => decide (a ≤ b))).dedup
    if rs.length ≤ 704 then rs else rs.take 703 ++ [((rs.getD 703 (0, 0)).1, 0)]

/-- The payload of a REPORT: up to 44 ranges of 8 bytes (R322). -/
def rangesData (rs : List (Nat × Nat)) : Nat :=
  rs.foldr (fun r a => 2 ^ 40 * (r.1 % 2 ^ 24) + 2 ^ 16 * (r.2 % 2 ^ 24) + 2 ^ 64 * a) 0

/-- Send a report of round `r` to the source in packets of 44 ranges, the last FINAL (R322). -/
def State.sendReport (s : State) (r : Nat) (rs : List (Nat × Nat)) : State :=
  have n := max 1 ((rs.length + 43) / 44)
  s.forEach (List.range n) fun s i =>
    have hdr := 2 * 2 ^ 136 + 2 ^ 104 * (s.rd Reg.LDR_IMAGE_ID_ID % 2 ^ 32) + 2 ^ 100 * r + (if i + 1 = n then 2 ^ 99 else 0)
    s.ldrQueue 1 (s.rd Reg.LDR_BCAST_CFG_SOURCE) hdr (rangesData ((rs.drop (44 * i)).take 44))

/-- A packet is an LDR message of a kind on VC 1 (R322). -/
def isLdrMsg (msg : Nat) (f : Flit) : Bool := rwDstQ f == 0 && rwKind f == 0 && nbits (rwHdr f) 143 136 == msg

/-- ROUND_END (R322, R325): relayed, and answered with a report; after round 8 a load still RECEIVING is INCOMPLETE. -/
def execRoundEnd (s : State) : Host.Outcome State Fault Refusal :=
  match s.niTake 1 (isLdrMsg 1) with
  | none => .next (s.niLost 1 (isLdrMsg 1))
  | some (s, _, f) =>
    have h := rwHdr f
    have r := nbits h 103 100
    have s := s.ldrSendTo s.children 1 h 0
    if nbits h 135 104 ≠ s.rd Reg.LDR_IMAGE_ID_ID % 2 ^ 32 ∨ (s.ldr ≠ 1 ∧ s.ldr ≠ 3) ∨ r < s.rd Reg.LDR_STATUS_ROUND then
      .next s.ldrPump
    else
      have s := (s.seeRound r).sendReport r s.reportRanges
      have s :=
        if r = 8 ∧ s.ldr = 1 then
          (s.wr Reg.LDR_STATUS_STATE 2).loadIncomplete 1 8 0 (s.missingIn s.neededRanges).length
        else s
      .next s.ldrPump

/-- The ranges a REPORT's payload names: those up to the first of all zeros, 44 at most (R322). -/
def dataRanges (x : Nat) : List (Nat × Nat) :=
  ((List.range 44).map fun i => (nbits x (64 * i + 63) (64 * i + 40), nbits x (64 * i + 39) (64 * i + 16))).takeWhile fun r =>
    r != (0, 0)

/-- REPORT (R322): the source notes what a module lacks. -/
def execReport (s : State) : Host.Outcome State Fault Refusal :=
  match s.niTake 1 (isLdrMsg 2) with
  | none => .next (s.niLost 1 (isLdrMsg 2))
  | some (s, _, f) =>
    have h := rwHdr f
    if s.ldrs.phase ≠ 3 ∨ nbits h 135 104 ≠ s.rd Reg.LDR_IMAGE_ID_ID % 2 ^ 32
        ∨ nbits h 103 100 ≠ s.rd Reg.LDR_BCAST_STATUS_ROUND then .next s
    else
      have m := rwSrc f
      have old := (s.ldrs.reports.find? fun r => r.1 == m).getD (m, [], false)
      have new := (m, old.2.1 ++ dataRanges (rwData f), old.2.2 || nbit h 99)
      have rs : List (Nat × List (Nat × Nat) × Bool) := s.ldrs.reports.filter (fun r => r.1 != m) ++ [new]
      .next ({ s with ldrs := { s.ldrs with reports := rs } }.wr Reg.LDR_BCAST_STATUS_REPORTS
        (rs.filter fun (r : Nat × List (Nat × Nat) × Bool) => r.2.2).length)

/-- The sections of a firmware bundle in the order sent: type, first chunk, chunks (R295, R324). -/
def State.fwSections (s : State) : List Section := s.imgSections.filter fun x => x.typ == 0x100 || x.typ == 0x101

/-- Chunks of a bundle section a receiver needs (R324). -/
def State.fwChunks (s : State) (r : Nat) : Nat :=
  match s.fwSections.find? fun x => x.typ == (if r < 4352 then 0x100 else 0x101) with
  | some x => x.chunks
  | none => 0

/-- What a receiver holds: a bitmap of chunks, and at bit 256 that it holds complete firmware (R324, R386). -/
def State.fwMap (s : State) (r : Nat) : Nat := SMap.get (fun _ => 0) s.ldrs.fw r

/-- A receiver holds complete firmware. -/
def State.fwWhole (s : State) (r : Nat) : Bool := nbit (s.fwMap r) 256

/-- A receiver has power (R423, R445). -/
def State.fwPowered (s : State) (r : Nat) : Bool := s.domOn (if r < 4352 then regionOfPhys r else 29)

/-- A receiver takes chunk `i` of its section, unless it has no power (R324). -/
def State.fwTake (s : State) (r i : Nat) : State :=
  have m := s.fwMap r
  have n := s.fwChunks r
  if nbit m 256 ∨ nbit m i ∨ n ≤ i ∨ !s.fwPowered r then s
  else
    have m := m + 2 ^ i
    have m := if m = 2 ^ n - 1 then m + 2 ^ 256 else m
    { s with ldrs := { s.ldrs with fw := SMap.set (fun _ => 0) s.ldrs.fw r m } }

/-- Receivers that lack firmware. -/
def State.fwLacking (s : State) : List Nat := fwReceivers.filter fun r => !s.fwWhole r

/-- The bitmaps are collected (R324); with none incomplete phase 7 ends (R386). -/
def State.fwCollect (s : State) : State :=
  have l := s.fwLacking
  have s := ((s.wr Reg.LDR_FW_STATUS_INCOMPLETE l.length).wr Reg.LDR_FW_STATUS_FIRST (l.headD 0)).wr Reg.LDR_FW_STATUS_BUSY 0
  have s := { s with ldrs := { s.ldrs with fwNext := none } }
  if l = [] then s.endPhase 7 else s.showWaits

/-- FW_START (R324, R386): a verified bundle goes to every receiver without complete firmware. -/
def execFwStart (s : State) : Host.Outcome State Fault Refusal :=
  if s.ldr ≠ 5 ∨ s.imgKind ≠ 1 ∨ s.rdb Reg.LDR_FW_STATUS_BUSY then .next s.ldrRefuse
  else
    have s := (s.wr Reg.LDR_FW_STATUS_BUSY 1).wr Reg.LDR_FW_STATUS_REPAIRS 0
    have fw := s.ldrs.fw.filter fun e => nbit e.2 256
    have s := { s with ldrs := { s.ldrs with fw := fw, fwNext := some 0, fwLast := s.cyc } }
    .next (if s.fwSections.isEmpty || s.fwLacking.isEmpty then s.fwCollect else s.showWaits)

/-- The `i`th chunk of a pass: the receivers it is for, and its index in their section (R324). -/
def State.fwItem (s : State) (i : Nat) : Option (List Nat × Nat) :=
  have a := s.fwChunks 0
  have b := s.fwChunks 4352
  if i < a then some (List.range 4352, i)
  else if i < a + b then some ((List.range 24).map (4352 + ·), i - a) else none

/-- FW_CHUNK_SEND (R324): every 256 ct the pass sends its next chunk to all its receivers; those in `lost` do not take it. -/
def execFwChunkSend (lost : List Nat) (s : State) : Host.Outcome State Fault Refusal :=
  match s.ldrs.fwNext with
  | none => .next s
  | some i =>
    if s.cyc < s.ldrs.fwLast + 256 then .next s
    else
      match s.fwItem i with
      | none => .next s.fwCollect
      | some (rs, c) =>
        have s := s.forEach (rs.filter fun r => !lost.contains r) fun s r => s.fwTake r c
        have s := { s with ldrs := { s.ldrs with fwNext := some (i + 1), fwLast := s.cyc } }
        .next (if (s.fwItem (i + 1)).isNone then s.fwCollect else s)

/-- The end of the repairs (R324, R386): each receiver still incomplete is reported; tiles are fenced and marked bad and the
Liner is loaded again; a core holds the whole Bonnet OFF. Phase 7 ends. -/
def State.fwGiveUp (s : State) : State :=
  have l := s.fwLacking
  have s := s.forEach l fun s r =>
    have m := s.fwMap r
    s.loadIncomplete 2 8 r ((List.range (s.fwChunks r)).filter fun i => !nbit m i).length
  have tiles := l.filter (· < 4352)
  have s := s.forEach tiles fun s p => (s.fence p).markBad p
  have s := if tiles = [] then s else s.loadLiner.1
  have s := if l.any (4352 ≤ ·) then { s with bon := { s.bon with held := true } } else s
  s.endPhase 7

/-- FW_REPAIR (R324, R386): one repair; `lost` names the receivers and chunks that do not arrive. -/
def execFwRepair (lost : List (Nat × Nat)) (s : State) : Host.Outcome State Fault Refusal :=
  have n := s.rd Reg.LDR_FW_STATUS_REPAIRS
  if s.ldr ≠ 5 ∨ s.imgKind ≠ 1 ∨ s.rdb Reg.LDR_FW_STATUS_BUSY ∨ 8 ≤ n then .next s.ldrRefuse
  else
    have s := s.forEach s.fwLacking fun s r =>
      s.forEach ((List.range (s.fwChunks r)).filter fun i => !lost.contains (r, i)) fun s i => s.fwTake r i
    have s := (s.wr Reg.LDR_FW_STATUS_REPAIRS (n + 1)).fwCollect
    .next (if n + 1 = 8 ∧ s.fwLacking ≠ [] then s.fwGiveUp else s)

end Sys2Proof.Machine
end

