-- ==== Sys2Proof/Machine/Bonnet.lean ====
section
/-! DEFINITION. Sys2Proof/Machine/Bonnet.lean: the Ethernet edge: frames and their checks, BRP datagrams, sessions, requests
and their resources, and the datagrams the Bonnet sends (R327 to R353). -/
namespace Sys2Proof.Machine

/-- A field of the service declaration in force (R337). -/
def State.svc (s : State) (o n : Nat) : Nat := field s.bon.decl o n

/-- The seat's roles (R337): INTAKE, OUTPUT, MEMBER. -/
def State.role (s : State) (i : Nat) : Bool := s.bon.declared && nbit (s.svc 0 1) i

/-- Service cores that hold complete firmware (R324, R353). -/
def State.coresUp (s : State) : Nat := ((List.range 24).filter fun i => s.fwWhole (4352 + i)).length

/-- The Bonnet runs: powered, every core with firmware, not held OFF (R386). -/
def State.bonUp (s : State) : Bool := s.domOn 29 && s.coresUp == 24 && !s.bon.held

/-- Windows run (R338, R353): sessions and windows enabled, a role declared, and the image RUNNING. -/
def State.serves (s : State) : Bool :=
  s.bonUp && s.rdb Reg.BON_CTRL_SVC_EN && s.bon.declared && s.svc 0 1 % 8 != 0 && s.ldr == 8

/-- Show BON_STATUS.STATE and CORES. -/
def State.showBon (s : State) : State :=
  if !s.domOn 29 then s
  else (s.wr Reg.BON_STATUS_CORES s.coresUp).wr Reg.BON_STATUS_STATE (if !s.bonUp then 0 else if s.serves then 2 else 1)

/-- Session entry `i` as a 512-bit number (R334). -/
def State.session (s : State) (i : Nat) : Nat :=
  (List.range 8).foldr (fun w a => (s.tab (0x4000000 + 64 * i + 8 * w)).toNat + 2 ^ 64 * a) 0

/-- Store session entry `i`. -/
def State.setSession (s : State) (i e : Nat) : State :=
  s.forEach (List.range 8) fun s w => s.setTab (0x4000000 + 64 * i + 8 * w) (BitVec.ofNat 64 (e / 2 ^ (64 * w)))

/-- Replace bits [hi:lo] of a number. -/
def nset (x hi lo v : Nat) : Nat := x - 2 ^ lo * (nbits x hi lo) + 2 ^ lo * (v % 2 ^ (hi + 1 - lo))

/-- Fields of a session entry (R334). -/
def seState (e : Nat) : Nat := nbits e 511 510
def seKind (e : Nat) : Nat := nbits e 509 508
def seV6 (e : Nat) : Bool := nbit e 507
def sePort (e : Nat) : Nat := nbits e 506 506
def seUdp (e : Nat) : Nat := nbits e 505 490
def seAddr (e : Nat) : Nat := if seV6 e then nbits e 489 362 else nbits e 393 362
def seId (e : Nat) : Nat := nbits e 361 330
def seLatency (e : Nat) : Nat := nbits e 329 298
def seHome (e : Nat) : Nat := nbits e 297 286
def seRate (e : Nat) : Nat := nbits e 285 270
def seBurst (e : Nat) : Nat := nbits e 269 262
def seHigh (e : Nat) : Nat := nbits e 261 198
def seTx (e : Nat) : Nat := nbits e 197 134

/-- Session `i` is open. -/
def State.sessOpen (s : State) (i : Nat) : Bool := seState (s.session i) == 1

/-- Open sessions, by index, found among the entries that hold anything. -/
def State.openSessions (s : State) : List Nat :=
  s.bar2.filterMap fun e =>
    if 0x4000000 ≤ e.1 ∧ e.1 < 0x4040000 ∧ e.1 % 64 = 56 ∧ fget e.2 63 62 = 1 then some ((e.1 - 0x4000000) / 64) else none

/-- A BRP datagram (R330): its session, type, FLAGS, REQUEST_ID, A, B, OFFSET, plaintext and NONCE. -/
structure Dgram where
  sess : Nat
  typ : Nat
  flags : Nat := 0
  id : Nat := 0
  a : Nat := 0
  b : Nat := 0
  ofs : Nat := 0
  data : List Byte := []
  /-- NONCE as it arrived. -/
  nonce : Nat := 0
deriving DecidableEq, Repr

/-- The 40-byte header (R330). -/
def brpHeader (d : Dgram) (sessId nonce : Nat) : List Byte :=
  beBytes 1 1 ++ beBytes 1 d.typ ++ beBytes 2 d.flags ++ beBytes 4 sessId ++ beBytes 12 nonce ++ beBytes 4 d.id ++ beBytes 4 d.a
    ++ beBytes 4 d.b ++ beBytes 4 d.ofs ++ beBytes 4 d.data.length

/-- A port carries traffic: enabled, its link up, in a powered Bonnet. -/
def State.portUp (s : State) (p : Nat) : Bool := s.domOn 29 && nbit (s.rd Reg.BON_CTRL_PORT_EN) p && nbit (s.rd Reg.BON_STATUS_PORT_UP) p

/-- Send a datagram to the session's peer with the next COUNTER, encrypted (R331, R334). One whose session is closed or whose
port is down goes nowhere. -/
def State.brpSend (s : State) (sender : Nat) (d : Dgram) : State :=
  have e := s.session d.sess
  if seState e ≠ 1 ∨ !s.portUp (sePort e) then s
  else
    have nonce := 2 ^ 64 * sender + seTx e
    have h := brpHeader d (seId e) nonce
    have keys := aesKeys (SMap.get (fun _ => 0) s.bon.keys d.sess)
    have ct := gcmCtr keys nonce d.data
    (s.setSession d.sess (nset e 197 134 (seTx e + 1))).emit
      (.udp (sePort e) (seV6 e) (seAddr e) (seUdp e) (h ++ ct ++ beBytes 16 (gcmTag keys nonce h ct)))

/-- Answer NAK with a reason of R341, as SENDER 1 from the intake seat or 2 from the output seat (R331). -/
def State.nak (s : State) (sender sess id reason : Nat) : State :=
  (s.count Reg.BON_NAK_TX_CNT 1).brpSend sender { sess := sess, typ := 3, id := id, a := reason }

/-- Discard a stranger (R328). -/
def State.stranger (s : State) : State := s.count Reg.BON_STRANGER_CNT 1

/-- A token bucket at `now` (R329): what is used of the burst, in 1/65,536 of a datagram, drains by RATE a tick. One more
datagram is taken if the burst holds it. -/
def bucketTake (rate burst now : Nat) (b : Nat × Nat) : Option (Nat × Nat) :=
  have used := b.1 - rate * (now - b.2)
  if used + 65536 ≤ 65536 * burst then some (used + 65536, now) else none

/-- Charge the bucket of a source address (R329). -/
def State.chargeSource (s : State) (src : Nat) : Option State :=
  have k := Config.srcHash src % 4096
  (bucketTake (s.rd Reg.BON_SRC_LIMIT_RATE) (s.rd Reg.BON_SRC_LIMIT_BURST) s.cyc
    (SMap.get (fun _ => (0, 0)) s.bon.buckets k)).map fun b =>
      { s with bon := { s.bon with buckets := SMap.set (fun _ => (0, 0)) s.bon.buckets k b } }

/-- Charge a session's limiter (R328, R334). -/
def State.chargeSession (s : State) (i : Nat) : Option State :=
  have e := s.session i
  (bucketTake (seRate e) (seBurst e) s.cyc (SMap.get (fun _ => (0, 0)) s.bon.sessLim i)).map fun b =>
    { s with bon := { s.bon with sessLim := SMap.set (fun _ => (0, 0)) s.bon.sessLim i b } }

/-- A client COUNTER `c` with SENDER `sender` is inside the replay window of session `i` (R332). -/
def State.replayOk (s : State) (i sender c : Nat) : Bool :=
  have h := seHigh (s.session i)
  sender == 0 && c != 0 && (decide (h < c) ||
    (decide (h < c + 1024) && c != h && !nbit (SMap.get (fun _ => 0) s.bon.bitmap i) (h - 1 - c)))

/-- H and the bitmap after counter `c` is accepted (R332): bit i stands for H − 1 − i. -/
def State.acceptCounter (s : State) (i c : Nat) : State :=
  have e := s.session i
  have h := seHigh e
  have m := SMap.get (fun _ => 0) s.bon.bitmap i
  have put := fun (s : State) (m : Nat) => ({ s with bon := { s.bon with bitmap := SMap.set (fun _ => 0) s.bon.bitmap i m } } : State)
  if h < c then
    put (s.setSession i (nset e 261 198 c)) ((if 1024 ≤ c - h then 0 else 2 ^ (c - h) * m + (if h = 0 then 0 else 2 ^ (c - h - 1))) % 2 ^ 1024)
  else put s (m + 2 ^ (h - 1 - c))

/-- What the ingress checks make of a frame (R328). -/
inductive Arrival where
  /-- Dropped or a stranger; the state has its count. -/
  | dropped (s : State)
  /-- An ARP or ND request for the port's address. -/
  | neighbour (s : State)
  /-- A PTP frame. -/
  | ptp (s : State)
  /-- A datagram of an open session, decrypted. -/
  | dgram (s : State) (d : Dgram)

/-- The PTP addresses (R328, R356): the two of 802.3, and the multicast MACs of PTP's UDP groups, which R356 does not give (PRESUMED,
log entry 64). -/
def ptpMacs : List Nat := [0x011B19000000, 0x0180C200000E, 0x01005E000181, 0x01005E00006B, 0x333300000181, 0x33330000006B]

/-- Check 2: the destination MAC (R328). -/
def State.macOk (s : State) (f : EthFrame) : Bool :=
  have p := f.port.val
  f.dmac == s.rd (Reg.BON_PORT_MAC_MAC p) || ptpMacs.contains f.dmac ||
    (match f.body with
     | .arp _ _ => f.dmac == 0xFFFFFFFFFFFF
     | .nd _ _ => f.dmac == 0x3333FF000000 + s.rd (Reg.BON_PORT_IP6_LO_ADDR p) % 2 ^ 24
     | _ => false)

/-- Check 3: the VLAN (R327). -/
def State.vlanOk (s : State) (f : EthFrame) : Bool :=
  match f.vlan with
  | none => true
  | some v => s.rdb (Reg.BON_PORT_MAC_VLAN_EN f.port.val) && v == s.rd (Reg.BON_PORT_MAC_VLAN f.port.val)

/-- The port's IPv6 address; 0 disables IPv6 (R353). -/
def State.ip6 (s : State) (p : Nat) : Nat := 2 ^ 64 * (s.rd (Reg.BON_PORT_IP6_HI_ADDR p)) + s.rd (Reg.BON_PORT_IP6_LO_ADDR p)

/-- An IP address is the port's. -/
def State.ipIs (s : State) (p : Nat) (v6 : Bool) (a : Nat) : Bool :=
  if v6 then s.ip6 p != 0 && a == s.ip6 p else s.rdb (Reg.BON_PORT_IP4_EN p) && a == s.rd (Reg.BON_PORT_IP4_ADDR p)

/-- The session that a datagram of given SESSION_ID, source address and UDP port belongs to (check 8). -/
def State.findSession (s : State) (id src sport : Nat) (v6 : Bool) : Option Nat :=
  if !s.rdb Reg.BON_CTRL_SVC_EN then none
  else s.openSessions.find? fun i =>
    have e := s.session i
    seId e == id && seV6 e == v6 && seAddr e == src && seUdp e == sport

/-- Checks 8 to 11 on a BRP datagram (R328, R331, R332). -/
def State.checkBrp (s : State) (v6 : Bool) (src sport : Nat) (x : List Byte) : Arrival :=
  have num := fun (o n : Nat) => ofBeBytes ((x.drop o).take n)
  have len := num 36 4
  match s.findSession (num 4 4) src sport v6 with
  | none => .dropped s.stranger
  | some i =>
    if num 0 1 ≠ 1 ∨ 8192 < len ∨ x.length ≠ 56 + len then .dropped s.stranger
    else
      have keys := aesKeys (SMap.get (fun _ => 0) s.bon.keys i)
      have ct := (x.drop 40).take len
      if gcmTag keys (num 8 12) (x.take 40) ct ≠ num (40 + len) 16 then .dropped (s.count Reg.BON_AUTH_FAIL_CNT 1)
      else if !s.replayOk i (num 8 4) (num 12 8) then .dropped (s.count Reg.BON_REPLAY_CNT 1)
      else
        have s := s.acceptCounter i (num 12 8)
        match s.chargeSession i with
        | none => .dropped (s.count Reg.BON_RATE_DROP_CNT 1)
        | some s =>
          .dgram s { sess := i, typ := num 1 1, flags := num 2 2, id := num 20 4, a := num 24 4, b := num 28 4, ofs := num 32 4,
                     data := gcmCtr keys (num 8 12) ct, nonce := num 8 12 }

/-- The ingress checks in order (R328). A frame read from its ingress buffer with an uncorrectable word is dropped (R351). -/
def State.checkFrame (s : State) (f : EthFrame) : Arrival :=
  have p := f.port.val
  have s := s.count Reg.BON_RX_FRAME_CNT 1
  have r := s.guardWords .bonnet 0 0 p 0
  have s := r.1.dropUpsets .bonnet 0 0 p
  if r.2.2 then .dropped s
  else if !f.good then .dropped (s.count Reg.BON_RX_ERR_CNT 1)
  else if 9216 < f.len ∨ !s.macOk f ∨ !s.vlanOk f then .dropped s.stranger
  else
    match f.body with
    | .arp req t => if req && s.ipIs p false t then .neighbour s else .dropped s.stranger
    | .nd sol t => if sol && s.ipIs p true t then .neighbour s else .dropped s.stranger
    | .ptp => .ptp s
    | .other => .dropped s.stranger
    | .udp v6 src dst sport dport csum x =>
      if !s.ipIs p v6 dst ∨ dport ≠ s.rd Reg.BON_INTAKE_CFG_UDP_PORT ∨ csum = some false ∨ (v6 ∧ csum = none) then .dropped s.stranger
      else
        match s.chargeSource src with
        | none => .dropped (s.count Reg.BON_RATE_DROP_CNT 1)
        | some s => s.checkBrp v6 src sport x

/-- A frame reaches the Bonnet: its port is up and the cores run. -/
def State.hears (s : State) (f : EthFrame) : Bool := s.bonUp && s.portUp f.port.val

/-- A datagram type and session that some receiver on this seat takes (R333): a client's to INTAKE or OUTPUT, a collector's to
a BULK session; any datagram of a forwarding session is taken to be sent on (R336). -/
def State.takes (s : State) (d : Dgram) : Bool :=
  have e := s.session d.sess
  seHome e != s.rd Reg.RTE_SELF_ID || (seKind e == 1 && d.typ == 8)
    || (seKind e == 0 && (((d.typ == 1 || d.typ == 6) && s.role 0) || (d.typ == 5 && s.role 1)))

/-- The part of a forwarded datagram at byte 352 `i` (R336): addressed by seat, on VC 5. -/
def State.forwardPart (s : State) (home : Nat) (x : List Byte) (i : Nat) : State :=
  have h := Config.fwdHeader i
  s.inject 5 (.coord home) (h / 2 ^ 144 % 256) 0xFFFF 0 0 h (ofLeBytes ((x.drop (352 * i)).take 352))

/-- Send a checked datagram of a forwarding session to its HOME: its header as it arrived, and plaintext (R336). -/
def State.forwardDgram (s : State) (d : Dgram) : State :=
  have e := s.session d.sess
  have x := brpHeader d (seId e) d.nonce ++ d.data
  (s.forEach (List.range ((x.length + 351) / 352)) fun s i => s.forwardPart (seHome e) x i).count Reg.BON_FWD_CNT 1

/-- A datagram of a forwarding session, of a type that no command of its own brings (R333, R336). -/
def State.sentOn (s : State) (d : Dgram) : Bool :=
  seHome (s.session d.sess) != s.rd Reg.RTE_SELF_ID && d.typ != 1 && d.typ != 5 && d.typ != 6 && d.typ != 8

/-- FRAME_DROPPED (R328): a frame that fails a check, or that is of a type its receiver does not take (R333), is dropped and
counted. A forwarding session's datagram of a type that REQUEST, RESEND, CANCEL and BULK_ACK do not bring leaves the Bonnet here, sent
on to HOME (R336; log entry 64); another frame that passes is not this command's. -/
def execFrameDropped (f : EthFrame) (s : State) : Host.Outcome State Fault Refusal :=
  if !s.hears f then .next s
  else
    match s.checkFrame f with
    | .dropped t => .next t
    | .dgram t d => .next (if !t.takes d then t.stranger else if t.sentOn d then t.forwardDgram d else s)
    | _ => .next s

/-- Answer an ARP or ND request, at most 64 per port in each 65,536 ct (R329). -/
def State.answer (s : State) (p : Nat) : State :=
  have w := s.cyc / 65536 + 1
  have x := SMap.get (fun _ => (0, 0)) s.bon.arp p
  have n := if x.1 = w then x.2 else 0
  if 64 ≤ n then s.stranger
  else
    have s := { s with bon := { s.bon with arp := SMap.set (fun _ => (0, 0)) s.bon.arp p (w, n + 1) } }
    (s.count Reg.BON_ARP_ND_CNT 1).emit (.arpAnswer p)

/-- ARP_ND_REQUEST (R328, R329). -/
def execArpNdRequest (f : EthFrame) (s : State) : Host.Outcome State Fault Refusal :=
  if !s.hears f then .next s
  else
    match s.checkFrame f with
    | .neighbour t => .next (t.answer f.port.val)
    | _ => .next s

/-- The request in a slot. -/
def State.reqAt (s : State) (slot : Nat) : Option Req := s.bon.reqs.find? fun r => r.slot == slot

/-- A session's request by REQUEST_ID. -/
def State.reqOf (s : State) (sess id : Nat) : Option Req := s.bon.reqs.find? fun r => r.sess == sess && r.id == id

/-- Replace the request in its slot. -/
def State.setReq (s : State) (r : Req) : State :=
  { s with bon := { s.bon with reqs := s.bon.reqs.map fun x => if x.slot = r.slot then r else x } }

/-- A KV page's entry (R348): its state. -/
def State.pageState (s : State) (p : Nat) : Nat := fget (s.tab (0x4100000 + 8 * p)) 63 62

/-- A page is free, and counted. -/
def State.freePage (s : State) (p : Nat) : State :=
  if s.pageState p = 1 then (s.setTab (0x4100000 + 8 * p) 0).wr Reg.BON_PAGES_FREE (s.rd Reg.BON_PAGES_FREE + 1) else s

/-- A page is held by a slot's request, as page `i` of it (R348); a LOST page stays so (R351). -/
def State.holdPage (s : State) (slot sess i p : Nat) : State :=
  have was := s.pageState p
  if was = 2 then s
  else
    have s := s.setTab (0x4100000 + 8 * p) (BitVec.ofNat 64 (1 * 2 ^ 62 + 2 ^ 44 * (slot % 256) + 2 ^ 32 * (sess % 4096) + i))
    if was = 0 then
      have n := s.rd Reg.BON_PAGES_FREE - 1
      (s.wr Reg.BON_PAGES_FREE n).lower Reg.BON_PAGES_MIN_FREE n
    else s

/-- Hold a request's pages in order. -/
def State.holdPages (s : State) (slot sess : Nat) : Nat → List Nat → State
  | _, [] => s
  | i, p :: ps => State.holdPages (s.holdPage slot sess i p) slot sess (i + 1) ps

/-- The request leaves its slot, and its pages return (R341, R347). -/
def State.dropReq (s : State) (r : Req) : State :=
  have s := { s with bon := { s.bon with reqs := s.bon.reqs.filter fun x => x.slot != r.slot } }
  s.forEach r.pages State.freePage

/-- Working area that prompts not yet handed over take (R339): 4A bytes each, rounded up to 64 KiB. -/
def State.areaUsed (s : State) : Nat :=
  ((s.bon.reqs.filter fun r => r.handed < r.prompt).map fun r => 65536 * ((4 * r.prompt + 65535) / 65536)).sum + Config.areaRetained

/-- R340: a fragment's OFFSET and LENGTH fit a prompt of `a` tokens. -/
def fragOk (d : Dgram) : Bool := d.ofs % 4 == 0 && 4 ≤ d.data.length && d.ofs + d.data.length ≤ 4 * d.a

/-- Pages a request takes (R339). -/
def State.pagesFor (s : State) (a b : Nat) : Nat := (a + b + s.svc 0x28 2 - 1) / s.svc 0x28 2

/-- Free slots and free pages, lowest first. -/
def State.freeSlots (s : State) : List Nat := (List.range (s.svc 0x02 2)).filter fun i => (s.reqAt i).isNone
def State.freePages (s : State) : List Nat := (List.range (s.svc 0x48 4)).filter fun p => s.pageState p == 0

/-- The reason a new request is turned away, if any (R339). -/
def State.claimFails (s : State) (d : Dgram) : Option Nat :=
  if s.svc 0x2A 2 < s.pagesFor d.a d.b ∨ !fragOk d then some 3
  else if s.freeSlots = [] ∨ s.svc 0x58 8 < s.svc 0x50 8 + s.areaUsed + 65536 * ((4 * d.a + 65535) / 65536) then some 1
  else if s.freePages.length < s.pagesFor d.a d.b then some 2
  else none

/-- The window of a prompt that is complete in this cycle: the next to close, and not one that closes now (R338, R342, R352). -/
def State.nextClose (s : State) : Nat :=
  if s.ldr = 8 then max s.bon.nextWin ((s.now + s.svc 0x04 4 - (s.ldrs.start + s.svc 0x08 8)) / s.svc 0x04 4) else 0

/-- Send the ACK of the request in a slot (R339), unless it has gone since its last byte came. -/
def State.sendAck (s : State) (slot : Nat) : State :=
  match s.reqAt slot with
  | some r =>
    if r.complete then s.brpSend 1 { sess := r.sess, typ := 2, id := r.id, a := r.slot, b := s.nextClose % 2 ^ 32 } else s
  | none => s

/-- The ACKs of the cycle leave as it ends, when no other REQUEST of it can take a slot away (R339, R352). -/
def State.sendAcks (s : State) : State := s.forEach s.same.acks State.sendAck

/-- A fragment is accepted (R340, R341): the timer restarts, and the last byte draws ACK. -/
def State.takeFrag (s : State) (r : Req) (d : Dgram) : State :=
  have fs := r.frags ++ [(d.ofs, d.data)]
  have whole := (fs.map fun f => f.2.length).sum == 4 * r.prompt
  have s := s.setReq { r with frags := fs, timer := s.cyc, complete := whole }
  if whole then { s with same := { s.same with acks := s.same.acks ++ [r.slot] } } else s

/-- The stack of the working area is not UP, so an assembly write is discarded (R351). -/
def State.areaDown (s : State) : Bool :=
  have k := s.svc 0x50 8 / 32 / stackWords
  decide (8 ≤ k) || !s.stackUp k

/-- A fragment of a request being assembled (R340, R351). -/
def State.moreFrag (s : State) (r : Req) (d : Dgram) : State :=
  have same := r.frags.any fun f => f.1 == d.ofs && f.2.length == d.data.length
  have hits := r.frags.any fun f => f.1 < d.ofs + d.data.length && d.ofs < f.1 + f.2.length
  if d.a ≠ r.prompt ∨ d.b ≠ r.maxNew ∨ !fragOk d then (s.dropReq r).nak 1 r.sess r.id 4
  else if same then s.count Reg.BON_FRAG_DUP_CNT 1
  else if hits then (s.dropReq r).nak 1 r.sess r.id 4
  else if s.areaDown then (s.dropReq r).nak 1 r.sess r.id 7
  else s.takeFrag r d

/-- A request claims the lowest free slot and pages (R339, R347), with its first fragment. -/
def State.claim (s : State) (d : Dgram) : State :=
  have slot := s.freeSlots.headD 0
  have pages := s.freePages.take (s.pagesFor d.a d.b)
  have r : Req := { slot := slot, sess := d.sess, id := d.id, prompt := d.a, maxNew := d.b, frags := [], pages := pages,
                    born := s.cyc, timer := s.cyc, complete := false, handed := 0, seen := false, cancel := false, released := false }
  have s := { s with bon := { s.bon with reqs := s.bon.reqs ++ [r] } }
  (s.holdPages slot d.sess 0 pages).takeFrag r d

/-- The request of the highest session that has claimed its slot in this cycle, if that session is higher than `i` (R352). -/
def State.lastClaim (s : State) (i : Nat) : Option Req :=
  (s.bon.reqs.filter fun r => r.born == s.cyc && decide (i < r.sess)).foldl (fun b r =>
    match b with
    | none => some r
    | some x => if x.sess ≤ r.sess then some r else b) none

/-- With no slot free, a request takes the slot that a higher session has claimed in this cycle, which gets NAK BUSY (R352); none where
there is no such slot, or the request cannot have it. -/
def State.takeOver (s : State) (d : Dgram) : Option State :=
  if s.freeSlots ≠ [] then none
  else
    match s.lastClaim d.sess with
    | none => none
    | some r =>
      have s := { s.dropReq r with same := { s.same with acks := s.same.acks.filter fun i => i != r.slot } }
      if (s.claimFails d).isSome then none else some ((s.nak 1 r.sess r.id 1).claim d)

/-- A REQUEST datagram at its HOME (R339 to R341, R352). -/
def State.takeRequest (s : State) (d : Dgram) : State :=
  match s.reqOf d.sess d.id with
  | some r => if r.complete then s.stranger else s.moreFrag r d
  | none =>
    have top := SMap.get (fun _ => 0) s.bon.startedId d.sess
    if d.id < top then s.stranger
    else
      have s := { s with bon := { s.bon with startedId := SMap.set (fun _ => 0) s.bon.startedId d.sess (d.id + 1) } }
      match s.claimFails d with
      | some reason =>
        (match s.takeOver d with
         | some s => s
         | none => s.nak 1 d.sess d.id reason)
      | none => if s.areaDown then s.nak 1 d.sess d.id 7 else s.claim d

/-- A CANCEL datagram (R352). -/
def State.takeCancel (s : State) (d : Dgram) : State :=
  match s.reqOf d.sess d.id with
  | none => s.stranger
  | some r =>
    if r.released then s.stranger
    else if r.seen then s.setReq { r with cancel := true }
    else (s.dropReq r).nak 1 r.sess r.id 6

/-- Time of the close of window `w` (R338). -/
def State.closeTick (s : State) (w : Nat) : Nat := s.ldrs.start + s.svc 0x08 8 + w * s.svc 0x04 4

/-- The session's port can send. -/
def State.sessUp (s : State) (i : Nat) : Bool := seState (s.session i) == 1 && s.portUp (sePort (s.session i))

/-- A TOKENS datagram departs with a new nonce (R345, R346): one later than close + OUT_OFS + OUT_DEADLINE is counted. Without a port
nothing departs. -/
def State.sendTok (s : State) (t : Tok) : State :=
  if !s.sessUp t.sess then s
  else
    have s := (s.brpSend 2 { sess := t.sess, typ := 4, flags := t.flags, id := t.id, a := t.first, b := t.toks.length,
                             data := t.toks.flatMap (leBytes 4) }).count Reg.BON_TOKENS_TX_CNT 1
    if s.closeTick t.win + s.svc 0x1C 4 + s.svc 0x20 4 < s.now then s.count Reg.BON_OUT_LATE_CNT 1 else s

/-- Kept tokens of a request that a range of `n` from `first` touches. -/
def tokHit (d : Dgram) (t : Tok) : Bool :=
  t.sess == d.sess && t.id == d.id && t.first < d.a + d.b && d.a < t.first + max 1 t.toks.length

/-- A RESEND datagram (R346, R352): kept tokens go again, or wait while the port is down; those that wait go once, when it comes up. -/
def State.takeResend (s : State) (d : Dgram) : State :=
  have hit := s.bon.kept.filter (tokHit d)
  if !hit.isEmpty then
    (if s.sessUp d.sess then s.forEach hit State.sendTok
     else { s with bon := { s.bon with kept := s.bon.kept.filter (fun t => !tokHit d t), waiting := s.bon.waiting ++ hit } })
  else if s.bon.waiting.any (tokHit d) then s
  else s.nak 2 d.sess d.id 8

/-- Bytes of the bulk transfer. -/
def State.bulkLen (s : State) : Nat := s.rd Reg.BON_BULK_LEN_LEN

/-- End the bulk transfer (R349): DONE, or failed with a cause. -/
def State.bulkEnd (s : State) (cause : Nat) : State :=
  (s.wr Reg.BON_BULK_STATUS_STATE (if cause = 0 then 2 else 3)).wr Reg.BON_BULK_STATUS_CAUSE cause

/-- A bulk transfer runs. -/
def State.bulkRuns (s : State) : Bool := s.rd Reg.BON_BULK_STATUS_STATE == 1

/-- Send bulk datagrams while the window of 256, RATE and the port let one leave (R349). -/
def State.bulkPump (s : State) : Nat → State
  | 0 => s
  | n + 1 =>
    have b := s.bon.bulk
    have acked := s.rd Reg.BON_BULK_STATUS_ACKED
    if !s.bulkRuns || decide (s.bulkLen ≤ b.next) || decide (acked + 256 * 8192 ≤ b.next) || decide (s.cyc < b.due)
        || !s.portUp (sePort (s.session b.sess)) then s
    else
      have len := min 8192 (s.bulkLen - b.next)
      have r := s.hbmReadN 14 ((s.rd Reg.BON_BULK_BASE_ADDR + b.next) / 32) ((len + 31) / 32)
      if r.2.any Option.isNone then r.1.bulkEnd 2
      else
        have rate := s.rd Reg.BON_BULK_CTRL_RATE
        have s := r.1.brpSend 3 { sess := b.sess, typ := 7, a := b.num, ofs := b.next, data := leBytes len (joinRWords r.2) }
        State.bulkPump { s with bon := { s.bon with bulk :=
          { b with next := b.next + len, due := if rate = 0 then s.cyc else max b.due s.cyc + 65536 / rate } } } n

/-- Let bulk output go on. -/
def State.bulkGo (s : State) : State := if s.bulkRuns && s.bonUp then s.bulkPump 256 else s

/-- A BULK_ACK datagram (R349). -/
def State.takeBulkAck (s : State) (d : Dgram) : State :=
  have b := s.bon.bulk
  have got := min (8192 * d.b) s.bulkLen
  if !s.bulkRuns || b.sess != d.sess || b.num % 2 ^ 32 != d.a || decide (got ≤ s.rd Reg.BON_BULK_STATUS_ACKED) then s
  else
    have s := s.wr Reg.BON_BULK_STATUS_ACKED got
    have s := { s with bon := { s.bon with bulk := { b with since := s.cyc, tries := 0, next := max b.next got } } }
    if got = s.bulkLen then s.bulkEnd 0 else s.bulkGo

/-- A datagram of type `typ` that the ingress checks deliver is handled by `act`, or sent on to its HOME, or is a stranger when
no receiver here takes it (R333, R336). -/
def State.deliverBrp (s : State) (f : EthFrame) (typ : Nat) (act : State → Dgram → State) : State :=
  if !s.hears f then s
  else
    match s.checkFrame f with
    | .dropped t => t
    | .dgram t d =>
      if d.typ ≠ typ then s
      else if seHome (t.session d.sess) ≠ t.rd Reg.RTE_SELF_ID then t.forwardDgram d
      else if t.takes d then act t d
      else t.stranger
    | _ => s

/-- REQUEST (R328, R333, R336, R339 to R341): a frame with a REQUEST arrives. -/
def execRequest (f : EthFrame) (s : State) : Host.Outcome State Fault Refusal := .next (s.deliverBrp f 1 State.takeRequest)

/-- CANCEL (R352): a frame with a CANCEL arrives. -/
def execCancel (f : EthFrame) (s : State) : Host.Outcome State Fault Refusal := .next (s.deliverBrp f 6 State.takeCancel)

/-- RESEND (R346): a frame with a RESEND arrives. -/
def execResend (f : EthFrame) (s : State) : Host.Outcome State Fault Refusal := .next (s.deliverBrp f 5 State.takeResend)

/-- BULK_ACK (R349): a frame with a BULK_ACK arrives. -/
def execBulkAck (f : EthFrame) (s : State) : Host.Outcome State Fault Refusal := .next (s.deliverBrp f 8 State.takeBulkAck)

/-- A packet of VC 5 carries part `i` of a forwarded datagram's bytes `x` (R336). -/
def carriesPart (x : List Byte) (i : Nat) (f : Flit) : Bool :=
  have part := (x.drop (352 * i)).take 352
  (leBytes 352 (rwData f)).take part.length == part

/-- Take the packets of the first `n` parts of a forwarded datagram from the receive queue of VC 5, in whatever order they came
(R154, R336), and whether each could be read (R280); none while one has not arrived. -/
def State.takeParts (s : State) (x : List Byte) : Nat → Option (State × Bool)
  | 0 => some (s, true)
  | n + 1 =>
    match s.takeParts x n with
    | none => none
    | some a =>
      match a.1.niRead 5 (carriesPart x n) with
      | none => none
      | some r => some (r.1, a.2 && r.2.2.isSome)

/-- Take a forwarded datagram (R336). -/
def State.takeForwarded (s : State) (x : List Byte) : State × Bool :=
  if x.length < 40 then (s, false)
  else
    match s.takeParts x ((x.length + 351) / 352) with
    | some r => r
    | none => (s, false)

/-- FORWARDED_DATAGRAM (R336): HOME handles the header and plaintext as an arrival of its own session, without decrypting
again. -/
def execForwardedDatagram (sess : Fin 4096) (data : List Byte) (s : State) : Host.Outcome State Fault Refusal :=
  if !s.bonUp then .next s
  else
    have r := s.takeForwarded data
    have s := r.1
    if !r.2 then .next s
    else
      have num := fun (o n : Nat) => ofBeBytes ((data.drop o).take n)
      have e := s.session sess
      have d : Dgram := { sess := sess, typ := num 1 1, flags := num 2 2, id := num 20 4, a := num 24 4, b := num 28 4,
                          ofs := num 32 4, data := data.drop 40, nonce := num 8 12 }
      if seState e ≠ 1 ∨ seId e ≠ num 4 4 ∨ seHome e ≠ s.rd Reg.RTE_SELF_ID ∨ !s.rdb Reg.BON_CTRL_SVC_EN ∨ !s.takes d then
        .next s.stranger
      else
        match d.typ with
        | 1 => .next (s.takeRequest d)
        | 5 => .next (s.takeResend d)
        | 6 => .next (s.takeCancel d)
        | _ => .next (s.takeBulkAck d)

/-- The window whose close plus `ofs` is now, if windows run (R338). -/
def State.windowAt (s : State) (ofs : Nat) : Option Nat :=
  have w := (s.now - (s.ldrs.start + s.svc 0x08 8 + ofs)) / s.svc 0x04 4
  if s.serves ∧ s.now = s.closeTick w + ofs ∧ s.svc 0x04 4 ≠ 0 then some w else none

/-- A window close is due at this tick and has not been made (R352): it goes before an assembly timeout. -/
def State.closeDue (s : State) : Bool :=
  match s.windowAt 0 with
  | some w => decide (s.bon.nextWin ≤ w)
  | none => false

/-- ASM_TIMEOUT (R341, R352): the assembly timer of slot `slot` has reached its limit. -/
def execAsmTimeout (slot : Fin 256) (s : State) : Host.Outcome State Fault Refusal :=
  match s.reqAt slot with
  | some r =>
    if r.complete ∨ s.cyc < r.timer + s.rd Reg.BON_INTAKE_CFG_ASM_TIMEOUT ∨ s.closeDue ∨ !s.bonUp then .next s
    else .next (((s.dropReq r).count Reg.BON_ASM_TIMEOUT_CNT 1).nak 1 r.sess r.id 5)
  | none => .next s

end Sys2Proof.Machine
end

