-- ==== Sys2Proof/Machine/Serve.lean ====
section
/-! DEFINITION. Sys2Proof/Machine/Serve.lean: windows and their records, token output, the session table and its commands, bulk
transfers and ports coming up (R334 to R352). -/
namespace Sys2Proof.Machine

/-- Bytes of a slot's page list, of a window record, of an output entry and of an output record (R343, R345). -/
def State.listBytes (s : State) : Nat := 32 * ((s.svc 0x2A 2 + 15) / 16)
def State.recordBytes (s : State) : Nat :=
  have n := s.svc 0x02 2
  64 + 64 * n + n * s.listBytes + 4 * n * s.svc 0x24 2
def State.outEntryBytes (s : State) : Nat := 16 + 4 * s.svc 0x26 2
def State.outBytes (s : State) : Nat := 64 + s.svc 0x02 2 * s.outEntryBytes

/-- A slot's state for the window that closes in Crown clock cycle `now` (R342): a prompt whose last fragment came in that cycle still waits
(R352). -/
def slotState (now : Nat) (r : Option Req) : Nat :=
  match r with
  | none => 0
  | some r =>
    if r.released then 5
    else if !r.complete || r.timer == now then 1
    else if r.cancel then 4 else if r.handed < r.prompt then 2 else 3

/-- Tokens of the next chunk of a request in PREFILL (R342). -/
def State.chunkOf (s : State) (r : Req) : Nat := if slotState s.cyc (some r) = 2 then min (s.svc 0x24 2) (r.prompt - r.handed) else 0

/-- A request's prompt, from its fragments. -/
def Req.bytes (r : Req) : List Byte := ((r.frags.mergeSort fun a b => decide (a.1 ≤ b.1)).flatMap Prod.snd)

/-- Pad or cut bytes to a length. -/
def fit (n : Nat) (l : List Byte) : List Byte := l.take n ++ List.replicate (n - l.length) 0

/-- A slot's entry in the window record (R343). -/
def State.slotEntry (s : State) (slot : Nat) : List Byte :=
  match s.reqAt slot with
  | none => List.replicate 64 0
  | some r =>
    have st := slotState s.cyc (some r)
    fit 64 (leBytes 1 st ++ leBytes 1 (b2n (st == 2 && !r.seen)) ++ leBytes 2 r.sess ++ leBytes 4 r.id ++ leBytes 4 r.prompt
      ++ leBytes 4 r.maxNew ++ leBytes 4 (if st = 2 then r.handed else 0) ++ leBytes 4 (s.chunkOf r) ++ leBytes 2 r.pages.length)

/-- A slot's page list (R343): written for NEW and RELEASED slots. -/
def State.slotPages (s : State) (slot : Nat) : List Byte :=
  match s.reqAt slot with
  | none => List.replicate s.listBytes 0
  | some r =>
    have st := slotState s.cyc (some r)
    fit s.listBytes (if st = 5 ∨ (st = 2 ∧ !r.seen) then r.pages.flatMap (leBytes 2) else [])

/-- A slot's prompt tokens (R343). -/
def State.slotTokens (s : State) (slot : Nat) : List Byte :=
  match s.reqAt slot with
  | none => List.replicate (4 * s.svc 0x24 2) 0
  | some r => fit (4 * s.svc 0x24 2) ((r.bytes.drop (4 * r.handed)).take (4 * s.chunkOf r))

/-- The window record (R343). -/
def State.windowRecord (s : State) (w : Nat) : List Byte :=
  have is := List.range (s.svc 0x02 2)
  fit 64 (leBytes 8 w ++ leBytes 8 s.now ++ leBytes 2 (s.svc 0x02 2)) ++ is.flatMap s.slotEntry ++ is.flatMap s.slotPages
    ++ is.flatMap s.slotTokens

/-- A request after a window has carried it (R342). -/
def State.afterWindow (s : State) (r : Req) : Req :=
  if slotState s.cyc (some r) = 2 then { r with seen := true, handed := r.handed + s.chunkOf r } else r

/-- WINDOW_CLOSE (R338, R342, R343): the intake seat gives every slot its state and makes the record. -/
def execWindowClose (s : State) : Host.Outcome State Fault Refusal :=
  match s.windowAt 0 with
  | none => .next s
  | some w =>
    if w < s.bon.nextWin then .next s
    else
      have s := ((s.wr Reg.BON_WINDOW_INDEX w).wr Reg.BON_WINDOW_DONE 0)
      have s := { s with bon := { s.bon with nextWin := w + 1 } }
      if !s.role 0 then .next s
      else
        have sts := (List.range (s.svc 0x02 2)).map fun i => slotState s.cyc (s.reqAt i)
        have act := (sts.filter fun x => 2 ≤ x && x ≤ 4).length
        have s := ((s.wr Reg.BON_WINDOW_ACTIVE act).wr Reg.BON_WINDOW_VOID (sts.length - act)).count Reg.BON_VOID_SLOT_CNT
          (sts.length - act)
        .next { s with bon := { s.bon with record := some (s.windowRecord w), reqs := s.bon.reqs.map s.afterWindow } }

/-- Bytes as the words a store takes. -/
def byteWords (l : List Byte) : List RWord :=
  (List.range ((l.length + 31) / 32)).map fun i => some (ofLeBytes ((l.drop (32 * i)).take 32))

/-- Byte address of a record of window `w` in one of two buffers of `n` bytes (R337, R345). -/
def bufferAt (base n w : Nat) : Nat := base + w % 2 * n

/-- Every word of a range lies in a stack that is UP. -/
def State.rangeUp (s : State) (a n : Nat) : Bool :=
  have k0 := a / 32 / stackWords
  have k1 := (a + n - 1) / 32 / stackWords
  decide (k1 < 8) && (List.range (k1 + 1 - k0)).all fun i => s.stackUp (k0 + i)

/-- WINDOW_RECORD_DONE (R343, R347, R351): the last word of the record is written; listed pages of RELEASED slots become
free. -/
def execWindowRecordDone (s : State) : Host.Outcome State Fault Refusal :=
  match s.bon.record with
  | none => .next s
  | some rec =>
    if !s.bonUp then .next s
    else
      have a := bufferAt (s.svc 0x30 8) s.recordBytes (s.bon.nextWin - 1)
      have good := s.rangeUp a s.recordBytes
      have gone := s.bon.reqs.filter fun r => (rec.getD (64 + 64 * r.slot) 0).toNat == 5
      have s := { s.hbmWriteCap 0 (a / 32) (byteWords rec) with bon := { s.bon with record := none } }
      .next (if good then (s.forEach gone State.dropReq).wr Reg.BON_WINDOW_DONE 1 else s)

/-- Bytes `o` to `o + n` of a record read; none when a word of them is poisoned. -/
def recordPart (ws : List RWord) (o n : Nat) : Option Nat :=
  have part := (ws.drop (o / 32)).take ((o + n + 31) / 32 - o / 32)
  if part.any Option.isNone then none else some (joinRWords part / 2 ^ (8 * (o % 32)) % 2 ^ (8 * n))

/-- A seat other than the intake seat updates its page table from slot `i` of a record (R343); a list that cannot be read
changes nothing (log entry 43). -/
def State.mirrorPages (s : State) (ws : List RWord) (i : Nat) : State :=
  have e := (recordPart ws (64 + 64 * i) 64).getD 0
  have st := field e 0 1
  have new : Bool := st == 2 && nbit (field e 1 1) 0
  have n := field e 24 2
  match recordPart ws (64 + 64 * s.svc 0x02 2 + i * s.listBytes) s.listBytes with
  | none => s
  | some l =>
    have pages := (List.range (min n (s.svc 0x2A 2))).map fun j => field l (2 * j) 2
    if new then s.holdPages i (field e 2 2) 0 pages else if st = 5 then s.forEach pages State.freePage else s

/-- The output seat's view of slot `i` from a record (R345). -/
def State.mirrorSlot (s : State) (ws : List RWord) (i : Nat) : State :=
  have e := (recordPart ws (64 + 64 * i) 64).getD 0
  have old := SMap.get (fun _ => ⟨0, 0, 0, 0, 0⟩) s.bon.outs i
  have st := field e 0 1
  have new : OutSlot := { st := st, sess := field e 2 2 % 4096, id := field e 4 4, maxNew := field e 12 4,
                          sent := if (st == 2 && nbit (field e 1 1) 0) || old.id != field e 4 4 || old.sess != field e 2 2 % 4096
                                  then 0 else old.sent }
  { s with bon := { s.bon with outs := SMap.set (fun _ => ⟨0, 0, 0, 0, 0⟩) s.bon.outs i new } }

/-- MIRROR_READ (R343, R345): a MEMBER or OUTPUT seat reads its copy of the record. -/
def execMirrorRead (s : State) : Host.Outcome State Fault Refusal :=
  match s.windowAt (s.svc 0x18 4) with
  | none => .next s
  | some w =>
    if w < s.bon.nextMirror ∨ (!s.role 1 ∧ !s.role 2) then .next s
    else
      have r := s.hbmReadN 14 (bufferAt (s.svc 0x30 8) s.recordBytes w / 32) (s.recordBytes / 32)
      have s := { r.1 with bon := { r.1.bon with nextMirror := w + 1 } }
      have is := List.range (s.svc 0x02 2)
      have s := if s.role 0 then s else s.forEach is fun s i => s.mirrorPages r.2 i
      .next (if s.role 1 then s.forEach is fun s i => s.mirrorSlot r.2 i else s)

/-- RECORD_DEADLINE_CHECK (R306, R344): the LDR finds DONE 0 at close + RECORD_DEADLINE of an intake seat. -/
def execRecordDeadlineCheck (s : State) : Host.Outcome State Fault Refusal :=
  have d := s.ldrs.decl
  have first := s.ldrs.start + field d 0x08 8 + field d 0x10 4
  have w := (s.now - first) / field d 0x04 4
  if !s.ldrs.declared ∨ !nbit (field d 0 1) 0 ∨ s.ldr ≠ 8 ∨ field d 0x04 4 = 0 ∨ s.now ≠ first + w * field d 0x04 4
      ∨ w < s.ldrs.nextCheck then .next s
  else
    have s := { s with ldrs := { s.ldrs with nextCheck := w + 1 } }
    if s.rdb Reg.BON_WINDOW_DONE then .next s
    else .next (s.refuseAt { reason := 21, sub := 1, index := w, value := w } (s.rd Reg.CUF_SEAM_SEGMENT + 1))

/-- The slot of a request is marked CANCEL on this seat (R345, R351). -/
def State.cancelSlot (s : State) (i : Nat) : State :=
  match s.reqAt i with
  | some r => if r.seen && !r.released then s.setReq { r with cancel := true } else s
  | none => s

/-- Send TOKENS now, or keep them waiting while the port is down (R345, R346). -/
def State.tokensOut (s : State) (t : Tok) : State :=
  if seState (s.session t.sess) ≠ 1 then s
  else if s.sessUp t.sess then
    have s := s.sendTok t
    { s with bon := { s.bon with kept := s.bon.kept ++ [t] } }
  else { s with bon := { s.bon with waiting := s.bon.waiting ++ [t] } }

/-- The output seat sends what the output record holds for slot `i` (R345, R351). A slot past MAX_NEW is reported to the intake seat: marked
CANCEL at once where this is that seat too. -/
def State.slotOutput (s : State) (w : Nat) (ws : List RWord) (i : Nat) : State :=
  have o := SMap.get (fun _ => ⟨0, 0, 0, 0, 0⟩) s.bon.outs i
  have at' := 64 + i * s.outEntryBytes
  if o.st < 2 ∨ 4 < o.st then s
  else
    match recordPart ws at' 16 with
    | none => (s.nak 2 o.sess o.id 7).cancelSlot i
    | some e =>
      have n := min (field e 0 4) (s.svc 0x26 2)
      have fin := field e 4 1
      if n = 0 ∧ fin = 0 then s
      else
        match recordPart ws (at' + 16) (4 * n) with
        | none => (s.nak 2 o.sess o.id 7).cancelSlot i
        | some x =>
          have m := min n (o.maxNew - o.sent)
          have t : Tok := { win := w, sess := o.sess, id := o.id, first := o.sent,
                            toks := (List.range m).map fun j => field x (4 * j) 4, flags := if fin = 0 then 0 else 1 + 2 * (fin % 8) }
          have o' : OutSlot := { o with sent := o.sent + n }
          have s := { s with bon := { s.bon with outs := SMap.set (fun _ => ⟨0, 0, 0, 0, 0⟩) s.bon.outs i o' } }
          have s := s.tokensOut t
          if n ≤ m then s else if s.role 0 then s.cancelSlot i else s.emit (.slotReport i o.sess o.id)

/-- The intake seat reads slot `i`'s entry of the output record (R345): with END, the slot is RELEASED in the next record. A count past
MAX_NEW, which the output seat reports, makes it CANCEL there; the report itself has no form in the spec, so the intake seat finds the
same in its own copy (log entry 43). -/
def State.slotEnd (s : State) (ws : List RWord) (i : Nat) : State :=
  match s.reqAt i with
  | some r =>
    have e := (recordPart ws (64 + i * s.outEntryBytes) 16).getD 0
    have sent := r.sent + min (field e 0 4) (s.svc 0x26 2)
    if !r.seen then s
    else if field e 4 1 ≠ 0 then s.setReq { r with released := true, sent := sent }
    else s.setReq { r with sent := sent, cancel := r.cancel || decide (r.maxNew < sent) }
  | none => s

/-- TOKEN_OUTPUT (R345, R346): the output record of a window is read at close + OUT_OFS. -/
def execTokenOutput (s : State) : Host.Outcome State Fault Refusal :=
  match s.windowAt (s.svc 0x1C 4) with
  | none => .next s
  | some w =>
    if w < s.bon.nextOut ∨ (!s.role 0 ∧ !s.role 1) then .next s
    else
      have a := bufferAt (s.svc 0x38 8) s.outBytes w
      have r := s.hbmReadN 14 (a / 32) ((a % 32 + s.outBytes + 31) / 32)
      have skip := fun (l : List RWord) => if a % 32 = 0 then l else byteWords (((l.flatMap fun v => bytesOf v).drop (a % 32)))
      have ws := skip r.2
      have old := fun (t : Tok) => decide (w < t.win + s.svc 0x2C 2)
      have s := { r.1 with bon := { r.1.bon with nextOut := w + 1, kept := r.1.bon.kept.filter old,
                                                 waiting := r.1.bon.waiting.filter old } }
      have is := List.range (s.svc 0x02 2)
      have s := if s.role 1 then s.forEach is fun s i => s.slotOutput w ws i else s
      .next (if s.role 0 then s.forEach is fun s i => s.slotEnd ws i else s)

/-- A write of one word of a session entry keeps the bits the device owns (R334): STATE, HIGH, TX_COUNTER. -/
def sessionWrite (old v : Word) (w : Nat) : Word :=
  match w with
  | 7 => fset v 63 62 (fget old 63 62)
  | 4 => fset v 5 0 (fget old 5 0)
  | 3 => old
  | 2 => fset v 63 6 (fget old 63 6)
  | _ => v

/-- SESSION_TABLE_WRITE (R334): a BAR2 write of word `w` of entry `sess`. -/
def execSessionTableWrite (sess : Fin 4096) (w : Fin 8) (v : Word) (s : State) : Host.Outcome State Fault Refusal :=
  have o := 0x4000000 + 64 * sess.val + 8 * w.val
  .next (s.bar2Write 29 o fun s =>
    if s.sessOpen sess then s.flag Reg.BON_STATUS_WR_REFUSED else s.setTab o (sessionWrite (s.tab o) v w))

/-- The session key registers clear (R335). -/
def State.clearKeys (s : State) : State := s.forEach (List.range 4) fun s i => s.setReg (Reg.BON_SESS_KEY i) 0

/-- The key in the key registers, its bytes in order (R353). -/
def State.keyRegs (s : State) : Nat := ofBeBytes ((List.range 4).flatMap fun i => leBytes 8 (s.reg (Reg.BON_SESS_KEY i)).toNat)

/-- PERIOD + OUT_OFS + OUT_DEADLINE (R335). -/
def State.need (s : State) : Nat := s.svc 0x04 4 + s.svc 0x1C 4 + s.svc 0x20 4

/-- Why an OPEN is refused (R335), or 1 for OK. -/
def State.openResult (s : State) (e : Nat) : Nat :=
  have serving := s.role 0 || s.role 1
  have self := seHome e == s.rd Reg.RTE_SELF_ID
  if seKind e = 0 ∧ serving ∧ seLatency e < s.need then 2
  else if s.openSessions.any fun i => seId (s.session i) == seId e then 4
  else if nbits e 133 0 ≠ 0 ∨ 2 ≤ seKind e ∨ (seKind e = 0 ∧ self ∧ !serving) then 3
  else 1

/-- SESSION_OPEN (R331, R332, R335): CMD = OPEN is written to BON_SESS_CMD. -/
def execSessionOpen (sess : Fin 4096) (s : State) : Host.Outcome State Fault Refusal :=
  .next (s.busWrite Reg.BON_SESS_CMD fun s =>
    have i := sess.val
    have s := s.wr Reg.BON_SESS_CMD_INDEX i
    if !s.bonUp || s.sessOpen i then s.clearKeys.flag Reg.BON_STATUS_WR_REFUSED
    else
      have e := s.session i
      have res := s.openResult e
      have key := s.keyRegs
      have s := s.clearKeys.wr Reg.BON_SESS_CMD_RESULT res
      if res = 2 then s.wr Reg.BON_SESS_CMD_NEED s.need
      else if res ≠ 1 then s
      else
        have s := s.setSession i (nset (nset (nset e 511 510 1) 261 198 0) 197 134 1)
        { s with bon := { s.bon with
            keys := SMap.set (fun _ => 0) s.bon.keys i key, bitmap := SMap.set (fun _ => 0) s.bon.bitmap i 0,
            startedId := SMap.set (fun _ => 0) s.bon.startedId i 0, sessLim := SMap.set (fun _ => (0, 0)) s.bon.sessLim i (0, 0) } })

/-- A session closes at once (R349, R351). -/
def State.closeSession (s : State) (i : Nat) : State :=
  have mine := s.bon.reqs.filter fun r => r.sess == i
  have s := s.setSession i (nset (s.session i) 511 510 0)
  have s := { s with bon := { s.bon with
      keys := SMap.set (fun _ => 0) s.bon.keys i 0, kept := s.bon.kept.filter fun t => t.sess != i,
      waiting := s.bon.waiting.filter fun t => t.sess != i } }
  have s := s.forEach mine fun s r => if r.seen then s.cancelSlot r.slot else s.dropReq r
  if s.bulkRuns && s.bon.bulk.sess == i then s.bulkEnd 4 else s

/-- SESSION_CLOSE (R335, R351): CMD = CLOSE is written to BON_SESS_CMD. -/
def execSessionClose (sess : Fin 4096) (s : State) : Host.Outcome State Fault Refusal :=
  .next (s.busWrite Reg.BON_SESS_CMD fun s =>
    have s := s.wr Reg.BON_SESS_CMD_INDEX sess.val
    if s.sessOpen sess then (s.closeSession sess).wr Reg.BON_SESS_CMD_RESULT 1 else s.flag Reg.BON_STATUS_WR_REFUSED)

/-- BULK_START (R349): SESSION, RATE and START are written to BON_BULK_CTRL. -/
def execBulkStart (sess : Fin 4096) (rate : Fin 65536) (s : State) : Host.Outcome State Fault Refusal :=
  .next (s.busWrite Reg.BON_BULK_CTRL fun s =>
    have s := (s.wr Reg.BON_BULK_CTRL_RATE rate.val).wr Reg.BON_BULK_CTRL_SESSION sess.val
    if s.bulkRuns then s
    else
      have e := s.session sess
      have s := ((s.wr Reg.BON_BULK_STATUS_STATE 1).wr Reg.BON_BULK_STATUS_CAUSE 0).wr Reg.BON_BULK_STATUS_ACKED 0
      have s := { s with bon := { s.bon with bulk :=
        { num := s.bon.bulk.num + 1, sess := sess, next := 0, since := s.cyc, tries := 0, due := s.cyc } } }
      if seState e ≠ 1 ∨ seKind e ≠ 1 then s.bulkEnd 4 else if s.bulkLen = 0 then s.bulkEnd 0 else s.bulkGo)

/-- BULK_ABORT (R349): BON_BULK_CTRL.ABORT is written. -/
def execBulkAbort (s : State) : Host.Outcome State Fault Refusal :=
  .next (s.busWrite Reg.BON_BULK_CTRL fun s => if s.bulkRuns then s.bulkEnd 3 else s)

/-- BULK_TIMEOUT (R349): 1,000,000 ct without progress. -/
def execBulkTimeout (s : State) : Host.Outcome State Fault Refusal :=
  have b := s.bon.bulk
  if !s.bulkRuns || decide (s.cyc < b.since + 1000000) then .next s
  else if 8 ≤ b.tries then .next (s.bulkEnd 1)
  else
    have acked := s.rd Reg.BON_BULK_STATUS_ACKED
    .next ({ s with bon := { s.bon with bulk := { b with next := acked, since := s.cyc, tries := b.tries + 1, due := s.cyc } } }.bulkGo)

/-- ETH_PORT_UP (R345, R346, R352): port `p`'s link comes up, and TOKENS held for it leave. -/
def execEthPortUp (p : Fin 2) (s : State) : Host.Outcome State Fault Refusal :=
  if !s.domOn 29 || !nbit (s.rd Reg.BON_CTRL_PORT_EN) p then .next s
  else
    have s := s.setBit Reg.BON_STATUS_PORT_UP p true
    have mine := s.bon.waiting.filter fun t => sePort (s.session t.sess) == p.val
    have rest := s.bon.waiting.filter fun t => sePort (s.session t.sess) != p.val
    have s := { s with bon := { s.bon with waiting := rest } }
    .next (s.forEach mine State.tokensOut).bulkGo

/-- An uncorrectable word of a Bonnet store but the ingress buffers, whose item `i` it is (R351): 1 the assembly buffer of a slot, 2 a
session entry, 3 a page-table entry. -/
def State.bonLost (s : State) (queue i : Nat) : State :=
  match queue with
  | 1 =>
    (match s.reqAt i with
     | some r => if r.handed < r.prompt then (s.dropReq r).nak 1 r.sess r.id 7 else s
     | none => s)
  | 2 => if s.sessOpen i then s.closeSession i else s
  | _ =>
    have e := s.tab (0x4100000 + 8 * i)
    have was := fget e 63 62
    have s := s.setTab (0x4100000 + 8 * i) (fset e 63 62 2)
    if was = 0 then s.wr Reg.BON_PAGES_FREE (s.rd Reg.BON_PAGES_FREE - 1)
    else if was ≠ 1 then s
    else
      match s.reqAt (fget e 51 44) with
      | some r => if r.seen then s.setReq { r with cancel := true } else (s.dropReq r).nak 1 r.sess r.id 6
      | none => s

/-- The Bonnet meets the errors of its stores (R280, R351): its firmware reads all of them at every tick (log entry 63), but an ingress
buffer with the frame it holds. -/
def State.bonErrors (s : State) : State :=
  if !s.bonUp then s
  else
    s.forEach (s.mem.upsets.filter fun u => u.store == .bonnet && u.queue != 0) fun s u =>
      have r := s.guardWords .bonnet u.inst u.queue u.item 0
      have s := r.1.dropUpsets .bonnet u.inst u.queue u.item
      if r.2.2 then s.bonLost u.queue u.item else s

/-- Pages that a request holds, by the page table (R348). -/
def State.heldPages (s : State) : List Nat :=
  s.bar2.filterMap fun e =>
    if 0x4100000 ≤ e.1 ∧ e.1 < 0x4180000 ∧ e.1 % 8 = 0 ∧ fget e.2 63 62 = 1 then some ((e.1 - 0x4100000) / 8) else none

/-- The load state has left RUNNING (R351): every request ends with NAK ERROR, and slots and pages are free, those that a MEMBER or
OUTPUT seat mirrors too. -/
def State.endServing (s : State) : State :=
  have rs := s.bon.reqs
  have s := s.forEach rs fun s r => (s.dropReq r).nak 1 r.sess r.id 7
  have s := s.forEach s.heldPages State.freePage
  { s with bon := { s.bon with record := none, outs := [], serving := false } }

/-- The Bonnet looks at the load state. -/
def State.bonLook (s : State) : State :=
  have s := if s.bon.serving && s.ldr != 8 then s.endServing
           else { s with bon := { s.bon with serving := s.bonUp && s.ldr == 8 } }
  s.showBon

end Sys2Proof.Machine
end

