-- ==== Sys2Proof/Machine/Ptp.lean ====
section
/-! DEFINITION. Sys2Proof/Machine/Ptp.lean: output time as it follows its source, the PTP domains and their servos, and the PTP
messages of the Ethernet ports (R354 to R365). -/
namespace Sys2Proof.Machine

/-- Set the offset d from now on, and show it in sixteenths of a nanosecond (R363). -/
def State.setD (s : State) (d : Int) : State :=
  { s.wr Reg.TIME_OUT_OFS_D (ofSigned 48 (d / 4096)) with time := { s.time with d := d, dOrg := s.time.mono } }

/-- Output time enters INVALID (R363). -/
def State.outInvalid (s : State) : State :=
  (((s.setD 0).wr Reg.TIME_STATUS_OUT_STATE 0).wr Reg.TIME_STATUS_ON 3)

/-- The source that OUT_SRC and SEL name: 0 PTP-A, 1 PTP-B, 2 the bridge (R363). -/
def State.outSrc (s : State) : Nat := if s.rdb Reg.TIME_CTRL_OUT_SRC then 2 else s.rd Reg.TIME_CTRL_SEL

/-- The source is valid (R364, R370). -/
def State.srcValid (s : State) : Bool :=
  if s.rdb Reg.TIME_CTRL_OUT_SRC then s.time.bridge.isSome && !s.time.staleRaised && s.rdb Reg.CRN_STATUS_RUNNING
  else s.domLocked (s.rd Reg.TIME_CTRL_SEL)

/-- Output time, now `out`, goes on from source `on`: d takes up the whole difference (R363, R374). -/
def State.takeSource (s : State) (on : Nat) (out : Nat) : State :=
  match s.sourceOf on with
  | none => s
  | some x =>
    have d : Int := x - out
    if 2 ^ 47 < (d / 4096).natAbs then s.outInvalid.ptpLoss 4 0
    else ((s.setD d).wr Reg.TIME_STATUS_OUT_STATE 1).wr Reg.TIME_STATUS_ON on

/-- Output time takes the state its source gives it (R363, R364). -/
def State.outFollow (s : State) : State :=
  if !s.rdb Reg.TIME_CTRL_EN then (if s.rd Reg.TIME_STATUS_OUT_STATE = 0 then s else s.outInvalid)
  else if s.rd Reg.TIME_STATUS_OUT_STATE = 0 then
    (if s.srcValid then ((s.setD 0).wr Reg.TIME_STATUS_OUT_STATE 1).wr Reg.TIME_STATUS_ON s.outSrc else s)
  else if !s.srcValid then s.outHoldover
  else if s.rd Reg.TIME_STATUS_OUT_STATE = 1 ∧ s.rd Reg.TIME_STATUS_ON = s.outSrc then s
  else s.takeSource s.outSrc s.outNow

/-- Domain `d` has left LOCKED (R362, R364, R365): counted, reported while it is enabled, and output time follows. -/
def State.leftLocked (s : State) (d : Nat) (report : Bool) : State :=
  have s := s.count Reg.TIME_DOM_LOSS_CNT 1
  have s := if report then s.ptpLoss 1 d else s
  have away : Bool := !s.rdb Reg.TIME_CTRL_OUT_SRC && s.rdb Reg.TIME_CTRL_AUTO && s.rd Reg.TIME_CTRL_SEL == d && s.domLocked (1 - d)
  (if away then s.devWr Reg.TIME_CTRL_SEL (1 - d) else s).outFollow

/-- A domain's state (R361). -/
def State.domState (s : State) (d : Nat) : Nat := s.rd (domFld d)

/-- Clear what a domain holds of exchanges with a master. -/
def DomSt.fresh (x : DomSt) : DomSt :=
  { x with run := 0, pend := none, sync := none, req := none, peer := none, path := none }

/-- Domains go to LISTENING (R362): no master is followed, and the base runs on. All have left LOCKED before output time looks for another
source (R374). -/
def State.domsListen (s : State) (ds : List Nat) : State :=
  have left := ds.filter fun d => s.domState d == 3
  have s := s.forEach ds fun s d => ((s.wr (domFld d) 1).setReg (Reg.TIME_DOM_MASTER d) 0).setDom d (s.dom d).fresh
  s.forEach left fun s d => s.leftLocked d true

/-- A domain goes to LISTENING (R362). -/
def State.domListen (s : State) (d : Nat) : State := s.domsListen [d]

/-- clockIdentity of a port identity. -/
def clockId (source : Nat) : Nat := source / 65536 % 2 ^ 64

/-- The domain follows the clock of a port identity. -/
def State.domFollows (s : State) (d source : Nat) : Bool :=
  2 ≤ s.domState d && s.rd (Reg.TIME_DOM_MASTER_IDENTITY d) == clockId source

/-- An interval of 2^k seconds in Crown clock cycles. -/
def interval (k : Int) : Nat := if 0 ≤ k then 1000000000 * 2 ^ k.toNat else 1000000000 / 2 ^ (-k).toNat

/-- A domain begins to follow a master (R362): the base steps at the next complete exchange. -/
def State.domFollow (s : State) (d : Nat) (m : Master) : State :=
  have was := s.domState d
  have s := (s.wr (domFld d) 2).wr (Reg.TIME_DOM_MASTER_IDENTITY d) (clockId m.source)
  have s := (s.wr (Reg.TIME_DOM_UTC_OFFSET d) m.utc).wrb (Reg.TIME_DOM_UTC_VALID d) m.utcValid
  have s := s.setDom d { (s.dom d).fresh with step := true, logSync := 0, syncAt := s.cyc }
  if was = 3 then s.leftLocked d true else s

/-- Data sets compare field by field, the smaller the better (R356). -/
def dataLess : List Nat → List Nat → Bool
  | [], _ => false
  | _ :: _, [] => false
  | a :: as, b :: bs => if a < b then true else if b < a then false else dataLess as bs

/-- A master is qualified: two of its Announces came within four of its intervals (the standard's threshold). -/
def Master.qualified (m : Master) : Bool :=
  match m.prevAt with
  | some t => decide (m.seenAt ≤ t + 4 * interval m.logAnnounce)
  | none => false

/-- The best qualified master of a domain (R356). -/
def State.bestMaster (s : State) (d : Nat) : Option Master :=
  ((s.dom d).masters.filter Master.qualified).foldl (fun b m =>
    match b with
    | none => some m
    | some x => if dataLess m.dataset x.dataset then some m else some x) none

/-- Select a domain's master (R362). -/
def State.domSelect (s : State) (d : Nat) : State :=
  match s.bestMaster d with
  | none => s
  | some m => if s.domState d = 0 ∨ s.domFollows d m.source then s else s.domFollow d m

/-- A receive stamp and a transmit stamp at the reference plane of a port (R359). -/
def State.rxStamp (s : State) (p t : Nat) : Nat := t - 4096 * s.rd (Reg.TIME_PORT_LAT_INGRESS p)
def State.txStamp (s : State) (p t : Nat) : Nat := t + 4096 * s.rd (Reg.TIME_PORT_LAT_EGRESS p)

/-- The port of a domain. -/
def State.domPort (s : State) (d : Nat) : Nat := s.rd (Reg.TIME_DOM_CFG_PORT d)

/-- Domain time at a stamp of local monotonic; before the base exists, local monotonic itself, of which only differences are
used. -/
def State.domTime (s : State) (d m : Nat) : Int :=
  if (s.dom d).step then (m : Int) else (s.domAt d m).getD m

/-- The servo's rate (R361): free, within ±500 ppm. -/
def State.servoRate (s : State) : Int := clampI (-2147483) 2147483 (Config.domRate s.freeCtr)

/-- The servo sets the base's rate from now on (R361), and output time on this source notes a rate estimate (R364). -/
def State.domServo (s : State) (d : Nat) : State :=
  have x := s.dom d
  have s := match x.base with
    | some b => s.setDom d { x with base := some ((linearAt b.1 b.2.1 b.2.2 s.time.mono).toNat, s.time.mono, s.servoRate) }
    | none => s
  have s := s.tickFree
  if s.rd Reg.TIME_STATUS_OUT_STATE = 1 ∧ s.rd Reg.TIME_STATUS_ON = d then
    { s with time := { s.time with outEst := (Config.rateEstimate s.freeCtr :: s.time.outEst).take 64 } }.tickFree
  else s

/-- A complete exchange (R360 to R362): origin time `t1`, the Sync's receive stamp `t2`, its correction, and the mean path delay in
sixteenths of a nanosecond. -/
def State.exchange (s : State) (d t1 t2 : Nat) (corr path : Int) : State :=
  have x := s.dom d
  have asym := toSigned 16 (s.rd (Reg.TIME_PORT_LAT_ASYM (s.domPort d)))
  have s := s.wr (Reg.TIME_DOM_OFFSET_PATH d) (ofSigned 32 path)
  if x.step ∨ x.base = none then
    have v : Int := t1 + corr + 4096 * (path + asym)
    (s.setDom d { x with base := some (v.toNat, t2, s.servoRate), step := false, run := 1 }).tickFree.wr
      (Reg.TIME_DOM_OFFSET_OFFSET d) 0
  else
    have off : Int := (s.domTime d t2 - t1 - corr) / 4096 - path - asym
    have run := if off.natAbs ≤ 16 * s.rd (Reg.TIME_DOM_CFG_LOCK_NS d) then x.run + 1 else 0
    have s := (s.setDom d { x with run := run }).wr (Reg.TIME_DOM_OFFSET_OFFSET d) (ofSigned 32 off)
    have s := s.domServo d
    if s.domState d = 2 ∧ 16 ≤ run then (s.wr (domFld d) 3).outFollow
    else if s.domState d = 3 ∧ 16000000 < off.natAbs then
      ((s.wr (domFld d) 2).setDom d { s.dom d with step := true, run := 0 }).leftLocked d true
    else s

/-- A complete Sync (R360): with peer-to-peer delay it completes an exchange once the path is known. -/
def State.syncDone (s : State) (d t1 t2 : Nat) (corr : Int) : State :=
  have s := s.setDom d { s.dom d with sync := some (t1, t2, corr), syncAt := s.cyc, pend := none }
  match (s.dom d).path with
  | some path => if s.rdb (Reg.TIME_DOM_CFG_DELAY d) then s.exchange d t1 t2 corr path else s
  | none => s

/-- The enabled domains that a message's domainNumber and port name (R357). -/
def State.ptpDomains (s : State) (m : PtpMsg) : List Nat :=
  (List.range 2).filter fun d =>
    s.rdb (Reg.TIME_DOM_CFG_EN d) && s.rd (Reg.TIME_DOM_CFG_DOMAIN d) == m.domain && s.domPort d == m.port.val

/-- The time unit accepts a frame for the domains that satisfy `ok`, at most 512 a port in each window of 2^20 ct, or drops it
(R357). -/
def State.ptpTake (s : State) (m : PtpMsg) (ok : Nat → Bool) : State × List Nat :=
  have s := s.count Reg.BON_RX_FRAME_CNT 1
  have w := s.now / 2 ^ 20 + 1
  have x := SMap.get (fun _ => (0, 0)) s.time.ptpWin m.port
  have n := if x.1 = w then x.2 else 0
  have ds := (s.ptpDomains m).filter ok
  if 512 ≤ n ∨ ds = [] then (s.count Reg.TIME_PTP_DROP_CNT 1, [])
  else
    ({ s with time := { s.time with ptpWin := SMap.set (fun _ => (0, 0)) s.time.ptpWin m.port (w, n + 1) } }.count
      Reg.TIME_PTP_RX_CNT 1, ds)

/-- Message types that a slave-only clock takes (R356). -/
def ptpKinds : List Nat := [0, 2, 3, 8, 9, 10, 11]

/-- The time unit takes a message of `m`'s type for domain `d` (R357). -/
def State.ptpOk (s : State) (m : PtpMsg) (d : Nat) : Bool :=
  match m.kind with
  | 0 => s.domFollows d m.source
  | 8 => s.domFollows d m.source
  | 9 => s.domFollows d m.source
  | 11 => true
  | k => ptpKinds.contains k && s.rdb (Reg.TIME_DOM_CFG_DELAY d)

/-- A message of kind `k` arrives at a port that is up, and `act` handles it for each domain that takes it. -/
def State.ptpArrive (s : State) (m : PtpMsg) (k : Nat) (act : State → Nat → State) : State :=
  if m.kind ≠ k ∨ !s.portUp m.port then s
  else
    have r := s.ptpTake m (s.ptpOk m)
    r.1.forEach r.2 act

/-- The Sync interval of a master is outside −7 to 4, so it is not qualified (R356). -/
def State.disqualify (s : State) (d source : Nat) : State :=
  (s.setDom d { s.dom d with masters := (s.dom d).masters.filter fun m => m.source != source }).domListen d

/-- SYNC (R356 to R362). -/
def execSync (m : PtpMsg) (s : State) : Host.Outcome State Fault Refusal :=
  .next (s.ptpArrive m 0 fun s d =>
    have t2 := s.rxStamp m.port m.stamp
    if m.log < -7 ∨ 4 < m.log then s.disqualify d m.source
    else
      have s := s.setDom d { s.dom d with logSync := m.log }
      if m.twoStep then s.setDom d { s.dom d with pend := some (m.seq, t2, m.corr) } else s.syncDone d m.time t2 m.corr)

/-- FOLLOW_UP (R356, R360): it completes the two-step Sync of its sequenceId. -/
def execFollowUp (m : PtpMsg) (s : State) : Host.Outcome State Fault Refusal :=
  .next (s.ptpArrive m 8 fun s d =>
    match (s.dom d).pend with
    | some p => if p.1 = m.seq then s.syncDone d m.time p.2.1 (p.2.2 + m.corr) else s
    | none => s)

/-- A response is to this port: the requesting port identity is the port's MAC address in the model's coding. -/
def State.toMe (s : State) (m : PtpMsg) : Bool := m.reqSource == s.rd (Reg.BON_PORT_MAC_MAC m.port)

/-- DELAY_RESP (R360): with the last complete Sync it completes an end-to-end exchange. -/
def execDelayResp (m : PtpMsg) (s : State) : Host.Outcome State Fault Refusal :=
  .next (s.ptpArrive m 9 fun s d =>
    have x := s.dom d
    match x.req, x.sync with
    | some q, some y =>
      if s.rdb (Reg.TIME_DOM_CFG_DELAY d) ∨ q.1 ≠ m.seq ∨ !s.toMe m then s
      else
        have there : Int := s.domTime d q.2 - s.domTime d y.2.1
        have path : Int := ((m.time : Int) - y.1 - there - y.2.2 - m.corr) / 8192
        (s.setDom d { x with req := none, path := some path }).exchange d y.1 y.2.1 y.2.2 path
    | _, _ => s)

/-- Peer-to-peer mean path delay from the four times of the peer exchange (R360). -/
def State.peerPath (s : State) (d t1 t2 t3 t4 : Nat) (corr : Int) : State :=
  have path : Int := (s.domTime d t4 - s.domTime d t1 - ((t3 : Int) - t2) - corr) / 8192
  (s.setDom d { s.dom d with path := some path, req := none, peer := none }).wr (Reg.TIME_DOM_OFFSET_PATH d) (ofSigned 32 path)

/-- PDELAY_REQ (R356, R358): answered on a peer-to-peer domain's port; `sent` is the answer's transmit stamp. -/
def execPdelayReq (m : PtpMsg) (sent : Nat) (s : State) : Host.Outcome State Fault Refusal :=
  if m.kind ≠ 2 ∨ !s.portUp m.port then .next s
  else
    have r := s.ptpTake m (s.ptpOk m)
    match r.2 with
    | [] => .next r.1
    | d :: _ =>
      have s := r.1
      have t2 := s.rxStamp m.port m.stamp
      have t3 := s.txStamp m.port sent
      if s.rdb (Reg.TIME_DOM_CFG_ONE_STEP d) then
        .next ((s.count Reg.TIME_PTP_TX_CNT 1).emit (.ptp m.port 3 m.domain m.seq (m.corr + ((t3 : Int) - t2)) 0))
      else
        .next (((s.count Reg.TIME_PTP_TX_CNT 2).emit (.ptp m.port 3 m.domain m.seq m.corr t2)).emit
          (.ptp m.port 10 m.domain m.seq 0 t3))

/-- PDELAY_RESP (R358, R360): in one-step form the turnaround stands in its correction. -/
def execPdelayResp (m : PtpMsg) (s : State) : Host.Outcome State Fault Refusal :=
  .next (s.ptpArrive m 3 fun s d =>
    match (s.dom d).req with
    | some q =>
      have t4 := s.rxStamp m.port m.stamp
      if q.1 ≠ m.seq ∨ !s.toMe m then s
      else if m.twoStep then s.setDom d { s.dom d with peer := some (m.seq, m.time, t4, m.corr) }
      else s.peerPath d q.2 0 0 t4 m.corr
    | none => s)

/-- PDELAY_RESP_FOLLOW_UP (R358, R360). -/
def execPdelayRespFollowUp (m : PtpMsg) (s : State) : Host.Outcome State Fault Refusal :=
  .next (s.ptpArrive m 10 fun s d =>
    match (s.dom d).req, (s.dom d).peer with
    | some q, some p =>
      if p.1 ≠ m.seq ∨ q.1 ≠ m.seq ∨ !s.toMe m then s else s.peerPath d q.2 p.2.1 m.time p.2.2.1 (p.2.2.2 + m.corr)
    | _, _ => s)

/-- Note an Announce of a master (R356). -/
def noteMaster (ms : List Master) (m : PtpMsg) (now : Nat) : List Master :=
  have prev := (ms.find? fun x => x.source == m.source).map Master.seenAt
  (ms.filter fun x => x.source != m.source) ++
    [{ source := m.source, dataset := m.dataset, utc := m.utc, utcValid := m.utcValid, logAnnounce := m.log, seenAt := now,
       prevAt := prev }]

/-- ANNOUNCE (R356, R362). -/
def execAnnounce (m : PtpMsg) (s : State) : Host.Outcome State Fault Refusal :=
  .next (s.ptpArrive m 11 fun s d =>
    have s := s.setDom d { s.dom d with masters := noteMaster (s.dom d).masters m s.cyc }
    have s := if s.domFollows d m.source then
        (s.wr (Reg.TIME_DOM_UTC_OFFSET d) m.utc).wrb (Reg.TIME_DOM_UTC_VALID d) m.utcValid
      else s
    s.domSelect d)

/-- PTP_FRAME_DROP (R357): a frame that no domain takes, or over the limit of the window. -/
def execPtpFrameDrop (m : PtpMsg) (s : State) : Host.Outcome State Fault Refusal :=
  if !s.portUp m.port then .next s
  else
    have r := s.ptpTake m (s.ptpOk m)
    if r.2 = [] then .next r.1 else .next s

/-- The fields of TIME_DOM_CFG that a driver write sets; a TRANSPORT of 3 is ignored (R375). -/
def State.writeDomCfg (s : State) (d : Nat) (v : Word) : State :=
  have old := s.reg (Reg.TIME_DOM_CFG d)
  have keep := fset (fset (fset v 63 48 0) 23 20 0) 15 2 0
  s.setReg (Reg.TIME_DOM_CFG d) (if fget v 19 18 = 3 then fset keep 19 18 (fget old 19 18) else keep)

/-- DOMAIN_ENABLE (R361, R362): a write to TIME_DOM_CFG that sets EN. -/
def execDomainEnable (d : Fin 2) (v : Word) (s : State) : Host.Outcome State Fault Refusal :=
  if fget v 0 0 = 0 then .next s
  else
    have was := s.domState d
    have s := s.writeDomCfg d v
    if was ≠ 0 then .next s else .next ((s.wr (domFld d) 1).setDom d {})

/-- DOMAIN_DISABLE (R361, R362): a write to TIME_DOM_CFG that clears EN. -/
def execDomainDisable (d : Fin 2) (v : Word) (s : State) : Host.Outcome State Fault Refusal :=
  if fget v 0 0 ≠ 0 then .next s
  else
    have was := s.domState d
    have s := ((s.writeDomCfg d v).wr (domFld d) 0).setReg (Reg.TIME_DOM_MASTER d) 0
    .next ((if was = 3 then s.leftLocked d false else s).setDom d {})

/-- SYNC_TIMEOUT (R362): no complete Sync of the followed master for four of its Sync intervals. -/
def execSyncTimeout (d : Fin 2) (s : State) : Host.Outcome State Fault Refusal :=
  if s.domState d < 2 ∨ s.cyc < (s.dom d).syncAt + 4 * interval (s.dom d).logSync then .next s else .next (s.domListen d)

/-- ANNOUNCE_TIMEOUT (R362): announceReceiptTimeout intervals without an Announce of the followed master. -/
def execAnnounceTimeout (d : Fin 2) (s : State) : Host.Outcome State Fault Refusal :=
  match (s.dom d).masters.find? fun m => s.domFollows d m.source with
  | some m =>
    if s.cyc < m.seenAt + Config.announceReceiptTimeout * interval m.logAnnounce then .next s
    else .next ((s.setDom d { s.dom d with masters := (s.dom d).masters.filter fun x => x.source != m.source }).domListen d)
  | none => .next s

/-- PORT_DOWN (R346, R362): port `p`'s link goes down. -/
def execPortDown (p : Fin 2) (s : State) : Host.Outcome State Fault Refusal :=
  have s := if s.domOn 29 then s.setBit Reg.BON_STATUS_PORT_UP p false else s
  .next (s.domsListen ((List.range 2).filter fun d => s.domPort d = p.val ∧ 2 ≤ s.domState d))

/-- DELAY_REQ (R356, R358, R359): the time unit sends a Delay_Req, or a Pdelay_Req, for domain `d`; `sent` is its transmit
stamp. -/
def execDelayReq (d : Fin 2) (sent : Nat) (s : State) : Host.Outcome State Fault Refusal :=
  have p := s.domPort d
  have peer := s.rdb (Reg.TIME_DOM_CFG_DELAY d)
  if !s.portUp p ∨ s.domState d = 0 ∨ (!peer ∧ s.domState d < 2) then .next s
  else
    have x := s.dom d
    have t := s.txStamp p sent
    have s := (s.setDom d { x with req := some (x.seq, t), seq := (x.seq + 1) % 2 ^ 16 }).count Reg.TIME_PTP_TX_CNT 1
    have shown := if s.rdb (Reg.TIME_DOM_CFG_ONE_STEP d) then t else 65536 * ((t + 32768) / 65536)
    .next (s.emit (.ptp p (if peer then 2 else 1) (s.rd (Reg.TIME_DOM_CFG_DOMAIN d)) x.seq 0 (if peer then 0 else shown)))

end Sys2Proof.Machine
end

