-- ==== Sys2Proof/Machine/OutTime.lean ====
section
/-! DEFINITION. Sys2Proof/Machine/OutTime.lean: output time's commands, captures, the crown bridge and the pulse generators (R363
to R375). -/
namespace Sys2Proof.Machine

/-- OUTPUT_RESET (R363): a write of 1 to TIME_CTRL.OUT_RESET. -/
def execOutputReset (s : State) : Host.Outcome State Fault Refusal := .next s.outInvalid

/-- OUTPUT_SELECT (R364): a driver write to TIME_CTRL.SEL takes effect at once. -/
def execOutputSelect (sel : Bool) (s : State) : Host.Outcome State Fault Refusal :=
  .next (s.drvWr Reg.TIME_CTRL_SEL (b2n sel)).outFollow

/-- A base in whole units, 0 while it is not valid (R375). -/
def wholeNs (x : Option Int) : Word := BitVec.ofNat 64 ((x.getD 0) / 65536).toNat

/-- TIME_CAPTURE (R375): the five bases are sampled together. -/
def execTimeCapture (s : State) : Host.Outcome State Fault Refusal :=
  have s := s.setReg Reg.TIME_CAP_CROWN (BitVec.ofNat 64 (if s.rdb Reg.CRN_STATUS_RUNNING then s.now else 0))
  have s := s.setReg Reg.TIME_CAP_OUT (BitVec.ofNat 64 s.outStamp)
  have s := s.setReg Reg.TIME_CAP_A (wholeNs (s.domAt 0 s.time.mono))
  have s := s.setReg Reg.TIME_CAP_B (wholeNs (s.domAt 1 s.time.mono))
  .next (s.setReg Reg.TIME_CAP_MONO (wholeNs (some s.time.mono)))

/-- The bases at this tick (R366). -/
def State.sampleNow (s : State) : Sample :=
  { c := s.now, mono := s.time.mono, a := (s.domAt 0 s.time.mono).map Int.toNat, b := (s.domAt 1 s.time.mono).map Int.toNat,
    out := if s.rd Reg.TIME_STATUS_OUT_STATE = 0 then none else some s.outNow }

/-- Take a sample at a multiple of 65,536 ct, once (R366). -/
def State.bridgeSample (s : State) : State :=
  have taken : Bool := match s.time.samples.head? with
    | some x => x.c == s.now
    | none => false
  if !s.rdb Reg.CRN_STATUS_RUNNING ∨ s.now % 65536 ≠ 0 ∨ taken then s
  else { s with time := { s.time with samples := (s.sampleNow :: s.time.samples).take 16 } }

/-- BRIDGE_SAMPLE (R366). -/
def execBridgeSample (s : State) : Host.Outcome State Fault Refusal := .next s.bridgeSample

/-- The bridge's valid children; the layout of LDR_BCAST_CHILD (R375). -/
def State.bridgeChildren (s : State) : List Nat :=
  have v := (s.reg Reg.TIME_BRIDGE_CHILD).toNat
  (List.range 4).filterMap fun i => if nbit v (16 * i + 15) then some (nbits v (16 * i + 11) (16 * i)) else none

/-- Send a bridge message, its payload word 1 given, to each child (R368). -/
def State.bridgeTo (s : State) (word : Nat) : State :=
  s.forEach s.bridgeChildren fun s m =>
    s.stamp { vc := 1, replyN := 0, rtag := 0, flit :=
      { cls := 1, vc := 1, mitten := s.rd Reg.CUF_MITTEN_MITTEN, dest := m,
        payload := routeWord 0 0 0 0xFFFF 0xF0 0xFFFF 0 0 0 0 + 2 ^ 256 * (word % 2 ^ 256) } }

/-- Payload word 1 of a bridge message made from a sample (R368). -/
def State.bridgeWord (s : State) (x : Sample) : Nat :=
  have out := x.out.getD 0
  2 ^ 192 * x.c + 2 ^ 128 * (out / 65536 % 2 ^ 64) + 2 ^ 112 * (out % 65536) + 2 ^ 80 * (ofSigned 32 (x.rho 2))
    + 2 ^ 64 * s.time.bridgeSeq + 2 ^ 52 * (s.rd Reg.RTE_SELF_ID) + 2 ^ 50 * (s.rd Reg.TIME_STATUS_OUT_STATE)

/-- BRIDGE_SEND (R368, R374): at a multiple of 2^20, after the module's own sample of that tick. -/
def execBridgeSend (s : State) : Host.Outcome State Fault Refusal :=
  if !s.rdb Reg.TIME_CTRL_BRIDGE_TX ∨ !s.rdb Reg.CRN_STATUS_RUNNING ∨ s.now % 2 ^ 20 ≠ 0 then .next s
  else
    have s := s.bridgeSample
    have w := s.bridgeWord (s.time.samples.headD s.sampleNow)
    .next ({ s with time := { s.time with bridgeSeq := (s.time.bridgeSeq + 1) % 2 ^ 16 } }.bridgeTo w)

/-- A bridge message is acceptable (R369). -/
def State.bridgeOk (s : State) (w : Nat) : Bool :=
  have c := nbits w 255 192
  have seq := nbits w 79 64
  nbits w 63 52 == s.rd Reg.CRN_PARENT_MASTER_ID && nbits w 51 50 != 0 && c % 2 ^ 20 == 0
    && decide (c ≤ s.now + 2 ^ 22) && decide (s.now ≤ c + 2 ^ 22)
    && (s.time.bridge.isNone || (have n := (seq + 2 ^ 16 - s.rd Reg.TIME_BRIDGE_RATE_SEQ) % 2 ^ 16; decide (0 < n) && decide (n < 2 ^ 15)))

/-- An accepted bridge message is the new source; d takes up the whole difference (R363, R369). -/
def State.takeBridge (s : State) (w : Nat) : State :=
  have on := s.rd Reg.TIME_STATUS_OUT_STATE == 1 && s.rd Reg.TIME_STATUS_ON == 2
  have out := s.outNow
  have s := (s.wr Reg.TIME_BRIDGE_CROWN_CROWN (nbits w 255 192)).wr Reg.TIME_BRIDGE_OUT_OUT (nbits w 191 128)
  have s := ((s.wr Reg.TIME_BRIDGE_RATE_SEQ (nbits w 79 64)).wr Reg.TIME_BRIDGE_RATE_MASTER (nbits w 63 52)).wr
    Reg.TIME_BRIDGE_RATE_RHO (nbits w 111 80)
  have s := { s with time := { s.time with bridge := some (nbits w 79 64, nbits w 127 112), staleRaised := false } }
  if on then s.takeSource 2 out else s.outFollow

/-- BRIDGE_MESSAGE (R368, R369, R374): the oldest one received is accepted, and relayed, or discarded, after the module's own sample of
the tick. -/
def execBridgeMessage (s : State) : Host.Outcome State Fault Refusal :=
  match s.niTake 1 (fun f => rwDstQ f == 0xF0) with
  | none => .next (s.niLost 1 fun f => rwDstQ f == 0xF0)
  | some (s, _, f) =>
    have s := s.bridgeSample
    have w := rwData f % 2 ^ 256
    if !s.bridgeOk w then .next (s.count Reg.TIME_BRIDGE_DROP_CNT 1)
    else
      have s := (s.count Reg.TIME_BRIDGE_RX_CNT 1).takeBridge w
      .next (if s.rdb Reg.TIME_CTRL_BRIDGE_RELAY then s.bridgeTo w else s)

/-- BRIDGE_STALE (R364, R365, R370): the last accepted message is 2^24 ct old. -/
def execBridgeStale (s : State) : Host.Outcome State Fault Refusal :=
  if s.time.bridge.isNone ∨ s.bridgeFresh ∨ s.time.staleRaised then .next s
  else
    have s := { s with time := { s.time with staleRaised := true } }
    .next ((if s.rdb Reg.TIME_CTRL_OUT_SRC then s.ptpLoss 3 0 else s).outFollow)

/-- A generator's hidden state. -/
def State.tp (s : State) (i : Nat) : TpSt := SMap.get (fun _ => {}) s.time.tp i

/-- Replace a generator's hidden state. -/
def State.setTp (s : State) (i : Nat) (x : TpSt) : State :=
  { s with time := { s.time with tp := SMap.set (fun _ => {}) s.time.tp i x } }

/-- The sampled base that a generator's BASE names (R366, R375). -/
def tpSample (b : Nat) : Nat :=
  match b with
  | 1 => 0
  | 2 => 1
  | 3 => 3
  | _ => 2

/-- A generator's base is valid and can be converted (R366, R372). -/
def State.tpValid (s : State) (b : Nat) : Bool :=
  have ok := match b with
    | 0 => s.rdb Reg.CRN_STATUS_RUNNING
    | 1 => (s.dom 0).base.isSome
    | 2 => (s.dom 1).base.isSome
    | 3 => true
    | _ => s.rd Reg.TIME_STATUS_OUT_STATE != 0
  ok && (b == 0 || (s.time.samples.head?.bind fun x => x.base (tpSample b)).isSome)

/-- The least due time, in units of base `b`, whose crown tick is `c` or later (R366, R371). -/
def State.tpDue (s : State) (b c : Nat) : Int :=
  match b with
  | 0 => c
  | b =>
    match s.time.samples.head? with
    | some x =>
      have r := x.rho (tpSample b)
      (65536 * (((c : Int) - 1 - x.c)) * (2 ^ 32 + r) + 2 ^ 32 * ((((x.base (tpSample b)).getD 0 : Nat) : Int))) / 2 ^ 48 + 1
    | none => 0

/-- The first edge of a generator whose crown tick is `c` or later; for a one-shot, 1 when edge 0 lies before. -/
def State.tpFirst (s : State) (i c : Nat) : Nat :=
  have start := s.rd (Reg.TIME_TP_START_START i)
  have p := s.rd (Reg.TIME_TP_PERIOD_PERIOD i)
  have lack := (s.tpDue (s.rd (Reg.TIME_TP_CTRL_BASE i)) c - start).toNat
  if lack = 0 then 0 else if p = 0 then 1 else (lack + p - 1) / p

/-- WIDTH; 0 acts as 1 (R375). -/
def State.tpWidth (s : State) (i : Nat) : Nat := max 1 (s.rd (Reg.TIME_TP_CTRL_WIDTH i))

/-- Arm from the first edge at least 1,024 ct ahead (R372). -/
def State.tpStart (s : State) (i : Nat) : State :=
  have k := s.tpFirst i (s.now + 1024)
  if k = 0 then s.wr (Reg.TIME_TP_STATUS_ARMED i) 1
  else if s.rd (Reg.TIME_TP_PERIOD_PERIOD i) = 0 then
    (s.wr (Reg.TIME_TP_STATUS_ARMED i) 0).flag (Reg.TIME_TP_STATUS_LATE i)
  else ((s.wr (Reg.TIME_TP_STATUS_ARMED i) 1).flag (Reg.TIME_TP_STATUS_SKIPPED i)).setTp i { s.tp i with edge := k }

/-- The RW fields of a write to TIME_TP_CTRL (R375). -/
def State.writeTpCtrl (s : State) (i : Nat) (v : Word) : State :=
  s.setReg (Reg.TIME_TP_CTRL i) (fset (fset (fset v 63 44 0) 7 7 0) 2 0 0)

/-- TP_ARM (R61, R372): a write to TIME_TP_CTRL with ARM 1. -/
def execTpArm (i : Fin 4) (v : Word) (s : State) : Host.Outcome State Fault Refusal :=
  if fget v 0 0 = 0 then .next s
  else
    have j := i.val
    have s := s.writeTpCtrl j v
    have b := s.rd (Reg.TIME_TP_CTRL_BASE j)
    have p := s.rd (Reg.TIME_TP_PERIOD_PERIOD j)
    if 4 < b ∨ (p ≠ 0 ∧ p ≤ s.tpWidth j) then .next (s.flag (Reg.TIME_TP_STATUS_CFG_ERR j))
    else
      have s := ((s.wr (Reg.TIME_TP_STATUS_FIRED j) 0).wr (Reg.TIME_TP_STATUS_WAIT_BASE j) 0).setTp j
        { edge := 0, done := 0, pulse := (s.tp j).pulse, fresh := !s.tpValid b }
      if s.tpValid b then .next (s.tpStart j)
      else .next ((s.wr (Reg.TIME_TP_STATUS_ARMED j) 1).wr (Reg.TIME_TP_STATUS_WAIT_BASE j) 1)

/-- TP_STOP (R373): a write of 1 to STOP disarms; a pulse in progress completes its width. -/
def execTpStop (i : Fin 4) (s : State) : Host.Outcome State Fault Refusal :=
  .next ((s.wr (Reg.TIME_TP_STATUS_ARMED i) 0).wr (Reg.TIME_TP_STATUS_WAIT_BASE i) 0)

/-- A generator stops once COUNT edges have been, and a one-shot after its edge (R371). -/
def State.tpCount (s : State) (i : Nat) : State :=
  have n := s.rd (Reg.TIME_TP_CTRL_COUNT i)
  if s.rd (Reg.TIME_TP_PERIOD_PERIOD i) = 0 ∨ (n ≠ 0 ∧ n ≤ (s.tp i).done) then s.wr (Reg.TIME_TP_STATUS_ARMED i) 0 else s

/-- TP_EDGE (R60, R371): the next edge fires in the first cycle at or after its due time, after the other actions of its tick. -/
def execTpEdge (i : Fin 4) (s : State) : Host.Outcome State Fault Refusal :=
  have x := s.tp i
  have due : Int := s.rd (Reg.TIME_TP_START_START i) + x.edge * s.rd (Reg.TIME_TP_PERIOD_PERIOD i)
  have b := s.rd (Reg.TIME_TP_CTRL_BASE i)
  if !s.seamClear ∨ s.epochDue ∨ !s.rdb (Reg.TIME_TP_STATUS_ARMED i) ∨ s.rdb (Reg.TIME_TP_STATUS_WAIT_BASE i) ∨ !s.tpValid b ∨ s.tpDue b (s.now + 1) ≤ due then
    .next s
  else
    have s := s.wr (Reg.TIME_TP_STATUS_FIRED i) (min 0xFFFFFFFF (s.rd (Reg.TIME_TP_STATUS_FIRED i) + 1))
    .next ((s.setTp i { x with edge := x.edge + 1, done := x.done + 1, pulse := some (s.cyc + s.tpWidth i) }).tpCount i)

/-- TP_PULSE_END (R371): the pulse has had its width. -/
def execTpPulseEnd (i : Fin 4) (s : State) : Host.Outcome State Fault Refusal :=
  match (s.tp i).pulse with
  | some t => if s.cyc < t then .next s else .next (s.setTp i { s.tp i with pulse := none })
  | none => .next s

/-- Edges due before this cycle that have not fired are MISSED (R373). -/
def State.tpMiss (s : State) (i : Nat) : State :=
  have x := s.tp i
  have k := s.tpFirst i s.now
  have n := s.rd (Reg.TIME_TP_CTRL_COUNT i)
  have miss := if n = 0 then k - x.edge else min (k - x.edge) (n - x.done)
  if miss = 0 then s
  else
    (((s.flag (Reg.TIME_TP_STATUS_MISSED i)).count Reg.TIME_TP_MISS_CNT miss).setTp i
      { x with edge := k, done := x.done + miss }).tpCount i

/-- TP_BASE_STEP (R372, R373): the generator's base has stepped, has become invalid, or is valid again. -/
def execTpBaseStep (i : Fin 4) (s : State) : Host.Outcome State Fault Refusal :=
  if !s.rdb (Reg.TIME_TP_STATUS_ARMED i) then .next s
  else if !s.tpValid (s.rd (Reg.TIME_TP_CTRL_BASE i)) then .next (s.wr (Reg.TIME_TP_STATUS_WAIT_BASE i) 1)
  else
    have fresh := (s.tp i).fresh
    have s := (s.wr (Reg.TIME_TP_STATUS_WAIT_BASE i) 0).setTp i { s.tp i with fresh := false }
    .next (if fresh then s.tpStart i else s.tpMiss i)

end Sys2Proof.Machine
end

