-- ==== Sys2Proof/Machine/Reset.lean ====
section
/-! DEFINITION. Sys2Proof/Machine/Reset.lean: the five reset classes and PERST_N (R393 to R396). -/
namespace Sys2Proof.Machine

/-- A reset has begun in this cycle: GO in the same cycle is ignored (R396). -/
def State.refuseGo (s : State) (go : Bool) : State :=
  have s := if go then s.flag Reg.GEN_BOOT_STATUS_WR_REFUSED else s
  { s with same := { s.same with go := false, reset := true } }

/-- A reset of class `k` by the driver (R394, R396): an equal or narrower one than the reset in progress is ignored. -/
def State.resetBy (s : State) (k : Nat) (act : State → State) : State :=
  have s := s.wr Reg.GEN_RESET_KIND k
  have busy := match s.boot.reset with
    | some j => decide (k ≤ j)
    | none => false
  if busy then s.flag Reg.GEN_BOOT_STATUS_WR_REFUSED
  else
    have s := { s with boot := { s.boot with reset := none } }
    ((((act s).wr Reg.GEN_RESET_STATUS_LAST k).wr Reg.GEN_RESET_STATUS_SOURCE 1).refuseGo s.same.go).updFaultN

/-- The Liner state of the TNIs is loaded again at the exit of a Palm reset (R205, R393). -/
def State.reloadLiner (s : State) : State :=
  have ok := s.linerMappable
  have s := if s.run || ok then s else s.wr Reg.PLM_STATUS_LINER_OK 0
  { s.wr Reg.PLM_STATUS_LINER_BUSY 1 with
    palm := { s.palm with linerUntil := some (s.cyc + 2048), linerForce := s.run || !ok } }

/-- The Palm's logic returns to its start (R393): regions, op queue, staging; the Palm halts. -/
def State.clearPalm (s : State) : State :=
  have s := (s.forEach (List.range 16) State.loseRegion).supplyCause
  have s := { s with palm := { s.palm with
      queue := [], running := none, effect := false, want := [], inbox := [], outgoing := [], spill := [], staging := none,
      staged := none, stagedBad := false, masks := none, boundsRaised := false, acc := [] } }
  have s := (s.wr Reg.PLM_STATUS_QUEUE 0).wr Reg.PLM_STATUS_RUNNING 0
  ((s.wr Reg.PLM_STATUS_STAGING 0).wr Reg.PLM_STATUS_BUDGET_WAIT 0).palmHalt

/-- PALM_RESET (R217, R393, R395). -/
def execPalmReset (s : State) : Host.Outcome State Fault Refusal :=
  .next (s.resetBy 1 fun s =>
    have s := s.clearPalm.reloadLiner
    { s with boot := { s.boot with reset := some 1 } })

/-- The Ethernet ports stop, and every domain that follows a master goes to LISTENING (R374). -/
def State.portsStop (s : State) : State := s.domsListen ((List.range 2).filter fun d => 2 ≤ s.domState d)

/-- SERVICE_RESET (R351, R374, R393). -/
def execServiceReset (s : State) : Host.Outcome State Fault Refusal :=
  .next (s.resetBy 2 fun s => s.loseBonnet.portsStop)

/-- CUFF_RESET (R310, R387, R393, R396): phases 5, 8 and 9 run again; while phase 7 has not ended, 8 and 9 follow it. -/
def execCuffReset (s : State) : Host.Outcome State Fault Refusal :=
  .next (s.resetBy 3 fun s =>
    have s := s.loseCuff
    if !s.domOn 28 then s
    else
      have early : Bool := !s.boot.ended.contains 7
      have s := s.startPhase 5
      if early then s else (s.stopPhase 5).startPhase 8)

/-- The load state after a module warm reset (R393). -/
def warmLdr (k : Nat) : Nat := if 5 ≤ k ∧ k ≤ 10 then 5 else 0

/-- A register of PLM that a module warm reset returns to its reset value (R445). -/
def isWarmPlmReg (a : Nat) : Bool :=
  decide (0x3000000 ≤ a) && decide (a < 0x3100000) && !((decide (0x3001000 ≤ a) && decide (a < 0x3001400))
    || (decide (0x3002400 ≤ a) && decide (a < 0x3002620)))

/-- Everything outside AON and NVM, and PLM, returns to its start (R393, R445); HBM contents are kept. -/
def State.loseModule (s : State) : State :=
  have ldr := warmLdr s.ldr
  have s := s.loseCuff.loseBonnet.clearPalm.forEach (List.range 8) State.loseStackCtl
  have s := { s.clearRegs isWarmPlmReg with palm := {} }
  have s := (s.wr Reg.PLM_BUDGET_GRADE s.tokenBudget).wr Reg.PLM_BUDGET_EFFECTIVE s.tokenBudget
  have s := (if ldr = 0 then s.clearLoad else s).wr Reg.LDR_STATUS_STATE ldr
  have s := (s.wr Reg.FLT_STATUS_MODULE_FATAL 0).wr Reg.PWR_STATUS_SHUTDOWN 0
  { s with pwr := { s.pwr with fatalAt := none, shut := none } }.portsStop

/-- MODULE_WARM_RESET (R377, R387, R393): bring-up runs from phase 2 in the mode R379 allows, at once with AUTO_GO. -/
def execModuleWarmReset (s : State) : Host.Outcome State Fault Refusal :=
  .next (s.resetBy 4 fun s =>
    have s := s.loseModule
    have stopped : Bool := s.rd Reg.GEN_BOOT_STATUS_STOP_CAUSE == 3
    have s := if stopped then s.wr Reg.GEN_BOOT_STATUS_STOP_CAUSE 0 else s
    have one := s.boot.ended.contains 1
    have s := { s with boot := { s.boot with running := s.boot.running.filter (· == 1), ended := if one then [1] else [],
                                             groups := [], groupAt := none, inPhase := false, reported := false } }
    have s := if s.domOn 28 then s.devWr Reg.RTE_SELF_ID (s.rd Reg.GEN_PLAN_SEAT_SEAT) else s
    have s := (s.wr Reg.GEN_RESET_STATUS_LAST 4).showPhase.showWaits
    if s.autoGo && one then s.startBringUp else s)

/-- A power-on reset (R393): everything but NVM returns to its start; `src` is its source. -/
def State.powerOn (s : State) (src : Nat) : State :=
  have z := State.reset
  have s' : State := { z with
    pending := s.pending, egress := s.egress, cyc := s.cyc, freeCtr := s.freeCtr,
    nvm := { s.nvm with opened := none, running := none }, mem := { z.mem with defect := s.mem.defect } }
  (s'.wr Reg.GEN_RESET_STATUS_SOURCE src).updFaultN

/-- POWER_ON_RESET (R393, R394, R396): by the driver. -/
def execPowerOnReset (s : State) : Host.Outcome State Fault Refusal :=
  .next (s.resetBy 5 fun s => s.powerOn 1)

/-- PERST (R394): only the PCIe endpoint is reset, its MSI-X state with it. -/
def execPerst (s : State) : Host.Outcome State Fault Refusal :=
  .next { s with flt := { s.flt with msixAddr := 0, msixData := 0, msixMasked := true, msixPending := false, msixEnable := false } }

end Sys2Proof.Machine
end

