-- ==== Sys2Proof/Machine/Power.lean ====
section
/-! DEFINITION. Sys2Proof/Machine/Power.lean: the input, supply dips, shutdown, Palm and stack power, coolant and temperatures
(R417 to R430, R439). -/
namespace Sys2Proof.Machine

/-- AON leaves service: everything but NVM returns to its start, and the tray's pins keep their levels. `closed` says whether the
input switch stays closed, with AON held in power-on reset (R417, R419, R426). -/
def State.aonLost (s : State) (closed tripped : Bool) (src : Nat) : State :=
  have z := s.powerOn src
  have z := { z with pwr := { z.pwr with closed := closed, aonHeld := closed, source := src, tripped := tripped, retryAt := s.pwr.retryAt } }
  ((z.wr Reg.PWR_STATUS_IN_ARM (s.rd Reg.PWR_STATUS_IN_ARM)).wr Reg.PWR_STATUS_PWR_EN (s.rd Reg.PWR_STATUS_PWR_EN)).updFaultN

/-- IN_ARM_BREAK (R417, R439): the input switch opens and AON is lost. -/
def execInArmBreak (s : State) : Host.Outcome State Fault Refusal :=
  have s := s.wr Reg.PWR_STATUS_IN_ARM 0
  if s.pwr.closed then .next (s.aonLost false false 4)
  else .next { s with pwr := { s.pwr with charge := none } }

/-- A trip by overcurrent has ended: PWR_EN has been low for 100 ms and high for the 10 ms of a start (R418, R419). -/
def State.tripEnded (s : State) : Bool :=
  !s.pwr.tripped || (match s.pwr.lowAt with
    | some t => decide (t + 109000000 ≤ s.cyc)
    | none => false)

/-- INPUT_START (R418): IN_ARM, PWR_EN and the input have held for 10 ms, and pre-charge begins. -/
def execInputStart (s : State) : Host.Outcome State Fault Refusal :=
  if (s.pwr.closed && !s.pwr.aonHeld) || s.pwr.charge.isSome || decide (s.cyc < s.pwr.retryAt) || !s.tripEnded then .next s
  else
    have s := (s.wr Reg.PWR_STATUS_IN_ARM 1).wr Reg.PWR_STATUS_PWR_EN 1
    .next { s with pwr := { s.pwr with charge := some s.cyc, tripped := false, lowAt := none } }

/-- PRECHARGE_DONE (R418): within 200 ms the switch closes, AON is powered and its power-on reset is released. -/
def execPrechargeDone (s : State) : Host.Outcome State Fault Refusal :=
  match s.pwr.charge with
  | some t => if s.cyc ≤ t + 200000000 then .next (s.powerOn s.pwr.source) else .next s
  | none => .next s

/-- PRECHARGE_TIMEOUT (R418): still incomplete at 200 ms; the switch opens and the start is tried again after 1 s. -/
def execPrechargeTimeout (s : State) : Host.Outcome State Fault Refusal :=
  match s.pwr.charge with
  | some t =>
    if t + 200000000 ≤ s.cyc then
      .next { s with pwr := { s.pwr with charge := none, closed := false, aonHeld := false,
                                         retryAt := s.cyc + 1000000000 } }.updFaultN
    else .next s
  | none => .next s

/-- SUPPLY_WARN (R419, R421, R422, R49): the input has been below 340 V for 200 ct; `voltage` is in 0.1 V. -/
def execSupplyWarn (voltage : Fin 65536) (s : State) : Host.Outcome State Fault Refusal :=
  if !s.live ∨ s.rd Reg.PWR_STATUS_INPUT = 1 then .next s
  else
    have s := (s.count Reg.PWR_WARN_CNT 1).fault { code := 0x0501, block := 1, cause := 1, a := voltage }
    have s := (s.wr Reg.PLM_BUDGET_EFFECTIVE (s.rd Reg.PLM_BUDGET_GRADE / 2)).wr Reg.PWR_STATUS_INPUT 1
    have s : State := { s with pwr := { s.pwr with recoverAt := none } }
    .next (s.forEach ((List.range 16).filter s.domOn) fun s g => (s.wr (Reg.RGN_STATUS_STEP_SUPPLY g) 1).stepIfSlower g)

/-- SUPPLY_WARN_CLEAR (R419, R422, R49): the input has been above 348 V for 1,000,000 ct; recovery begins 10,000 ct later. -/
def execSupplyWarnClear (s : State) : Host.Outcome State Fault Refusal :=
  if s.rd Reg.PWR_STATUS_INPUT ≠ 1 then .next s
  else
    have s := s.wr Reg.PWR_STATUS_INPUT 2
    have s : State := { s with pwr := { s.pwr with recoverAt := some (s.cyc + 10000) } }
    .next (s.forEach ((List.range 16).filter s.domOn) fun s g =>
      (s.wr (Reg.RGN_STATUS_STEP_SUPPLY g) 0).setRg g { s.rg g with restoreAt := s.cyc })

/-- BUDGET_RECOVERY_STEP (R422): every 10,000 ct EFFECTIVE rises by GRADE / 20, rounded up, to GRADE at most. -/
def execBudgetRecoveryStep (s : State) : Host.Outcome State Fault Refusal :=
  match s.pwr.recoverAt with
  | some t =>
    if s.cyc < t then .next s
    else
      have grade := s.rd Reg.PLM_BUDGET_GRADE
      have e := min grade (s.rd Reg.PLM_BUDGET_EFFECTIVE + (grade + 19) / 20)
      have s := s.wr Reg.PLM_BUDGET_EFFECTIVE e
      if e = grade then .next { s.wr Reg.PWR_STATUS_INPUT 0 with pwr := { s.pwr with recoverAt := none } }
      else .next { s with pwr := { s.pwr with recoverAt := some (t + 10000) } }
  | none => .next s

/-- POWER_FAIL (R419): the input has been below 310 V for 200 ct; every domain loses power and AON is held in reset. -/
def execPowerFail (s : State) : Host.Outcome State Fault Refusal :=
  if s.live then .next (s.aonLost true false 2) else .next s

/-- OVERVOLTAGE (R419): above 420 V for 200 ct the input switch opens. -/
def execOvervoltage (s : State) : Host.Outcome State Fault Refusal :=
  if s.pwr.closed then .next (s.aonLost false false 4) else .next s

/-- OVERCURRENT (R419): the input switch opens and stays open until PWR_EN has been low for 100 ms. -/
def execOvercurrent (s : State) : Host.Outcome State Fault Refusal :=
  if s.pwr.closed then .next (s.aonLost false true 4) else .next s

/-- A shutdown begins in R425's order: no further domain is powered. -/
def State.beginShutdown (s : State) : State :=
  { s with pwr := { s.pwr with fatalAt := none, shut := some (0, s.cyc) }, boot := { s.boot with groups := [], groupAt := none } }

/-- PWR_EN_LOW (R419, R426, R439): PWR_EN has been low for 1,000,000 ct; the domains go in R425's order, at once. -/
def execPwrEnLow (s : State) : Host.Outcome State Fault Refusal :=
  have s := s.wr Reg.PWR_STATUS_PWR_EN 0
  if !s.pwr.closed then
    .next { s with pwr := { s.pwr with charge := none, lowAt := if s.pwr.tripped then some s.cyc else none } }
  else if s.pwr.aonHeld then .next { s with pwr := { s.pwr with charge := none, source := 3 } }
  else
    match s.pwr.shut with
    | some _ => .next s
    | none => .next s.beginShutdown

/-- The domain groups of R423 that step `k` of a shutdown takes: the Palm, the Bonnet, HBM, the Cuff (R425). -/
def shutGroups (k : Nat) : List Nat :=
  match k with
  | 0 => [3, 4, 5, 6]
  | 1 => [1]
  | 2 => [2]
  | _ => [0]

/-- A MODULE_FATAL shutdown may start: every alarm packet has departed, or 4,096 ct have passed (R398). -/
def State.shutDue (s : State) : Bool :=
  s.pwr.shut.isNone && (match s.pwr.fatalAt with
    | some t => s.route.alarms.isEmpty || decide (t + 4096 ≤ s.cyc)
    | none => false)

/-- DOMAIN_SHUTDOWN (R398, R425, R426, R439): the next groups of a shutdown lose power, each 1,000 ct after those before; with
PWR_EN low, AON is then held in power-on reset. -/
def execDomainShutdown (s : State) : Host.Outcome State Fault Refusal :=
  have s := if s.shutDue then s.beginShutdown else s
  match s.pwr.shut with
  | none => .next s
  | some (k, t) =>
    if s.cyc < t then .next s
    else
      have s := if s.rdb Reg.FLT_STATUS_MODULE_FATAL then s.wr Reg.PWR_STATUS_SHUTDOWN 1 else s
      have s := s.forEach (shutGroups k) State.groupOff
      if k < 3 then .next { s with pwr := { s.pwr with shut := some (k + 1, t + 1000) } }
      else if s.rdb Reg.PWR_STATUS_PWR_EN then .next { s with pwr := { s.pwr with shut := none } }
      else .next (s.aonLost true false 3)

/-- Groups that a PWR_CTRL write gives back and that are to be powered again: phase 2 has begun, no shutdown has (R424). -/
def State.regain (s : State) (freed : Nat → Bool) : State :=
  have began := s.boot.running.contains 2 || s.boot.ended.contains 2
  if !began || s.rdb Reg.PWR_STATUS_SHUTDOWN || s.pwr.shut.isSome then s
  else
    have gs := allGroups.filter fun g =>
      s.boot.groups.contains g || ((groupDomains g).any freed && s.groupLacks g)
    { s with boot := { s.boot with groups := gs } }.powerNext s.cyc

/-- A write of PWR_CTRL (R99, R424, R439): the domains whose bits set are switched off, those whose bits clear are powered again. -/
def State.pwrCtrl (s : State) (palm : Bool) (stack : Nat) : State :=
  if s.run then (s.flag Reg.PWR_STATUS_WR_REFUSED).flag Reg.CUF_STATUS_WR_REFUSED
  else
    have was := s.keptOff
    have s := (s.wrb Reg.PWR_CTRL_PALM_OFF palm).wr Reg.PWR_CTRL_STACK_OFF stack
    have s := s.forEach ((List.range 24).filter fun d => s.keptOff d && !was d) State.domainOff
    s.regain fun d => was d && !s.keptOff d

/-- PALM_OFF (R424): a driver write of PWR_CTRL.PALM_OFF, with the register's STACK_OFF. -/
def execPalmOff (off : Bool) (mask : BitVec 8) (s : State) : Host.Outcome State Fault Refusal :=
  .next (s.busWrite Reg.PWR_CTRL fun s => s.pwrCtrl off mask.toNat)

/-- STACK_OFF (R424): a driver write of PWR_CTRL.STACK_OFF, with the register's PALM_OFF. -/
def execStackOff (mask : BitVec 8) (palm : Bool) (s : State) : Host.Outcome State Fault Refusal :=
  .next (s.busWrite Reg.PWR_CTRL fun s => s.pwrCtrl palm mask.toNat)

/-- COOL_OK_HIGH (R423, R428): COOL_OK has been high for 1,000,000 ct; the Palm's groups may be powered. -/
def execCoolOkHigh (s : State) : Host.Outcome State Fault Refusal :=
  if !s.live then .next s
  else .next (((s.wr Reg.PWR_STATUS_COOL_OK 1).wr Reg.PWR_STATUS_COOL_FILT 1).powerNext s.cyc)

/-- A Palm group chosen but not yet switched on waits for COOL_OK again (R428). -/
def State.holdPalmGroup (s : State) : State :=
  match s.boot.groups, s.boot.groupAt with
  | g :: _, some t => if 3 ≤ g ∧ s.cyc < t then { s with boot := { s.boot with groupAt := none } } else s
  | _, _ => s

/-- COOL_OK_LOW (R428, R439): COOL_OK has been low for 1,000,000 ct; with any of PD00–PD15 powered, COOLANT. -/
def execCoolOkLow (s : State) : Host.Outcome State Fault Refusal :=
  if !s.live then .next s
  else
    have fell := s.rdb Reg.PWR_STATUS_COOL_FILT
    have s := ((s.wr Reg.PWR_STATUS_COOL_OK 0).wr Reg.PWR_STATUS_COOL_FILT 0).holdPalmGroup.showWaits
    if fell && (List.range 16).any (fun d => nbit (s.rd Reg.PWR_DOMAIN_ON) d) then
      .next (s.fault { code := 0x0503, block := 1, cause := 1 })
    else .next s

/-- COOL_OK_GLITCH (R428): a low shorter than the filter is counted. -/
def execCoolOkGlitch (s : State) : Host.Outcome State Fault Refusal :=
  if s.live && s.rdb Reg.PWR_STATUS_COOL_FILT then .next (s.count Reg.PWR_COOL_GLITCH_CNT 1) else .next s

/-- A THERMAL record (R402, R429, R440). -/
def State.thermal (s : State) (cause : Nat) (temp : Int) (f : FaultArgs) : State :=
  (s.fault { f with code := 0x0502, block := 1, cause := cause, a := ofSigned 16 temp }).count Reg.PWR_THERM_CNT 1

/-- One sensor group against its two limits (R429): a limit-1 record once until it has fallen 5 °C below the limit, a limit-2
record once. -/
def State.limits (s : State) (src : Nat) (temp lim1 lim2 : Int) (cause : Nat) (f : FaultArgs) : State :=
  have s :=
    if lim1 ≤ temp ∧ src ∉ s.pwr.lim1 then
      { s with pwr := { s.pwr with lim1 := src :: s.pwr.lim1 } }.thermal cause temp f
    else if temp ≤ lim1 - 5 then { s with pwr := { s.pwr with lim1 := s.pwr.lim1.filter (· != src) } }
    else s
  if lim2 ≤ temp ∧ src ∉ s.pwr.lim2 then
    { s with pwr := { s.pwr with lim2 := src :: s.pwr.lim2 } }.thermal 2 temp f
  else s

/-- A temperature register with its mark: TEMP takes the sample, HWM the highest since its clear, as signed values (R410, R440). -/
def State.tempMark (s : State) (temp hwm : Fld) (x : Int) : State :=
  have s := s.wr temp (ofSigned 8 x)
  if toSigned 8 (s.rd hwm) < x then s.wr hwm (ofSigned 8 x) else s

/-- Region `g`'s temperature (R49, R429). -/
def State.regionTemp (s : State) (g : Nat) (x : Int) : State :=
  have s := (s.tempMark (Reg.PWR_TEMP_RGN_TEMP g) (Reg.PWR_TEMP_RGN_HWM g) x).limits g x 105 115 1 { code := 0, block := 1, region := g }
  if !s.domOn g then s
  else if 105 ≤ x then
    (if (s.rg g).above then s else (s.setRg g { s.rg g with hot := true, above := true }).thermStep g)
  else if x < 100 ∧ (s.rg g).hot then s.setRg g { s.rg g with hot := false, above := false, restoreAt := s.cyc }
  else s.setRg g { s.rg g with above := false }

/-- A die group's temperature: 0 N, 1 E, 2 S, 3 W, 4 the far block, 5 the Bonnet, 6 AON (R429, R440). -/
def State.dieTemp (s : State) (i : Nat) (x : Int) : State :=
  (s.wr ⟨Reg.PWR_TEMP_DIE, 8 * i + 7, 8 * i⟩ (ofSigned 8 x)).limits (16 + i) x 105 115 1 { code := 0, block := 1 }

/-- An optical engine's case temperature (R429). -/
def State.engineTemp (s : State) (e : Nat) (x : Int) : State :=
  (s.tempMark (Reg.PWR_TEMP_OE_TEMP e) (Reg.PWR_TEMP_OE_HWM e) x).limits (24 + e) x 80 90 1 { code := 0, block := 1, link := 4 * e }

/-- A stack's temperature (R289, R429): a full retrain becomes due once it has moved more than 10 °C since the last full training. -/
def State.stackTemp (s : State) (k : Nat) (x : Int) : State :=
  if !s.domOn (16 + k) then s
  else
    have s := (s.wr (Reg.HBM_STATUS_TEMP k) (ofSigned 8 x)).limits (32 + k) x 95 105 3 { code := 0, block := 1, stack := k }
    have ref := toSigned 8 (SMap.get (fun _ => 0) s.mem.trainTemp k)
    if s.stackUp k && decide (10 < (x - ref).natAbs) then s.retrainDue k 1 else s

/-- The hottest of the samples with its source code of PWR_TEMP_MAX; the first of equals. -/
def hottest (l : List (Nat × Int)) : Nat × Int :=
  match l with
  | [] => (0, 0)
  | p :: r => r.foldl (fun a b => if a.2 < b.2 then b else a) p

/-- SENSOR_SAMPLE (R289, R429, R440): one sample of every sensor and of the input. -/
def execSensorSample (x : Sensors) (s : State) : Host.Outcome State Fault Refusal :=
  if !s.live then .next s
  else
    have at' := fun (l : List Int) (i : Nat) => l.getD i 0
    have s := (s.wr Reg.PWR_COOL_INLET (ofSigned 8 x.inlet)).wr Reg.PWR_COOL_OUTLET (ofSigned 8 x.outlet)
    have s := ((s.wr Reg.PWR_INPUT_VOLTAGE x.voltage).wr Reg.PWR_INPUT_CURRENT x.current).wr Reg.PWR_INPUT_POWER x.power
    have s := (s.raise Reg.PWR_INPUT_HWM_MAX_CURRENT (x.current % 2 ^ 16)).raise Reg.PWR_INPUT_HWM_MAX_POWER (x.average % 2 ^ 16)
    have s := s.lower Reg.PWR_INPUT_HWM_MIN_VOLTAGE (x.voltage % 2 ^ 16)
    have s := s.forEach (List.range 16) fun s g => s.regionTemp g (at' x.rgn g)
    have s := s.forEach (List.range 7) fun s i => s.dieTemp i (at' x.die i)
    have s := s.forEach (List.range 6) fun s e => s.engineTemp e (at' x.oe e)
    have s := s.forEach (List.range 8) fun s k => s.stackTemp k (at' x.stack k)
    have all := (List.range 16).map (fun g => (g, at' x.rgn g)) ++ (List.range 7).map (fun i => (16 + i, at' x.die i))
      ++ (List.range 6).map (fun e => (24 + e, at' x.oe e))
      ++ ((List.range 8).filter fun k => s.domOn (16 + k)).map (fun k => (32 + k, at' x.stack k))
    have m := hottest all
    .next ((s.wr Reg.PWR_TEMP_MAX_SOURCE m.1).tempMark Reg.PWR_TEMP_MAX_TEMP Reg.PWR_TEMP_MAX_HWM m.2)

end Sys2Proof.Machine
end

