-- ==== Sys2Proof/Machine/Telemetry.lean ====
section
/-! DEFINITION. Sys2Proof/Machine/Telemetry.lean: alarms received, the driver's side of the fault queue, the snapshot window, and
telemetry reports and their sink (R403, R407, R410 to R415). -/
namespace Sys2Proof.Machine

/-- Act on a new alarm by the load state (R407). -/
def State.alarmAct (s : State) : State :=
  match s.ldr with
  | 8 => s.endScheduled
  | 7 => { s with flt := { s.flt with alarmPend := true } }
  | _ => s

/-- Capture the first alarm accepted since RUN was set (R407, R416). -/
def State.alarmCapture (s : State) (origin oseq rec : Nat) : State :=
  if s.rdb Reg.FLT_ALARM_RX_VALID then s
  else
    ((((s.wr Reg.FLT_ALARM_RX_VALID 1).wr Reg.FLT_ALARM_RX_ORIGIN origin).wr Reg.FLT_ALARM_RX_SEQ oseq).wr
      Reg.FLT_ALARM_RX_CLASS (nbits rec 18 16)).wr Reg.FLT_ALARM_RX_CODE (nbits rec 15 0)

/-- The alarm engine takes an alarm packet that came on `link` (R407). -/
def State.takeAlarmPacket (s : State) (link : Nat) (f : Flit) : State :=
  have origin := nbits (rwHdr f) 135 124
  have oseq := nbits (rwHdr f) 123 92
  have rec' := rwData f % 2 ^ 512
  if f.mitten = 0 ∨ f.mitten ≠ s.rd Reg.CUF_MITTEN_MITTEN then (s.count Reg.RTE_DROP_MITTEN_CNT 1).dropLast 2 link f
  else if origin = s.rd Reg.RTE_SELF_ID ∨ (origin, oseq) ∈ s.flt.keys then s.count Reg.FLT_ALARM_DUP_CNT 1
  else
    have s := ((s.holdKey (origin, oseq)).alarmAct.count Reg.FLT_ALARM_RX_CNT 1).alarmCapture origin oseq rec'
    if 8 ≤ s.flt.fwd then s
    else
      have s := { s with flt := { s.flt with fwd := s.flt.fwd + 1 } }
      s.sendAlarm origin oseq rec' ((s.lk link).ident.map fun i => i.2.2.1)

/-- ALARM_RECEIVED (R407, R415): the alarm engine takes the oldest alarm packet of the VC 0 receive queue. -/
def execAlarmReceived (s : State) : Host.Outcome State Fault Refusal :=
  match s.niTake 0 (fun f => rwDstQ f == 0xF3) with
  | some (s, link, f) => .next (s.takeAlarmPacket link f).updFaultN
  | none => .next (s.niLost 0 fun f => rwDstQ f == 0xF3)

/-- FLT_HEAD_WRITE (R403): a driver write of FLT_HEAD.IDX; one that would pass FLT_TAIL is ignored. -/
def execFltHeadWrite (idx : Fin 2048) (s : State) : Host.Outcome State Fault Refusal :=
  .next (s.busWrite Reg.FLT_HEAD fun s =>
    have head := s.rd Reg.FLT_HEAD_IDX
    have held := (s.rd Reg.FLT_TAIL_IDX + 2048 - head) % 2048
    have adv := (idx.val + 2048 - head) % 2048
    if held < adv then s.flag Reg.FLT_STATUS_WR_REFUSED
    else
      have gone := s.same.recs.length - (held - adv)
      { (s.wr Reg.FLT_HEAD_IDX idx).wr Reg.FLT_STATUS_COUNT (held - adv) with
        same := { s.same with recs := s.same.recs.drop gone } })

/-- FAULT_MAX_CLR (R430): a driver write of 1 to FLT_STATUS.MAX_CLR. -/
def execFaultMaxClr (s : State) : Host.Outcome State Fault Refusal :=
  .next (s.busWrite Reg.FLT_STATUS fun s => ((s.wr Reg.FLT_STATUS_ANY 0).wr Reg.FLT_STATUS_MAX_CLASS 0).updFaultN)

/-- Base address, instances, stride and size of a block, by its code of R401 (R445). -/
def blockInfo (b : Nat) : Nat × Nat × Nat × Nat :=
  match b with
  | 0 => (0, 1, 0, 0x100000)
  | 1 => (0x100000, 1, 0, 0x100000)
  | 2 => (0x200000, 1, 0, 0x100000)
  | 3 => (0x300000, 1, 0, 0x100000)
  | 4 => (0x400000, 1, 0, 0x100000)
  | 5 => (0x1000000, 1, 0, 0x100000)
  | 6 => (0x1100000, 24, 0x10000, 0x10000)
  | 7 => (0x2000000, 1, 0, 0x100000)
  | 8 => (0x3000000, 1, 0, 0x100000)
  | 9 => (0x3100000, 16, 0x10000, 0x10000)
  | 10 => (0x4000000, 8, 0x100000, 0x100000)
  | 11 => (0x5000000, 1, 0, 0x100000)
  | 12 => (0x6000000, 1, 0, 0x100000)
  | 13 => (0x7000000, 1, 0, 0x100000)
  | _ => (0, 0, 0, 0)

/-- Registers that hold gauges or high-water marks, by the address of their first element (R410). -/
def gaugeBases : List Nat :=
  [Reg.PWR_INPUT, Reg.PWR_INPUT_HWM, Reg.PWR_COOL, Reg.PWR_TEMP_MAX, Reg.PWR_TEMP_RGN 0, Reg.PWR_TEMP_OE 0, Reg.PWR_TEMP_DIE,
   Reg.CRN_OFFSET, Reg.LNK_QUEUE_HWM 0, Reg.LNK_LEAD_MIN 0, Reg.LNK_LAG 0, Reg.LNK_LAG_HWM 0, Reg.LNK_VC_STATE 0 0, Reg.RTE_TURN,
   Reg.PLM_BUDGET, Reg.RGN_EST_ERR 0, Reg.HBM_LQ 0 0, Reg.BON_PAGES]

/-- A row of the register map is an event counter: its only field that a write acts on by itself is CLR (R62, R408). -/
def isCounter (r : Reg.Info) : Bool := r.own == 0x4000000000000000

/-- Offsets within the block of every event counter, gauge and mark (R411). -/
def snapOffsets (b : Nat) : List Nat :=
  have i := blockInfo b
  (Reg.table.filter fun r => decide (i.1 ≤ r.base) && decide (r.base < i.1 + i.2.2.2)
      && (isCounter r || gaugeBases.contains r.base)).flatMap fun r =>
    (List.range r.elems).map fun e => r.base - i.1 + e * r.estride

/-- The window register of a block offset (R411). -/
def snapWin (o : Nat) : Nat := Reg.FLT_SNAP_WIN (o / 8)

/-- Copy a block instance's counters, gauges and marks into the snapshot window, all other offsets reading 0 (R411, R446). -/
def State.snapshot (s : State) : State :=
  have b := s.rd Reg.FLT_SNAP_BLOCK
  have n := s.rd Reg.FLT_SNAP_INSTANCE
  have i := blockInfo b
  have t : State := { s with regs := SMap.clear s.regs fun a => decide (snapWin 0 ≤ a) && decide (a < snapWin 0 + 0x10000) }
  have base := i.1 + n * i.2.2.1
  have t :=
    if i.2.1 ≤ n ∨ !s.powered base then t
    else t.forEach (snapOffsets b) fun t o => t.setReg (snapWin o) (s.reg (base + o))
  t.wr Reg.FLT_SNAP_DONE 1

/-- A snapshot is ordered: the copy is made as this cycle ends, so that it has the cycle's events, and sets DONE (R411, R415). -/
def State.orderSnap (s : State) : State := { s.wr Reg.FLT_SNAP_DONE 0 with same := { s.same with snap := true } }

/-- SNAPSHOT (R411, R415): a driver write to FLT_SNAP with GO 1. -/
def execSnapshot (block inst : Fin 256) (s : State) : Host.Outcome State Fault Refusal :=
  .next (s.busWrite Reg.FLT_SNAP fun s => ((s.wr Reg.FLT_SNAP_BLOCK block).wr Reg.FLT_SNAP_INSTANCE inst).orderSnap)

/-- A counter's delta since the previous report, in a field of `w` bits (R413). -/
def State.delta (s : State) (a w : Nat) : Nat :=
  have v := s.reg a
  have all := 2 ^ w - 1
  if nbit v.toNat 63 then all else min all (fget v 47 0 - SMap.get (fun _ => 0) s.flt.telPrev a)

/-- Counters of a report's module fields, in order (R413). -/
def telCounters : List Nat :=
  [Reg.RTE_INJECT_CNT, Reg.RTE_EJECT_CNT, Reg.RTE_DEFLECT_CNT, Reg.RTE_TURN_IN_CNT, Reg.RTE_FORCED_CNT, Reg.RTE_REFUSE_CNT,
   Reg.RTE_BOUNCE_CNT, Reg.RTE_DROP_TTL_CNT, Reg.RTE_DROP_MITTEN_CNT, Reg.RTE_DROP_ROUTE_CNT, Reg.RTE_DROP_FULL_CNT,
   Reg.RTE_DROP_PLACE_CNT, Reg.RTE_DROP_VC_CNT, Reg.PLM_LATE_LAUNCH_CNT, Reg.PLM_BUDGET_WAIT_CNT, Reg.FLT_RECORD_CNT]

/-- Counters of a link's entry, with their widths (R413). -/
def telLinkCounters (l : Nat) : List (Nat × Nat) :=
  [(Reg.LNK_REPLAY_CNT l, 16), (Reg.LNK_CRC_ERR_CNT l, 32), (Reg.LNK_FEC_UNCORR_CNT l, 16), (Reg.LNK_LCW_ERR_CNT l, 16),
   (Reg.LNK_HOLD_CNT l, 32), (Reg.LNK_SLIP_CNT l, 32), (Reg.LNK_LOOSE_TX_CNT l, 32), (Reg.LNK_CREDIT_WAIT_CNT l, 32)]

/-- Pack (value, bits) fields, the first lowest. -/
def packBits : List (Nat × Nat) → Nat
  | [] => 0
  | (v, w) :: r => v % 2 ^ w + 2 ^ w * packBits r

/-- A maximum since the previous report (R413). -/
def State.telMaxOf (s : State) (k : Nat) : Nat := SMap.get (fun _ => 0) s.flt.telMax k

/-- PART 0 of a report (R413). -/
def State.telModule (s : State) : Nat :=
  packBits ([(s.ldr, 8), (s.rd Reg.CRN_STATUS_STATE, 8), ((s.telMaxOf 3 + 255) % 256, 8), (min 255 (s.telMaxOf 0), 8),
    (s.rd Reg.CUF_SEAM_SEGMENT, 32), (s.rd Reg.LDR_SEG_VALID, 32), (min 0xFFFF (s.telMaxOf 1), 16), (min 0xFFFF (s.telMaxOf 2), 16)]
    ++ telCounters.map fun a => (s.delta a 32, 32))

/-- One link's entry (R413): 32 bytes. -/
def State.telLink (s : State) (l : Nat) : Nat :=
  packBits ([(min 0xFFFF (s.telMaxOf (16 + 2 * l)), 16), (min 0xFFFF (s.telMaxOf (17 + 2 * l)), 16),
    (16 * s.lstate l + s.rd (Reg.LNK_STATUS_WIDTH l), 8), (s.rd (Reg.LNK_DISC_RESULT l), 8)]
    ++ (telLinkCounters l).map fun c => (if c.1 = Reg.LNK_CREDIT_WAIT_CNT l ∧ !isFar l then 0 else s.delta c.1 c.2, c.2))

/-- The data of PART `p` (R413). -/
def State.telPart (s : State) (p : Nat) : Nat :=
  if p = 0 then s.telModule
  else packBits (((List.range 11).filter fun i => 11 * (p - 1) + i < 24).map fun i => (s.telLink (11 * (p - 1) + i), 256))

/-- Gauges whose maximum of the next interval starts at the present level (R410, R413). -/
def State.telLevels (s : State) : SMap Nat :=
  have put := fun (m : SMap Nat) (k v : Nat) => SMap.set (fun _ => 0) m k v
  have m := put (put [] 0 (s.rd Reg.RTE_TURN_OCC)) 1 (toSigned 16 (s.rd Reg.CRN_OFFSET_OFFSET)).natAbs
  allLinks.foldl (fun m l => put (put m (16 + 2 * l) (s.rd (Reg.LNK_LAG_SEND_LAG l))) (17 + 2 * l) (s.rd (Reg.LNK_LAG_LAND_LAG l))) m

/-- Whether now is a report tick of this module (R412, R415). -/
def State.telDue (s : State) : Bool :=
  have p := s.rd Reg.FLT_TEL_CFG_PERIOD
  s.rdb Reg.FLT_TEL_CFG_EN && s.rdb Reg.CRN_STATUS_RUNNING && s.now % 2 ^ p == 2 ^ (p - 12) * (s.rd Reg.RTE_SELF_ID)

/-- A report's destination (R412). -/
def State.telAddr (s : State) : Addr :=
  have d := s.rd Reg.FLT_TEL_CFG_DEST
  if s.rdb Reg.FLT_TEL_CFG_COORD then .coord (d % 4096) else .rank d

/-- Endpoint header of PART `p` (R412). -/
def telHdr (p seq tick : Nat) : Nat := 0x10 * 2 ^ 136 + 2 ^ 132 * p + 2 ^ 100 * (seq % 2 ^ 32) + 2 ^ 36 * (tick % 2 ^ 64)

/-- Keep a packet of the report, route word included, in FLT_TEL_LAST (R412). -/
def State.telKeep (s : State) (p payload : Nat) : State :=
  s.forEach (List.range 48) fun s w =>
    s.setReg (Reg.FLT_TEL_LAST (48 * p + w)) (BitVec.ofNat 64 (payload / 2 ^ (64 * w)))

/-- One packet of a report is kept and offered to the NI. -/
def State.telSend (s : State) (p hdr data : Nat) : State :=
  have rank := if s.rdb Reg.FLT_TEL_CFG_COORD then 0xFFFF else s.rd Reg.FLT_TEL_CFG_DEST
  have q := s.rd Reg.FLT_TEL_CFG_DST_Q
  have rw := routeWord (s.rd Reg.RTE_SELF_ID) s.route.pkt (s.now / 256) rank q 0xFFFF 0 0 0 hdr
  (s.telKeep p (rw + 2 ^ 256 * (data % 2 ^ 2816))).inject 7 s.telAddr q 0xFFFF 0 0 hdr data

/-- The report of this tick is made: sampled, kept, and offered to the NI (R412, R413). -/
def State.telReport (s : State) : State :=
  have seq := s.flt.telSeq
  have parts := (List.range 4).map fun p => (p, s.telPart p)
  have sent := s.vcOn 7 && (s.resolve 7 s.telAddr).isSome
  have marks := telCounters ++ allLinks.flatMap fun l => (telLinkCounters l).map Prod.fst
  have prev := marks.foldl (fun m a => SMap.set (fun _ => 0) m a (fget (s.reg a) 47 0)) []
  have t := s.forEach parts fun t x => t.telSend x.1 (telHdr x.1 seq s.now) x.2
  have t : State := { t with flt := { t.flt with telPrev := prev, telMax := s.telLevels, telOpen := !sent, telSeq := (seq + 1) % 2 ^ 32 } }
  have t := t.wr Reg.FLT_TEL_STATUS_SEQ seq
  if sent then (t.count Reg.FLT_TEL_TX_CNT 1).wr Reg.FLT_TEL_STATUS_LAST_DROPPED 0 else t

/-- A report not wholly injected by the next report tick is dropped (R412). -/
def State.telDrop (s : State) : State :=
  if s.flt.telOpen then
    ({ s with flt := { s.flt with telOpen := false } }.count Reg.FLT_TEL_DROP_CNT 1).wr Reg.FLT_TEL_STATUS_LAST_DROPPED 1
  else s

/-- TELEMETRY_REPORT (R412, R413, R415): at this module's report tick. -/
def execTelemetryReport (s : State) : Host.Outcome State Fault Refusal :=
  .next (if s.telDue then s.telDrop.telReport else s)

/-- The sink stores a packet (R414). -/
def State.sinkTake (s : State) (link : Nat) (f : Flit) : State :=
  have n := s.rd Reg.FLT_SINK_BASE_ENTRIES
  have w := s.rd Reg.FLT_SINK_PTR_WR
  if !s.rdb Reg.FLT_SINK_BASE_EN ∨ n = 0 then s.dropFull link f
  else if (w + 2 ^ 16 - s.rd Reg.FLT_SINK_PTR_RD) % 2 ^ 16 = n then s.count Reg.FLT_SINK_DROP_CNT 1
  else
    have a := 4096 * (s.rd Reg.FLT_SINK_BASE_ADDR / 4096) + 384 * (w % n)
    have s := s.hbmWriteCap 1 (a / 32) ((List.range 12).map fun i => some (f.payload / 2 ^ (256 * i) % 2 ^ 256))
    (s.count Reg.FLT_SINK_RX_CNT 1).wr Reg.FLT_SINK_PTR_WR (w + 1)

/-- TELEMETRY_SINK (R414): the oldest packet of the VC 7 receive queue with DST_Q 0xF1. -/
def execTelemetrySink (s : State) : Host.Outcome State Fault Refusal :=
  match s.niTake 7 (fun f => rwDstQ f == 0xF1) with
  | some (s, link, f) => .next (s.sinkTake link f)
  | none => .next (s.niLost 7 fun f => rwDstQ f == 0xF1)

end Sys2Proof.Machine
end

