-- ==== Sys2Proof/Machine/Access.lean ====
section
/-! DEFINITION. Sys2Proof/Machine/Access.lean: accesses to registers and windows: plain register writes, counter and mark clears,
refused requests, SMBus, management packets and the MSI-X table (R8 to R11, R62, R410, R431, R442 to R455). -/
namespace Sys2Proof.Machine

/-- A request of a wrong size or alignment completes with Completer Abort and is recorded (R11, R444, R447). -/
def State.badRequest (s : State) (bar2 write : Bool) (o : Nat) : State := (s.emit .completerAbort).accErr (b2n bar2) 1 write o

/-- BAR_ACCESS_ERROR (R11, R444). -/
def execBarAccessError (bar2 write : Bool) (o : Nat) (s : State) : Host.Outcome State Fault Refusal :=
  .next (if s.live then s.badRequest bar2 write o else s)

/-- Send vector 0 if it is pending, unmasked and MSI-X is enabled (R448). -/
def State.msixFlush (s : State) : State :=
  if s.flt.msixPending && !s.flt.msixMasked && s.flt.msixEnable then
    { s with flt := { s.flt with msixPending := false } }.msixDue
  else s

/-- MSIX_UNMASK (R448, R455): the function's MSI-X enable takes a value, and vector 0 is unmasked. -/
def execMsixUnmask (enable : Bool) (s : State) : Host.Outcome State Fault Refusal :=
  if !s.live then .next s
  else .next { s with flt := { s.flt with msixEnable := enable, msixMasked := false } }.msixFlush

/-- Bits of a register that a BAR0 write reaches: all of them, or the half a 4-byte write addresses (R11). -/
def halfMask (half : Option Bool) : Nat :=
  match half with
  | none => 2 ^ 64 - 1
  | some false => 2 ^ 32 - 1
  | some true => 2 ^ 32 * (2 ^ 32 - 1)

/-- The bits of `m` of a word come from `v`, the others from `old`. -/
def mergeBits (old v : Word) (m : Nat) : Word :=
  (old &&& ~~~(BitVec.ofNat 64 m)) ||| (v &&& BitVec.ofNat 64 m)

/-- The entry of the MSI-X table (R448): word 0 the address, word 1 the data and the mask bit. -/
def State.msixWord (s : State) (w : Nat) : Word :=
  if w = 0 then BitVec.ofNat 64 s.flt.msixAddr
  else BitVec.ofNat 64 (s.flt.msixData + 2 ^ 32 * (b2n s.flt.msixMasked))

/-- A write to the MSI-X table; clearing the mask bit sends a pending vector (R448). -/
def State.msixWrite (s : State) (w m : Nat) (v : Word) : State :=
  have x := (mergeBits (s.msixWord w) v m).toNat
  if w = 0 then { s with flt := { s.flt with msixAddr := x } }
  else { s with flt := { s.flt with msixData := x % 2 ^ 32, msixMasked := nbit x 32 } }.msixFlush

/-- Registers of the loader by address (R326): writable while EMPTY, in COMPLETE to ARMED, and outside ARMED and RUNNING. -/
def State.ldrLocked (s : State) (a : Nat) : Bool :=
  (a ∈ [Reg.LDR_IMAGE_ID, Reg.LDR_VMOD, Reg.LDR_AREA] && s.ldr != 0)
    || (a ∈ [Reg.LDR_REFUSE0, Reg.LDR_REFUSE1, Reg.LDR_REFUSE2] && !(decide (3 ≤ s.ldr) && decide (s.ldr ≤ 7)))
    || (a == Reg.LDR_START_TICK && (s.ldr == 7 || s.ldr == 8))

/-- The Bonnet's registers that are RW while SVC_EN = 0 (R353). -/
def isBonPort (a : Nat) : Bool := decide (Reg.BON_PORT_MAC 0 ≤ a) && decide (a < Reg.BON_INTAKE_CFG)

/-- Bits of a write of `v` that its register's own rule ignores, and the flag the block sets for it, if it has one (R9 to R11,
R63, R155, R205, R326, R353, R375, R416). -/
def State.ignored (s : State) (r : Reg.Info) (a : Nat) (v : Word) : Nat × Option Fld :=
  have all := 2 ^ 64 - 1
  if a = Reg.CRN_CTRL ∧ s.rdb Reg.CRN_CTRL_EN then (2, none)
  else if a = Reg.CRN_PARENT ∧ s.rdb Reg.CRN_CTRL_EN then (all, none)
  else if s.ldrLocked a then (all, some Reg.LDR_STATUS_WR_REFUSED)
  else if s.rdb Reg.BON_CTRL_SVC_EN ∧ isBonPort a then (all, some Reg.BON_STATUS_WR_REFUSED)
  else if s.rdb Reg.BON_CTRL_SVC_EN ∧ a = Reg.BON_INTAKE_CFG then (0xFFFF, some Reg.BON_STATUS_WR_REFUSED)
  else if r.base = Reg.PLM_LINER_RAM 0 ∧ s.rdb Reg.PLM_STATUS_LINER_BUSY then (all, some Reg.PLM_STATUS_WR_REFUSED)
  else if (a - Reg.TIME_TP_START 0) % 32 ≤ 8 ∧ Reg.TIME_TP_START 0 ≤ a ∧ a < Reg.TIME_TP_START 4
      ∧ s.rdb (Reg.TIME_TP_STATUS_ARMED ((a - Reg.TIME_TP_START 0) / 32)) then (all, none)
  else if r.base = Reg.TIME_DOM_CFG 0 ∧ nbits v.toNat 19 18 = 3 then (0xC0000, none)
  else if a = Reg.FLT_TEL_CFG ∧ (nbits v.toNat 61 56 < 20 ∨ 36 < nbits v.toNat 61 56) then (0x3F00000000000000, none)
  else if a = Reg.RTE_CTRL then (3, none)
  else (0, none)

/-- What else a register's new value does at once: output time, FAULT_N, the mitten of every link, a retrain that leaves
deferral, the Liner's SKIP, the Bonnet, the capture of the first fatal record. -/
def State.afterWrite (s : State) (r : Reg.Info) (a : Nat) (v : Word) : State :=
  if a = Reg.TIME_CTRL then s.outFollow
  else if a = Reg.PWR_FAULTN then s.updFaultN
  else if a = Reg.CUF_MITTEN then s.forEach allLinks State.updMitten
  else if a = Reg.BON_CTRL then s.bonLook
  else if a = Reg.FLT_FIRST then (if nbit v.toNat 31 then s.wr Reg.FLT_FIRST_VALID 0 else s)
  else if r.base = Reg.HBM_CTRL 0 then
    (have k := (a - r.base) / 0x100000
     s.hbmCtrl k (s.rdb (Reg.HBM_CTRL_KIND k)) (s.rdb (Reg.HBM_CTRL_SEAM_RETRAIN k)) (s.rdb (Reg.HBM_CTRL_SCRUB_EN k)) false)
  else if r.base = Reg.PLM_LINER_RAM 0 then
    (have e := 2 * ((a - r.base) / 8)
     (s.setLinerBad e (s.linerBad e)).setLinerBad (e + 1) (s.linerBad (e + 1)))
  else s

/-- Fields of the register that a write stores as they are: RW, and the keys of BON_SESS_KEY, which no read returns (R8). -/
def storedBits (r : Reg.Info) : Nat := r.rw ||| r.rwRun0 ||| (if r.base = Reg.BON_SESS_KEY 0 then 2 ^ 64 - 1 else 0)

/-- A write of `v` to the bits `m` of register `a`, of row `r` (R8 to R10, R99): RW fields take it, W1C bits clear but for those
the device has set in this cycle, reserved and RO bits stay, and fields with a command of their own do nothing here. A new slew limit
holds from now on (R363). -/
def State.plainWrite (s : State) (r : Reg.Info) (a m : Nat) (v : Word) : State :=
  have locked := s.run && (r.rwRun0 &&& m) != 0
  have ig := s.ignored r a v
  have open' := storedBits r &&& m &&& ((2 ^ 64 - 1) ^^^ (ig.1 ||| (if locked then r.rwRun0 else 0)))
  have s := if locked then s.flag Reg.CUF_STATUS_WR_REFUSED else s
  have s := match ig.2 with
    | some f => s.flag f
    | none => s
  have x := mergeBits (s.reg a) v open'
  have clear := (r.w1c &&& m) &&& ((2 ^ 64 - 1) ^^^ SMap.get (fun _ => 0) s.same.flagged a)
  have y := x &&& ~~~(BitVec.ofNat 64 clear &&& v)
  have s : State := { s with same := { s.same with driver := addBits s.same.driver a open' } }
  have s := if a = Reg.TIME_CTRL then s.setD s.dNow else s
  (s.setReg a y).afterWrite r a (v &&& BitVec.ofNat 64 m)

/-- A BAR0 write of `v` at offset `o` to the bits `m` (R10, R442, R446, R448); bits that a management write has written in this
cycle keep its value (R22). -/
def State.bar0Write (s : State) (o m : Nat) (v : Word) : State :=
  have a := bar0Addr o
  if o = 0x1000 ∨ o = 0x1008 then s.msixWrite ((o - 0x1000) / 8) m v
  else
    match Reg.find a with
    | none => s
    | some r =>
      if s.powered a then
        s.plainWrite r a (m &&& ((2 ^ 64 - 1) ^^^ SMap.get (fun _ => 0) s.same.mgmt a)) v
      else s.accErr 0 2 true o

/-- The power domain of the BAR2 window at offset `o` (R451): none for AON and for offsets outside every window. -/
def bar2Domain (o : Nat) : Option Nat :=
  if o < 0x1800000 then some (linkDomain (o / 0x100000))
  else if (0x2000000 ≤ o ∧ o < 0x2008000) ∨ (0x2010000 ≤ o ∧ o < 0x2020000) then some 28
  else if (0x4000000 ≤ o ∧ o < 0x4040000) ∨ (0x4100000 ≤ o ∧ o < 0x4180000) then some 29
  else none

/-- The domain of a BAR2 offset is on (R446). -/
def State.bar2On (s : State) (o : Nat) : Bool :=
  match bar2Domain o with
  | some d => s.domOn d
  | none => true

/-- A BAR2 write that no table's own command makes (R444, R446, R451, R455): it fills the chunk window, and elsewhere changes
nothing. -/
def State.bar2Plain (s : State) (o : Nat) (v : Word) : State :=
  if !s.bar2On o then s.accErr 1 2 true o
  else if 0x3000000 ≤ o ∧ o < 0x3001000 then s.setTab o v
  else s

/-- REGISTER_WRITE (R8 to R11, R99, R444, R446, R451): a driver write of 8 bytes at offset `o` of BAR0 or BAR2, or of 4 bytes to
one half of the BAR0 register at `o`. -/
def execRegisterWrite (bar2 : Bool) (o : Nat) (half : Option Bool) (v : Word) (s : State) : Host.Outcome State Fault Refusal :=
  if !s.live then .next s
  else if o % 8 ≠ 0 ∨ (bar2 ∧ half.isSome) then .next (s.badRequest bar2 true o)
  else if bar2 then .next (s.bar2Plain o v)
  else .next (s.bar0Write o (halfMask half) v)

/-- What a counter has counted in this cycle: what it has gained since the cycle began (R408). -/
def State.countedNow (s : State) (a : Nat) : Nat := fget (s.reg a) 47 0 - fget (SMap.get Reg.resetVal s.same.start a) 47 0

/-- COUNT and SAT of a counter become 0, and the events of this cycle are then counted; telemetry takes its next value whole
(R62, R408, R413). -/
def State.clearCounter (s : State) (a : Nat) : State :=
  { s.setReg a (BitVec.ofNat 64 (s.countedNow a)) with
    flt := { s.flt with telPrev := SMap.erase s.flt.telPrev a },
    same := { s.same with start := SMap.set Reg.resetVal s.same.start a 0 } }

/-- COUNTER_CLEAR (R62, R408, R446): a write of 1 to CLR of the counter at BAR0 offset `o`. -/
def execCounterClear (o : Nat) (s : State) : Host.Outcome State Fault Refusal :=
  match Reg.find (bar0Addr o) with
  | some r => .next (if isCounter r then s.busWrite (bar0Addr o) fun s => s.clearCounter (bar0Addr o) else s)
  | none => .next s

/-- The marks of the register at `a`, of row `r`, with the value each has after a clear (R39, R53, R83, R107, R184, R223, R292, R348,
R440). A temperature's mark has the level that the register shows. -/
def State.marksOf (s : State) (r : Reg.Info) (a : Nat) : List (Fld × Nat) :=
  if a = Reg.CRN_OFFSET then [(Reg.CRN_OFFSET_HWM, 0), (Reg.CRN_OFFSET_MON_MAX, 0)]
  else if a = Reg.PWR_INPUT_HWM then
    [(Reg.PWR_INPUT_HWM_MIN_VOLTAGE, 0xFFFF), (Reg.PWR_INPUT_HWM_MAX_CURRENT, 0), (Reg.PWR_INPUT_HWM_MAX_POWER, 0)]
  else if a = Reg.PWR_TEMP_MAX ∨ r.base = Reg.PWR_TEMP_RGN 0 ∨ r.base = Reg.PWR_TEMP_OE 0 then [(⟨a, 15, 8⟩, fget (s.reg a) 7 0)]
  else if r.base = Reg.RGN_EST_ERR 0 then [(⟨a, 31, 16⟩, 0)]
  else if r.base = Reg.LNK_QUEUE_HWM 0 then [(⟨a, 44, 32⟩, 0), (⟨a, 12, 0⟩, 0)]
  else if r.base = Reg.LNK_LEAD_MIN 0 then [(⟨a, 15, 0⟩, 0xFFFF), (⟨a, 16, 16⟩, 0)]
  else if r.base = Reg.LNK_LAG_HWM 0 then [(⟨a, 15, 0⟩, 0), (⟨a, 31, 16⟩, 0)]
  else if r.base = Reg.LNK_VC_STATE 0 0 then [(⟨a, 40, 32⟩, 0)]
  else if a = Reg.RTE_TURN then [(Reg.RTE_TURN_HWM, 0)]
  else if a = Reg.PLM_BUDGET then [(Reg.PLM_BUDGET_PEAK, 0)]
  else if r.base = Reg.HBM_LQ 0 0 then [(⟨a, 43, 32⟩, 0)]
  else if a = Reg.BON_PAGES then [(Reg.BON_PAGES_MIN_FREE, s.rd Reg.BON_PAGES_FREE)]
  else []

/-- Clear the marks of the register at `a`, of row `r`; one that meets a new level in this cycle is left at that level (R410). -/
def State.clearMarks (s : State) (r : Reg.Info) (a : Nat) : State :=
  s.forEach (s.marksOf r a) fun s m => s.clearMark m.1 m.2

/-- HWM_CLEAR (R410, R446): a write of 1 to the clear field of the mark at BAR0 offset `o`. -/
def execHwmClear (o : Nat) (s : State) : Host.Outcome State Fault Refusal :=
  match Reg.find (bar0Addr o) with
  | some r => .next (s.busWrite (bar0Addr o) fun s => s.clearMarks r (bar0Addr o))
  | none => .next s

/-- LNK_QUEUE_HWM of a band member other than member 0 reads 0 (R99). -/
def State.markHidden (s : State) (r : Reg.Info) (a : Nat) : Bool :=
  have l := (a - r.base) / 0x10000
  r.base == Reg.LNK_QUEUE_HWM 0 && s.bandLead l != l

/-- What a read of BAR0 offset `o` returns: unassigned offsets, domains that are off and the session keys read 0 (R8, R10, R446). -/
def State.bar0Read (s : State) (o : Nat) : Word :=
  have a := bar0Addr o
  if o = 0x1000 ∨ o = 0x1008 then s.msixWord ((o - 0x1000) / 8)
  else if o = 0x1800 then BitVec.ofNat 64 (b2n s.flt.msixPending)
  else
    match Reg.find a with
    | some r => if s.powered a && r.base != Reg.BON_SESS_KEY 0 && !s.markHidden r a then s.reg a else 0
    | none => 0

/-- What a 4-byte read of BAR0 offset `o` returns: the half it addresses of the value at that read (R11). -/
def State.bar0ReadHalf (s : State) (o : Nat) (high : Bool) : BitVec 32 :=
  BitVec.ofNat 32 ((s.bar0Read o).toNat / (if high then 2 ^ 32 else 1))

/-- What a read of BAR2 offset `o` returns (R446, R451). -/
def State.bar2Read (s : State) (o : Nat) : Word :=
  match bar2Domain o with
  | some d => if s.domOn d then s.tab o else 0
  | none => 0

/-- SMBUS_BLOCK_WRITE (R431): command 0x81 sets the offset. -/
def execSmbusBlockWrite (o : BitVec 32) (s : State) : Host.Outcome State Fault Refusal :=
  .next (if s.live then { s with pwr := { s.pwr with smb := o.toNat } } else s)

/-- The registers SMBus may read (R431, R449). -/
def smbusReadable (a : Nat) : Bool :=
  a ∈ [Reg.GEN_FUSE, Reg.GEN_SERIAL, Reg.GEN_BOOT_STATUS, Reg.FLT_STATUS, Reg.FLT_FIRST]
    || (decide (0x100000 ≤ a) && decide (a < 0x200000))

/-- SMBUS_BLOCK_READ (R431, R455): command 0x80 returns the register at the last offset written. -/
def execSmbusBlockRead (s : State) : Host.Outcome State Fault Refusal :=
  have o := s.pwr.smb
  have ok : Bool := decide (o < 0x4000000) && smbusReadable (bar0Addr o)
  .next (if s.live then s.emit (.smbusData (if ok then s.bar0Read o else 0)) else s)

/-- Fields of a management request (R452). -/
def mgMsg (f : Flit) : Nat := nbits (rwHdr f) 143 136
def mgBar (f : Flit) : Bool := nbit (rwHdr f) 135
def mgCount (f : Flit) : Nat := nbits (rwHdr f) 134 129
def mgOffset (f : Flit) : Nat := nbits (rwHdr f) 128 102

/-- A packet the management engine takes: DST_Q 0xF2, and a request or a packet of another mitten (R452, R453). -/
def isMgmt (f : Flit) : Bool := rwDstQ f == 0xF2 && (f.mitten != 0 || mgMsg f == 0x20 || mgMsg f == 0x21)

/-- Take the oldest management packet when it is of the kind asked for. -/
def State.mgmtTake (s : State) (kind : Flit → Bool) : Option (State × Nat × Flit) :=
  match s.niTake 1 isMgmt with
  | some x => if kind x.2.2 then some x else none
  | none => none

/-- The one RESPONSE to a request (R452, R454). -/
def State.respond (s : State) (f : Flit) (status data : Nat) : State :=
  have hdr := 0x22 * 2 ^ 136 + 2 ^ 135 * (b2n (mgBar f)) + 2 ^ 129 * (mgCount f) + 2 ^ 102 * (mgOffset f) + 2 ^ 94 * status
  s.inject 1 (.management (rwSrc f)) 0xF2 0xFFFF (rwRtag f) 0 hdr data

/-- Offsets that a request names. -/
def mgTargets (f : Flit) : List Nat := (List.range (mgCount f)).map fun i => mgOffset f + 8 * i

/-- A target lies in a domain that is off or in reset (R446, R453). -/
def State.mgOff (s : State) (f : Flit) (o : Nat) : Bool := if mgBar f then !s.bar2On o else !s.powered (bar0Addr o)

/-- Shape checks of a request (R453): 2 ALIGN, 4 COUNT, 0 none. -/
def mgShape (f : Flit) : Nat :=
  if mgOffset f % 8 ≠ 0 then 2
  else if mgCount f = 0 ∨ 44 < mgCount f ∨ (if mgBar f then 0x8000000 else 0x4000000) < mgOffset f + 8 * mgCount f then 4
  else 0

/-- Targets marked M (R449, R451, R453). -/
def mgWritable (f : Flit) (o : Nat) : Bool :=
  if mgBar f then decide (0x2010000 ≤ o) && decide (o < 0x2020000)
  else decide (bar0Addr o ∈ [Reg.RTE_EPOCH, Reg.RTE_EPOCH_TICK, Reg.FLT_SNAP, Reg.FLT_TEL_CFG])

/-- A refused request is counted and answered with its STATUS (R453, R454). -/
def State.mgRefuse (s : State) (f : Flit) (status : Nat) : State := (s.count Reg.RTE_MGMT_REFUSE_CNT 1).respond f status 0

/-- The values of a READ, each as the driver would read it (R452); the first offset in a domain that is off is recorded. -/
def State.mgRead (s : State) (f : Flit) : State :=
  have os := mgTargets f
  have data := (os.map fun o => (if mgBar f then s.bar2Read o else s.bar0Read o).toNat).foldr (fun v a => v + 2 ^ 64 * a) 0
  have s := match os.find? (s.mgOff f) with
    | some o => s.accErr 3 2 false o
    | none => s
  (s.count Reg.RTE_MGMT_CNT 1).respond f 0 data

/-- MGMT_READ (R452 to R454). -/
def execMgmtRead (s : State) : Host.Outcome State Fault Refusal :=
  match s.mgmtTake (fun f => f.mitten == 0 && mgMsg f == 0x20) with
  | none => .next (s.niLost 1 isMgmt)
  | some (s, _, f) => .next (if mgShape f ≠ 0 then s.mgRefuse f (mgShape f) else s.mgRead f)

/-- Value `i` of a WRITE (R452). -/
def mgValue (f : Flit) (i : Nat) : Word := BitVec.ofNat 64 (rwData f / 2 ^ (64 * i))

/-- A management write has written bits `x` at key `k` of the cycle's marks: a PCIe write of the same cycle does not undo it
(R22). -/
def State.markMgmt (s : State) (k x : Nat) : State := { s with same := { s.same with mgmt := addBits s.same.mgmt k x } }

/-- The RW fields of one target of an accepted WRITE (R453). -/
def State.mgRw (s : State) (bar2 : Bool) (o : Nat) (v : Word) : State :=
  if bar2 then (s.routeWrite ((o - 0x2010000) / 0x8000) ((o - 0x2010000) % 0x8000 / 8) v).markMgmt (routeKey o) 1
  else
    match Reg.find (bar0Addr o) with
    | some r => (s.plainWrite { r with w1c := 0 } (bar0Addr o) (2 ^ 64 - 1) v).markMgmt (bar0Addr o) (storedBits r)
    | none => s

/-- Then its W1S and W1C fields (R453). -/
def State.mgAct (s : State) (bar2 : Bool) (o : Nat) (v : Word) : State :=
  if bar2 then s
  else if bar0Addr o = Reg.RTE_EPOCH then
    (have kept := SMap.get (fun _ => 0) s.same.flagged Reg.RTE_EPOCH &&& Reg.RTE_EPOCH_LATE.bits
     have s := if nbit v.toNat 2 ∧ kept = 0 then s.wr Reg.RTE_EPOCH_LATE 0 else s
     if nbit v.toNat 8 then s.epochArm else s)
  else if bar0Addr o = Reg.FLT_SNAP ∧ nbit v.toNat 16 then s.orderSnap
  else s

/-- An accepted WRITE takes effect as one (R453). -/
def State.mgWrite (s : State) (f : Flit) : State :=
  have ws := (mgTargets f).zip ((List.range (mgCount f)).map (mgValue f))
  have s := s.forEach ws fun s w => s.mgRw (mgBar f) w.1 w.2
  have s := s.forEach ws fun s w => s.mgAct (mgBar f) w.1 w.2
  (s.count Reg.RTE_MGMT_CNT 1).respond f 0 0

/-- MITTEN_VIOLATION MANAGEMENT with the link of arrival (R21, R181, R453); a request injected here came on no link. -/
def State.mgViolation (s : State) (link : Nat) (f : Flit) : State :=
  if link < 24 then s.mittenViol link 4 f.vc f.mitten
  else s.fault { code := 0x0601, block := 7, cause := 4, sub := f.vc, a := f.mitten }

/-- The STATUS that refuses a WRITE (R453): ALIGN, COUNT, OFF, NOT_WRITABLE in that order, 0 for none. -/
def State.mgStatus (s : State) (f : Flit) : Nat :=
  if mgShape f ≠ 0 then mgShape f
  else if (mgTargets f).any (s.mgOff f) then 3
  else if (mgTargets f).any fun o => !mgWritable f o then 1
  else 0

/-- A refused WRITE (R21, R453): one that names a target not marked M is recorded with KIND MGMT and raises MITTEN_VIOLATION,
whatever refuses it; one refused only for a domain that is off is recorded with KIND OFF. -/
def State.mgWriteRefused (s : State) (link : Nat) (f : Flit) (status : Nat) : State :=
  have s :=
    match (mgTargets f).find? fun o => !mgWritable f o with
    | some o => (s.accErr 3 3 true o).mgViolation link f
    | none =>
      match (mgTargets f).find? (s.mgOff f) with
      | some o => if status = 3 then s.accErr 3 2 true o else s
      | none => s
  s.mgRefuse f status

/-- MGMT_WRITE (R21, R22, R452 to R454). -/
def execMgmtWrite (s : State) : Host.Outcome State Fault Refusal :=
  match s.mgmtTake (fun f => f.mitten == 0 && mgMsg f == 0x21) with
  | none => .next (s.niLost 1 isMgmt)
  | some (s, link, f) =>
    if s.mgStatus f ≠ 0 then .next (s.mgWriteRefused link f (s.mgStatus f)) else .next (s.mgWrite f)

/-- MGMT_DISCARD (R21, R453): a management packet of another mitten is discarded and counted; a WRITE is reported. -/
def execMgmtDiscard (s : State) : Host.Outcome State Fault Refusal :=
  match s.mgmtTake (fun f => f.mitten != 0) with
  | none => .next (s.niLost 1 isMgmt)
  | some (s, link, f) =>
    have s := s.count Reg.RTE_MGMT_REFUSE_CNT 1
    .next (if mgMsg f = 0x21 then s.mgViolation link f else s)

end Sys2Proof.Machine
end

