-- ==== Sys2Proof/Machine/Link.lean ====
section
/-! DEFINITION. Sys2Proof/Machine/Link.lean: the commands of the link layer (R122 to R153): flits received, link control
words, replay, training and band members that fail. -/
namespace Sys2Proof.Machine

/-- Declare a member of a spare-mode band failed; without a free spare nothing moves (R91, R150). -/
def State.declare (s : State) (x : Nat) : State :=
  match s.freeSpare x with
  | some y => s.failover x y
  | none => s

/-- The link with a MEMBER number in a link's band. -/
def State.memberLink (s : State) (l m : Nat) : Option Nat := (s.bandLinks l).find? fun x => s.bandMember x == m

/-- Declare the member with number `m` of link `l`'s band (R150). -/
def State.declareMember (s : State) (l m : Nat) : State :=
  match s.memberLink l m with
  | some x => s.declare x
  | none => s

/-- The flit numbered e is accepted: e advances and the episode closes (R136, R138). -/
def State.acceptSeq (s : State) (l c : Nat) : State :=
  have y := (s.lk l).cls c
  (s.wr (rxExpectFld l c) (s.rd (rxExpectFld l c) + 1)).setCls l c { y with nakOpen := false }

/-- A flit that is not numbered e (R136, R138). -/
def State.rejectSeq (s : State) (l c : Nat) (f : Flit) : State :=
  if seqAhead f.seq (s.rd (rxExpectFld l c)) < 2 ^ 23 then
    (if !((s.lk l).cls c).nakOpen || f.resent then s.openNak l c else s)
  else s.count (Reg.LNK_DUP_CNT l) 1

/-- A moved flit repeats one the failed member had accepted (R151). -/
def movedRepeat (expect : Nat) (f : Flit) : Bool := f.moved && 2048 ≤ (f.origSeq + 4096 - expect % 4096) % 4096

/-- A flit carries a failed member's traffic: the member is declared failed (R150). -/
def State.carriedBy (s : State) (l : Nat) (f : Flit) : State := if f.carriedV then s.declareMember l f.carried else s

/-- An unerrored scheduled flit (R77, R136, R150, R151): with the expected number it goes to the equaliser, unless it repeats one
that the failed member had accepted. -/
def State.rxSched (s : State) (l : Nat) (f : Flit) : State :=
  if f.seq % 2 ^ 24 ≠ s.rd (rxExpectFld l 0) then s.rejectSeq l 0 f
  else
    have s := (s.acceptSeq l 0).carriedBy l f
    if movedRepeat (s.lk l).carryExpS f then s.count (Reg.LNK_DUP_CNT l) 1
    else s.setLk l { s.lk l with arrivals := (s.lk l).arrivals ++ [(s.stitch, f)] }

/-- An unerrored loose flit (R136, R150, R151, R171): with the expected number it is offered to the router, unless it repeats one
that the failed member had accepted; a flit the router refuses is not accepted. -/
def State.rxLoose (s : State) (l : Nat) (f : Flit) : State :=
  if f.seq % 2 ^ 24 ≠ s.rd (rxExpectFld l 1) then s.rejectSeq l 1 f
  else if movedRepeat ((s.carriedBy l f).lk l).carryExpL f then ((s.acceptSeq l 1).carriedBy l f).count (Reg.LNK_DUP_CNT l) 1
  else
    have r := s.offer l s.stitch f
    if r.2 then ((r.1.acceptSeq l 1).carriedBy l f).retryWait else r.1.count Reg.RTE_REFUSE_CNT 1

/-- An errored slot of departure stitch `depart` (R129, R138), new to `codewords` of which so many symbols were wrong: one with more
than 15 could not be corrected (R124). -/
def State.slotErrored (s : State) (l depart : Nat) (codewords : List Nat) : State :=
  have s := (s.count (Reg.LNK_CRC_ERR_CNT l) 1).count (Reg.LNK_FEC_UNCORR_CNT l)
    ((codewords.filter fun n => decide (rsLimit < n)).length)
  have looseOnly := !isFar l && s.rd (Reg.LNK_STATUS_WIDTH l) == 8 && s.looseStitch depart
  have s := if looseOnly || (s.lk l).s.nakOpen then s else s.openNak l 0
  if (s.lk l).l.nakOpen then s else s.openNak l 1

/-- The 400 bytes of a slot that no uncorrectable codeword touches arrive (R126 to R129): CRC and CLASS say what they are. The
departure stitch of a slot that fails them is the link's flight ago. -/
def State.takeSlot (s : State) (l x : Nat) : State :=
  if !s.isUp l || s.mute l then s
  else if !slotOk x then s.slotErrored l (s.stitch - s.flight l) []
  else
    match (flitOf x).cls with
    | 0 => s.rxSched l (flitOf x)
    | 1 => s.rxLoose l (flitOf x)
    | _ => s

/-- SCHEDULED_FLIT_RX (R77, R129, R136): a slot arrives with a scheduled flit. -/
def execScheduledFlitRx (l : Fin 24) (slot : BitVec 3200) (s : State) : Host.Outcome State Fault Refusal :=
  .next (s.takeSlot l slot.toNat)

/-- LOOSE_FLIT_RX (R129, R136, R171): a slot arrives with a loose flit. -/
def execLooseFlitRx (l : Fin 24) (slot : BitVec 3200) (s : State) : Host.Outcome State Fault Refusal :=
  .next (s.takeSlot l slot.toNat)

/-- NULL_FLIT_RX (R128, R129): a slot arrives with a null flit, which is discarded without further effect. -/
def execNullFlitRx (l : Fin 24) (slot : BitVec 3200) (s : State) : Host.Outcome State Fault Refusal :=
  .next (s.takeSlot l slot.toNat)

/-- ERRORED_SLOT (R124, R129, R138): an errored slot of departure stitch `depart` that lies in `codewords`, of which so many symbols
were wrong and which no earlier slot has met. -/
def execErroredSlot (l : Fin 24) (depart : Nat) (codewords : List Nat) (s : State) : Host.Outcome State Fault Refusal :=
  .next (if !s.isUp l || s.mute l then s else s.slotErrored l depart codewords)

/-- A NAK of a class in a valid LCW (R139, R143): a new episode is recorded, and a resend in progress stops. -/
def State.takeNak (s : State) (l c ack nnum : Nat) : State :=
  have y := (s.lk l).cls c
  if y.nnumAct = nnum then s
  else
    have s := (s.setCls l c { y with nnumAct := nnum }).count (Reg.LNK_NAK_RX_CNT l) 1
    match s.ackNumber l c ack with
    | some n =>
      have y := (s.lk l).cls c
      s.setCls l c { y with nakFrom := some (n, s.stitch), replay := none }
    | none => s

/-- A valid seam report (R114, R121). -/
def State.seamReport (s : State) (l idx : Nat) : State :=
  have x := s.lk l
  have rs := (s.now, idx) :: x.reports.filter fun r => s.now < r.1 + 40000
  ((s.setLk l { x with reports := rs }).wr (Reg.LNK_SEAM_RPT_VALID l) 1).wr (Reg.LNK_SEAM_RPT_INDEX l) idx

/-- The fields of a valid LCW from ACK_S to CARRY (R130, R137, R139, R150). -/
def State.applyLcw (s : State) (l w : Nat) : State :=
  have s := s.setLk l { s.lk l with lcwAt := some s.now }
  have s := s.wr (Reg.LNK_STATUS_PEER_RX_DOWN l) (nbits w 9 9)
  have s := (s.applyAck l 0 (nbits w 56 45)).applyAck l 1 (nbits w 44 33)
  have s := if nbit w 32 then s.takeNak l 0 (nbits w 56 45) (nbits w 30 29) else s
  have s := if nbit w 31 then s.takeNak l 1 (nbits w 44 33) (nbits w 28 27) else s
  have s := if nbit w 26 then s.seamReport l (nbits w 25 10) else s
  have s := if nbit w 9 then s.declare l else s
  if nbit w 8 then s.declareMember l (nbits w 7 5) else s

/-- LCW_RECEIVED (R124, R130 to R132): a 192-bit LCW; a wrong CRC, a reserved TYPE or an uncorrectable codeword (`errored`) discards
it whole. -/
def execLcwReceived (l : Fin 24) (w : Nat) (errored : Bool) (s : State) : Host.Outcome State Fault Refusal :=
  if !s.isUp l then .next s
  else if errored ∨ !lcwOk w ∨ 5 < nbits w 175 172 then .next (s.count (Reg.LNK_LCW_ERR_CNT l) 1)
  else .next (s.applyLcw l w)

/-- IDENT (R94, R132, R388): the neighbour's serial, link, seat and mitten. -/
def execIdent (l : Fin 24) (serial : Word) (link : Fin 32) (seat mitten : Fin 4096) (s : State) :
    Host.Outcome State Fault Refusal :=
  if !s.isUp l then .next s
  else
    have s := s.setLk l { s.lk l with ident := some (serial.toNat, link, seat, mitten) }
    .next ((s.wr (Reg.LNK_SCHED_STATUS_NBR_MITTEN l) mitten).discover l)

/-- Credits a count returns for one VC (R172). -/
def State.takeCredit (s : State) (l v n : Nat) : State :=
  have x := s.lk l
  have d := (n + 512 - SMap.get (fun _ => 0) x.credLast v) % 512
  (s.setLk l { x with credLast := SMap.set (fun _ => 0) x.credLast v (n % 512) }).wr (Reg.LNK_VC_STATE_CREDITS l v)
    (s.rd (Reg.LNK_VC_STATE_CREDITS l v) + d)

/-- CREDIT (R172): the freed-slot counts of VC 0 to 7 arrive on a far link. -/
def execCredit (l : Fin 24) (counts : List Nat) (s : State) : Host.Outcome State Fault Refusal :=
  if !s.isUp l || !isFar l then .next s
  else .next (s.forEach (counts.take 8).zipIdx fun s p => s.takeCredit l p.2 (p.1 % 512))

/-- This end leads a collision (R149). -/
def State.leads (s : State) (l : Nat) (serial link : Nat) : Bool :=
  have me := s.rd Reg.GEN_SERIAL_SERIAL
  me < serial || (me == serial && l < link)

/-- Follow an agreed TRAIN request (R145, R149, R150): 1 quick, 2 full, 3 width. With RUN clear no stitches move (R90, R135). -/
def State.followTrain (s : State) (l code cause : Nat) : State :=
  have s := s.setLk l { s.lk l with follow := none, trainReq := none, pendTrain := none }
  match (if s.run then s.freeSpare l else none) with
  | some y => s.failover l y
  | none =>
    match code with
    | 1 => s.leaveUp l 2 false cause
    | 2 => have s := s.leaveUp l 2 true cause; s.setLk l { s.lk l with mayWiden := true }
    | _ => s.leaveUp l 3 false cause

/-- A TRAIN request is received (R149): a collision is resolved, and an accepted request is answered with ACCEPT. -/
def State.trainRequest (s : State) (l code : Nat) (serial link : Nat) : State :=
  if !s.isUp l || s.mute l then s
  else
    have accept := fun (s : State) => s.setLk l { s.lk l with trainReq := none, pendTrain := some 4, follow := some code }
    if (s.lk l).trainReq.isSome then
      have s := s.count (Reg.LNK_COLLIDE_CNT l) 1
      if s.leads l serial link then s else accept s
    else accept s

/-- REQ_QUICK (R149). -/
def execReqQuick (l : Fin 24) (serial : Word) (link : Fin 32) (width : Fin 16) (group : Fin 8) (s : State) :
    Host.Outcome State Fault Refusal :=
  .next ((s.setLk l { s.lk l with peer := { (s.lk l).peer with width := width, group := group } }).trainRequest l 1
    serial.toNat link)

/-- REQ_FULL (R149). -/
def execReqFull (l : Fin 24) (serial : Word) (link : Fin 32) (width : Fin 16) (group : Fin 8) (s : State) :
    Host.Outcome State Fault Refusal :=
  .next ((s.setLk l { s.lk l with peer := { (s.lk l).peer with width := width, group := group } }).trainRequest l 2
    serial.toNat link)

/-- REQ_WIDTH (R149). -/
def execReqWidth (l : Fin 24) (serial : Word) (link : Fin 32) (width : Fin 16) (group : Fin 8) (s : State) :
    Host.Outcome State Fault Refusal :=
  .next ((s.setLk l { s.lk l with peer := { (s.lk l).peer with width := width, group := group } }).trainRequest l 3
    serial.toNat link)

/-- TRAIN_ACCEPT (R149): the request of this end is accepted and both ends follow it. -/
def execTrainAccept (l : Fin 24) (s : State) : Host.Outcome State Fault Refusal :=
  if !s.isUp l then .next s
  else
    match (s.lk l).trainReq with
    | some (code, _, _) => .next (s.followTrain l code (s.lk l).reqCause)
    | none => .next s

/-- TRAIN_REQUEST_TIMEOUT (R149): 4,096 ct without ACCEPT: the request is sent again, or after four a full training starts. -/
def execTrainRequestTimeout (l : Fin 24) (s : State) : Host.Outcome State Fault Refusal :=
  match (s.lk l).trainReq with
  | some (code, n, t) =>
    if !s.isUp l ∨ s.cyc < t + 4096 then .next s
    else if n < 4 then .next (s.setLk l { s.lk l with pendTrain := some code })
    else .next (s.dropLink l true (s.lk l).reqCause false)
  | none => .next s

/-- An LCW starts now on link `l` (R122, R123, R130): every 32 ct, once. -/
def State.lcwDue (s : State) (l : Nat) : Bool :=
  s.isUp l && s.wireTick % 32 == 0 && (s.lk l).lcwSent != some s.wireTick

/-- The beacon response that is due: an LCW carries it from 4 ct after its request (R36, R134). -/
def State.rspDue (s : State) (l : Nat) : Option Beacon :=
  match (s.lk l).pendRsp with
  | some (b, t) => if t + 4 ≤ s.wireTick then some b else none
  | none => none

/-- The training request or acceptance that this LCW may show (R134). -/
def State.trainDue (s : State) (l : Nat) : Option Nat :=
  if (s.lcwShown l).train = (s.lk l).pendTrain then (s.lk l).pendTrain else none

/-- LCW_TRANSMIT (R122, R123, R130, R133, R134): the LCW slot that starts now on link `l`. -/
def execLcwTransmit (l : Fin 24) (s : State) : Host.Outcome State Fault Refusal :=
  if !s.lcwDue l then .next s
  else
    match s.rspDue l with
    | some b => .next (s.sendRsp l b)
    | none =>
      match s.trainDue l with
      | some code =>
        if code = 4 then
          (match (s.lk l).follow with
           | some f => .next ((s.sendTrain l 4).followTrain l f 7)
           | none => .next (s.sendTrain l 4))
        else
          have n := match (s.lk l).trainReq with
            | some (c, n, _) => if c = code then n else 0
            | none => 0
          have s := s.sendTrain l code
          .next (s.setLk l { s.lk l with trainReq := some (code, n + 1, s.cyc) })
      | none => .next (s.sendLater l)

/-- A refusal met this flit: the loose replay starts from one that had left opportunistically (R169, R171). -/
def State.oppRefused (s : State) (l n : Nat) : State :=
  if !isFar l && (s.lk l).l.unacked.any (fun u => u.flit.seq == n && !u.flit.lat) then
    s.setLk l { s.lk l with oppUntil := s.stitch + 2048 }
  else s

/-- REPLAY_START (R139): the sender acts on a recorded NAK of class `c`. -/
def execReplayStart (l : Fin 24) (c : Fin 2) (s : State) : Host.Outcome State Fault Refusal :=
  have y := (s.lk l).cls c
  match y.nakFrom with
  | some (n, t) =>
    have s := s.setCls l c { y with nakFrom := none }
    have s := if c.val = 1 then s.oppRefused l n else s
    .next (if s.isUp l then s.startReplay l c n (t + 5) false else s)
  | none => .next s

/-- The oldest flit of a class that waits for an acknowledgement and has not been NAKed since it last departed (R140, R150). -/
def State.unanswered (s : State) (l c : Nat) : Option Sent :=
  have y := (s.lk l).cls c
  match y.unacked.head?, y.nakFrom with
  | some u, none => if (y.replay.map Prod.fst) = some u.flit.seq then none else some u
  | _, _ => none

/-- REPLAY_TIMER (R140): the oldest unacknowledged flit of class `c` is neither acknowledged nor NAKed in time. -/
def execReplayTimer (l : Fin 24) (c : Fin 2) (s : State) : Host.Outcome State Fault Refusal :=
  match s.unanswered l c with
  | some u =>
    if !s.isUp l ∨ s.mute l ∨ s.stitch < u.last + 2 * s.flight l + 34 then .next s
    else
      have s := if c.val = 1 then s.oppRefused l u.flit.seq else s
      .next (s.startReplay l c u.flit.seq s.stitch true)
  | none => .next s

/-- LINK_ENABLE (R144, R145): a write of LNK_CTRL with EN 1. -/
def execLinkEnable (l : Fin 24) (s : State) : Host.Outcome State Fault Refusal :=
  .next (s.busWrite (Reg.LNK_CTRL l) fun s =>
    if s.rdb (Reg.LNK_CTRL_EN l) then s
    else
      have s := ((s.drvWr (Reg.LNK_CTRL_EN l) 1).wr (Reg.LNK_TRAIN_INFO_CAUSE l) 1).wr (Reg.LNK_TRAIN_INFO_FAILS l) 0
      (s.setLk l { s.lk l with full := true, prevWidth := 0 }).setTraining l 1)

/-- LINK_DISABLE (R145): a write of LNK_CTRL with EN 0. -/
def execLinkDisable (l : Fin 24) (s : State) : Host.Outcome State Fault Refusal :=
  .next (s.busWrite (Reg.LNK_CTRL l) fun s =>
    have x := s.lk l
    have s := (s.drvWr (Reg.LNK_CTRL_EN l) 0).setLk l { x with
      ident := none, trainReq := none, pendTrain := none, pendReq := none, pendRsp := none, follow := none, rxDownUntil := none,
      s := { x.s with replay := none }, l := { x.l with replay := none } }
    ((s.setTraining l 0).wr (Reg.LNK_STATUS_RX_LOCK l) 0).discover l)

/-- LINK_RETRAIN (R149): a write of 1 to LNK_CTRL.RETRAIN sends a request of kind MODE. -/
def execLinkRetrain (l : Fin 24) (s : State) : Host.Outcome State Fault Refusal :=
  .next (s.busWrite (Reg.LNK_CTRL l) fun s =>
    if s.isUp l then
      s.setLk l { s.lk l with pendTrain := some (1 + s.rd (Reg.LNK_CTRL_MODE l)), reqCause := 2 }
    else s)

/-- SIGNAL_DETECT (R145, R376): signal on a receive lane in DETECT; the training is full, or quick where bring-up in warm mode said
so. -/
def execSignalDetect (l : Fin 24) (s : State) : Host.Outcome State Fault Refusal :=
  if s.lstate l ≠ 1 then .next s
  else .next ((s.setLk l { s.lk l with trainAt := s.cyc }).setTraining l 2)

/-- Lanes of group `g` at width `w` are all good (R146). -/
def groupGood (bad w g : Nat) : Bool := (List.range w).all fun i => !nbit bad (g * w + i)

/-- The lowest good aligned group at width `w`. -/
def lowGroup (bad w : Nat) : Option Nat := (List.range (8 / w)).find? fun g => groupGood bad w g

/-- WIDTH_MAX as it acts (R153). -/
def widthMax (v : Nat) : Nat := if v = 4 ∨ v = 2 ∨ v = 1 then v else 8

/-- The largest width no larger than `most` with a good aligned group; 0 for none (R146). -/
def laneWidth (bad most : Nat) : Nat :=
  (([8, 4, 2, 1].filter fun w => w ≤ most).find? fun w => (lowGroup bad w).isSome).getD 0

/-- The width a training may end at (R148): the one before it, unless a driver asked for a full training or there was none. -/
def LinkSt.widthCap (x : LinkSt) : Nat := if x.prevWidth = 0 ∨ x.mayWiden then 8 else x.prevWidth

/-- This end's proposal from its bad lanes (R146, R148). -/
def State.propose (s : State) (l : Nat) : State :=
  have bad := s.rd (Reg.LNK_STATUS_LANE_BAD l)
  have w := laneWidth bad (min (s.lk l).widthCap (widthMax (s.rd (Reg.LNK_CTRL_WIDTH_MAX l))))
  s.setLk l { s.lk l with propWidth := w, propGroup := (lowGroup bad (max 1 w)).getD 0 }

/-- The lanes that R146 judges bad: without lock, or with more corrected symbols than `most`. -/
def badLanes (lock most : Nat) (symbols : List Nat) : Nat :=
  ((List.range 8).map fun i => if nbit lock i && decide (symbols.getD i 0 ≤ most) then 0 else 2 ^ i).sum

/-- EQUALIZE_DONE (R145, R146): the lanes that hold `lock`, and the corrected symbols of each lane scaled to 2^20 codewords. -/
def execEqualizeDone (l : Fin 24) (lock : BitVec 8) (symbols : List Nat) (s : State) : Host.Outcome State Fault Refusal :=
  if s.lstate l ≠ 2 then .next s
  else
    have bad := badLanes lock.toNat (s.rd (Reg.LNK_LANE_CFG_THRESH l)) symbols
    have now := if (s.lk l).full then bad else bad ||| s.rd (Reg.LNK_STATUS_LANE_BAD l)
    .next (((s.wr (Reg.LNK_STATUS_LANE_BAD l) now).propose l).setTraining l 3)

/-- FRESH is received in NEGOTIATE (R135): numbers return to 0, unacknowledged flits are discarded, scheduled ones stay
owed, and the VC input buffers empty. -/
def State.takeFresh (s : State) (l : Nat) : State :=
  have lost := (s.lk l).s.unacked.map Sent.stitch
  have s := s.freshStart l
  s.setLk l { s.lk l with gone := (s.lk l).gone ++ lost }

/-- A full training fails (R145, R152). -/
def State.trainFailed (s : State) (l : Nat) : State :=
  have s := s.wr (Reg.LNK_TRAIN_INFO_FAILS l) (min 255 (s.rd (Reg.LNK_TRAIN_INFO_FAILS l) + 1))
  (s.setTraining l 7).linkLost l 2 7 0

/-- The peer's NEGOTIATE fields are taken, and the width agreed (R144, R146, R147, R149): from here on this end asks for its lane
group at that width. -/
def State.negotiated (s : State) (l : Nat) (p : PeerFields) : State :=
  have x := s.lk l
  have w := min x.propWidth p.width
  have s := s.setLk l { x with
    propGroup := (lowGroup (s.rd (Reg.LNK_STATUS_LANE_BAD l)) (max 1 w)).getD 0,
    peer := { serial := p.serial, link := p.link, seat := p.seat, width := p.width, group := p.group,
              expS := p.expS, expL := p.expL, fresh := p.fresh } }
  have s := s.wrb (Reg.LNK_STATUS_ROLE l) (s.leads l p.serial p.link)
  if w = 0 then (if x.full then s.trainFailed l else s)
  else (if p.fresh then s.takeFresh l else s).setTraining l 4

/-- NEGOTIATE_DONE (R144, R145, R147, R149): a training frame of the peer with its NEGOTIATE fields; one whose CRC fails says
nothing. -/
def execNegotiateDone (l : Fin 24) (frame : BitVec 192) (s : State) : Host.Outcome State Fault Refusal :=
  if s.lstate l ≠ 3 ∨ !lcwOk frame.toNat then .next s else .next (s.negotiated l (peerOf frame.toNat))

/-- The markers of the lanes received are whole, come from the peer's link, and number each of the `w` lanes once (R125). -/
def markersOk (w link : Nat) (ms : List Nat) : Bool :=
  ms.length == w && (ms.all fun m => markerOk m && nbits m 52 48 == link) && (List.range w).all fun i => ms.any fun m => nbits m 55 53 == i

/-- ALIGN_DONE (R125, R145): frame lock in both directions, with the markers of the lanes received in the order of this end's group,
and the lane group that the peer wants at the agreed width. Markers that do not name the lanes give no lock. -/
def execAlignDone (l : Fin 24) (group : Fin 8) (markers : List (BitVec 64)) (s : State) : Host.Outcome State Fault Refusal :=
  have x := s.lk l
  have ms := markers.map BitVec.toNat
  if s.lstate l ≠ 4 ∨ !markersOk (min x.propWidth x.peer.width) x.peer.link ms then .next s
  else
    have s := s.setLk l { x with peer := { x.peer with group := group }, laneOrder := ms.map fun m => nbits m 55 53 }
    .next ((s.setTraining l 5).wr (Reg.LNK_STATUS_RX_LOCK l) 1)

/-- After training a class resends from the peer's next expected number (R147). -/
def State.resumeClass (s : State) (l c exp : Nat) : State :=
  have y := (s.lk l).cls c
  have rest := y.unacked.filter fun u => seqAhead u.flit.seq exp < 2 ^ 23
  have y : ClsSt := { y with unacked := rest, repCount := 0, limRaised := false, nakFrom := none, replay := none }
  if (rest.any fun u => u.flit.seq == exp) then s.resendFrom l c exp s.stitch y else s.setCls l c y

/-- LANE_DEGRADE (R148, R152): UP narrower than before, by this end's lanes. -/
def State.laneDegrade (s : State) (l prev w : Nat) : State :=
  have bad := s.rd (Reg.LNK_STATUS_LANE_BAD l)
  if w < prev ∧ laneWidth bad 8 ≤ w then
    s.fault { code := 0x0103, block := 6, cause := prev, sub := w, a := bad, link := l }
  else s

/-- MEASURE_DONE (R81, R145, R147): both ends have measured; the flights of the two directions, in stitches. The link is UP. -/
def execMeasureDone (l : Fin 24) (flightOut flightBack : Fin 4096) (s : State) : Host.Outcome State Fault Refusal :=
  if s.lstate l ≠ 5 then .next s
  else
    have x := s.lk l
    have bad := s.rd (Reg.LNK_STATUS_LANE_BAD l)
    have w := min x.propWidth x.peer.width
    have s := s.wr (Reg.LNK_SCHED_STATUS_FLIGHT l) (max flightOut.val flightBack.val)
    have s := (s.setTraining l 6).wr (Reg.LNK_STATUS_WIDTH l) w
    have s := (s.wr (Reg.LNK_STATUS_RX_GROUP l) ((lowGroup bad w).getD 0)).wr (Reg.LNK_STATUS_TX_GROUP l) x.peer.group
    have s := s.wr (Reg.LNK_TRAIN_INFO_DURATION l) (min 0xFFFFFFFF (s.cyc - x.trainAt))
    have s := s.setLk l { s.lk l with
      lost := false, fresh := false, mayWiden := false, identAt := none, identVar := none, ident := none, prevWidth := w, full := true }
    have s := (s.updFit l).discover l
    have s := if x.fresh || x.peer.fresh then s else (s.resumeClass l 0 x.peer.expS).resumeClass l 1 x.peer.expL
    .next (s.laneDegrade l x.prevWidth w)

/-- The time limit of a training state in ct (R144); none for DETECT, UP and DISABLED. -/
def trainLimit (st : Nat) (full : Bool) : Option Nat :=
  match st with
  | 2 => some (if full then 1800000 else 20000)
  | 3 => some 50000
  | 4 => some 50000
  | 5 => some 50000
  | _ => none

/-- TRAINING_TIMEOUT (R145): a quick retrain becomes a full training, a full training FAILED. -/
def execTrainingTimeout (l : Fin 24) (s : State) : Host.Outcome State Fault Refusal :=
  have x := s.lk l
  match trainLimit (s.lstate l) x.full with
  | some t =>
    if s.cyc < x.stateAt + t then .next s
    else if x.full then .next (s.trainFailed l)
    else .next ((s.setLk l { x with full := true }).setTraining l 2)
  | none => .next s

/-- FAILED_WAIT_END (R144): after 10,000,000 ct in FAILED. -/
def execFailedWaitEnd (l : Fin 24) (s : State) : Host.Outcome State Fault Refusal :=
  if s.lstate l ≠ 7 ∨ s.cyc < (s.lk l).stateAt + 10000000 then .next s
  else .next ((s.setLk l { s.lk l with full := true }).setTraining l 1)

/-- RX_LOCK_LOST (R145, R150, R152). -/
def execRxLockLost (l : Fin 24) (s : State) : Host.Outcome State Fault Refusal :=
  if !s.isUp l then .next s else .next ((s.wr (Reg.LNK_STATUS_RX_LOCK l) 0).dropLink l false 3 true)

/-- TRAINING_FRAME_RX (R145, R152): training frames where frames were expected. -/
def execTrainingFrameRx (l : Fin 24) (s : State) : Host.Outcome State Fault Refusal :=
  if !s.isUp l then .next s else .next (s.dropLink l false 4 true)

/-- LANE_ERROR (R148, R150): lane `lane` loses lock or has more than THRESH corrected symbols in a window. -/
def execLaneError (l : Fin 24) (lane : Fin 8) (lostLock : Bool) (symbols : Nat) (s : State) :
    Host.Outcome State Fault Refusal :=
  have s := s.count (Reg.LNK_LANE_CORR_CNT l lane) symbols
  if !s.isUp l ∨ s.rd (Reg.LNK_STATUS_WIDTH l) ≠ 8 ∨ (lostLock = false ∧ symbols ≤ s.rd (Reg.LNK_LANE_CFG_THRESH l)) then .next s
  else
    have s := (s.wr (Reg.LNK_STATUS_LANE_BAD l) (s.rd (Reg.LNK_STATUS_LANE_BAD l) ||| 2 ^ lane.val)).propose l
    match s.freeSpare l with
    | some y => .next (s.failover l y)
    | none => .next (s.setLk l { s.lk l with pendTrain := some 3, reqCause := 6 })

/-- The oldest flit of a class has waited for its acknowledgement longer than R150 allows. -/
def State.ackLate (s : State) (l c : Nat) : Bool :=
  match s.unanswered l c with
  | some u => u.last + 2 * s.flight l + 18 ≤ s.stitch
  | none => false

/-- MEMBER_ACK_TIMEOUT (R150): no ACK or NAK in time although a valid LCW arrived within the last 16 st. -/
def execMemberAckTimeout (l : Fin 24) (s : State) : Host.Outcome State Fault Refusal :=
  have live : Bool := match (s.lk l).lcwAt with
    | some t => decide (s.now ≤ t + 32)
    | none => false
  if s.isUp l ∧ !s.mute l ∧ live ∧ (s.ackLate l 0 ∨ s.ackLate l 1) then .next (s.declare l) else .next s

/-- RX_DOWN_PERIOD_END (R151): the failed member starts a full training, if it has not left UP meanwhile. -/
def execRxDownPeriodEnd (l : Fin 24) (s : State) : Host.Outcome State Fault Refusal :=
  match (s.lk l).rxDownUntil with
  | some t =>
    if s.cyc < t then .next s
    else
      have s := s.setLk l { s.lk l with rxDownUntil := none }
      .next (if s.isUp l then s.leaveUp l 2 true 8 else s)
  | none => .next s

end Sys2Proof.Machine
end

