-- ==== Sys2Proof/Machine/Nvm.lean ====
section
/-! DEFINITION. Sys2Proof/Machine/Nvm.lean: the NVM commands: refused at once, or carried out when they end (R380 to R383). -/
namespace Sys2Proof.Machine

/-- Show a command's RESULT. -/
def State.nvmResult (s : State) (r : Nat) : State := s.wr Reg.NVM_STATUS_RESULT r

/-- Accept a command, or refuse it with a RESULT of R382; BUSY while another runs. -/
def State.nvmStart (s : State) (c : NvmCmd) (refuse : Option Nat) : State :=
  match s.nvm.running, refuse with
  | some _, _ => s.nvmResult 4
  | none, some r => s.nvmResult r
  | none, none => { (s.wr Reg.NVM_STATUS_BUSY 1).nvmResult 0 with nvm := { s.nvm with running := some c } }

/-- A sector has been erased 100,000 times (R382). -/
def State.worn (s : State) (sector : Nat) : Bool := 100000 ≤ SMap.get (fun _ => 0) s.nvm.wear sector

/-- The copy of a section that is not chosen (R382). -/
def State.otherCopy (s : State) (sect : Nat) : Nat :=
  match s.chosen sect with
  | some 0 => 1
  | _ => 0

/-- NVM_READ (R382). -/
def execNvmRead (sect : Fin 16) (copy : Fin 2) (index : Fin 65536) (s : State) : Host.Outcome State Fault Refusal :=
  have bad : Bool := 5 < sect.val || (sect.val == 0 && copy.val == 1) || (nvmBase sect 0).2 ≤ index.val
  .next (s.nvmStart { cmd := 1, sect := sect, copy := if sect.val = 5 then 0 else copy, index := index, length := 0 }
    (if bad then some 5 else none))

/-- NVM_OPEN (R382). -/
def execNvmOpen (sect : Fin 16) (length : BitVec 32) (s : State) : Host.Outcome State Fault Refusal :=
  have refuse := if sect.val = 0 then some 2 else if 4 < sect.val ∨ nvmRoom sect < length.toNat then some 5
    else if s.nvm.opened.isSome then some 4 else none
  .next (s.nvmStart { cmd := 2, sect := sect, copy := s.otherCopy sect, index := 0, length := length.toNat } refuse)

/-- The open copy, if it is of this section. -/
def State.openOf (s : State) (sect : Nat) : Option (Nat × Nat × Nat × List Nat) := s.nvm.opened.filter fun o => o.1 == sect

/-- NVM_WRITE (R382). -/
def execNvmWrite (sect : Fin 16) (index : Fin 65536) (s : State) : Host.Outcome State Fault Refusal :=
  have refuse := match s.openOf sect with
    | none => if sect.val = 0 then some 2 else some 7
    | some o =>
      if index.val = 0 ∨ (nvmBase sect 0).2 ≤ index.val then some 5
      else if s.worn ((nvmBase sect o.2.1).1 + index) then some 3 else none
  .next (s.nvmStart { cmd := 3, sect := sect, copy := 0, index := index, length := 0 } refuse)

/-- Every data sector that LENGTH needs has been written. -/
def allWritten (o : Nat × Nat × Nat × List Nat) : Bool := (List.range ((o.2.2.1 + 4095) / 4096)).all fun i => o.2.2.2.contains (i + 1)

/-- NVM_COMMIT (R382). -/
def execNvmCommit (sect : Fin 16) (s : State) : Host.Outcome State Fault Refusal :=
  have refuse := match s.openOf sect with
    | none => if sect.val = 0 then some 2 else some 7
    | some o => if !allWritten o then some 7 else if s.worn (nvmBase sect o.2.1).1 then some 3 else none
  .next (s.nvmStart { cmd := 4, sect := sect, copy := 0, index := 0, length := 0 } refuse)

/-- NVM_ABORT (R382). -/
def execNvmAbort (sect : Fin 16) (s : State) : Host.Outcome State Fault Refusal :=
  .next (s.nvmStart { cmd := 5, sect := sect, copy := 0, index := 0, length := 0 } none)

/-- The next APPEND starts a sector of the LOG ring after a full one, and erases it first (R382). -/
def State.logErases (s : State) : Bool := s.nvm.logNext % 64 == 0 && s.nvm.logCount != 0

/-- NVM_APPEND (R382). -/
def execNvmAppend (sect : Fin 16) (s : State) : Host.Outcome State Fault Refusal :=
  have refuse := if sect.val = 0 then some 2 else if sect.val ≠ 5 then some 5
    else if s.logErases ∧ s.worn (512 + s.nvm.logNext / 64) then some 3 else none
  .next (s.nvmStart { cmd := 6, sect := sect, copy := 0, index := 0, length := 0 } refuse)

/-- The LIVE source of a section (R380, R383): the Liner's RAM copy, CAL data, or the registers of PLAN. -/
def State.liveData (s : State) (sect : Nat) : List Byte :=
  have reg := fun (a : Nat) => leBytes 8 (s.reg a).toNat
  match sect with
  | 1 => (List.range 128).flatMap fun i => reg (Reg.PLM_LINER_RAM i)
  | 2 => (List.range (min (nvmRoom 2) Config.calLength)).map fun i => BitVec.ofNat 8 (Config.calByte i)
  | _ => reg Reg.GEN_PLAN_SEAT ++ reg Reg.CRN_PARENT ++ (allLinks.flatMap fun l => reg (Reg.LNK_PLAN l))
      ++ allLinks.flatMap fun l => reg (Reg.CRN_ASYM l)

/-- STORE_LIVE (R382). -/
def execStoreLive (sect : Fin 16) (s : State) : Host.Outcome State Fault Refusal :=
  have first := (nvmBase sect (s.otherCopy sect)).1
  have n := ((s.liveData sect).length + 4095) / 4096
  have refuse := if sect.val = 0 then some 2 else if 3 < sect.val then some 5 else if s.nvm.opened.isSome then some 4
    else if (List.range (n + 1)).any fun i => s.worn (first + i) then some 3 else none
  .next (s.nvmStart { cmd := 7, sect := sect, copy := s.otherCopy sect, index := 0, length := 0 } refuse)

/-- Erase a sector and program bytes from its start; its erase count rises (R382). -/
def State.program (s : State) (sector : Nat) (bs : List Byte) : State :=
  have n := SMap.get (fun _ => 0) s.nvm.wear sector + 1
  have m := SMap.clear s.nvm.bytes fun a => a / 4096 == sector
  { s.raise Reg.NVM_STATUS_WEAR_MAX n with
    nvm := { s.nvm with bytes := Memory.writeBytes m (4096 * sector) (bs.take 4096),
                        wear := SMap.set (fun _ => 0) s.nvm.wear sector n } }

/-- The sector buffer's bytes. -/
def State.nvmBuf (s : State) : List Byte := (List.range 512).flatMap fun i => leBytes 8 (s.reg (Reg.NVM_BUF i)).toNat

/-- No copy is open. -/
def State.closeCopy (s : State) : State :=
  { (s.wr Reg.NVM_STATUS_OPEN 0).wr Reg.NVM_STATUS_OPEN_SECTION 0 with nvm := { s.nvm with opened := none } }

/-- The header of copy `c` is programmed over data of `len` bytes; on success the copy becomes the chosen one (R382). -/
def State.commitCopy (s : State) (sect c len : Nat) (temps : List Int) (good : Bool) : State :=
  have gen := match s.chosen sect with
    | some x => (s.copyGen sect x + 1) % 2 ^ 32
    | none => 1
  if !good then s.nvmResult 6
  else
    have s := s.program (nvmBase sect c).1 (nvmHeader sect gen (s.copyBytes sect c 0 len))
    have s := if sect = 2 then { s with nvm := { s.nvm with calTemps := SMap.set (fun _ => []) s.nvm.calTemps c temps } } else s
    ((s.choose sect (some c)).closeCopy.keepKeys).count Reg.NVM_STORE_CNT 1

/-- The first 64 bytes of the sector buffer become LOG slot `slot`, the ring's `n + 1`th entry (R382). -/
def State.logPut (s : State) (slot n : Nat) : State :=
  { s with nvm := { s.nvm with bytes := Memory.writeBytes s.nvm.bytes (4096 * 512 + 64 * slot) (s.nvmBuf.take 64),
                               logNext := (slot + 1) % 320, logCount := n + 1 } }

/-- What a command does as it ends (R382); `good` is whether the read-back of a COMMIT finds what was programmed. -/
def State.nvmDo (s : State) (c : NvmCmd) (good : Bool) : State :=
  match c.cmd with
  | 1 =>
    have a := 4096 * ((nvmBase c.sect c.copy).1 + c.index)
    s.forEach (List.range 512) fun s i =>
      s.setReg (Reg.NVM_BUF i) (BitVec.ofNat 64 (ofLeBytes (s.nvm.bytes.readBytes (a + 8 * i) 8)))
  | 2 =>
    { ((s.wr Reg.NVM_STATUS_OPEN 1).wr Reg.NVM_STATUS_OPEN_SECTION c.sect).count Reg.NVM_STORE_CNT 1 with
      nvm := { s.nvm with opened := some (c.sect, c.copy, c.length, []) } }
  | 3 =>
    match s.nvm.opened with
    | some o =>
      have s := s.program ((nvmBase o.1 o.2.1).1 + c.index) s.nvmBuf
      { s.count Reg.NVM_STORE_CNT 1 with nvm := { s.nvm with opened := some (o.1, o.2.1, o.2.2.1, c.index :: o.2.2.2) } }
    | none => s
  | 4 =>
    match s.nvm.opened with
    | some o => s.commitCopy o.1 o.2.1 o.2.2.1 [] good
    | none => s
  | 5 => s.closeCopy
  | 6 =>
    have slot := s.nvm.logNext
    have wraps := s.logErases
    have s := if wraps then s.program (512 + slot / 64) [] else s
    have n := if wraps && s.nvm.logCount == 320 then 256 else s.nvm.logCount
    have s := s.logPut slot n
    ((s.wr Reg.NVM_LOG_NEXT s.nvm.logNext).wr Reg.NVM_LOG_ENTRIES s.nvm.logCount).count Reg.NVM_STORE_CNT 1
  | _ =>
    have d := s.liveData c.sect
    have s := s.forEach (List.range ((d.length + 4095) / 4096)) fun s i =>
      s.program ((nvmBase c.sect c.copy).1 + 1 + i) (d.drop (4096 * i))
    s.commitCopy c.sect c.copy d.length s.temps good

/-- NVM_COMMAND_DONE (R382): the command in progress ends. -/
def execNvmCommandDone (good : Bool) (s : State) : Host.Outcome State Fault Refusal :=
  match s.nvm.running with
  | none => .next s
  | some c =>
    have s := { (s.wr Reg.NVM_STATUS_BUSY 0).nvmResult 1 with nvm := { s.nvm with running := none } }
    .next (s.nvmDo c good)

end Sys2Proof.Machine
end

