-- ==== Sys2Proof/Machine/Dispatch.lean ====
section
/-! DEFINITION. Sys2Proof/Machine/Dispatch.lean: one arm per command, each one direct call of its meaning. -/
namespace Sys2Proof.Machine

def exec (i : Instr) (s : State) : Host.Outcome State Fault Refusal :=
  match i with
  | .registerWrite bar2 o half v => Sys2Proof.Machine.execRegisterWrite bar2 o half v s
  | .counterClear o => Sys2Proof.Machine.execCounterClear o s
  | .hwmClear o => Sys2Proof.Machine.execHwmClear o s
  | .barAccessError bar2 write o => Sys2Proof.Machine.execBarAccessError bar2 write o s
  | .rootPllLock => Sys2Proof.Machine.execRootPllLock s
  | .referenceLost => Sys2Proof.Machine.execReferenceLost s
  | .referenceRestored => Sys2Proof.Machine.execReferenceRestored s
  | .crnEnSet role altEn => Sys2Proof.Machine.execCrnEnSet role altEn s
  | .crnEnClear role altEn => Sys2Proof.Machine.execCrnEnClear role altEn s
  | .beaconRequestTimer => Sys2Proof.Machine.execBeaconRequestTimer s
  | .beaconReq l b t2 => Sys2Proof.Machine.execBeaconReq l b t2 s
  | .beaconRsp l b t4 => Sys2Proof.Machine.execBeaconRsp l b t4 s
  | .beaconMiss dropped => Sys2Proof.Machine.execBeaconMiss dropped s
  | .crownLocked => Sys2Proof.Machine.execCrownLocked s
  | .crownDrift => Sys2Proof.Machine.execCrownDrift s
  | .parentLost => Sys2Proof.Machine.execParentLost s
  | .altParentSwitch => Sys2Proof.Machine.execAltParentSwitch s
  | .masterRelock => Sys2Proof.Machine.execMasterRelock s
  | .holdLimitReached => Sys2Proof.Machine.execHoldLimitReached s
  | .acqLimitReached => Sys2Proof.Machine.execAcqLimitReached s
  | .monitorTimer => Sys2Proof.Machine.execMonitorTimer s
  | .droopDetected g => Sys2Proof.Machine.execDroopDetected g s
  | .droopStepReturn g => Sys2Proof.Machine.execDroopStepReturn g s
  | .thermalStepTimer g => Sys2Proof.Machine.execThermalStepTimer g s
  | .dividerRestoreStep g => Sys2Proof.Machine.execDividerRestoreStep g s
  | .dividerStepResume g => Sys2Proof.Machine.execDividerStepResume g s
  | .rgnClkWrite g target floor => Sys2Proof.Machine.execRgnClkWrite g target floor s
  | .estimateCorrection => Sys2Proof.Machine.execEstimateCorrection s
  | .stitchSend l => Sys2Proof.Machine.execStitchSend l s
  | .landingStitch l => Sys2Proof.Machine.execLandingStitch l s
  | .lateLanding l => Sys2Proof.Machine.execLateLanding l s
  | .unexpectedArrival l => Sys2Proof.Machine.execUnexpectedArrival l s
  | .deposit l q => Sys2Proof.Machine.execDeposit l q s
  | .depositReady l q => Sys2Proof.Machine.execDepositReady l q s
  | .bankVerify => Sys2Proof.Machine.execBankVerify s
  | .verifyDone => Sys2Proof.Machine.execVerifyDone s
  | .bankArm => Sys2Proof.Machine.execBankArm s
  | .autoFillDone => Sys2Proof.Machine.execAutoFillDone s
  | .stitchTableWrite l dir bank p v => Sys2Proof.Machine.execStitchTableWrite l dir bank p v s
  | .bankCfgWrite n phase => Sys2Proof.Machine.execBankCfgWrite n phase s
  | .queueCfgWrite l rq v => Sys2Proof.Machine.execQueueCfgWrite l rq v s
  | .cufRunSet => Sys2Proof.Machine.execCufRunSet s
  | .cufRunClear => Sys2Proof.Machine.execCufRunClear s
  | .seamOpen fetched => Sys2Proof.Machine.execSeamOpen fetched s
  | .seamCheck => Sys2Proof.Machine.execSeamCheck s
  | .scheduledFlitRx l slot => Sys2Proof.Machine.execScheduledFlitRx l slot s
  | .looseFlitRx l slot => Sys2Proof.Machine.execLooseFlitRx l slot s
  | .nullFlitRx l slot => Sys2Proof.Machine.execNullFlitRx l slot s
  | .erroredSlot l depart codewords => Sys2Proof.Machine.execErroredSlot l depart codewords s
  | .lcwReceived l w errored => Sys2Proof.Machine.execLcwReceived l w errored s
  | .ident l serial link seat mitten => Sys2Proof.Machine.execIdent l serial link seat mitten s
  | .credit l counts => Sys2Proof.Machine.execCredit l counts s
  | .reqQuick l serial link width group => Sys2Proof.Machine.execReqQuick l serial link width group s
  | .reqFull l serial link width group => Sys2Proof.Machine.execReqFull l serial link width group s
  | .reqWidth l serial link width group => Sys2Proof.Machine.execReqWidth l serial link width group s
  | .trainAccept l => Sys2Proof.Machine.execTrainAccept l s
  | .trainRequestTimeout l => Sys2Proof.Machine.execTrainRequestTimeout l s
  | .lcwTransmit l => Sys2Proof.Machine.execLcwTransmit l s
  | .replayStart l c => Sys2Proof.Machine.execReplayStart l c s
  | .replayTimer l c => Sys2Proof.Machine.execReplayTimer l c s
  | .linkEnable l => Sys2Proof.Machine.execLinkEnable l s
  | .linkDisable l => Sys2Proof.Machine.execLinkDisable l s
  | .linkRetrain l => Sys2Proof.Machine.execLinkRetrain l s
  | .signalDetect l => Sys2Proof.Machine.execSignalDetect l s
  | .equalizeDone l lock symbols => Sys2Proof.Machine.execEqualizeDone l lock symbols s
  | .negotiateDone l frame => Sys2Proof.Machine.execNegotiateDone l frame s
  | .alignDone l group markers => Sys2Proof.Machine.execAlignDone l group markers s
  | .measureDone l flightOut flightBack => Sys2Proof.Machine.execMeasureDone l flightOut flightBack s
  | .trainingTimeout l => Sys2Proof.Machine.execTrainingTimeout l s
  | .failedWaitEnd l => Sys2Proof.Machine.execFailedWaitEnd l s
  | .rxLockLost l => Sys2Proof.Machine.execRxLockLost l s
  | .trainingFrameRx l => Sys2Proof.Machine.execTrainingFrameRx l s
  | .laneError l lane lostLock symbols => Sys2Proof.Machine.execLaneError l lane lostLock symbols s
  | .memberAckTimeout l => Sys2Proof.Machine.execMemberAckTimeout l s
  | .rxDownPeriodEnd l => Sys2Proof.Machine.execRxDownPeriodEnd l s
  | .looseInject vc addr dstQ srcRank rtag replyN hdr data => Sys2Proof.Machine.execLooseInject vc addr dstQ srcRank rtag replyN hdr data s
  | .latticeAssign => Sys2Proof.Machine.execLatticeAssign s
  | .busyInject => Sys2Proof.Machine.execBusyInject s
  | .reservationTimeout rtag => Sys2Proof.Machine.execReservationTimeout rtag s
  | .oppSuppressEnd l => Sys2Proof.Machine.execOppSuppressEnd l s
  | .rankTableWrite r v => Sys2Proof.Machine.execRankTableWrite r v s
  | .routeTableWrite epoch dest v => Sys2Proof.Machine.execRouteTableWrite epoch dest v s
  | .epochArm => Sys2Proof.Machine.execEpochArm s
  | .epochSwitch => Sys2Proof.Machine.execEpochSwitch s
  | .descriptorFetch => Sys2Proof.Machine.execDescriptorFetch s
  | .matmul => Sys2Proof.Machine.execMatmul s
  | .matmulAcc => Sys2Proof.Machine.execMatmulAcc s
  | .conv2d => Sys2Proof.Machine.execConv2d s
  | .attend => Sys2Proof.Machine.execAttend s
  | .softmax => Sys2Proof.Machine.execSoftmax s
  | .norm => Sys2Proof.Machine.execNorm s
  | .elementOp => Sys2Proof.Machine.execElement s
  | .reduce => Sys2Proof.Machine.execReduce s
  | .transpose => Sys2Proof.Machine.execTranspose s
  | .gather => Sys2Proof.Machine.execGather s
  | .scatterAdd => Sys2Proof.Machine.execScatterAdd s
  | .topk => Sys2Proof.Machine.execTopk s
  | .dispatch => Sys2Proof.Machine.execDispatch s
  | .combine => Sys2Proof.Machine.execCombine s
  | .convert => Sys2Proof.Machine.execConvert s
  | .copy => Sys2Proof.Machine.execCopy s
  | .seamWait => Sys2Proof.Machine.execSeamWait s
  | .stagingDone => Sys2Proof.Machine.execStagingDone s
  | .opComplete => Sys2Proof.Machine.execOpComplete s
  | .palmStop => Sys2Proof.Machine.execPalmStop s
  | .linerLoad => Sys2Proof.Machine.execLinerLoad s
  | .linerLoadDone => Sys2Proof.Machine.execLinerLoadDone s
  | .tileWatchdog t cause => Sys2Proof.Machine.execTileWatchdog t cause s
  | .hbmWriteBack w => Sys2Proof.Machine.execHbmWriteBack w s
  | .scrubBurst k upsets defects stores => Sys2Proof.Machine.execScrubBurst k upsets defects stores s
  | .refresh k channel => Sys2Proof.Machine.execRefresh k channel s
  | .periodicTraining k channel below => Sys2Proof.Machine.execPeriodicTraining k channel below s
  | .hbmRetrainRequest k full seam scrub => Sys2Proof.Machine.execHbmRetrainRequest k full seam scrub s
  | .hbmRetrainDone k => Sys2Proof.Machine.execHbmRetrainDone k s
  | .hbmRetrainTimeout k => Sys2Proof.Machine.execHbmRetrainTimeout k s
  | .hbmCapWrite k other bonnet => Sys2Proof.Machine.execHbmCapWrite k other bonnet s
  | .loadOpen => Sys2Proof.Machine.execLoadOpen s
  | .loadClose => Sys2Proof.Machine.execLoadClose s
  | .loadVerify => Sys2Proof.Machine.execLoadVerify s
  | .loadVerifyDone => Sys2Proof.Machine.execLoadVerifyDone s
  | .admitLoad => Sys2Proof.Machine.execAdmit s
  | .imageArm => Sys2Proof.Machine.execImageArm s
  | .convertStartTime domain => Sys2Proof.Machine.execConvertStartTime domain s
  | .refuse => Sys2Proof.Machine.execRefuse s
  | .imageStart fetched => Sys2Proof.Machine.execImageStart fetched s
  | .chunkPart => Sys2Proof.Machine.execChunkPart s
  | .chunkSubmit chunk crc => Sys2Proof.Machine.execChunkSubmit chunk crc s
  | .bcast => Sys2Proof.Machine.execBcast s
  | .bcastSettleEnd => Sys2Proof.Machine.execBcastSettleEnd s
  | .reportWaitEnd => Sys2Proof.Machine.execReportWaitEnd s
  | .roundEnd => Sys2Proof.Machine.execRoundEnd s
  | .report => Sys2Proof.Machine.execReport s
  | .fwStart => Sys2Proof.Machine.execFwStart s
  | .fwChunkSend lost => Sys2Proof.Machine.execFwChunkSend lost s
  | .fwRepair lost => Sys2Proof.Machine.execFwRepair lost s
  | .frameDropped f => Sys2Proof.Machine.execFrameDropped f s
  | .arpNdRequest f => Sys2Proof.Machine.execArpNdRequest f s
  | .request f => Sys2Proof.Machine.execRequest f s
  | .cancel f => Sys2Proof.Machine.execCancel f s
  | .resend f => Sys2Proof.Machine.execResend f s
  | .bulkAck f => Sys2Proof.Machine.execBulkAck f s
  | .forwardedDatagram sess data => Sys2Proof.Machine.execForwardedDatagram sess data s
  | .asmTimeout slot => Sys2Proof.Machine.execAsmTimeout slot s
  | .windowClose => Sys2Proof.Machine.execWindowClose s
  | .windowRecordDone => Sys2Proof.Machine.execWindowRecordDone s
  | .mirrorRead => Sys2Proof.Machine.execMirrorRead s
  | .recordDeadlineCheck => Sys2Proof.Machine.execRecordDeadlineCheck s
  | .tokenOutput => Sys2Proof.Machine.execTokenOutput s
  | .sessionTableWrite sess w v => Sys2Proof.Machine.execSessionTableWrite sess w v s
  | .sessionOpen sess => Sys2Proof.Machine.execSessionOpen sess s
  | .sessionClose sess => Sys2Proof.Machine.execSessionClose sess s
  | .bulkStart sess rate => Sys2Proof.Machine.execBulkStart sess rate s
  | .bulkAbort => Sys2Proof.Machine.execBulkAbort s
  | .bulkTimeout => Sys2Proof.Machine.execBulkTimeout s
  | .ethPortUp p => Sys2Proof.Machine.execEthPortUp p s
  | .sync m => Sys2Proof.Machine.execSync m s
  | .followUp m => Sys2Proof.Machine.execFollowUp m s
  | .delayResp m => Sys2Proof.Machine.execDelayResp m s
  | .pdelayReq m sent => Sys2Proof.Machine.execPdelayReq m sent s
  | .pdelayResp m => Sys2Proof.Machine.execPdelayResp m s
  | .pdelayRespFollowUp m => Sys2Proof.Machine.execPdelayRespFollowUp m s
  | .announce m => Sys2Proof.Machine.execAnnounce m s
  | .ptpFrameDrop m => Sys2Proof.Machine.execPtpFrameDrop m s
  | .domainEnable d v => Sys2Proof.Machine.execDomainEnable d v s
  | .domainDisable d v => Sys2Proof.Machine.execDomainDisable d v s
  | .syncTimeout d => Sys2Proof.Machine.execSyncTimeout d s
  | .announceTimeout d => Sys2Proof.Machine.execAnnounceTimeout d s
  | .outputReset => Sys2Proof.Machine.execOutputReset s
  | .outputSelect sel => Sys2Proof.Machine.execOutputSelect sel s
  | .timeCapture => Sys2Proof.Machine.execTimeCapture s
  | .bridgeSample => Sys2Proof.Machine.execBridgeSample s
  | .bridgeSend => Sys2Proof.Machine.execBridgeSend s
  | .bridgeMessage => Sys2Proof.Machine.execBridgeMessage s
  | .bridgeStale => Sys2Proof.Machine.execBridgeStale s
  | .tpArm g v => Sys2Proof.Machine.execTpArm g v s
  | .tpStop g => Sys2Proof.Machine.execTpStop g s
  | .tpEdge g => Sys2Proof.Machine.execTpEdge g s
  | .tpPulseEnd g => Sys2Proof.Machine.execTpPulseEnd g s
  | .tpBaseStep g => Sys2Proof.Machine.execTpBaseStep g s
  | .aonPowerGood pll => Sys2Proof.Machine.execAonPowerGood pll s
  | .bootGo mode allow => Sys2Proof.Machine.execBootGo mode allow s
  | .domainPowerGood => Sys2Proof.Machine.execDomainPowerGood s
  | .domainPowerTimeout => Sys2Proof.Machine.execDomainPowerTimeout s
  | .bistDone failed => Sys2Proof.Machine.execBistDone failed s
  | .hbmTrainingDone failed => Sys2Proof.Machine.execHbmTrainingDone failed s
  | .linerBuild => Sys2Proof.Machine.execLinerBuild s
  | .discoveryEval l => Sys2Proof.Machine.execDiscoveryEval l s
  | .discoveryEnd => Sys2Proof.Machine.execDiscoveryEnd s
  | .readinessReport => Sys2Proof.Machine.execReadinessReport s
  | .rediscover mode allow => Sys2Proof.Machine.execRediscover mode allow s
  | .nvmRead sect copy index => Sys2Proof.Machine.execNvmRead sect copy index s
  | .nvmOpen sect length => Sys2Proof.Machine.execNvmOpen sect length s
  | .nvmWrite sect index => Sys2Proof.Machine.execNvmWrite sect index s
  | .nvmCommit sect => Sys2Proof.Machine.execNvmCommit sect s
  | .nvmAbort sect => Sys2Proof.Machine.execNvmAbort sect s
  | .nvmAppend sect => Sys2Proof.Machine.execNvmAppend sect s
  | .storeLive sect => Sys2Proof.Machine.execStoreLive sect s
  | .nvmCommandDone good => Sys2Proof.Machine.execNvmCommandDone good s
  | .palmReset => Sys2Proof.Machine.execPalmReset s
  | .serviceReset => Sys2Proof.Machine.execServiceReset s
  | .cuffReset => Sys2Proof.Machine.execCuffReset s
  | .moduleWarmReset => Sys2Proof.Machine.execModuleWarmReset s
  | .powerOnReset => Sys2Proof.Machine.execPowerOnReset s
  | .perst => Sys2Proof.Machine.execPerst s
  | .alarmReceived => Sys2Proof.Machine.execAlarmReceived s
  | .fltHeadWrite idx => Sys2Proof.Machine.execFltHeadWrite idx s
  | .faultMaxClr => Sys2Proof.Machine.execFaultMaxClr s
  | .snapshot block inst => Sys2Proof.Machine.execSnapshot block inst s
  | .telemetryReport => Sys2Proof.Machine.execTelemetryReport s
  | .telemetrySink => Sys2Proof.Machine.execTelemetrySink s
  | .inArmBreak => Sys2Proof.Machine.execInArmBreak s
  | .inputStart => Sys2Proof.Machine.execInputStart s
  | .prechargeDone => Sys2Proof.Machine.execPrechargeDone s
  | .prechargeTimeout => Sys2Proof.Machine.execPrechargeTimeout s
  | .supplyWarn voltage => Sys2Proof.Machine.execSupplyWarn voltage s
  | .supplyWarnClear => Sys2Proof.Machine.execSupplyWarnClear s
  | .budgetRecoveryStep => Sys2Proof.Machine.execBudgetRecoveryStep s
  | .powerFail => Sys2Proof.Machine.execPowerFail s
  | .overvoltage => Sys2Proof.Machine.execOvervoltage s
  | .overcurrent => Sys2Proof.Machine.execOvercurrent s
  | .pwrEnLow => Sys2Proof.Machine.execPwrEnLow s
  | .domainShutdown => Sys2Proof.Machine.execDomainShutdown s
  | .palmOff off mask => Sys2Proof.Machine.execPalmOff off mask s
  | .stackOff mask palm => Sys2Proof.Machine.execStackOff mask palm s
  | .coolOkHigh => Sys2Proof.Machine.execCoolOkHigh s
  | .coolOkLow => Sys2Proof.Machine.execCoolOkLow s
  | .sensorSample x => Sys2Proof.Machine.execSensorSample x s
  | .smbusBlockWrite o => Sys2Proof.Machine.execSmbusBlockWrite o s
  | .smbusBlockRead => Sys2Proof.Machine.execSmbusBlockRead s
  | .mgmtRead => Sys2Proof.Machine.execMgmtRead s
  | .mgmtWrite => Sys2Proof.Machine.execMgmtWrite s
  | .mgmtDiscard => Sys2Proof.Machine.execMgmtDiscard s
  | .msixUnmask enable => Sys2Proof.Machine.execMsixUnmask enable s
  | .portDown p => Sys2Proof.Machine.execPortDown p s
  | .coolOkGlitch => Sys2Proof.Machine.execCoolOkGlitch s
  | .delayReq d sent => Sys2Proof.Machine.execDelayReq d sent s

end Sys2Proof.Machine
end

