-- ==== Sys2Proof/Machine/Tick.lean ====
section
/-! DEFINITION. Sys2Proof/Machine/Tick.lean: one Crown clock cycle passes (R28, R30, R43, R354): what `step` does on an empty
queue (log entry 1). What each timer does when it falls due is a command of its own; a cycle moves the clocks, the gauges that
follow them, and what the spec lets go on without an event. -/
namespace Sys2Proof.Machine

/-- A running crown advances by one tick (R30). -/
def State.crownTick (s : State) : State := if s.rdb Reg.CRN_STATUS_RUNNING then s.wr Reg.CRN_NOW_CROWN (s.now + 1) else s

/-- Local monotonic goes on by a nominal nanosecond, shortened or stretched by the trim that the clock follows (R25, R28, R354). -/
def State.monoTick (s : State) : State :=
  have den := (2 ^ 32 + toSigned 32 (s.rd Reg.CRN_TRIM_TRIM)).toNat
  have x := 2 ^ 48 + s.time.monoRem
  { s with time := { s.time with mono := s.time.mono + x / den, monoRem := x % den } }

/-- What waits for the end of the cycle: GO, ACKs, and the snapshot, which has all the events of the cycle (R352, R396, R415). -/
def State.closeCycle (s : State) : State :=
  have s := s.goDue.sendAcks
  if s.same.snap then s.snapshot else s

/-- The hold age that a module in HOLDOVER reports goes on (R43). -/
def State.holdShow (s : State) : State :=
  if s.rd Reg.CRN_STATUS_STATE = 3 ∧ s.isMaster = false then s.wr Reg.CRN_STATUS_HOLD_AGE s.holdAge else s

/-- What the tick brings to the links: frames and training frames (R122, R144), and the stitch that begins, unless a seam or image
start of this tick has still to come (R60, R100, R103). -/
def State.linksTick (s : State) : State :=
  have s := s.forEach allLinks State.linkTick
  if s.seamClear then s.beginAll else s

/-- The wait that holds the next op is counted (R213, R223, R246). -/
def State.palmCount (s : State) : State :=
  match s.palmWait with
  | some a => s.count a 1
  | none => s

/-- The offset d and the bridge's age as their registers show them (R363, R370). -/
def State.timeShow (s : State) : State :=
  have s := if s.rd Reg.TIME_STATUS_OUT_STATE = 0 then s else s.wr Reg.TIME_OUT_OFS_D (ofSigned 48 (s.dNow / 4096))
  if s.time.bridge.isSome then
    s.wr Reg.TIME_STATUS_BRIDGE_AGE (min 0xFFFF ((s.now - s.rd Reg.TIME_BRIDGE_CROWN_CROWN) / 65536))
  else s

/-- The next Crown clock cycle. Without AON nothing of the module runs (R419). -/
def State.newCycle (s : State) : State :=
  have s := { s with cyc := s.cyc + 1, same := { start := s.regs } }
  if !s.live then s
  else s.monoTick.crownTick.holdShow.clocksTick.crossTick.linksTick.palmCount.capTick.timeShow.outFollow.powerStep.ldrPump.bulkGo.bonLook.bonErrors

/-- One Crown clock cycle ends and the next comes. -/
def State.tick (s : State) : State := (if s.live then s.closeCycle else s).newCycle

end Sys2Proof.Machine
end

