-- ==== Sys2Proof/Safety.lean ====
section
/-! DEFINITION. Sys2Proof/Safety.lean: what a safe run is: the canonical form of the register file and the memories, and which parts of the
state a command may change. -/
namespace Sys2Proof.Machine

/-- The register file, the BAR2 tables and every memory (HBM, tile SRAM, NVM) are in their canonical form. -/
def State.canonical (s : State) : Bool :=
  SMap.wf Reg.resetVal s.regs && SMap.wf (fun _ => 0) s.bar2 && s.hbm.wf && s.sram.wf && s.nvm.bytes.wf

/-- A set of parts of the state beside the register file; `flash` is the bytes NVM holds, `nvm` its engine as a whole. -/
structure Wr where
  bar2 : Bool := false
  hbm : Bool := false
  sram : Bool := false
  crown : Bool := false
  rgn : Bool := false
  links : Bool := false
  cuff : Bool := false
  route : Bool := false
  flt : Bool := false
  time : Bool := false
  pwr : Bool := false
  mem : Bool := false
  palm : Bool := false
  ldrs : Bool := false
  boot : Bool := false
  nvm : Bool := false
  bon : Bool := false
  freeCtr : Bool := false
  same : Bool := false
  flash : Bool := false
deriving DecidableEq, Repr

/-- Every part outside `w` is the same in `t` as in `s`. -/
structure Wr.Same (w : Wr) (s t : State) : Prop where
  bar2 : w.bar2 = true ∨ t.bar2 = s.bar2
  hbm : w.hbm = true ∨ t.hbm = s.hbm
  sram : w.sram = true ∨ t.sram = s.sram
  crown : w.crown = true ∨ t.crown = s.crown
  rgn : w.rgn = true ∨ t.rgn = s.rgn
  links : w.links = true ∨ t.links = s.links
  cuff : w.cuff = true ∨ t.cuff = s.cuff
  route : w.route = true ∨ t.route = s.route
  flt : w.flt = true ∨ t.flt = s.flt
  time : w.time = true ∨ t.time = s.time
  pwr : w.pwr = true ∨ t.pwr = s.pwr
  mem : w.mem = true ∨ t.mem = s.mem
  palm : w.palm = true ∨ t.palm = s.palm
  ldrs : w.ldrs = true ∨ t.ldrs = s.ldrs
  boot : w.boot = true ∨ t.boot = s.boot
  nvm : w.nvm = true ∨ t.nvm = s.nvm
  bon : w.bon = true ∨ t.bon = s.bon
  freeCtr : w.freeCtr = true ∨ t.freeCtr = s.freeCtr
  same : w.same = true ∨ t.same = s.same
  flash : w.flash = true ∨ t.nvm.bytes = s.nvm.bytes

/-- The registers that recording a fault and its class's action may write (R398, R401 to R406, R430): those of the fault block and
its queue, GEN_BOOT_STATUS, PWR_FAULTN, CUF_STATUS, PLM_STATUS and LDR_STATUS. -/
def ofFaults (a : Nat) : Bool :=
  (0x6000000 ≤ a && a < 0x6020000) || a == Reg.GEN_BOOT_STATUS || a == Reg.PWR_FAULTN || a == Reg.CUF_STATUS ||
    a == Reg.PLM_STATUS || a == Reg.LDR_STATUS

/-- The rows of the Palm's operations with the OPCODE each stands for (10_palm_operations.md). -/
def palmCommands : List (Instr × Nat) :=
  [(.matmul, 0x01), (.matmulAcc, 0x02), (.conv2d, 0x03), (.attend, 0x04), (.softmax, 0x05), (.norm, 0x06), (.elementOp, 0x07),
   (.reduce, 0x08), (.transpose, 0x09), (.gather, 0x0A), (.scatterAdd, 0x0B), (.topk, 0x0C), (.dispatch, 0x0D),
   (.combine, 0x0E), (.convert, 0x0F), (.copy, 0x10), (.seamWait, 0x11)]

/-- The parts of the state beside the register file that a command may change. -/
def touches : Instr → Wr
  | .registerWrite _ _ _ _ =>
    { bar2 := true, links := true, cuff := true, route := true, flt := true, time := true, pwr := true, mem := true,
      bon := true, same := true }
  | .counterClear _ => { flt := true, same := true }
  | .hwmClear _ => { same := true }
  | .barAccessError _ _ _ => { same := true }
  | .rootPllLock => { crown := true }
  | .referenceLost => { crown := true, cuff := true, route := true, flt := true, pwr := true, same := true }
  | .referenceRestored => { crown := true }
  | .crnEnSet _ _ => { crown := true }
  | .crnEnClear _ _ => { crown := true, cuff := true, route := true, flt := true, time := true, pwr := true, same := true }
  | .beaconRequestTimer => { crown := true, links := true }
  | .beaconReq _ _ _ => { links := true }
  | .beaconRsp _ _ _ => { crown := true, cuff := true, route := true, flt := true, pwr := true, freeCtr := true, same := true }
  | .beaconMiss _ => { crown := true, cuff := true, route := true, flt := true, pwr := true, same := true }
  | .crownLocked => { crown := true }
  | .crownDrift => { crown := true, cuff := true, route := true, flt := true, pwr := true, same := true }
  | .parentLost => { crown := true, cuff := true, route := true, flt := true, pwr := true, same := true }
  | .altParentSwitch => { crown := true }
  | .masterRelock => { crown := true }
  | .holdLimitReached => { crown := true, cuff := true, route := true, flt := true, pwr := true, same := true }
  | .acqLimitReached => { crown := true, cuff := true, route := true, flt := true, pwr := true, same := true }
  | .monitorTimer => { crown := true, links := true }
  | .droopDetected _ => { rgn := true }
  | .droopStepReturn _ => { rgn := true }
  | .thermalStepTimer _ => { rgn := true }
  | .dividerRestoreStep _ => { rgn := true }
  | .dividerStepResume _ => { rgn := true, same := true }
  | .rgnClkWrite _ _ _ => { rgn := true, same := true }
  | .estimateCorrection => { rgn := true, same := true }
  | .stitchSend _ =>
    { links := true, cuff := true, route := true, flt := true, pwr := true, mem := true, freeCtr := true, same := true }
  | .landingStitch _ =>
    { links := true, cuff := true, route := true, flt := true, pwr := true, mem := true, palm := true, same := true }
  | .lateLanding _ =>
    { links := true, cuff := true, route := true, flt := true, pwr := true, mem := true, palm := true, same := true }
  | .unexpectedArrival _ => { links := true, cuff := true, route := true, flt := true, pwr := true, same := true }
  | .deposit _ _ => { links := true, cuff := true, route := true, flt := true, pwr := true, palm := true, same := true }
  | .depositReady _ _ => { links := true }
  | .bankVerify => { cuff := true, same := true }
  | .verifyDone => { cuff := true, route := true, flt := true, pwr := true, ldrs := true, same := true }
  | .bankArm => { cuff := true, same := true }
  | .autoFillDone =>
    { bar2 := true, hbm := true, cuff := true, route := true, flt := true, pwr := true, mem := true, freeCtr := true,
      same := true }
  | .stitchTableWrite _ _ _ _ _ => { bar2 := true, mem := true, same := true }
  | .bankCfgWrite _ _ => { same := true }
  | .queueCfgWrite _ _ _ => { same := true }
  | .cufRunSet => { flt := true, same := true }
  | .cufRunClear => { links := true, cuff := true, flt := true, mem := true, palm := true, same := true }
  | .seamOpen _ =>
    { hbm := true, rgn := true, links := true, cuff := true, route := true, flt := true, pwr := true, mem := true,
      ldrs := true, freeCtr := true, same := true }
  | .seamCheck => { cuff := true, route := true, flt := true, pwr := true, same := true }
  | .scheduledFlitRx _ _ =>
    { links := true, cuff := true, route := true, flt := true, pwr := true, mem := true, freeCtr := true, same := true }
  | .looseFlitRx _ _ =>
    { links := true, cuff := true, route := true, flt := true, pwr := true, mem := true, freeCtr := true, same := true }
  | .nullFlitRx _ _ =>
    { links := true, cuff := true, route := true, flt := true, pwr := true, mem := true, freeCtr := true, same := true }
  | .erroredSlot _ _ _ => { links := true }
  | .lcwReceived _ _ _ => { links := true, cuff := true, route := true, flt := true, pwr := true, mem := true, same := true }
  | .ident _ _ _ _ _ => { links := true, cuff := true, route := true, flt := true, pwr := true, same := true }
  | .credit _ _ => { links := true }
  | .reqQuick _ _ _ _ _ => { links := true }
  | .reqFull _ _ _ _ _ => { links := true }
  | .reqWidth _ _ _ _ _ => { links := true }
  | .trainAccept _ => { links := true, cuff := true, route := true, flt := true, pwr := true, mem := true, same := true }
  | .trainRequestTimeout _ => { links := true, cuff := true, route := true, flt := true, pwr := true, mem := true, same := true }
  | .lcwTransmit _ =>
    { crown := true, links := true, cuff := true, route := true, flt := true, pwr := true, mem := true, same := true }
  | .replayStart _ _ => { links := true, cuff := true, route := true, flt := true, pwr := true, mem := true, same := true }
  | .replayTimer _ _ => { links := true, cuff := true, route := true, flt := true, pwr := true, mem := true, same := true }
  | .linkEnable _ => { links := true, same := true }
  | .linkDisable _ => { links := true, cuff := true, route := true, flt := true, pwr := true, same := true }
  | .linkRetrain _ => { links := true, same := true }
  | .signalDetect _ => { links := true }
  | .equalizeDone _ _ _ => { links := true }
  | .negotiateDone _ _ => { links := true, cuff := true, route := true, flt := true, pwr := true, same := true }
  | .alignDone _ _ _ => { links := true }
  | .measureDone _ _ _ => { links := true, cuff := true, route := true, flt := true, pwr := true, same := true }
  | .trainingTimeout _ => { links := true, cuff := true, route := true, flt := true, pwr := true, same := true }
  | .failedWaitEnd _ => { links := true }
  | .rxLockLost _ => { links := true, cuff := true, route := true, flt := true, pwr := true, mem := true, same := true }
  | .trainingFrameRx _ => { links := true, cuff := true, route := true, flt := true, pwr := true, mem := true, same := true }
  | .laneError _ _ _ _ => { links := true, cuff := true, route := true, flt := true, pwr := true, mem := true, same := true }
  | .memberAckTimeout _ => { links := true, cuff := true, route := true, flt := true, pwr := true, mem := true, same := true }
  | .rxDownPeriodEnd _ => { links := true, cuff := true, route := true, flt := true, pwr := true, same := true }
  | .looseInject _ _ _ _ _ _ _ _ =>
    { cuff := true, route := true, flt := true, pwr := true, mem := true, freeCtr := true, same := true }
  | .latticeAssign =>
    { links := true, cuff := true, route := true, flt := true, pwr := true, mem := true, freeCtr := true, same := true }
  | .busyInject => { route := true, freeCtr := true }
  | .reservationTimeout _ => { route := true, freeCtr := true }
  | .oppSuppressEnd _ => { links := true }
  | .rankTableWrite _ _ => { bar2 := true, mem := true, same := true }
  | .routeTableWrite _ _ _ => { bar2 := true, mem := true, same := true }
  | .epochArm => { same := true }
  | .epochSwitch => {}
  | .descriptorFetch =>
    { hbm := true, cuff := true, route := true, flt := true, pwr := true, mem := true, palm := true, ldrs := true,
      freeCtr := true, same := true }
  | .matmul =>
    { hbm := true, sram := true, rgn := true, links := true, cuff := true, route := true, flt := true, pwr := true,
      mem := true, palm := true, ldrs := true, freeCtr := true, same := true }
  | .matmulAcc =>
    { hbm := true, sram := true, rgn := true, links := true, cuff := true, route := true, flt := true, pwr := true,
      mem := true, palm := true, ldrs := true, freeCtr := true, same := true }
  | .conv2d =>
    { hbm := true, sram := true, rgn := true, links := true, cuff := true, route := true, flt := true, pwr := true,
      mem := true, palm := true, ldrs := true, freeCtr := true, same := true }
  | .attend =>
    { hbm := true, sram := true, rgn := true, links := true, cuff := true, route := true, flt := true, pwr := true,
      mem := true, palm := true, ldrs := true, freeCtr := true, same := true }
  | .softmax =>
    { hbm := true, sram := true, rgn := true, links := true, cuff := true, route := true, flt := true, pwr := true,
      mem := true, palm := true, ldrs := true, freeCtr := true, same := true }
  | .norm =>
    { hbm := true, sram := true, rgn := true, links := true, cuff := true, route := true, flt := true, pwr := true,
      mem := true, palm := true, ldrs := true, freeCtr := true, same := true }
  | .elementOp =>
    { hbm := true, sram := true, rgn := true, links := true, cuff := true, route := true, flt := true, pwr := true,
      mem := true, palm := true, ldrs := true, freeCtr := true, same := true }
  | .reduce =>
    { hbm := true, sram := true, rgn := true, links := true, cuff := true, route := true, flt := true, pwr := true,
      mem := true, palm := true, ldrs := true, freeCtr := true, same := true }
  | .transpose =>
    { hbm := true, sram := true, rgn := true, links := true, cuff := true, route := true, flt := true, pwr := true,
      mem := true, palm := true, ldrs := true, freeCtr := true, same := true }
  | .gather =>
    { hbm := true, sram := true, rgn := true, links := true, cuff := true, route := true, flt := true, pwr := true,
      mem := true, palm := true, ldrs := true, freeCtr := true, same := true }
  | .scatterAdd =>
    { hbm := true, sram := true, rgn := true, links := true, cuff := true, route := true, flt := true, pwr := true,
      mem := true, palm := true, ldrs := true, freeCtr := true, same := true }
  | .topk =>
    { hbm := true, sram := true, rgn := true, links := true, cuff := true, route := true, flt := true, pwr := true,
      mem := true, palm := true, ldrs := true, freeCtr := true, same := true }
  | .dispatch =>
    { hbm := true, sram := true, rgn := true, links := true, cuff := true, route := true, flt := true, pwr := true,
      mem := true, palm := true, ldrs := true, freeCtr := true, same := true }
  | .combine =>
    { hbm := true, sram := true, rgn := true, links := true, cuff := true, route := true, flt := true, pwr := true,
      mem := true, palm := true, ldrs := true, freeCtr := true, same := true }
  | .convert =>
    { hbm := true, sram := true, rgn := true, links := true, cuff := true, route := true, flt := true, pwr := true,
      mem := true, palm := true, ldrs := true, freeCtr := true, same := true }
  | .copy =>
    { hbm := true, sram := true, rgn := true, links := true, cuff := true, route := true, flt := true, pwr := true,
      mem := true, palm := true, ldrs := true, freeCtr := true, same := true }
  | .seamWait =>
    { hbm := true, sram := true, rgn := true, links := true, cuff := true, route := true, flt := true, pwr := true,
      mem := true, palm := true, ldrs := true, freeCtr := true, same := true }
  | .stagingDone =>
    { hbm := true, sram := true, cuff := true, route := true, flt := true, pwr := true, mem := true, palm := true,
      freeCtr := true, same := true }
  | .opComplete =>
    { hbm := true, sram := true, rgn := true, links := true, cuff := true, route := true, flt := true, pwr := true,
      mem := true, palm := true, freeCtr := true, same := true }
  | .palmStop => { same := true }
  | .linerLoad => { palm := true, same := true }
  | .linerLoadDone =>
    { links := true, cuff := true, route := true, flt := true, pwr := true, palm := true, boot := true, same := true }
  | .tileWatchdog _ _ => { sram := true, cuff := true, route := true, flt := true, pwr := true, palm := true, same := true }
  | .hbmWriteBack _ => { hbm := true, mem := true }
  | .scrubBurst _ _ _ _ =>
    { hbm := true, sram := true, cuff := true, route := true, flt := true, pwr := true, mem := true, same := true }
  | .refresh _ _ => {}
  | .periodicTraining _ _ _ => {}
  | .hbmRetrainRequest _ _ _ _ => { mem := true, same := true }
  | .hbmRetrainDone _ => { mem := true }
  | .hbmRetrainTimeout _ => { cuff := true, route := true, flt := true, pwr := true, mem := true, same := true }
  | .hbmCapWrite _ _ _ => { same := true }
  | .loadOpen => { ldrs := true, same := true }
  | .loadClose => { ldrs := true, same := true }
  | .loadVerify => { same := true }
  | .loadVerifyDone =>
    { hbm := true, cuff := true, route := true, flt := true, pwr := true, mem := true, ldrs := true, freeCtr := true,
      same := true }
  | .admitLoad =>
    { bar2 := true, hbm := true, cuff := true, route := true, flt := true, pwr := true, mem := true, ldrs := true,
      bon := true, freeCtr := true, same := true }
  | .imageArm =>
    { hbm := true, cuff := true, route := true, flt := true, pwr := true, mem := true, ldrs := true, freeCtr := true,
      same := true }
  | .convertStartTime _ => { same := true }
  | .refuse => { cuff := true, route := true, flt := true, pwr := true, ldrs := true, same := true }
  | .imageStart _ =>
    { rgn := true, links := true, cuff := true, route := true, flt := true, pwr := true, mem := true, palm := true,
      ldrs := true, bon := true, same := true }
  | .chunkPart =>
    { hbm := true, cuff := true, route := true, flt := true, pwr := true, mem := true, ldrs := true, freeCtr := true,
      same := true }
  | .chunkSubmit _ _ => { hbm := true, mem := true, ldrs := true, same := true }
  | .bcast => { route := true, ldrs := true, freeCtr := true, same := true }
  | .bcastSettleEnd => { route := true, ldrs := true, freeCtr := true }
  | .reportWaitEnd => { cuff := true, route := true, flt := true, pwr := true, ldrs := true, freeCtr := true, same := true }
  | .roundEnd =>
    { cuff := true, route := true, flt := true, pwr := true, mem := true, ldrs := true, freeCtr := true, same := true }
  | .report => { cuff := true, route := true, flt := true, pwr := true, mem := true, ldrs := true, same := true }
  | .fwStart => { links := true, cuff := true, route := true, flt := true, pwr := true, ldrs := true, boot := true, same := true }
  | .fwChunkSend _ =>
    { links := true, cuff := true, route := true, flt := true, pwr := true, ldrs := true, boot := true, same := true }
  | .fwRepair _ =>
    { links := true, cuff := true, route := true, flt := true, pwr := true, palm := true, ldrs := true, boot := true,
      bon := true, same := true }
  | .frameDropped _ =>
    { bar2 := true, cuff := true, route := true, flt := true, pwr := true, mem := true, bon := true, freeCtr := true,
      same := true }
  | .arpNdRequest _ =>
    { bar2 := true, cuff := true, route := true, flt := true, pwr := true, mem := true, bon := true, same := true }
  | .request _ =>
    { bar2 := true, cuff := true, route := true, flt := true, pwr := true, mem := true, bon := true, freeCtr := true,
      same := true }
  | .cancel _ =>
    { bar2 := true, cuff := true, route := true, flt := true, pwr := true, mem := true, bon := true, freeCtr := true,
      same := true }
  | .resend _ =>
    { bar2 := true, cuff := true, route := true, flt := true, pwr := true, mem := true, bon := true, freeCtr := true,
      same := true }
  | .bulkAck _ =>
    { bar2 := true, hbm := true, cuff := true, route := true, flt := true, pwr := true, mem := true, bon := true,
      freeCtr := true, same := true }
  | .forwardedDatagram _ _ =>
    { bar2 := true, hbm := true, cuff := true, route := true, flt := true, pwr := true, mem := true, bon := true,
      freeCtr := true, same := true }
  | .asmTimeout _ => { bar2 := true, bon := true }
  | .windowClose => { bon := true }
  | .windowRecordDone => { bar2 := true, hbm := true, mem := true, bon := true }
  | .mirrorRead =>
    { bar2 := true, hbm := true, cuff := true, route := true, flt := true, pwr := true, mem := true, bon := true,
      freeCtr := true, same := true }
  | .recordDeadlineCheck => { cuff := true, route := true, flt := true, pwr := true, ldrs := true, same := true }
  | .tokenOutput =>
    { bar2 := true, hbm := true, cuff := true, route := true, flt := true, pwr := true, mem := true, bon := true,
      freeCtr := true, same := true }
  | .sessionTableWrite _ _ _ => { bar2 := true, same := true }
  | .sessionOpen _ => { bar2 := true, bon := true, same := true }
  | .sessionClose _ => { bar2 := true, bon := true, same := true }
  | .bulkStart _ _ =>
    { bar2 := true, hbm := true, cuff := true, route := true, flt := true, pwr := true, mem := true, bon := true,
      freeCtr := true, same := true }
  | .bulkAbort => { same := true }
  | .bulkTimeout =>
    { bar2 := true, hbm := true, cuff := true, route := true, flt := true, pwr := true, mem := true, bon := true,
      freeCtr := true, same := true }
  | .ethPortUp _ =>
    { bar2 := true, hbm := true, cuff := true, route := true, flt := true, pwr := true, mem := true, bon := true,
      freeCtr := true, same := true }
  | .sync _ => { cuff := true, route := true, flt := true, time := true, pwr := true, freeCtr := true, same := true }
  | .followUp _ => { cuff := true, route := true, flt := true, time := true, pwr := true, freeCtr := true, same := true }
  | .delayResp _ => { cuff := true, route := true, flt := true, time := true, pwr := true, freeCtr := true, same := true }
  | .pdelayReq _ _ => { time := true }
  | .pdelayResp _ => { time := true }
  | .pdelayRespFollowUp _ => { time := true }
  | .announce _ => { cuff := true, route := true, flt := true, time := true, pwr := true, same := true }
  | .ptpFrameDrop _ => { time := true }
  | .domainEnable _ _ => { time := true }
  | .domainDisable _ _ => { cuff := true, route := true, flt := true, time := true, pwr := true, same := true }
  | .syncTimeout _ => { cuff := true, route := true, flt := true, time := true, pwr := true, same := true }
  | .announceTimeout _ => { cuff := true, route := true, flt := true, time := true, pwr := true, same := true }
  | .outputReset => { time := true }
  | .outputSelect _ => { cuff := true, route := true, flt := true, time := true, pwr := true, same := true }
  | .timeCapture => {}
  | .bridgeSample => { time := true }
  | .bridgeSend => { route := true, time := true, freeCtr := true }
  | .bridgeMessage =>
    { cuff := true, route := true, flt := true, time := true, pwr := true, mem := true, freeCtr := true, same := true }
  | .bridgeStale => { cuff := true, route := true, flt := true, time := true, pwr := true, same := true }
  | .tpArm _ _ => { time := true, same := true }
  | .tpStop _ => {}
  | .tpEdge _ => { time := true }
  | .tpPulseEnd _ => { time := true }
  | .tpBaseStep _ => { time := true, same := true }
  | .aonPowerGood _ => { links := true, cuff := true, route := true, flt := true, pwr := true, boot := true, same := true }
  | .bootGo _ _ => { same := true }
  | .domainPowerGood => { links := true, cuff := true, route := true, flt := true, pwr := true, boot := true, same := true }
  | .domainPowerTimeout => { boot := true }
  | .bistDone _ =>
    { sram := true, links := true, cuff := true, route := true, flt := true, pwr := true, boot := true, same := true }
  | .hbmTrainingDone _ =>
    { links := true, cuff := true, route := true, flt := true, pwr := true, mem := true, boot := true, same := true }
  | .linerBuild =>
    { links := true, cuff := true, route := true, flt := true, pwr := true, palm := true, boot := true, same := true }
  | .discoveryEval _ => { links := true, cuff := true, route := true, flt := true, pwr := true, same := true }
  | .discoveryEnd => { links := true, cuff := true, route := true, flt := true, pwr := true, boot := true, same := true }
  | .readinessReport => { links := true, cuff := true, route := true, flt := true, pwr := true, boot := true, same := true }
  | .rediscover _ _ => { links := true, cuff := true, route := true, flt := true, pwr := true, boot := true, same := true }
  | .nvmRead _ _ _ => { nvm := true }
  | .nvmOpen _ _ => { nvm := true }
  | .nvmWrite _ _ => { nvm := true }
  | .nvmCommit _ => { nvm := true }
  | .nvmAbort _ => { nvm := true }
  | .nvmAppend _ => { nvm := true }
  | .storeLive _ => { nvm := true }
  | .nvmCommandDone _ => { boot := true, nvm := true, flash := true, same := true }
  | .palmReset => { sram := true, rgn := true, flt := true, mem := true, palm := true, ldrs := true, boot := true, same := true }
  | .serviceReset =>
    { bar2 := true, rgn := true, cuff := true, route := true, flt := true, time := true, pwr := true, mem := true,
      ldrs := true, boot := true, bon := true, same := true }
  | .cuffReset =>
    { bar2 := true, links := true, cuff := true, route := true, flt := true, pwr := true, mem := true, palm := true,
      boot := true, same := true }
  | .moduleWarmReset =>
    { bar2 := true, sram := true, rgn := true, links := true, cuff := true, route := true, flt := true, time := true,
      pwr := true, mem := true, palm := true, ldrs := true, boot := true, bon := true, same := true }
  | .powerOnReset =>
    { bar2 := true, hbm := true, sram := true, crown := true, rgn := true, links := true, cuff := true, route := true,
      flt := true, time := true, pwr := true, mem := true, palm := true, ldrs := true, boot := true, nvm := true,
      bon := true, same := true }
  | .perst => { flt := true }
  | .alarmReceived => { cuff := true, route := true, flt := true, pwr := true, mem := true, same := true }
  | .fltHeadWrite _ => { same := true }
  | .faultMaxClr => { same := true }
  | .snapshot _ _ => { same := true }
  | .telemetryReport => { cuff := true, route := true, flt := true, pwr := true, mem := true, freeCtr := true, same := true }
  | .telemetrySink => { hbm := true, cuff := true, route := true, flt := true, pwr := true, mem := true, same := true }
  | .inArmBreak =>
    { bar2 := true, hbm := true, sram := true, crown := true, rgn := true, links := true, cuff := true, route := true,
      flt := true, time := true, pwr := true, mem := true, palm := true, ldrs := true, boot := true, nvm := true,
      bon := true, same := true }
  | .inputStart => { pwr := true }
  | .prechargeDone =>
    { bar2 := true, hbm := true, sram := true, crown := true, rgn := true, links := true, cuff := true, route := true,
      flt := true, time := true, pwr := true, mem := true, palm := true, ldrs := true, boot := true, nvm := true,
      bon := true, same := true }
  | .prechargeTimeout => { pwr := true }
  | .supplyWarn _ => { rgn := true, cuff := true, route := true, flt := true, pwr := true, same := true }
  | .supplyWarnClear => { rgn := true, pwr := true }
  | .budgetRecoveryStep => { pwr := true }
  | .powerFail =>
    { bar2 := true, hbm := true, sram := true, crown := true, rgn := true, links := true, cuff := true, route := true,
      flt := true, time := true, pwr := true, mem := true, palm := true, ldrs := true, boot := true, nvm := true,
      bon := true, same := true }
  | .overvoltage =>
    { bar2 := true, hbm := true, sram := true, crown := true, rgn := true, links := true, cuff := true, route := true,
      flt := true, time := true, pwr := true, mem := true, palm := true, ldrs := true, boot := true, nvm := true,
      bon := true, same := true }
  | .overcurrent =>
    { bar2 := true, hbm := true, sram := true, crown := true, rgn := true, links := true, cuff := true, route := true,
      flt := true, time := true, pwr := true, mem := true, palm := true, ldrs := true, boot := true, nvm := true,
      bon := true, same := true }
  | .pwrEnLow => { pwr := true, boot := true }
  | .domainShutdown =>
    { bar2 := true, hbm := true, sram := true, crown := true, rgn := true, links := true, cuff := true, route := true,
      flt := true, time := true, pwr := true, mem := true, palm := true, ldrs := true, boot := true, nvm := true,
      bon := true, same := true }
  | .palmOff _ _ =>
    { bar2 := true, hbm := true, sram := true, rgn := true, links := true, cuff := true, route := true, flt := true,
      mem := true, palm := true, ldrs := true, boot := true, bon := true, same := true }
  | .stackOff _ _ =>
    { bar2 := true, hbm := true, sram := true, rgn := true, links := true, cuff := true, route := true, flt := true,
      mem := true, palm := true, ldrs := true, boot := true, bon := true, same := true }
  | .coolOkHigh => { boot := true }
  | .coolOkLow => { cuff := true, route := true, flt := true, pwr := true, boot := true, same := true }
  | .sensorSample _ => { rgn := true, cuff := true, route := true, flt := true, pwr := true, same := true }
  | .smbusBlockWrite _ => { pwr := true }
  | .smbusBlockRead => {}
  | .mgmtRead => { cuff := true, route := true, flt := true, pwr := true, mem := true, freeCtr := true, same := true }
  | .mgmtWrite =>
    { bar2 := true, links := true, cuff := true, route := true, flt := true, time := true, pwr := true, mem := true,
      bon := true, freeCtr := true, same := true }
  | .mgmtDiscard => { links := true, cuff := true, route := true, flt := true, pwr := true, mem := true, same := true }
  | .msixUnmask _ => { flt := true }
  | .portDown _ => { cuff := true, route := true, flt := true, time := true, pwr := true, same := true }
  | .coolOkGlitch => {}
  | .delayReq _ _ => { time := true }

/-- The register a command is a driver write to, for the commands the bus carries straight to a register of their own (R446). -/
def driverWrite : Instr → Option Nat
  | .rgnClkWrite g _ _ => some (Reg.RGN_CLK g)
  | .hbmRetrainRequest k _ _ _ => some (Reg.HBM_CTRL k)
  | .hbmCapWrite k _ _ => some (Reg.HBM_CAP k)
  | .linkEnable l => some (Reg.LNK_CTRL l)
  | .linkDisable l => some (Reg.LNK_CTRL l)
  | .linkRetrain l => some (Reg.LNK_CTRL l)
  | .epochArm => some Reg.RTE_EPOCH
  | .palmStop => some Reg.PLM_CTRL
  | .linerLoad => some Reg.PLM_CTRL
  | .palmOff _ _ => some Reg.PWR_CTRL
  | .stackOff _ _ => some Reg.PWR_CTRL
  | .bankVerify => some Reg.CUF_CTRL
  | .bankArm => some Reg.CUF_CTRL
  | .bankCfgWrite _ _ => some Reg.CUF_BANK_CFG
  | .cufRunSet => some Reg.CUF_CTRL
  | .cufRunClear => some Reg.CUF_CTRL
  | .sessionOpen _ => some Reg.BON_SESS_CMD
  | .sessionClose _ => some Reg.BON_SESS_CMD
  | .bulkStart _ _ => some Reg.BON_BULK_CTRL
  | .bulkAbort => some Reg.BON_BULK_CTRL
  | .fltHeadWrite _ => some Reg.FLT_HEAD
  | .faultMaxClr => some Reg.FLT_STATUS
  | .snapshot _ _ => some Reg.FLT_SNAP
  | .queueCfgWrite l rq _ => some (if rq then Reg.LNK_RQ_CFG l else Reg.LNK_SQ_CFG l)
  | _ => none

end Sys2Proof.Machine
end

