-- ==== Sys2Proof/Certificates/Slice0/Obligations.lean ====
section
/-! DEFINITION. Sys2Proof/Certificates/Slice0/Obligations.lean: the statements for the provers. The groups named
…CommandsComplete say of every command, under hypotheses on the state and the operands alone, the next state it answers; the
others say what holds of the block as a whole. Variables such as `u` name the states between. -/
open Sys2Proof Sys2Proof.Machine

/-- A step runs the command at the front of the queue, with the queue's rest (the model's queue, log entry 1). -/
def Obligations.StepRunsFrontCommand : Prop :=
  ∀ (s : State) (c : Instr) (rest : List Instr), step { s with pending := c :: rest } = exec c { s with pending := rest }

/-- With no command waiting, a step is one Crown clock cycle: the model's clock moves on by 1, the queue stays empty, nothing
already sent is taken back, and without AON nothing else changes (log entry 1, R419). First comes what waits for the end of the cycle before:
bring-up that GO has started, ACKs, and the snapshot (R352, R377, R396, R411, R415; log entry 6). -/
def Obligations.IdleStepIsOneCycle : Prop :=
  ∀ s : State, s.pending = [] → ∃ t, step s = .next t ∧ t.cyc = s.cyc + 1 ∧ t.pending = [] ∧ s.egress <+: t.egress ∧
    (s.live = false → t = { s with cyc := s.cyc + 1, same := { start := s.regs } }) ∧
    (∀ u : State, s.live = true → u = (if s.same.go then s.startBringUp.updFaultN else s).sendAcks →
      t = (if u.same.snap then u.snapshot else u).newCycle)

/-- At reset the queue is empty, and the register file, the BAR2 tables and every memory have their canonical form. -/
def Obligations.ResetIsCanonical : Prop := State.reset.pending = [] ∧ State.reset.canonical = true

/-- Reset values the spec's register tables give: the identity word's device and map fields, the crown and output time, the bank
sets, the management and telemetry settings, the marks, and the memory stacks (R62, R447 and the tables of R53, R63, R99, R184,
R292, R374, R415, R416, R440). -/
def Obligations.ResetRegisterValues : Prop :=
  State.reset.rd Reg.GEN_ID_PCI_DEVICE = 0x0C1A ∧ State.reset.rd Reg.GEN_ID_MAP = 1 ∧
  State.reset.rdb Reg.GEN_ACC_ERR_VALID = false ∧ State.reset.rdb Reg.CRN_CTRL_EN = false ∧
  State.reset.rd Reg.CRN_STATUS_STATE = 0 ∧ State.reset.rdb Reg.CRN_STATUS_RUNNING = false ∧ State.reset.now = 0 ∧
  State.reset.run = false ∧ State.reset.ldr = 0 ∧ State.reset.rd Reg.TIME_STATUS_OUT_STATE = 0 ∧
  State.reset.rd Reg.FLT_HEAD_IDX = 0 ∧ State.reset.rd Reg.FLT_TAIL_IDX = 0 ∧ State.reset.rd Reg.FLT_TAIL_NEXT_SEQ = 0 ∧
  State.reset.rd Reg.PWR_INPUT_HWM_MIN_VOLTAGE = 0xFFFF ∧ (∀ l < 24, State.reset.rdb (Reg.LNK_CTRL_EN l) = false) ∧
  (∀ k < 8, State.reset.rd (Reg.HBM_STATUS_STATE k) = 0)

/-- An event counter adds its count and stops at its maximum with SAT set; it never wraps, and no other register moves. A clear that
meets events of its cycle, made before it or after, clears first and then counts them: the counter holds what the cycle has counted. -/
def Obligations.CountersNeverWrap : Prop :=
  ∀ (s : State) (a n : Nat),
    fget ((s.count a n).reg a) 47 0 = min 0xFFFFFFFFFFFF (fget (s.reg a) 47 0 + n) ∧
    (0xFFFFFFFFFFFF ≤ fget (s.reg a) 47 0 + n → fget ((s.count a n).reg a) 63 63 = 1) ∧
    (∀ b, b ≠ a → (s.count a n).reg b = s.reg b) ∧
    (∀ (o : Nat) (r : Reg.Info) (t : State), s.live = true → bar0Addr o = a → Reg.find a = some r → isCounter r = true →
      s.powered a = true → exec (.counterClear o) s = .next t →
      fget (t.reg a) 47 0 = s.countedNow a ∧ fget (t.reg a) 63 63 = 0 ∧ t.countedNow a = s.countedNow a ∧
      fget ((t.count a n).reg a) 47 0 = min 0xFFFFFFFFFFFF (s.countedNow a + n) ∧
      (s.countedNow a + n < 0xFFFFFFFFFFFF → fget ((t.count a n).reg a) 63 63 = 0)) ∧
    (SMap.get Reg.resetVal s.same.start a = s.reg a → s.countedNow a = 0) ∧
    (fget (SMap.get Reg.resetVal s.same.start a) 47 0 ≤ fget (s.reg a) 47 0 → fget (s.reg a) 47 0 + n < 0xFFFFFFFFFFFF →
      (s.count a n).countedNow a = s.countedNow a + n)

/-- The register address map (R442): the address of every register has bits 63 to 27 and bit 23 clear, an address and its BAR0 offset
give each other back and hold each other's fields, and an offset that no register occupies reads 0 and ignores writes (R10). -/
def Obligations.RegisterAddressesAndOffsets : Prop :=
  (∀ (a : Nat) (r : Reg.Info), Reg.find a = some r → a < 2 ^ 27 ∧ nbit a 23 = false ∧ bar0Addr (bar0Offset a) = a) ∧
  (∀ a : Nat, bar0Offset a < 2 ^ 26 ∧ nbits (bar0Offset a) 25 23 = nbits a 26 24 ∧ nbits (bar0Offset a) 22 0 = nbits a 22 0) ∧
  (∀ o : Nat, o < 2 ^ 26 → nbits (bar0Addr o) 26 24 = nbits o 25 23 ∧ nbits (bar0Addr o) 22 0 = nbits o 22 0 ∧
    bar0Offset (bar0Addr o) = o) ∧
  (∀ (s : State) (o : Nat) (half : Option Bool) (v : Word), s.live = true → o % 8 = 0 → o ∉ [0x1000, 0x1008, 0x1800] →
    Reg.find (bar0Addr o) = none →
    s.bar0Read o = 0 ∧ exec (.registerWrite false o half v) s = .next s)

/-- A request of a wrong size or alignment is aborted and changes nothing but GEN_ACC_ERR, which holds the first refused access
and shows a further one by OVERRUN alone. -/
def Obligations.BadRequestIsRecordedOnce : Prop :=
  ∀ (s : State) (bar2 write : Bool) (o : Nat), s.live = true → o < 2 ^ 27 →
    ∃ t, exec (.barAccessError bar2 write o) s = .next t ∧ t.egress = s.egress ++ [.completerAbort] ∧
      (∀ a, a ≠ Reg.GEN_ACC_ERR → t.reg a = s.reg a) ∧ Wr.Same { same := true } s t ∧
      (s.rdb Reg.GEN_ACC_ERR_VALID = false →
        t.rdb Reg.GEN_ACC_ERR_VALID = true ∧ t.rd Reg.GEN_ACC_ERR_PATH = b2n bar2 ∧ t.rd Reg.GEN_ACC_ERR_KIND = 1 ∧
        t.rdb Reg.GEN_ACC_ERR_WRITE = write ∧ t.rd Reg.GEN_ACC_ERR_OFFSET = o ∧
        t.rd Reg.GEN_ACC_ERR_OVERRUN = s.rd Reg.GEN_ACC_ERR_OVERRUN) ∧
      (s.rdb Reg.GEN_ACC_ERR_VALID = true → t = (s.emit .completerAbort).flag Reg.GEN_ACC_ERR_OVERRUN)

/-- While RUN is 1, the writes to fields that are RW while RUN = 0 are ignored, and CUF_STATUS.WR_REFUSED is set: the commands that write
such registers change nothing else, and a plain register write leaves every such field as it was. -/
def Obligations.RunLocksConfiguration : Prop :=
  ∀ s : State, s.live = true → s.run = true →
    (∀ (g : Fin 16) (n f : Nat), s.powered (Reg.RGN_CLK g) = true →
      exec (.rgnClkWrite g n f) s = .next (s.flag Reg.CUF_STATUS_WR_REFUSED)) ∧
    (∀ (k : Fin 8) (o b : Fin 256), s.powered (Reg.HBM_CAP k) = true →
      exec (.hbmCapWrite k o b) s = .next (s.flag Reg.CUF_STATUS_WR_REFUSED)) ∧
    (∀ (l : Fin 24) (rq : Bool) (v : Word), s.powered (if rq then Reg.LNK_RQ_CFG l else Reg.LNK_SQ_CFG l) = true →
      exec (.queueCfgWrite l rq v) s = .next (s.flag Reg.CUF_STATUS_WR_REFUSED)) ∧
    (∀ (o : Nat) (half : Option Bool) (v : Word) (r : Reg.Info), o % 8 = 0 → o ≠ 0x1000 → o ≠ 0x1008 →
      Reg.find (bar0Addr o) = some r → s.powered (bar0Addr o) = true →
      SMap.get (fun _ => 0) s.same.mgmt (bar0Addr o) = 0 → r.rwRun0 &&& halfMask half ≠ 0 →
      ∃ t, exec (.registerWrite false o half v) s = .next t ∧ t.rdb Reg.CUF_STATUS_WR_REFUSED = true ∧
        ∀ i < 64, nbit r.rwRun0 i = true → (t.reg (bar0Addr o)).getLsbD i = (s.reg (bar0Addr o)).getLsbD i)

/-- A driver write to a block whose power domain is off changes nothing but GEN_ACC_ERR, where it is recorded with KIND OFF; without
AON it changes nothing at all (R419, R446). -/
def Obligations.WritesToPoweredDownBlocksAreIgnored : Prop :=
  ∀ (s : State) (c : Instr) (a : Nat), driverWrite c = some a →
    (s.live = false → exec c s = .next s) ∧
    (s.live = true → s.powered a = false → exec c s = .next (s.accErr 0 2 true (bar0Offset a)))

/-- REGISTER_WRITE of a register with no effect of its own: RO and reserved bits, and bits outside the written half, keep their value,
W1C bits written 1 clear, and no register but this one and the refusal flags changes. In one cycle, a W1C bit that the device sets stays
set (R9), a bit that a management write has written keeps that value (R22), and a field that the driver has changed keeps the driver's
value when the device writes it too (R9). -/
def Obligations.RegisterWriteKeepsReadOnlyBits : Prop :=
  ∀ (s t : State) (o i : Nat) (half : Option Bool) (v : Word) (r : Reg.Info), s.live = true → o % 8 = 0 → i < 64 →
    Reg.find (bar0Addr o) = some r → s.powered (bar0Addr o) = true → o ≠ 0x1000 → o ≠ 0x1008 →
    bar0Addr o ∉ [Reg.TIME_CTRL, Reg.PWR_FAULTN, Reg.CUF_MITTEN, Reg.BON_CTRL, Reg.FLT_FIRST, Reg.CUF_STATUS, Reg.LDR_STATUS,
      Reg.BON_STATUS, Reg.PLM_STATUS] →
    r.base ≠ Reg.HBM_CTRL 0 → r.base ≠ Reg.PLM_LINER_RAM 0 → exec (.registerWrite false o half v) s = .next t →
    ((nbit (storedBits r ||| r.w1c) i = false ∨ nbit (halfMask half) i = false) →
      (t.reg (bar0Addr o)).getLsbD i = (s.reg (bar0Addr o)).getLsbD i) ∧
    (nbit r.w1c i = true → nbit (halfMask half) i = true → v.getLsbD i = true → SMap.get (fun _ => 0) s.same.mgmt (bar0Addr o) = 0 →
      nbit (SMap.get (fun _ => 0) s.same.flagged (bar0Addr o)) i = false → (t.reg (bar0Addr o)).getLsbD i = false) ∧
    (∀ a, a ∉ [bar0Addr o, Reg.CUF_STATUS, Reg.LDR_STATUS, Reg.BON_STATUS, Reg.PLM_STATUS] → t.reg a = s.reg a) ∧
    (nbit r.w1c i = true → nbit (storedBits r) i = false → nbit (SMap.get (fun _ => 0) s.same.flagged (bar0Addr o)) i = true →
      (t.reg (bar0Addr o)).getLsbD i = (s.reg (bar0Addr o)).getLsbD i) ∧
    (nbit (SMap.get (fun _ => 0) s.same.mgmt (bar0Addr o)) i = true →
      (t.reg (bar0Addr o)).getLsbD i = (s.reg (bar0Addr o)).getLsbD i) ∧
    (∀ (f : Fld) (n : Nat), f.addr = bar0Addr o → nbit f.bits i = true → nbit r.w1c i = false →
      (t.reg (bar0Addr o)).getLsbD i ≠ (s.reg (bar0Addr o)).getLsbD i → t.devWr f n = t)

/-- Accesses by the driver and over SMBus (R8, R11, R62, R410, R431, R444, R448): each command completes with its effect while AON
runs. -/
def Obligations.AccessCommandsComplete : Prop :=
  (∀ (s : State) (o : Nat) (half : Option Bool) (v : Word), s.live = true → o % 8 = 0 →
    exec (.registerWrite false o half v) s = .next (s.bar0Write o (halfMask half) v)) ∧
  (∀ (s : State) (o : Nat) (v : Word), s.live = true → o % 8 = 0 →
    exec (.registerWrite true o none v) s = .next (s.bar2Plain o v)) ∧
  (∀ (s : State) (o : Nat) (r : Reg.Info), s.live = true → Reg.find (bar0Addr o) = some r → isCounter r = true →
    s.powered (bar0Addr o) = true →
    exec (.counterClear o) s = .next
      { s.setReg (bar0Addr o) (BitVec.ofNat 64 (s.countedNow (bar0Addr o))) with
        flt := { s.flt with telPrev := SMap.erase s.flt.telPrev (bar0Addr o) },
        same := { s.same with start := SMap.set Reg.resetVal s.same.start (bar0Addr o) 0 } }) ∧
  (∀ (s : State) (o : Nat) (r : Reg.Info), s.live = true → Reg.find (bar0Addr o) = some r → s.powered (bar0Addr o) = true →
    exec (.hwmClear o) s = .next
      (s.forEach (s.marksOf r (bar0Addr o)) fun x m => x.wr m.1 (x.levelOr m.1 m.2))) ∧
  (∀ (s : State) (bar2 write : Bool) (o : Nat), s.live = true →
    exec (.barAccessError bar2 write o) s = .next ((s.emit .completerAbort).accErr (if bar2 then 1 else 0) 1 write o)) ∧
  (∀ (s : State) (o : BitVec 32), s.live = true →
    exec (.smbusBlockWrite o) s = .next { s with pwr := { s.pwr with smb := o.toNat } }) ∧
  (∀ s : State, s.live = true → s.pwr.smb < 0x4000000 → smbusReadable (bar0Addr s.pwr.smb) = true →
    exec .smbusBlockRead s = .next (s.emit (.smbusData (s.bar0Read s.pwr.smb)))) ∧
  (∀ s : State, s.live = true → smbusReadable (bar0Addr s.pwr.smb) = false →
    exec .smbusBlockRead s = .next (s.emit (.smbusData 0))) ∧
  (∀ (s : State) (e : Bool), s.live = true →
    exec (.msixUnmask e) s = .next { s with flt := { s.flt with msixEnable := e, msixMasked := false } }.msixFlush)

/-- The reference and the crown's enable (R26, R27, R30, R41): each command completes with the state the rules give. -/
def Obligations.ReferenceCommandsComplete : Prop :=
  (∀ s : State, exec .rootPllLock s = .next (s.wr Reg.CRN_STATUS_PLL_LOCK 1).noteRef.tryMasterStart) ∧
  (∀ s : State, exec .referenceRestored s = .next (s.wr Reg.CRN_STATUS_REF_OK 1).noteRef.tryMasterStart) ∧
  (∀ s u : State, s.rdb Reg.CRN_STATUS_REF_OK = true →
    u = ((s.wr Reg.CRN_STATUS_REF_OK 0).wr Reg.CRN_STATUS_PLL_LOCK 0).noteRef →
    exec .referenceLost s = .next
      (((if u.rd Reg.CRN_STATUS_STATE = 1 ∨ u.rd Reg.CRN_STATUS_STATE = 2 then u.enterHoldover else u).crownUnlock
        1).checkRefHold)) ∧
  (∀ (s u : State) (role alt : Bool), s.rdb Reg.CRN_CTRL_EN = false →
    u = (((s.wrb Reg.CRN_CTRL_ALT_EN alt).wrb Reg.CRN_CTRL_ROLE role).wr Reg.CRN_CTRL_EN 1).wr Reg.CRN_STATUS_ON_ALT 0 →
    exec (.crnEnSet role alt) s = .next
      { u with crown := { s.crown with acqRun := 0, slices := [], lastAcc := none, altPend := false, missRun := 0, hopRun := 0,
                                       smallRun := 0, bigRun := 0 } }.tryMasterStart) ∧
  (∀ (s : State) (role alt : Bool), s.rdb Reg.CRN_CTRL_EN = true →
    exec (.crnEnClear role alt) s =
      .next (((s.wrb Reg.CRN_CTRL_ALT_EN alt).wrb Reg.CRN_CTRL_ROLE role).wr Reg.CRN_CTRL_EN 0).enterFree) ∧
  (∀ (s : State) (t : Nat), s.crown.refSince = some t → s.isMaster = true → s.rd Reg.CRN_STATUS_STATE = 3 →
    t + 65536 ≤ s.cyc →
    exec .masterRelock s = .next
      { s.wr Reg.CRN_STATUS_STATE 2 with crown := { s.crown with holdSince := none, lockedExch := 0 } })

/-- Beacons (R33, R35, R36, R39): a request leaves at a multiple of 4,096 ct, a running crown answers one, a response is taken by
the exchange it matches, a miss is counted, and monitor requests leave at multiples of 65,536 ct. -/
def Obligations.BeaconCommandsComplete : Prop :=
  (∀ s : State, s.rdb Reg.CRN_CTRL_EN = true → s.isMaster = false → s.beaconTime / 16 % 4096 = 0 →
    s.isUp s.parentLink = true → s.confirmed s.parentLink = true →
    exec .beaconRequestTimer s = .next
      { s.setLk s.parentLink { s.lk s.parentLink with pendReq := some (s.ownBeacon s.crown.seqNext) } with
        crown := { s.crown with
          seqNext := (s.crown.seqNext + 1) % 256, req := some (s.crown.seqNext, s.beaconTime, s.cyc) } }) ∧
  (∀ (s : State) (l : Fin 24) (b : Beacon) (t2 : Nat), s.crownRuns = true → s.isUp l = true → s.confirmed l = true →
    exec (.beaconReq l b t2) s = .next
      (s.setLk l { s.lk l with pendRsp := some ({ s.ownBeacon b.seq with stampA := t2 % 2 ^ 28 }, s.wireTick) })) ∧
  (∀ (s : State) (l : Fin 24) (b : Beacon) (t1 t4 c : Nat), s.crown.req = some (b.seq, t1, c) → s.parentLink = l.val →
    s.rdb Reg.CRN_CTRL_EN = true → s.isMaster = false →
    exec (.beaconRsp l b t4) s = .next (s.parentExchange l b t1 t4)) ∧
  (∀ (s : State) (l : Fin 24) (b : Beacon) (t1 t4 : Nat), s.crown.req = none → s.crown.mon = [(l.val, b.seq, t1)] →
    s.crownRuns = true → exec (.beaconRsp l b t4) s = .next (s.monitorExchange l b t1 t4)) ∧
  (∀ (s : State) (d : Bool) (q t1 at0 : Nat), s.crown.req = some (q, t1, at0) → (d = true ∨ at0 + 3072 ≤ s.cyc) →
    exec (.beaconMiss d) s = .next
      (({ s with crown := { s.crown with req := none, hopRun := 0 } }).count Reg.CRN_BCN_MISS 1).missEffects) ∧
  (∀ s : State, s.crownRuns = true → s.now % 65536 = 0 →
    exec .monitorTimer s = .next
      (s.forEach (allLinks.filter fun l => s.isUp l && s.inMitten l && (s.isMaster || s.parentLink != l)) fun s l =>
        { s.setLk l { s.lk l with pendReq := some (s.ownBeacon s.crown.seqNext) } with
          crown := { s.crown with
            seqNext := (s.crown.seqNext + 1) % 256,
            mon := (l, s.crown.seqNext, s.beaconTime) :: s.crown.mon.filter (fun m => m.1 != l) } }))

/-- The lock states of a child and their limits (R41, R42, R44). -/
def Obligations.LockStateCommandsComplete : Prop :=
  (∀ s : State, s.isMaster = false → 16 ≤ s.crown.smallRun →
    (s.rd Reg.CRN_STATUS_STATE = 1 ∨ (s.rd Reg.CRN_STATUS_STATE = 3 ∧ s.rdb Reg.CRN_STATUS_REF_OK = true)) →
    exec .crownLocked s = .next
      { s.wr Reg.CRN_STATUS_STATE 2 with crown := { s.crown with
          lockedExch := 0, acqExch := 0, holdSince := none, altPend := false, limRaised := false, depthRaised := false,
          refRaised := false } }.reportHold) ∧
  (∀ s u : State, s.rd Reg.CRN_STATUS_STATE = 2 → s.isMaster = false → 4 ≤ s.crown.bigRun →
    u = { s.wr Reg.CRN_STATUS_STATE 1 with crown := { s.crown with
            lastAcc := none, acqExch := 0, acqRaised := false, bigRun := 0, smallRun := 0 } } →
    exec .crownDrift s = .next (if s.imageLoaded then u.crownUnlock 6 else u)) ∧
  (∀ s : State, s.rd Reg.CRN_STATUS_STATE = 2 → s.isMaster = false → 4 ≤ s.crown.missRun →
    exec .parentLost s = .next
      { s.enterHoldover with crown := { s.enterHoldover.crown with
          altPend := s.enterHoldover.rdb Reg.CRN_CTRL_ALT_EN && s.enterHoldover.rd Reg.CRN_STATUS_ON_ALT == 0 } }.checkRefHold) ∧
  (∀ s : State, s.crown.altPend = true → s.now % 4096 = 0 →
    exec .altParentSwitch s = .next
      { s.wr Reg.CRN_STATUS_ON_ALT 1 with crown :=
        { s.crown with altPend := false, lastAcc := none, missRun := 0, req := none } }) ∧
  (∀ s : State, s.reportHold.rd Reg.CRN_STATUS_STATE = 3 → s.reportHold.isMaster = false → s.reportHold.crown.limRaised = false →
    max 1 (s.reportHold.rd Reg.CRN_HOLD_HOLD_LIMIT) ≤ s.reportHold.rd Reg.CRN_STATUS_HOLD_AGE →
    exec .holdLimitReached s =
      .next ({ s.reportHold with crown := { s.reportHold.crown with limRaised := true } }.crownUnlock 2)) ∧
  (∀ s : State, s.rd Reg.CRN_STATUS_STATE = 1 → s.crown.acqRaised = false → s.rd Reg.CRN_HOLD_ACQ_LIMIT ≤ s.crown.acqExch →
    exec .acqLimitReached s = .next ({ s with crown := { s.crown with acqRaised := true } }.crownUnlock 5))

/-- Region clocks (R47 to R53, R57, R65): a droop orders a stretch of the next period, or a step of the divider where no stretch is left;
dividers return and rise one step at a time; a stop ends at the divider the causes allow; the estimates take the crown. In a cycle of an
op a region takes a word from each crossing buffer it reads and puts one into each it writes, or waits and counts the cycle. -/
def Obligations.RegionClockCommandsComplete : Prop :=
  (∀ (s : State) (g : Fin 17) (r : RgnSt), r = s.rg g → r.stepUntil = none → r.rest = false → r.longNext = false →
    mayStretch r.stretches r.cycle = true →
    ∃ t, exec (.droopDetected g) s = .next t ∧
      t.rg g = { r with droopAt := s.cyc, longNext := true,
                        stretches := (r.cycle + 1) :: (r.stretches.filter fun x => r.cycle + 1 < x + 1024) } ∧
      (g.val < 16 → t.reg (Reg.RGN_STRETCH_CNT g) = (s.count (Reg.RGN_STRETCH_CNT g) 1).reg (Reg.RGN_STRETCH_CNT g)) ∧
      ∀ a, (g.val < 16 → a ≠ Reg.RGN_STRETCH_CNT g) → t.reg a = s.reg a) ∧
  (∀ (s : State) (g : Fin 17) (r : RgnSt), r = s.rg g → r.stepUntil = none → r.rest = false → r.longNext = false → r.stopDue = false →
    mayStretch r.stretches r.cycle = false →
    ∃ t, exec (.droopDetected g) s = .next t ∧
      (16 ≤ g.val ∨ s.rd (Reg.RGN_CLK_N_NOW g) < 20 → (t.rg g).stopDue = true) ∧
      (g.val < 16 → s.rd (Reg.RGN_CLK_N_NOW g) < 20 →
        (t.rg g).droopN = s.rd (Reg.RGN_CLK_N_NOW g) + 1 ∧ t.rd (Reg.RGN_STATUS_STEP_DROOP g) = 1 ∧
        t.reg (Reg.RGN_STEP_CNT g) = (s.count (Reg.RGN_STEP_CNT g) 1).reg (Reg.RGN_STEP_CNT g))) ∧
  (∀ (s : State) (g : Fin 16), (s.rg g).droopN ≠ 0 → (s.rg g).droopAt + 100000 ≤ s.cyc →
    ∃ n, exec (.droopStepReturn g) s = .next
      (((s.setRg g { s.rg g with droopN := n, droopAt := s.cyc }).wrb (Reg.RGN_STATUS_STEP_DROOP g) (n != 0)).stepIfFaster g) ∧
      n < (s.rg g).droopN ∧ (s.rd (Reg.RGN_CLK_N_TARGET g) + 1 < (s.rg g).droopN → n + 1 = (s.rg g).droopN)) ∧
  (∀ (s : State) (g : Fin 16), (s.rg g).above = true → (s.rg g).thermAt + 10000 ≤ s.cyc →
    exec (.thermalStepTimer g) s = .next (s.thermStep g)) ∧
  (∀ (s : State) (g : Fin 16), (s.rg g).restoreAt + 10000 ≤ s.cyc →
    ∃ n, exec (.dividerRestoreStep g) s = .next
      (((s.setRg g { s.rg g with thermN := n, restoreAt := s.cyc }).wrb (Reg.RGN_STATUS_STEP_THERM g) (n != 0)).stepIfFaster g) ∧
      n ≤ (s.rg g).thermN ∧ ((s.rg g).hot = true → n = (s.rg g).thermN) ∧
      ((s.rg g).hot = false → (s.rg g).thermN ≠ 0 → n < (s.rg g).thermN) ∧
      (s.rg g).thermN ≤ n + 1 + s.rd (Reg.RGN_CLK_N_TARGET g)) ∧
  (∀ (s : State) (g : Fin 17) (x : Nat), (s.rg g).stepUntil = some x → x ≤ s.cyc →
    ∃ t, exec (.dividerStepResume g) s = .next t ∧ (t.rg g).stepUntil = none ∧
      (t.rg g).est = ((12 * s.now : Nat) : Int) - s.estPart g ∧
      (g.val < 16 → ∃ y z e, t = (((((s.setRg g y).setRg g z).wr (Reg.RGN_EST_ERR_LAST g) e).wr (Reg.RGN_CLK_N_NOW g)
        (resumeN (s.rd (Reg.RGN_CLK_N_NOW g)) (s.requiredN g))).showFloor g))) ∧
  (∀ (s u : State) (g : Fin 16) (n f : Nat), s.live = true → s.powered (Reg.RGN_CLK g) = true → s.run = false →
    gradeMinN s ≤ n → n ≤ f → f ≤ 20 →
    u = ((s.wr (Reg.RGN_CLK_N_TARGET g) n).wr (Reg.RGN_CLK_N_FLOOR g) f).showFloor g →
    exec (.rgnClkWrite g n f) s = .next
      (if u.requiredN g < u.rd (Reg.RGN_CLK_N_NOW g) then u.setRg g { u.rg g with restoreAt := s.cyc } else u.stepIfSlower g)) ∧
  (∀ s : State, s.crownRuns = true → s.now % 64 = 0 →
    exec .estimateCorrection s = .next
      (s.forEach ((List.range 17).filter fun g => s.domOn (clockDomain g)) fun s g =>
        if (s.rg g).stepUntil.isSome || (s.rg g).rest then s else s.setEst g true)) ∧
  (∀ (s : State) (g : Fin 16), (s.rg g).active = true →
    ∃ t, t = s.crossCycle g ∧
      (s.crossStall g = true →
        t.reg (Reg.RGN_XSTALL_CNT g) = (s.count (Reg.RGN_XSTALL_CNT g) 1).reg (Reg.RGN_XSTALL_CNT g) ∧
        ∀ k, (t.rg k).east.length = (s.rg k).east.length ∧ (t.rg k).south.length = (s.rg k).south.length) ∧
      (s.crossStall g = false → (∀ a, t.reg a = s.reg a) ∧
        (s.feedsWest g = true → (t.rg (g.val - 1)).east.length + 1 = (s.rg (g.val - 1)).east.length) ∧
        (s.feedsNorth g = true → (t.rg (g.val - 4)).south.length + 1 = (s.rg (g.val - 4)).south.length) ∧
        (s.eatsEast g = true → (t.rg g).east.length = (s.rg g).east.length + 1 ∧ (t.rg g).east.length ≤ 16) ∧
        (s.eatsSouth g = true → (t.rg g).south.length = (s.rg g).south.length + 1 ∧ (t.rg g).south.length ≤ 16)))

/-- Stitches and queues (R74, R77, R78, R83, R84, R100 to R103, R123, R250): a stitch is taken once, when the seam or image start of
its tick is done; its entries join the lists, and what R102 lets a link send departs; land entries pair in order; deposits are made
and become ready. -/
def Obligations.StitchCommandsComplete : Prop :=
  (∀ (s u v : State) (l : Fin 24), (s.lk l).sendAt ≠ some s.stitch → s.seamClear = true →
    u = ((s.setLk l { s.lk l with sendAt := some s.stitch }).beginStitch l s.stitch).ejectFar s.stitch →
    v = (if u.isUp l = true ∧ slotFree (s.rd (Reg.LNK_STATUS_WIDTH l)) (u.wireTick / 2 * 2) = false then u
         else if isFar l = true ∧ entKind (u.entryAt l 0 s.stitch) = 4 then u.farSend l s.stitch
         else if isFar l = false ∧ u.looseStitch s.stitch = true then (if u.isLattice l then u else u.oppSend l s.stitch)
         else u.sendSched l s.stitch (entKind (u.entryAt l 0 s.stitch))) →
    exec (.stitchSend l) s = .next (v.retryWait.showLists l)) ∧
  (∀ (s : State) (l : Fin 24) (e : Expect) (es : List Expect), s.seamClear = true →
    ((s.beginStitch l s.stitch).lk l).expecting = e :: es → e.stitch = s.stitch →
    exec (.landingStitch l) s = .next (((s.beginStitch l s.stitch).landOldest l s.stitch).palmDrain.showLists l)) ∧
  (∀ (s : State) (l : Fin 24) (e : Expect) (es : List Expect), (s.lk l).expecting = e :: es → e.stitch < s.stitch →
    exec (.lateLanding l) s = .next ((s.landOldest l s.stitch).palmDrain.showLists l)) ∧
  (∀ (s : State) (l : Fin 24) (i : Nat), s.cuff.stopped = false → s.unpaired l s.stitch = some i →
    exec (.unexpectedArrival l) s = .next
      ((s.setLk l { s.lk l with arrivals := (s.lk l).arrivals.eraseIdx i }).stitchMismatch l 3
        ((s.lk l).arrivals.getD i (0, {})).2.tag 0
        ((s.setLk l { s.lk l with arrivals := (s.lk l).arrivals.eraseIdx i }).posAt
          (((s.lk l).arrivals.getD i (0, {})).1 + landDelay l)))) ∧
  (∀ (s : State) (l : Fin 24) (q : Fin 8) (d : Desc) (tile : Nat) (f : Flit) (rest : List (Nat × Nat × Nat × Flit)),
    s.palm.running = some d → s.palm.outgoing = (l.val, q.val, tile, f) :: rest →
    exec (.deposit l q) s =
      .next ({ s with palm := { s.palm with outgoing := rest } }.deposit l q f (nbits d.bits 255 224))) ∧
  (∀ (s : State) (l : Fin 24) (q : Fin 8),
    exec (.depositReady l q) s =
      .next (s.setSq l q ((s.sqList l q).map fun d => { d with ready := d.ready || decide (d.entered + 64 ≤ s.now) })))

/-- The bank sets (R91 to R99): verification, arming, the automatic fill, and the tables and registers a set is written
through, each completing when the rule accepts it. -/
def Obligations.BankCommandsComplete : Prop :=
  (∀ s : State, s.live = true → s.powered Reg.CUF_CTRL = true → s.rdb Reg.CUF_CTRL_FILL_AUTO = false →
    s.rdb Reg.CUF_STATUS_VERIFY_BUSY = false → s.rdb Reg.CUF_STATUS_ARMED = false →
    exec .bankVerify s = .next (s.startVerify 0)) ∧
  (∀ (s : State) (v : VerifySt), s.cuff.verify = some v → v.done ≤ s.cyc → v.reason = 0 → v.seg = 0 →
    exec .verifyDone s = .next
      ((({ s.wr Reg.CUF_STATUS_VERIFY_BUSY 0 with cuff := { s.cuff with verify := none } }).wr Reg.CUF_STATUS_VERIFY_OK 1).setReg
        Reg.CUF_VERIFY_ERR 0)) ∧
  (∀ s : State, s.live = true → s.powered Reg.CUF_CTRL = true → s.rdb Reg.CUF_CTRL_FILL_AUTO = false →
    s.rdb Reg.CUF_STATUS_VERIFY_OK = true → s.rdb Reg.CUF_STATUS_ARMED = false →
    exec .bankArm s = .next { s.wr Reg.CUF_STATUS_ARMED 1 with cuff := { s.cuff with armedAt := s.now, armSeg := 0 } }) ∧
  (∀ (s : State) (k t : Nat), s.cuff.fill = some (k, t) → t ≤ s.cyc →
    exec .autoFillDone s = .next ((s.fillShadow k).startVerify k)) ∧
  (∀ (s : State) (l : Fin 24) (dir bank : Fin 2) (p : Fin 32768) (v : Word), s.live = true → s.domOn (linkDomain l) = true →
    s.rd Reg.CUF_STATUS_ACTIVE_BANK ≠ bank.val → s.rdb Reg.CUF_STATUS_ARMED = false →
    s.rdb Reg.CUF_STATUS_VERIFY_BUSY = false →
    exec (.stitchTableWrite l dir bank p v) s = .next
      (((s.setTab (0x100000 * l + 0x80000 * dir + 0x40000 * bank + 8 * p) v).dropUpsets .program l (2 * dir + bank) (p / 4)).wr
        Reg.CUF_STATUS_VERIFY_OK 0)) ∧
  (∀ (s : State) (n : Fin 65536) (phase : Fin 32), s.live = true → s.powered Reg.CUF_BANK_CFG = true →
    s.rdb Reg.CUF_STATUS_ARMED = false → s.rdb Reg.CUF_STATUS_VERIFY_BUSY = false →
    n.val % 32 = 0 → 0 < n.val → n.val ≤ 32768 →
    exec (.bankCfgWrite n phase) s = .next
      (((s.drvWr Reg.CUF_BANK_CFG_N n).drvWr Reg.CUF_BANK_CFG_LOOSE_PHASE phase).wr Reg.CUF_STATUS_VERIFY_OK 0)) ∧
  (∀ (s : State) (l : Fin 24) (rq : Bool) (v : Word), s.live = true →
    s.powered (if rq then Reg.LNK_RQ_CFG l else Reg.LNK_SQ_CFG l) = true → s.run = false → capSum v ≤ 512 →
    exec (.queueCfgWrite l rq v) s = .next
      (s.setReg (if rq then Reg.LNK_RQ_CFG l else Reg.LNK_SQ_CFG l) (fset (fset v 63 63 0) 13 7 0)))

/-- CUF_CTRL.RUN and the seams (R53, R60, R96, R98, R114 to R118, R306, R308): RUN is set and cleared; a seam swaps an armed set, sets
the estimates to the crown, and commits the next segment or ends the last; the check at tick plus grace passes or fails the
segment. -/
def Obligations.SeamCommandsComplete : Prop :=
  (∀ s : State, s.live = true → s.powered Reg.CUF_CTRL = true → s.run = false →
    ∃ t, exec .cufRunSet s = .next t ∧ t.run = true ∧ t.rd Reg.FLT_ALARM_RX_VALID = 0 ∧ t.flt.fwd = 0 ∧
      ∀ l : Fin 24, t.rd (Reg.LNK_SEAM_RPT_VALID l) = 0) ∧
  (∀ s : State, s.live = true → s.powered Reg.CUF_CTRL = true → s.run = true → exec .cufRunClear s = .next s.clearRun) ∧
  (∀ (s v w u x : State) (k t : Nat) (fetched : Bool), s.run = true → s.ldr = 8 → s.cuff.stopped = false → s.cuff.ended = false →
    k = s.rd Reg.CUF_SEAM_SEGMENT → t = s.rd Reg.CUF_SEAM_TICK_TICK → s.now = t →
    v = s.takeDeferred (k + 1) → v.cuff.stopped = false →
    w = (v.forEach allLinks fun s l =>
      s.setLk l { s.lk l with wasSched := s.rdb (Reg.LNK_SCHED_STATUS_SCHED_ACTIVE l), misRaised := false }) →
    u = { w with cuff := { w.cuff with checkSeam := some (k, t, t + w.rd Reg.CUF_SEAM_GRACE), prevN := w.roundN } } →
    x = (if u.swapDue (k + 1) then u.swapBanks k else u).setEsts false →
    (segLast (s.segEntry k) = true →
      exec (.seamOpen fetched) s = .next { x with cuff := { x.cuff with ended := true } }) ∧
    (segLast (s.segEntry k) = false → x.segFetched (k + 1) fetched = true →
      ∃ y z, y = { x with cuff := { x.cuff with prevOpen := x.cuff.openTick, openTick := t } }.commitSegment (k + 1) ∧
        z = (if u.swapDue (k + 1) then y.nextFill (k + 1) else y).beginAll ∧
        exec (.seamOpen fetched) s = .next (z.fetchSeg (k + 2)))) ∧
  (∀ (s u : State) (k t : Nat), s.cuff.checkSeam = some (k, t, s.now) → s.run = true → s.cuff.stopped = false →
    u = { s with cuff := { s.cuff with checkSeam := none } } →
    exec .seamCheck s = .next
      (match u.seamFailure k t s.stitch with
       | some f => u.seamFailed k f
       | none => u.seamPassed k))

/-- Slots, link control words and credits that arrive (R77, R94, R124, R128 to R132, R136, R138, R151, R171, R172): the bits of a slot say
whether it is errored and which class its flit has; a flit is accepted in the order of its number, refused by a NAK otherwise. -/
def Obligations.ReceptionCommandsComplete : Prop :=
  (∀ (s u : State) (l : Fin 24) (slot : BitVec 3200) (f : Flit), s.isUp l = true → s.mute l = false → slotOk slot.toNat = true →
    f = flitOf slot.toNat → f.cls = 0 → f.seq % 2 ^ 24 = s.rd (rxExpectFld l 0) →
    u = (if f.carriedV then (s.acceptSeq l 0).declareMember l f.carried else s.acceptSeq l 0) →
    exec (.scheduledFlitRx l slot) s = .next
      (if movedRepeat (u.lk l).carryExpS f then u.count (Reg.LNK_DUP_CNT l) 1
       else u.setLk l { u.lk l with arrivals := (u.lk l).arrivals ++ [(u.stitch, f)] })) ∧
  (∀ (s d : State) (l : Fin 24) (slot : BitVec 3200) (f : Flit), s.isUp l = true → s.mute l = false → slotOk slot.toNat = true →
    f = flitOf slot.toNat → f.cls = 1 → f.seq % 2 ^ 24 = s.rd (rxExpectFld l 1) →
    d = (if f.carriedV then s.declareMember l f.carried else s) →
    (movedRepeat (d.lk l).carryExpL f = true →
      exec (.looseFlitRx l slot) s = .next
        ((if f.carriedV then (s.acceptSeq l 1).declareMember l f.carried else s.acceptSeq l 1).count (Reg.LNK_DUP_CNT l) 1)) ∧
    (movedRepeat (d.lk l).carryExpL f = false → (s.offer l s.stitch f).2 = true →
      ∃ u, u = (s.offer l s.stitch f).1.acceptSeq l 1 ∧
        exec (.looseFlitRx l slot) s = .next (if f.carriedV then u.declareMember l f.carried else u).retryWait) ∧
    (movedRepeat (d.lk l).carryExpL f = false → (s.offer l s.stitch f).2 = false →
      exec (.looseFlitRx l slot) s = .next ((s.offer l s.stitch f).1.count Reg.RTE_REFUSE_CNT 1))) ∧
  (∀ (s : State) (l : Fin 24) (slot : BitVec 3200) (f : Flit), s.isUp l = true → s.mute l = false → slotOk slot.toNat = true →
    f = flitOf slot.toNat →
    (f.cls = 0 → f.seq % 2 ^ 24 ≠ s.rd (rxExpectFld l 0) → exec (.scheduledFlitRx l slot) s = .next (s.rejectSeq l 0 f)) ∧
    (f.cls = 1 → f.seq % 2 ^ 24 ≠ s.rd (rxExpectFld l 1) → exec (.looseFlitRx l slot) s = .next (s.rejectSeq l 1 f)) ∧
    (f.cls = 2 → exec (.nullFlitRx l slot) s = .next s)) ∧
  (∀ (s : State) (l : Fin 24) (slot : BitVec 3200),
    exec (.scheduledFlitRx l slot) s = exec (.looseFlitRx l slot) s ∧ exec (.looseFlitRx l slot) s = exec (.nullFlitRx l slot) s ∧
    (s.isUp l = true → s.mute l = false → slotOk slot.toNat = false →
      exec (.nullFlitRx l slot) s = exec (.erroredSlot l (s.stitch - s.flight l) []) s)) ∧
  (∀ (s u v : State) (l : Fin 24) (d : Nat) (cs : List Nat), s.isUp l = true → s.mute l = false →
    u = (s.count (Reg.LNK_CRC_ERR_CNT l) 1).count (Reg.LNK_FEC_UNCORR_CNT l) ((cs.filter fun n => decide (15 < n)).length) →
    v = (if !isFar l && u.rd (Reg.LNK_STATUS_WIDTH l) == 8 && u.looseStitch d || (u.lk l).s.nakOpen then u else u.openNak l 0) →
    exec (.erroredSlot l d cs) s = .next (if (v.lk l).l.nakOpen then v else v.openNak l 1)) ∧
  (∀ (s : State) (l : Fin 24) (w : Nat) (errored : Bool), s.isUp l = true →
    exec (.lcwReceived l w errored) s = .next
      (if errored = false ∧ lcwOk w = true ∧ nbits w 175 172 ≤ 5 then s.applyLcw l w else s.count (Reg.LNK_LCW_ERR_CNT l) 1)) ∧
  (∀ (s : State) (l : Fin 24) (serial : Word) (link : Fin 32) (seat mitten : Fin 4096), s.isUp l = true →
    exec (.ident l serial link seat mitten) s = .next
      (((s.setLk l { s.lk l with ident := some (serial.toNat, link.val, seat.val, mitten.val) }).wr
        (Reg.LNK_SCHED_STATUS_NBR_MITTEN l) mitten).discover l)) ∧
  (∀ (s : State) (l : Fin 24) (counts : List Nat), s.isUp l = true → isFar l = true →
    exec (.credit l counts) s =
      .next (s.forEach (counts.take 8).zipIdx fun s p => s.takeCredit l p.2 (p.1 % 512)))

/-- Training requests, link control words sent, and replays (R122, R123, R133, R134, R139, R140, R149). -/
def Obligations.LinkExchangeCommandsComplete : Prop :=
  (∀ (s u : State) (l : Fin 24) (serial : Word) (link : Fin 32) (w : Fin 16) (g : Fin 8),
    u = s.setLk l { s.lk l with peer := { (s.lk l).peer with width := w, group := g } } →
    exec (.reqQuick l serial link w g) s = .next (u.trainRequest l 1 serial.toNat link) ∧
    exec (.reqFull l serial link w g) s = .next (u.trainRequest l 2 serial.toNat link) ∧
    exec (.reqWidth l serial link w g) s = .next (u.trainRequest l 3 serial.toNat link)) ∧
  (∀ (s : State) (l : Fin 24) (code n t : Nat), s.isUp l = true → (s.lk l).trainReq = some (code, n, t) →
    exec (.trainAccept l) s = .next (s.followTrain l code (s.lk l).reqCause)) ∧
  (∀ (s : State) (l : Fin 24) (code n t : Nat), s.isUp l = true → (s.lk l).trainReq = some (code, n, t) →
    t + 4096 ≤ s.cyc →
    exec (.trainRequestTimeout l) s = .next
      (if n < 4 then s.setLk l { s.lk l with pendTrain := some code } else s.dropLink l true (s.lk l).reqCause false)) ∧
  (∀ (s : State) (l : Fin 24) (b : Beacon) (t : Nat), s.lcwDue l = true → (s.lk l).pendRsp = some (b, t) → t + 4 ≤ s.wireTick →
    exec (.lcwTransmit l) s = .next (s.sendRsp l b)) ∧
  (∀ (s : State) (l : Fin 24) (code : Nat), s.lcwDue l = true → (∀ b t, (s.lk l).pendRsp = some (b, t) → s.wireTick < t + 4) →
    (s.lk l).pendTrain = some code → (s.lcwShown l).train = some code →
    (code ≠ 4 → (s.lk l).trainReq = none → exec (.lcwTransmit l) s = .next
      ((s.sendTrain l code).setLk l { (s.sendTrain l code).lk l with trainReq := some (code, 1, (s.sendTrain l code).cyc) })) ∧
    (code = 4 → ∀ f, (s.lk l).follow = some f → exec (.lcwTransmit l) s = .next ((s.sendTrain l 4).followTrain l f 7))) ∧
  (∀ (s : State) (l : Fin 24), s.lcwDue l = true → (∀ b t, (s.lk l).pendRsp = some (b, t) → s.wireTick < t + 4) →
    (s.lk l).pendTrain = none →
    (s.identDue l = true → exec (.lcwTransmit l) s = .next (s.sendIdent l)) ∧
    (s.identDue l = false → exec (.lcwTransmit l) s = .next
      (if isFar l && (s.lk l).pendCred && (s.lcwShown l).cred && !(s.lk l).prevCred then s.sendCredit l
       else match (if (s.lcwShown l).req then (s.lk l).pendReq else none) with
         | some b => s.sendReq l b
         | none =>
           if s.identNew l then s.sendIdent l
           else if isFar l && (s.lk l).pendCred && (s.lcwShown l).cred then s.sendCredit l
           else s.sendLcw l 0 0))) ∧
  (∀ (s u : State) (l : Fin 24) (c : Fin 2) (n t : Nat), ((s.lk l).cls c).nakFrom = some (n, t) →
    u = s.setCls l c { (s.lk l).cls c with nakFrom := none } →
    u.isUp l = true → (c.val = 1 → (u.oppRefused l n).isUp l = true) →
    exec (.replayStart l c) s = .next
      (if c.val = 1 then (u.oppRefused l n).startReplay l c n (t + 5) false else u.startReplay l c n (t + 5) false)) ∧
  (∀ (s u : State) (l : Fin 24) (c : Fin 2) (x : Sent) (xs : List Sent), ((s.lk l).cls c).nakFrom = none →
    ((s.lk l).cls c).unacked = x :: xs → (((s.lk l).cls c).replay.map Prod.fst) ≠ some x.flit.seq →
    s.isUp l = true → s.mute l = false → x.last + 2 * s.flight l + 34 ≤ s.stitch →
    u = (if c.val = 1 then s.oppRefused l x.flit.seq else s) →
    exec (.replayTimer l c) s = .next (u.startReplay l c x.flit.seq u.stitch true))

/-- Training (R144 to R149): a link is enabled and disabled, passes through its states one by one, and is UP after MEASURE. -/
def Obligations.TrainingCommandsComplete : Prop :=
  (∀ (s u : State) (l : Fin 24), s.live = true → s.powered (Reg.LNK_CTRL l) = true → s.rdb (Reg.LNK_CTRL_EN l) = false →
    u = ((s.drvWr (Reg.LNK_CTRL_EN l) 1).wr (Reg.LNK_TRAIN_INFO_CAUSE l) 1).wr (Reg.LNK_TRAIN_INFO_FAILS l) 0 →
    exec (.linkEnable l) s = .next ((u.setLk l { u.lk l with full := true, prevWidth := 0 }).setTraining l 1)) ∧
  (∀ (s u : State) (l : Fin 24), s.live = true → s.powered (Reg.LNK_CTRL l) = true →
    u = (s.drvWr (Reg.LNK_CTRL_EN l) 0).setLk l { s.lk l with
      ident := none, trainReq := none, pendTrain := none, pendReq := none, pendRsp := none, follow := none, rxDownUntil := none,
      s := { (s.lk l).s with replay := none }, l := { (s.lk l).l with replay := none } } →
    exec (.linkDisable l) s = .next (((u.setTraining l 0).wr (Reg.LNK_STATUS_RX_LOCK l) 0).discover l)) ∧
  (∀ (s : State) (l : Fin 24), s.live = true → s.powered (Reg.LNK_CTRL l) = true → s.isUp l = true →
    exec (.linkRetrain l) s = .next
      (s.setLk l { s.lk l with pendTrain := some (1 + s.rd (Reg.LNK_CTRL_MODE l)), reqCause := 2 })) ∧
  (∀ (s : State) (l : Fin 24), s.lstate l = 1 →
    exec (.signalDetect l) s = .next ((s.setLk l { s.lk l with trainAt := s.cyc }).setTraining l 2)) ∧
  (∀ (s : State) (l : Fin 24) (lock : BitVec 8) (symbols : List Nat) (bad : Nat), s.lstate l = 2 →
    bad = badLanes lock.toNat (s.rd (Reg.LNK_LANE_CFG_THRESH l)) symbols →
    (∀ i, i < 8 → (nbit bad i = true ↔ lock.getLsbD i = false ∨ s.rd (Reg.LNK_LANE_CFG_THRESH l) < symbols.getD i 0)) ∧
    exec (.equalizeDone l lock symbols) s = .next
      (((s.wr (Reg.LNK_STATUS_LANE_BAD l)
        (if (s.lk l).full then bad else bad ||| s.rd (Reg.LNK_STATUS_LANE_BAD l))).propose l).setTraining l 3)) ∧
  (∀ (s u : State) (l : Fin 24) (frame : BitVec 192) (p : PeerFields), s.lstate l = 3 → lcwOk frame.toNat = true →
    p = peerOf frame.toNat → min (s.lk l).propWidth p.width ≠ 0 →
    u = (s.setLk l { s.lk l with
          propGroup := (lowGroup (s.rd (Reg.LNK_STATUS_LANE_BAD l)) (max 1 (min (s.lk l).propWidth p.width))).getD 0,
          peer := { serial := p.serial, link := p.link, seat := p.seat, width := p.width, group := p.group,
                    expS := p.expS, expL := p.expL, fresh := p.fresh } }) →
    exec (.negotiateDone l frame) s = .next
      ((if p.fresh then (u.wrb (Reg.LNK_STATUS_ROLE l) (u.leads l p.serial p.link)).takeFresh l
        else u.wrb (Reg.LNK_STATUS_ROLE l) (u.leads l p.serial p.link)).setTraining l 4)) ∧
  (∀ (s u : State) (l : Fin 24) (group : Fin 8) (ms : List (BitVec 64)), s.lstate l = 4 →
    markersOk (min (s.lk l).propWidth (s.lk l).peer.width) (s.lk l).peer.link (ms.map BitVec.toNat) = true →
    u = s.setLk l { s.lk l with peer := { (s.lk l).peer with group := group },
                                laneOrder := ms.map fun m => nbits m.toNat 55 53 } →
    exec (.alignDone l group ms) s = .next ((u.setTraining l 5).wr (Reg.LNK_STATUS_RX_LOCK l) 1)) ∧
  (∀ (s : State) (l : Fin 24) (a b : Fin 4096), s.lstate l = 5 →
    ∃ u, u = (s.wr (Reg.LNK_SCHED_STATUS_FLIGHT l) (max a.val b.val)).setTraining l 6 ∧
      ∃ v, (v = u.wr (Reg.LNK_STATUS_WIDTH l) (min (s.lk l).propWidth (s.lk l).peer.width) ∧
        ∃ w t, w = (((v.wr (Reg.LNK_STATUS_RX_GROUP l)
            ((lowGroup (s.rd (Reg.LNK_STATUS_LANE_BAD l)) (min (s.lk l).propWidth (s.lk l).peer.width)).getD 0)).wr
            (Reg.LNK_STATUS_TX_GROUP l) (s.lk l).peer.group).wr (Reg.LNK_TRAIN_INFO_DURATION l)
              (min 0xFFFFFFFF (v.cyc - (s.lk l).trainAt))) ∧
          t = ((w.setLk l { w.lk l with
                  lost := false, fresh := false, mayWiden := false, identAt := none, identVar := none, ident := none,
                  prevWidth := min (s.lk l).propWidth (s.lk l).peer.width, full := true }).updFit l).discover l ∧
          exec (.measureDone l a b) s = .next
            ((if (s.lk l).fresh || (s.lk l).peer.fresh then t
              else (t.resumeClass l 0 (s.lk l).peer.expS).resumeClass l 1 (s.lk l).peer.expL).laneDegrade l (s.lk l).prevWidth
                (min (s.lk l).propWidth (s.lk l).peer.width)))) ∧
  (∀ (s : State) (l : Fin 24) (t : Nat), trainLimit (s.lstate l) (s.lk l).full = some t → (s.lk l).stateAt + t ≤ s.cyc →
    exec (.trainingTimeout l) s = .next
      (if (s.lk l).full then s.trainFailed l else (s.setLk l { s.lk l with full := true }).setTraining l 2)) ∧
  (∀ (s : State) (l : Fin 24), s.lstate l = 7 → (s.lk l).stateAt + 10000000 ≤ s.cyc →
    exec (.failedWaitEnd l) s = .next ((s.setLk l { s.lk l with full := true }).setTraining l 1))

/-- Links that leave UP (R145, R148, R150 to R152). -/
def Obligations.LinkLossCommandsComplete : Prop :=
  (∀ (s : State) (l : Fin 24), s.isUp l = true →
    exec (.rxLockLost l) s = .next ((s.wr (Reg.LNK_STATUS_RX_LOCK l) 0).dropLink l false 3 true)) ∧
  (∀ (s : State) (l : Fin 24), s.isUp l = true → exec (.trainingFrameRx l) s = .next (s.dropLink l false 4 true)) ∧
  (∀ (s u v : State) (l : Fin 24) (lane : Fin 8) (lost : Bool) (n : Nat), u = s.count (Reg.LNK_LANE_CORR_CNT l lane) n →
    u.isUp l = true → u.rd (Reg.LNK_STATUS_WIDTH l) = 8 → (lost = true ∨ u.rd (Reg.LNK_LANE_CFG_THRESH l) < n) →
    v = (u.wr (Reg.LNK_STATUS_LANE_BAD l) (u.rd (Reg.LNK_STATUS_LANE_BAD l) ||| 2 ^ lane.val)).propose l →
    exec (.laneError l lane lost n) s = .next
      (match v.freeSpare l with
       | some y => v.failover l y
       | none => v.setLk l { v.lk l with pendTrain := some 3, reqCause := 6 })) ∧
  (∀ (s : State) (l : Fin 24) (t : Nat), (s.lk l).lcwAt = some t → s.now ≤ t + 32 → s.isUp l = true → s.mute l = false →
    (s.ackLate l 0 = true ∨ s.ackLate l 1 = true) → exec (.memberAckTimeout l) s = .next (s.declare l)) ∧
  (∀ (s : State) (l : Fin 24) (t : Nat), (s.lk l).rxDownUntil = some t → t ≤ s.cyc →
    ∃ u, u = s.setLk l { s.lk l with rxDownUntil := none } ∧
      exec (.rxDownPeriodEnd l) s = .next (if u.isUp l then u.leaveUp l 2 true 8 else u))

/-- Loose packets and the routing tables (R155 to R160, R165, R169, R177, R182, R183). -/
def Obligations.LooseCommandsComplete : Prop :=
  (∀ (s : State) (vc : Fin 8) (a : Addr) (q : Fin 256) (src rtag : Fin 65536) (n : Fin 256) (hdr : BitVec 144) (data : Nat),
    exec (.looseInject vc a q src rtag n hdr data) s = .next (s.inject vc a q src rtag n hdr.toNat data)) ∧
  (∀ s : State, s.looseStitch s.stitch = true → s.route.latAt ≠ some s.stitch →
    exec .latticeAssign s = .next (s.retryWait.assignLattice s.stitch)) ∧
  (∀ (s u : State) (f : Flit) (rest : List Flit), s.route.busy = f :: rest →
    u = { s with route := { s.route with busy := rest } } → u.vcOn 3 = true →
    exec .busyInject s = .next
      (u.stamp { vc := 3, flit := { f with mitten := u.rd Reg.CUF_MITTEN_MITTEN }, replyN := 0,
                 rtag := rwRtag { f with mitten := u.rd Reg.CUF_MITTEN_MITTEN } })) ∧
  (∀ (s : State) (rtag : Fin 65536),
    exec (.reservationTimeout rtag) s = .next ({ s with route := { s.route with
      res := s.route.res.filter fun r => !(r.1 == rtag.val && r.2.2 + 500000 ≤ s.cyc) } }.retryWait)) ∧
  (∀ (s : State) (l : Fin 24), (s.lk l).oppUntil ≤ s.stitch →
    exec (.oppSuppressEnd l) s = .next (s.setLk l { s.lk l with oppUntil := 0 })) ∧
  (∀ (s : State) (r : Fin 4096) (v : Word), s.live = true → s.domOn 28 = true → s.run = false →
    exec (.rankTableWrite r v) s = .next ((s.setTab (0x2000000 + 8 * r.val) (fset v 62 12 0)).dropUpsets .rank 0 0 (r.val / 4))) ∧
  (∀ (s : State) (e : Fin 2) (m : Fin 4096) (v : Word), s.live = true → s.domOn 28 = true → s.rd Reg.RTE_EPOCH_INJECT ≠ e.val →
    s.routeFree = true → s.routeOk m v = true →
    (SMap.get (fun _ => 0) s.same.mgmt (2 ^ 40 + 0x2010000 + 0x8000 * e.val + 8 * m.val) = 0 →
      exec (.routeTableWrite e m v) s = .next
        ((s.setTab (0x2010000 + 0x8000 * e.val + 8 * m.val) (fset v 52 0 0)).dropUpsets .route e.val 0 (m.val / 4))) ∧
    (SMap.get (fun _ => 0) s.same.mgmt (2 ^ 40 + 0x2010000 + 0x8000 * e.val + 8 * m.val) ≠ 0 →
      exec (.routeTableWrite e m v) s = .next s)) ∧
  (∀ s : State, s.live = true → s.powered Reg.RTE_EPOCH = true → s.rd Reg.CRN_STATUS_STATE ≠ 0 → s.routeFree = true →
    s.now + 1024 ≤ s.rd Reg.RTE_EPOCH_TICK_TICK → exec .epochArm s = .next (s.wr Reg.RTE_EPOCH_ARMED 1)) ∧
  (∀ s : State, s.rdb Reg.RTE_EPOCH_ARMED = true → s.now = s.rd Reg.RTE_EPOCH_TICK_TICK → s.seamClear = true →
    exec .epochSwitch s = .next
      (((s.wr Reg.RTE_EPOCH_INJECT (1 - s.rd Reg.RTE_EPOCH_INJECT)).wr Reg.RTE_LAST_SWITCH_TICK
        (s.rd Reg.RTE_EPOCH_TICK_TICK)).wr Reg.RTE_EPOCH_ARMED 0))

/-- The Palm's operations (R208 to R210, R247): when the descriptor at the queue head is the row's operation, passes every check and
its waits are over, the operation launches and is in progress. -/
def Obligations.OperationCommandsLaunch : Prop :=
  ∀ p ∈ palmCommands, ∀ (s : State) (d : Desc) (rest : List Desc) (t : Nat),
    s.rdb Reg.CRN_STATUS_RUNNING = true → s.rdb Reg.PLM_STATUS_HALTED = false → s.rdb Reg.PLM_STATUS_RUNNING = false →
    s.seamClear = true → s.epochDue = false → s.ldr ≠ 10 → d.lost = false →
    s.palm.queue = d :: rest → d.field = 0 → d.op.opcode = p.2 → d.tick = some t → t ≤ s.now → s.stagedOk d.op = true →
    s.tokenSum d.op ≤ s.rd Reg.PLM_BUDGET_GRADE → s.classFail d.op = none → s.launchBounds d.op = none →
    s.tokenSum d.op ≤ s.rd Reg.PLM_BUDGET_EFFECTIVE →
    exec p.1 s = .next (s.launch d rest t (s.tokenSum d.op))

/-- What each operation makes of its inputs once they are there (R250, R256 to R272): the meaning of its OPCODE, after a
receive-queue operand has filled A. -/
def Obligations.OperationResultsByOpcode : Prop :=
  (∀ (s : State) (d : Desc), s.palmDrain.palm.running = some d → s.palmDrain.palm.effect = false →
    (∀ w ∈ s.palmDrain.palm.want, w.2.2 = 0) →
    s.palmTry = { s.palmDrain.opData d.op with
      palm := { (s.palmDrain.opData d.op).palm with effect := true, want := [], inbox := [] } }) ∧
  (∀ (s : State) (o : Op),
    (o.opcode = 0x01 → s.opData o = (s.fillA o).opMatmul o) ∧ (o.opcode = 0x02 → s.opData o = (s.fillA o).opMatmul o) ∧
    (o.opcode = 0x03 → s.opData o = (s.fillA o).opConv o) ∧ (o.opcode = 0x04 → s.opData o = (s.fillA o).opAttend o) ∧
    (o.opcode = 0x05 → s.opData o = (s.fillA o).opSoftmax o) ∧ (o.opcode = 0x06 → s.opData o = (s.fillA o).opNorm o) ∧
    (o.opcode = 0x07 → s.opData o = (s.fillA o).opElement o) ∧ (o.opcode = 0x08 → s.opData o = (s.fillA o).opReduce o) ∧
    (o.opcode = 0x09 → s.opData o = (s.fillA o).opTranspose o) ∧ (o.opcode = 0x0A → s.opData o = (s.fillA o).opGather o) ∧
    (o.opcode = 0x0B → s.opData o = (s.fillA o).opScatter o) ∧ (o.opcode = 0x0C → s.opData o = (s.fillA o).opTopk o) ∧
    (o.opcode = 0x0D → s.opData o = (s.fillA o).opDispatch o) ∧ (o.opcode = 0x0E → s.opData o = (s.fillA o).opCombine o) ∧
    (o.opcode = 0x0F → s.opData o = (s.fillA o).opConvert o) ∧ (o.opcode = 0x10 → s.opData o = (s.fillA o).opCopy o) ∧
    (o.opcode = 0x11 → s.opData o = s.fillA o))

/-- The Palm controller's other commands (R205, R207, R210, R217, R219, R246, R310). -/
def Obligations.PalmControlCommandsComplete : Prop :=
  (∀ (s : State) (w : Nat) (r : State × List RWord), s.cuff.started = true → s.ldr = 8 → s.palm.queue.length < 8 →
    s.palm.nextFetch < s.fetchEnd → w = s.placeOf 0x11 / 32 + s.palm.nextFetch → s.stackUp (w / stackWords) = true →
    r = s.hbmReadN 13 w 1 →
    (r.2.headD none = none → exec .descriptorFetch s = .next (r.1.enqueue none none)) ∧
    (∀ bits aw : Nat, r.2.headD none = some bits → aw = s.placeOf 0x12 / 32 + nbits bits 68 45 →
      (nbits bits 223 219 = 0x11 ∨ s.lengthOf 0x12 / 32 ≤ nbits bits 68 45 →
        exec .descriptorFetch s = .next (r.1.enqueue (some bits) none)) ∧
      (nbits bits 223 219 ≠ 0x11 → nbits bits 68 45 < s.lengthOf 0x12 / 32 → s.stackUp (aw / stackWords) = true →
        exec .descriptorFetch s = .next
          ((r.1.hbmReadN 13 aw 1).1.enqueue (some bits) (some ((r.1.hbmReadN 13 aw 1).2.headD none)))) ∧
      (nbits bits 223 219 ≠ 0x11 → nbits bits 68 45 < s.lengthOf 0x12 / 32 → s.stackUp (aw / stackWords) = false →
        exec .descriptorFetch s = .next (r.1.stackLost aw)))) ∧
  (∀ (s : State) (w : Nat), s.cuff.started = true → s.ldr = 8 → s.palm.queue.length < 8 → s.palm.nextFetch < s.fetchEnd →
    w = s.placeOf 0x11 / 32 + s.palm.nextFetch → s.stackUp (w / stackWords) = false →
    exec .descriptorFetch s = .next (s.stackLost w)) ∧
  (∀ (s u : State) (d : Desc) (rest : List Desc) (r : State × SMap (List RWord)), s.palm.queue = d :: rest →
    s.palm.staging = some d.op.opx → r = s.hbmExtentsRead d.op →
    u = (r.1.forEach d.op.tiles fun x t => x.sramWriteN t d.op.stg (SMap.get (fun _ => []) r.2 (d.op.hbmStart t))) →
    exec .stagingDone s = .next { u.wr Reg.PLM_STATUS_STAGING 0 with
      palm := { u.palm with staging := none, staged := some d.op.opx,
                            stagedBad := d.op.tiles.any fun t => !s.stacksUp (d.op.hbmStart t) d.op.hbmLen } }) ∧
  (∀ (s u : State) (d : Desc), u = s.palmTry.spillSend s.palmTry.palm.spill → u.palm.running = some d → u.opFinished d = true →
    exec .opComplete s = .next { ((u.wr Reg.PLM_OP_INDEX_DONE d.op.opx).wr Reg.PLM_STATUS_RUNNING 0).crossEnd with
      palm := { u.palm with running := none, effect := false } }) ∧
  (∀ s : State, s.live = true → s.powered Reg.PLM_CTRL = true → exec .palmStop s = .next s.palmHalt) ∧
  (∀ s : State, s.live = true → s.powered Reg.PLM_CTRL = true → s.run = false → s.rdb Reg.PLM_STATUS_LINER_BUSY = false →
    s.linerMappable = true →
    exec .linerLoad s = .next
      { s.wr Reg.PLM_STATUS_LINER_BUSY 1 with palm := { s.palm with linerUntil := some (s.cyc + 2048) } }) ∧
  (∀ (s u v : State) (x : Nat), s.palm.linerUntil = some x → x ≤ s.cyc →
    u = (if s.palm.linerForce then s.wr Reg.PLM_STATUS_LINER_BUSY 0
         else (s.wr Reg.PLM_STATUS_LINER_BUSY 0).copyLiner.wr Reg.PLM_STATUS_LINER_OK 1) →
    v = { u with palm := { u.palm with linerUntil := none, linerForce := false }, boot := { u.boot with reset := none } } →
    exec .linerLoadDone s = .next ((if v.ldr = 6 then v.wr Reg.LDR_STATUS_STATE 5 else v).endPhase 6)) ∧
  (∀ (s : State) (t : Fin 4096) (c : Fin 3), s.fenced (s.physOf t) = false →
    (c.val = 2 → (∃ w ∈ s.mem.sramDefect, w / 12288 = s.physOf t) → exec (.tileWatchdog t c) s = .next (s.tileFail t 3)) ∧
    (c.val ≠ 2 → ∀ d : Desc, s.palm.running = some d → d.op.tiles.contains t.val = true →
      exec (.tileWatchdog t c) s = .next (s.tileFail t (c.val + 1))))

/-- HBM (R281, R282, R285, R288, R289, R292): corrected words are written back, the scrub reads, refresh follows the temperature,
retrains are asked for, end or fail, and the caps are written. -/
def Obligations.HbmCommandsComplete : Prop :=
  (∀ (s u v : State) (w i : Nat) (st : List Byte), w ∈ s.mem.writeBack → s.stackUp (w / stackWords) = true →
    u = s.capUse (w / stackWords) 1 (burstWords w 1) →
    v = { u with mem := { u.mem with writeBack := u.mem.writeBack.filter (· != w) } } → decodeWord (v.hbmStored w) = .corrected i st →
    exec (.hbmWriteBack w) s = .next (v.hbmStore w st)) ∧
  (∀ (s u v x : State) (k : Fin 8) (up : List (Nat × BitVec 8)) (de : List Nat) (st : List Upset),
    u = (s.upset k up de).forEach st State.storeUpset →
    u.rdb (Reg.HBM_CTRL_SCRUB_EN k) = true → u.stackUp k = true → u.scrubDue k = true →
    v = { u with mem := { u.mem with scrubAt := SMap.set (fun _ => 0) u.mem.scrubAt k (u.cyc + 1) } } →
    x = (v.forEach (List.range 256) fun x i =>
      (x.hbmRead (stackWords * k.val + (8 * u.rd (Reg.HBM_SCRUB_POSITION k) + i) % stackWords) 1).1) →
    ∃ t, exec (.scrubBurst k up de st) s = .next t ∧
      t = (if stackBursts ≤ u.rd (Reg.HBM_SCRUB_POSITION k) + 32
           then (x.wr (Reg.HBM_SCRUB_POSITION k) ((u.rd (Reg.HBM_SCRUB_POSITION k) + 32) % stackBursts)).count
             (Reg.HBM_SCRUB_PASS_CNT k) 1
           else x.wr (Reg.HBM_SCRUB_POSITION k) ((u.rd (Reg.HBM_SCRUB_POSITION k) + 32) % stackBursts))) ∧
  (∀ (s : State) (k : Fin 8) (c : Fin 32), s.stackUp k = true →
    exec (.refresh k c) s = .next
      (s.wr (Reg.HBM_STATUS_REFRESH_2X k) (if 85 ≤ toSigned 8 (s.rd (Reg.HBM_STATUS_TEMP k)) then 1 else 0))) ∧
  (∀ (s : State) (k : Fin 8) (c : Fin 32), s.stackUp k = true →
    exec (.periodicTraining k c true) s = .next (s.retrainDue k 0) ∧ exec (.periodicTraining k c false) s = .next s) ∧
  (∀ (s : State) (k : Fin 8) (full seam scrub : Bool), s.live = true → s.powered (Reg.HBM_CTRL k) = true →
    exec (.hbmRetrainRequest k full seam scrub) s = .next (s.hbmCtrl k full seam scrub true)) ∧
  (∀ (s : State) (k : Fin 8) (kind t : Nat), SMap.get (fun _ => (0, 0)) s.mem.retrain k = (kind, t) →
    s.rd (Reg.HBM_STATUS_STATE k) = 2 → s.cyc ≤ t + retrainLimit (kind - 1) →
    ∃ u, exec (.hbmRetrainDone k) s = .next u ∧ u.rd (Reg.HBM_STATUS_STATE k) = 1 ∧
      (s.rd (Reg.HBM_STATUS_DUE_KIND k) ≤ kind - 1 → u.rd (Reg.HBM_STATUS_RETRAIN_DUE k) = 0) ∧
      (∀ a, a ≠ Reg.HBM_STATUS k → u.reg a = s.reg a)) ∧
  (∀ (s : State) (k : Fin 8), s.rd (Reg.HBM_STATUS_STATE k) = 2 →
    exec (.hbmRetrainTimeout k) s = .next
      ({ s.wr (Reg.HBM_STATUS_STATE k) 3 with
          mem := { s.mem with retrain := SMap.set (fun _ => (0, 0)) s.mem.retrain k (0, 0) } }.eccFault (0x900 + k.val)
        { code := 0x0305, block := 10, cause := 9, sub := 3, a := 1, stack := k })) ∧
  (∀ (s : State) (k : Fin 8) (other bonnet : Fin 256), s.live = true → s.powered (Reg.HBM_CAP k) = true → s.run = false →
    exec (.hbmCapWrite k other bonnet) s = .next
      (if bonnet.val + other.val ≤ 40 then (s.wr (Reg.HBM_CAP_OTHER k) other).wr (Reg.HBM_CAP_BONNET k) bonnet
       else s.flag (Reg.HBM_STATUS_CFG_ERR k)))

/-- The load states (R310, R311, R314, R317, R367): OPEN, CLOSE, VERIFY, the checks, ADMIT, ARM, CONVERT, REFUSE and the start. -/
def Obligations.LoadCommandsComplete : Prop :=
  (∀ (s u : State), s.ldr = 0 → s.run = false →
    u = ((((s.clearLoad.wr Reg.LDR_SEG_VALID 0).wr Reg.LDR_STATUS_STATE 1).setReg Reg.LDR_REFUSE0 0).setReg Reg.LDR_REFUSE1 0).setReg
      Reg.LDR_REFUSE2 0 →
    exec .loadOpen s = .next ({ u with ldrs := { u.ldrs with refused := false } }.showLoad)) ∧
  (∀ s : State, s.run = false → s.ldr ≠ 8 → s.ldr ≠ 9 → s.ldr ≠ 10 →
    exec .loadClose s = .next (s.clearLoad.wr Reg.LDR_STATUS_STATE 0)) ∧
  (∀ s : State, s.ldr = 3 → exec .loadVerify s = .next (s.wr Reg.LDR_STATUS_STATE 4)) ∧
  (∀ s u : State, s.ldr = 4 → u = s.forEach s.imgSections State.readSection →
    exec .loadVerifyDone s = .next
      (match s.imageChecks with
       | none => u.wr Reg.LDR_STATUS_STATE 5
       | some r => u.refuseImage r)) ∧
  (∀ s : State, s.ldr = 5 → s.run = false → s.imgKind ≠ 1 →
    exec .admitLoad s = .next (s.wr Reg.LDR_STATUS_STATE 6).readDecl) ∧
  (∀ (s u : State) (j : Nat), j = s.rd Reg.LDR_START_SEG_SEGMENT → s.ldr = 6 → s.rdb Reg.CRN_STATUS_RUNNING = true →
    s.rd Reg.LDR_START_TICK_TICK % 64 = 0 →
    s.now + (1024 + (if s.rdb Reg.CUF_CTRL_FILL_AUTO then 9 * segN (s.segEntry j) / 4 else 0)) ≤ s.rd Reg.LDR_START_TICK_TICK →
    s.run = true → s.rdb Reg.PLM_STATUS_LINER_OK = true → 1 ≤ j → j ≤ s.segments →
    (j = 1 ∨ segResume (s.segEntry j) = true) → (s.rdb Reg.CUF_CTRL_FILL_AUTO = true ∨ s.rdb Reg.CUF_STATUS_ARMED = true) →
    u = ({ s.wr Reg.LDR_STATUS_STATE 7 with ldrs := { s.ldrs with startSeg := j } }.fetchSeg j).fetchSeg (j + 1) →
    exec .imageArm s = .next
      (if s.rdb Reg.CUF_CTRL_FILL_AUTO then (u.wr Reg.CUF_STATUS_ARMED 0).startFill j else u)) ∧
  (∀ (s u : State) (d : Bool) (t : Nat), u = s.wrb Reg.LDR_CTRL_DOMAIN d → u.ldr ≠ 7 → u.ldr ≠ 8 →
    u.domLocked (if d then 1 else 0) = true → u.rdb Reg.CRN_STATUS_RUNNING = true →
    u.toCrown (if d then 1 else 0) (65536 * u.rd Reg.LDR_START_PTP_TIME) = some t →
    exec (.convertStartTime d) s = .next (u.wr Reg.LDR_START_TICK_TICK (ceil64 t))) ∧
  (∀ (s : State) (obj x : Nat), 3 ≤ s.ldr → s.ldr ≤ 7 → obj = s.rd Reg.LDR_REFUSE0_OBJ → x = s.rd Reg.LDR_REFUSE1_INDEX →
    exec .refuse s = .next ({ s.wr Reg.LDR_STATUS_STATE 11 with ldrs := { s.ldrs with refused := true } }.fault
      { code := 0x0701, block := 13, cause := s.rd Reg.LDR_REFUSE0_REASON, sub := s.rd Reg.LDR_REFUSE0_SUB,
        a := 2 ^ 12 * obj + s.rd Reg.LDR_REFUSE0_MODULE, b := x, c := (s.reg Reg.LDR_REFUSE2).toNat,
        link := if obj = 1 then x % 256 else 0xFF, stack := if obj = 3 then x % 256 else 0xFF,
        region := if obj = 6 then x % 256 else 0xFF, op := if obj = 2 then x else 0xFFFFFFFF })) ∧
  (∀ (s : State) (fetched : Bool), s.ldr = 7 → s.now = s.rd Reg.LDR_START_TICK_TICK → s.startLocked = true →
    s.flt.alarmPend = false → exec (.imageStart fetched) s = .next (s.startImage s.ldrs.startSeg fetched)) ∧
  (∀ (s : State) (fetched : Bool), s.ldr = 7 → s.now = s.rd Reg.LDR_START_TICK_TICK → s.startLocked = true →
    s.flt.alarmPend = true → exec (.imageStart fetched) s = .next (s.wr Reg.LDR_STATUS_STATE 8).endScheduled)

/-- Chunks, the broadcast and firmware (R320 to R325, R386). -/
def Obligations.ChunkCommandsComplete : Prop :=
  (∀ (s u : State) (l : Nat) (f : Flit), s.niTake 6 (fun _ => true) = some (u, l, f) →
    exec .chunkPart s = .next (u.takePart f).ldrPump) ∧
  (∀ (s : State) (c : Fin 16777216) (crc : BitVec 32), s.ldr = 1 →
    exec (.chunkSubmit c crc) s = .next (s.takeChunk c s.chunkWindow crc.toNat)) ∧
  (∀ (s u : State), s.isSource = true → 3 ≤ s.ldr → s.ldr ≠ 11 → s.rdb Reg.LDR_BCAST_STATUS_BUSY = false →
    s.loadComplete = true →
    u = (((s.wr Reg.LDR_BCAST_STATUS_BUSY 1).wr Reg.LDR_BCAST_STATUS_DONE 0).wr Reg.LDR_BCAST_STATUS_ROUND 0).wr
      Reg.LDR_BCAST_STATUS_REPORTS 0 →
    exec .bcast s = .next (u.sendAll 0).settle.ldrPump) ∧
  (∀ (s u : State), s.ldrs.phase = 2 → s.ldrs.phaseEnd ≤ s.cyc →
    u = (s.ldrSendTo s.children 1 (1 * 2 ^ 136 + 2 ^ 104 * (s.rd Reg.LDR_IMAGE_ID_ID % 2 ^ 32)
      + 2 ^ 100 * s.rd Reg.LDR_BCAST_STATUS_ROUND) 0).wr Reg.LDR_BCAST_STATUS_REPORTS 0 →
    exec .bcastSettleEnd s = .next ({ u with ldrs := { u.ldrs with
      phase := 3, phaseEnd := u.cyc + u.rd Reg.LDR_BCAST_TIME_REPORT_WAIT, reports := [] } }.ldrPump)) ∧
  (∀ s : State, s.ldrs.phase = 3 → s.ldrs.phaseEnd ≤ s.cyc →
    s.rd Reg.LDR_BCAST_CFG_EXPECT ≤ (s.ldrs.reports.filter fun x => x.2.2).length →
    (s.ldrs.reports.filter fun x => !x.2.1.isEmpty) = [] → exec .reportWaitEnd s = .next s.bcastDone) ∧
  (∀ s : State, s.ldrs.phase = 3 → s.ldrs.phaseEnd ≤ s.cyc → s.rd Reg.LDR_BCAST_STATUS_ROUND < 8 →
    (s.ldrs.reports.filter fun x => x.2.2).length < s.rd Reg.LDR_BCAST_CFG_EXPECT →
    exec .reportWaitEnd s = .next
      (((s.wr Reg.LDR_BCAST_STATUS_ROUND (s.rd Reg.LDR_BCAST_STATUS_ROUND + 1)).sendAll
        (s.rd Reg.LDR_BCAST_STATUS_ROUND + 1)).count Reg.LDR_REPAIR_TX_CNT
          (s.wr Reg.LDR_BCAST_STATUS_ROUND (s.rd Reg.LDR_BCAST_STATUS_ROUND + 1)).imgChunks).settle.ldrPump) ∧
  (∀ (s u v : State) (l : Nat) (f : Flit), s.niTake 1 (isLdrMsg 1) = some (u, l, f) →
    v = u.ldrSendTo u.children 1 (rwHdr f) 0 → nbits (rwHdr f) 135 104 = v.rd Reg.LDR_IMAGE_ID_ID % 2 ^ 32 → v.ldr = 3 →
    v.rd Reg.LDR_STATUS_ROUND ≤ nbits (rwHdr f) 103 100 →
    ∃ w, w = (v.seeRound (nbits (rwHdr f) 103 100)).sendReport (nbits (rwHdr f) 103 100)
        v.reportRanges ∧
      (w.ldr ≠ 1 → exec .roundEnd s = .next w.ldrPump)) ∧
  (∀ (s u : State) (l : Nat) (f : Flit) (rs : List (Nat × List (Nat × Nat) × Bool)), s.niTake 1 (isLdrMsg 2) = some (u, l, f) →
    u.ldrs.phase = 3 → nbits (rwHdr f) 135 104 = u.rd Reg.LDR_IMAGE_ID_ID % 2 ^ 32 →
    nbits (rwHdr f) 103 100 = u.rd Reg.LDR_BCAST_STATUS_ROUND → u.ldrs.reports = [] →
    rs = [(rwSrc f, dataRanges (rwData f), nbit (rwHdr f) 99)] →
    exec .report s = .next ({ u with ldrs := { u.ldrs with reports := rs } }.wr Reg.LDR_BCAST_STATUS_REPORTS
      (if nbit (rwHdr f) 99 then 1 else 0))) ∧
  (∀ (s u v : State), s.ldr = 5 → s.imgKind = 1 → s.rdb Reg.LDR_FW_STATUS_BUSY = false →
    u = (s.wr Reg.LDR_FW_STATUS_BUSY 1).wr Reg.LDR_FW_STATUS_REPAIRS 0 →
    v = { u with ldrs := { u.ldrs with fw := u.ldrs.fw.filter fun e => nbit e.2 256, fwNext := some 0, fwLast := u.cyc } } →
    exec .fwStart s = .next (if v.fwSections.isEmpty || v.fwLacking.isEmpty then v.fwCollect else v.showWaits)) ∧
  (∀ (s u v : State) (lost : List Nat) (i c : Nat) (rs : List Nat), s.ldrs.fwNext = some i → s.ldrs.fwLast + 256 ≤ s.cyc →
    s.fwItem i = some (rs, c) → u = s.forEach (rs.filter fun r => !lost.contains r) (fun x r => x.fwTake r c) →
    v = { u with ldrs := { u.ldrs with fwNext := some (i + 1), fwLast := u.cyc } } →
    exec (.fwChunkSend lost) s = .next (if (v.fwItem (i + 1)).isNone then v.fwCollect else v)) ∧
  (∀ (s u v : State) (lost : List (Nat × Nat)) (n : Nat), n = s.rd Reg.LDR_FW_STATUS_REPAIRS → s.ldr = 5 → s.imgKind = 1 →
    s.rdb Reg.LDR_FW_STATUS_BUSY = false → n < 8 →
    u = s.forEach s.fwLacking (fun x r =>
      x.forEach ((List.range (x.fwChunks r)).filter fun i => !lost.contains (r, i)) fun x i => x.fwTake r i) →
    v = (u.wr Reg.LDR_FW_STATUS_REPAIRS (n + 1)).fwCollect →
    exec (.fwRepair lost) s = .next (if n + 1 = 8 ∧ v.fwLacking ≠ [] then v.fwGiveUp else v))

/-- Frames and datagrams (R328, R329, R333, R336, R339 to R341, R346, R349, R352): each arrival the port hears is checked, and what
passes reaches the unit it is for. -/
def Obligations.DatagramCommandsComplete : Prop :=
  (∀ (s t : State) (f : EthFrame), s.hears f = true → s.checkFrame f = .dropped t → exec (.frameDropped f) s = .next t) ∧
  (∀ (s t : State) (f : EthFrame) (d : Dgram), s.hears f = true → s.checkFrame f = .dgram t d →
    (t.takes d = false → exec (.frameDropped f) s = .next t.stranger) ∧
    (t.takes d = true → t.sentOn d = true → exec (.frameDropped f) s = .next (t.forwardDgram d))) ∧
  (∀ (s t : State) (f : EthFrame), s.hears f = true → s.checkFrame f = .neighbour t →
    exec (.arpNdRequest f) s = .next (t.answer f.port.val)) ∧
  (∀ (s t : State) (f : EthFrame) (d : Dgram), s.hears f = true → s.checkFrame f = .dgram t d →
    seHome (t.session d.sess) = t.rd Reg.RTE_SELF_ID → t.takes d = true →
    (d.typ = 1 → exec (.request f) s = .next (t.takeRequest d)) ∧
    (d.typ = 6 → exec (.cancel f) s = .next (t.takeCancel d)) ∧
    (d.typ = 5 → exec (.resend f) s = .next (t.takeResend d)) ∧
    (d.typ = 8 → exec (.bulkAck f) s = .next (t.takeBulkAck d))) ∧
  (∀ (s t : State) (f : EthFrame) (d : Dgram), s.hears f = true → s.checkFrame f = .dgram t d →
    seHome (t.session d.sess) ≠ t.rd Reg.RTE_SELF_ID →
    (d.typ = 1 → exec (.request f) s = .next (t.forwardDgram d)) ∧
    (d.typ = 6 → exec (.cancel f) s = .next (t.forwardDgram d)) ∧
    (d.typ = 5 → exec (.resend f) s = .next (t.forwardDgram d)) ∧
    (d.typ = 8 → exec (.bulkAck f) s = .next (t.forwardDgram d))) ∧
  (∀ (s u : State) (i : Fin 4096) (x : List Byte) (d : Dgram) (num : Nat → Nat → Nat), s.bonUp = true → s.takeForwarded x = (u, true) →
    num = (fun o n => ofBeBytes ((x.drop o).take n)) →
    d = { sess := i.val, typ := num 1 1, flags := num 2 2, id := num 20 4, a := num 24 4, b := num 28 4, ofs := num 32 4,
          data := x.drop 40, nonce := num 8 12 } →
    seState (u.session i) = 1 → seId (u.session i) = num 4 4 → seHome (u.session i) = u.rd Reg.RTE_SELF_ID →
    u.rdb Reg.BON_CTRL_SVC_EN = true → u.takes d = true →
    exec (.forwardedDatagram i x) s = .next
      (if d.typ = 1 then u.takeRequest d else if d.typ = 5 then u.takeResend d else if d.typ = 6 then u.takeCancel d
       else u.takeBulkAck d)) ∧
  (∀ (s : State) (slot : Fin 256) (r : Req), s.reqAt slot = some r → r.complete = false →
    r.timer + s.rd Reg.BON_INTAKE_CFG_ASM_TIMEOUT ≤ s.cyc → s.closeDue = false → s.bonUp = true →
    exec (.asmTimeout slot) s = .next (((s.dropReq r).count Reg.BON_ASM_TIMEOUT_CNT 1).nak 1 r.sess r.id 5))

/-- Token windows (R338, R342 to R347): a window closes with its record, the record is written and mirrored, the deadline is
checked, and the output record is read. -/
def Obligations.WindowCommandsComplete : Prop :=
  (∀ (s u v x : State) (w : Nat) (sts : List Nat), s.windowAt 0 = some w → s.bon.nextWin ≤ w →
    u = { (s.wr Reg.BON_WINDOW_INDEX w).wr Reg.BON_WINDOW_DONE 0 with bon := { s.bon with nextWin := w + 1 } } →
    u.role 0 = true → sts = (List.range (u.svc 0x02 2)).map (fun i => slotState u.cyc (u.reqAt i)) →
    v = (u.wr Reg.BON_WINDOW_ACTIVE (sts.filter fun y => 2 ≤ y && y ≤ 4).length).wr Reg.BON_WINDOW_VOID
      (sts.length - (sts.filter fun y => 2 ≤ y && y ≤ 4).length) →
    x = v.count Reg.BON_VOID_SLOT_CNT (sts.length - (sts.filter fun y => 2 ≤ y && y ≤ 4).length) →
    exec .windowClose s = .next { x with bon := { x.bon with
      record := some (x.windowRecord w), reqs := x.bon.reqs.map x.afterWindow } }) ∧
  (∀ (s u : State) (rec : List Byte) (a : Nat) (gone : List Req), s.bon.record = some rec → s.bonUp = true →
    a = bufferAt (s.svc 0x30 8) s.recordBytes (s.bon.nextWin - 1) → s.rangeUp a s.recordBytes = true →
    gone = s.bon.reqs.filter (fun r => (rec.getD (64 + 64 * r.slot) 0).toNat == 5) →
    u = { s.hbmWriteCap 0 (a / 32) (byteWords rec) with bon := { s.bon with record := none } } →
    exec .windowRecordDone s = .next ((u.forEach gone State.dropReq).wr Reg.BON_WINDOW_DONE 1)) ∧
  (∀ (s u v : State) (w : Nat) (r : State × List RWord), s.windowAt (s.svc 0x18 4) = some w → s.bon.nextMirror ≤ w →
    s.role 1 = true → r = s.hbmReadN 14 (bufferAt (s.svc 0x30 8) s.recordBytes w / 32) (s.recordBytes / 32) →
    u = { r.1 with bon := { r.1.bon with nextMirror := w + 1 } } →
    v = (if u.role 0 then u else u.forEach (List.range (u.svc 0x02 2)) fun x i => x.mirrorPages r.2 i) →
    exec .mirrorRead s = .next
      (if v.role 1 then v.forEach (List.range (u.svc 0x02 2)) fun x i => x.mirrorSlot r.2 i else v)) ∧
  (∀ (s u : State) (d first w : Nat), d = s.ldrs.decl → first = s.ldrs.start + field d 0x08 8 + field d 0x10 4 →
    w = (s.now - first) / field d 0x04 4 → s.ldrs.declared = true → nbit (field d 0 1) 0 = true → s.ldr = 8 →
    field d 0x04 4 ≠ 0 → s.now = first + w * field d 0x04 4 → s.ldrs.nextCheck ≤ w →
    u = { s with ldrs := { s.ldrs with nextCheck := w + 1 } } →
    exec .recordDeadlineCheck s = .next
      (if u.rdb Reg.BON_WINDOW_DONE then u
       else u.refuseAt { reason := 21, sub := 1, index := w, value := w } (u.rd Reg.CUF_SEAM_SEGMENT + 1))) ∧
  (∀ (s u v : State) (w a : Nat) (r : State × List RWord) (ws : List RWord), s.windowAt (s.svc 0x1C 4) = some w →
    s.bon.nextOut ≤ w → s.role 1 = true → a = bufferAt (s.svc 0x38 8) s.outBytes w →
    r = s.hbmReadN 14 (a / 32) ((a % 32 + s.outBytes + 31) / 32) →
    ws = (if a % 32 = 0 then r.2 else byteWords ((r.2.flatMap fun x => bytesOf x).drop (a % 32))) →
    u = { r.1 with bon := { r.1.bon with
      nextOut := w + 1, kept := r.1.bon.kept.filter (fun t => decide (w < t.win + s.svc 0x2C 2)),
      waiting := r.1.bon.waiting.filter (fun t => decide (w < t.win + s.svc 0x2C 2)) } } →
    v = (if u.role 1 then u.forEach (List.range (u.svc 0x02 2)) fun x i => x.slotOutput w ws i else u) →
    exec .tokenOutput s = .next
      (if v.role 0 then v.forEach (List.range (u.svc 0x02 2)) fun x i => x.slotEnd ws i else v))

/-- Sessions, bulk transfers and ports (R331, R334, R335, R345, R346, R349, R352). -/
def Obligations.SessionCommandsComplete : Prop :=
  (∀ (s : State) (i : Fin 4096) (w : Fin 8) (v : Word), s.live = true → s.domOn 29 = true → s.sessOpen i = false →
    exec (.sessionTableWrite i w v) s = .next (s.setTab (0x4000000 + 64 * i.val + 8 * w.val)
      (sessionWrite (s.tab (0x4000000 + 64 * i.val + 8 * w.val)) v w))) ∧
  (∀ (s u v : State) (i : Fin 4096), s.live = true → s.powered Reg.BON_SESS_CMD = true → u = s.wr Reg.BON_SESS_CMD_INDEX i →
    u.bonUp = true → u.sessOpen i = false → u.openResult (u.session i) = 1 →
    v = (u.clearKeys.wr Reg.BON_SESS_CMD_RESULT 1).setSession i (nset (nset (nset (u.session i) 511 510 1) 261 198 0) 197 134 1) →
    exec (.sessionOpen i) s = .next { v with bon := { v.bon with
      keys := SMap.set (fun _ => 0) v.bon.keys i u.keyRegs, bitmap := SMap.set (fun _ => 0) v.bon.bitmap i 0,
      startedId := SMap.set (fun _ => 0) v.bon.startedId i 0, sessLim := SMap.set (fun _ => (0, 0)) v.bon.sessLim i (0, 0) } }) ∧
  (∀ (s u : State) (i : Fin 4096), s.live = true → s.powered Reg.BON_SESS_CMD = true → u = s.wr Reg.BON_SESS_CMD_INDEX i →
    u.sessOpen i = true → exec (.sessionClose i) s = .next ((u.closeSession i).wr Reg.BON_SESS_CMD_RESULT 1)) ∧
  (∀ (s u v w : State) (i : Fin 4096) (rate : Fin 65536), s.live = true → s.powered Reg.BON_BULK_CTRL = true →
    u = (s.wr Reg.BON_BULK_CTRL_RATE rate.val).wr Reg.BON_BULK_CTRL_SESSION i.val → u.bulkRuns = false →
    v = ((u.wr Reg.BON_BULK_STATUS_STATE 1).wr Reg.BON_BULK_STATUS_CAUSE 0).wr Reg.BON_BULK_STATUS_ACKED 0 →
    w = { v with bon := { v.bon with bulk :=
      { num := v.bon.bulk.num + 1, sess := i, next := 0, since := v.cyc, tries := 0, due := v.cyc } } } →
    seState (u.session i) = 1 → seKind (u.session i) = 1 → w.bulkLen ≠ 0 →
    exec (.bulkStart i rate) s = .next w.bulkGo) ∧
  (∀ s : State, s.live = true → s.powered Reg.BON_BULK_CTRL = true → s.bulkRuns = true →
    exec .bulkAbort s = .next (s.bulkEnd 3)) ∧
  (∀ s : State, s.bulkRuns = true → s.bon.bulk.since + 1000000 ≤ s.cyc →
    exec .bulkTimeout s = .next
      (if 8 ≤ s.bon.bulk.tries then s.bulkEnd 1
       else { s with bon := { s.bon with bulk := { s.bon.bulk with
         next := s.rd Reg.BON_BULK_STATUS_ACKED, since := s.cyc, tries := s.bon.bulk.tries + 1, due := s.cyc } } }.bulkGo)) ∧
  (∀ (s u v : State) (p : Fin 2) (mine : List Tok), s.domOn 29 = true → nbit (s.rd Reg.BON_CTRL_PORT_EN) p = true →
    u = s.setBit Reg.BON_STATUS_PORT_UP p true →
    mine = u.bon.waiting.filter (fun t => sePort (u.session t.sess) == p.val) →
    v = { u with bon := { u.bon with waiting := u.bon.waiting.filter fun t => sePort (u.session t.sess) != p.val } } →
    exec (.ethPortUp p) s = .next (v.forEach mine State.tokensOut).bulkGo)

/-- PTP messages (R356 to R362): each message of its kind that a port and the limits take is handled by its domains. -/
def Obligations.PtpMessageCommandsComplete : Prop :=
  (∀ (s u : State) (m : PtpMsg) (d : Nat), s.portUp m.port = true → s.ptpTake m (s.ptpOk m) = (u, [d]) →
    (m.kind = 0 → -7 ≤ m.log → m.log ≤ 4 →
      exec (.sync m) s = .next
        (if m.twoStep then (u.setDom d { u.dom d with logSync := m.log }).setDom d
            { (u.setDom d { u.dom d with logSync := m.log }).dom d with pend := some (m.seq, u.rxStamp m.port m.stamp, m.corr) }
         else (u.setDom d { u.dom d with logSync := m.log }).syncDone d m.time (u.rxStamp m.port m.stamp) m.corr)) ∧
    (m.kind = 0 → (m.log < -7 ∨ 4 < m.log) → exec (.sync m) s = .next (u.disqualify d m.source)) ∧
    (∀ (t : Nat) (c : Int), m.kind = 8 → (u.dom d).pend = some (m.seq, t, c) →
      exec (.followUp m) s = .next (u.syncDone d m.time t (c + m.corr))) ∧
    (∀ (q : Nat × Nat) (y : Nat × Nat × Int) (path : Int), m.kind = 9 → (u.dom d).req = some q → (u.dom d).sync = some y →
      u.rdb (Reg.TIME_DOM_CFG_DELAY d) = false → q.1 = m.seq → u.toMe m = true →
      path = ((m.time : Int) - y.1 - (u.domTime d q.2 - u.domTime d y.2.1) - y.2.2 - m.corr) / 8192 →
      exec (.delayResp m) s = .next
        ((u.setDom d { u.dom d with req := none, path := some path }).exchange d y.1 y.2.1 y.2.2 path)) ∧
    (∀ q : Nat × Nat, m.kind = 3 → (u.dom d).req = some q → q.1 = m.seq → u.toMe m = true →
      exec (.pdelayResp m) s = .next
        (if m.twoStep then u.setDom d { u.dom d with peer := some (m.seq, m.time, u.rxStamp m.port m.stamp, m.corr) }
         else u.peerPath d q.2 0 0 (u.rxStamp m.port m.stamp) m.corr)) ∧
    (∀ (q : Nat × Nat) (p : Nat × Nat × Nat × Int), m.kind = 10 → (u.dom d).req = some q → (u.dom d).peer = some p →
      p.1 = m.seq → q.1 = m.seq → u.toMe m = true →
      exec (.pdelayRespFollowUp m) s = .next (u.peerPath d q.2 p.2.1 m.time p.2.2.1 (p.2.2.2 + m.corr))) ∧
    (∀ v : State, m.kind = 11 → v = u.setDom d { u.dom d with masters := noteMaster (u.dom d).masters m u.cyc } →
      exec (.announce m) s = .next
        ((if v.domFollows d m.source then (v.wr (Reg.TIME_DOM_UTC_OFFSET d) m.utc).wrb (Reg.TIME_DOM_UTC_VALID d) m.utcValid
          else v).domSelect d))) ∧
  (∀ (s u : State) (m : PtpMsg) (d sent : Nat) (ds : List Nat), m.kind = 2 → s.portUp m.port = true →
    s.ptpTake m (s.ptpOk m) = (u, d :: ds) →
    exec (.pdelayReq m sent) s = .next
      (if u.rdb (Reg.TIME_DOM_CFG_ONE_STEP d) then
        (u.count Reg.TIME_PTP_TX_CNT 1).emit (.ptp m.port 3 m.domain m.seq
          (m.corr + ((u.txStamp m.port sent : Int) - u.rxStamp m.port m.stamp)) 0)
       else ((u.count Reg.TIME_PTP_TX_CNT 2).emit (.ptp m.port 3 m.domain m.seq m.corr (u.rxStamp m.port m.stamp))).emit
        (.ptp m.port 10 m.domain m.seq 0 (u.txStamp m.port sent)))) ∧
  (∀ (s u : State) (m : PtpMsg), s.portUp m.port = true → s.ptpTake m (s.ptpOk m) = (u, []) →
    exec (.ptpFrameDrop m) s = .next u)

/-- PTP domains (R346, R356, R358, R359, R361, R362): they are enabled and disabled, time out, lose their port, and ask for the path delay. -/
def Obligations.PtpDomainCommandsComplete : Prop :=
  (∀ (s : State) (d : Fin 2) (v : Word), fget v 0 0 = 1 →
    exec (.domainEnable d v) s = .next
      (if s.domState d = 0 then ((s.writeDomCfg d v).wr (domFld d) 1).setDom d {} else s.writeDomCfg d v)) ∧
  (∀ (s u : State) (d : Fin 2) (v : Word), fget v 0 0 = 0 →
    u = ((s.writeDomCfg d v).wr (domFld d) 0).setReg (Reg.TIME_DOM_MASTER d) 0 →
    exec (.domainDisable d v) s = .next ((if s.domState d = 3 then u.leftLocked d false else u).setDom d {})) ∧
  (∀ (s : State) (d : Fin 2), 2 ≤ s.domState d → (s.dom d).syncAt + 4 * interval (s.dom d).logSync ≤ s.cyc →
    exec (.syncTimeout d) s = .next (s.domListen d)) ∧
  (∀ (s : State) (d : Fin 2) (m : Master), ((s.dom d).masters.find? fun m => s.domFollows d m.source) = some m →
    m.seenAt + Config.announceReceiptTimeout * interval m.logAnnounce ≤ s.cyc →
    exec (.announceTimeout d) s = .next
      ((s.setDom d { s.dom d with masters := (s.dom d).masters.filter fun x => x.source != m.source }).domListen d)) ∧
  (∀ (s u : State) (p : Fin 2), u = (if s.domOn 29 then s.setBit Reg.BON_STATUS_PORT_UP p false else s) →
    exec (.portDown p) s = .next (u.domsListen ((List.range 2).filter fun d => u.domPort d = p.val ∧ 2 ≤ u.domState d))) ∧
  (∀ (s u : State) (d : Fin 2) (sent : Nat), s.portUp (s.domPort d) = true →
    (s.domState d ≠ 0 ∧ (s.rdb (Reg.TIME_DOM_CFG_DELAY d) = true ∨ 2 ≤ s.domState d)) →
    u = (s.setDom d { s.dom d with
      req := some ((s.dom d).seq, s.txStamp (s.domPort d) sent), seq := ((s.dom d).seq + 1) % 2 ^ 16 }).count
        Reg.TIME_PTP_TX_CNT 1 →
    ∃ shown, exec (.delayReq d sent) s = .next (u.emit (.ptp (s.domPort d) (if s.rdb (Reg.TIME_DOM_CFG_DELAY d) then 2 else 1)
      (u.rd (Reg.TIME_DOM_CFG_DOMAIN d)) (s.dom d).seq 0 shown)) ∧
      (s.rdb (Reg.TIME_DOM_CFG_DELAY d) = true → shown = 0))

/-- Output time, captures, the bridge and the tick pulses (R60, R363, R364, R366, R368 to R373, R375). -/
def Obligations.TimeCommandsComplete : Prop :=
  (∀ s : State, exec .outputReset s = .next s.outInvalid) ∧
  (∀ (s : State) (b : Bool), exec (.outputSelect b) s = .next (s.drvWr Reg.TIME_CTRL_SEL (b2n b)).outFollow) ∧
  (∀ s : State, ∃ t, exec .timeCapture s = .next t ∧
    t.reg Reg.TIME_CAP_CROWN = BitVec.ofNat 64 (if s.rdb Reg.CRN_STATUS_RUNNING then s.now else 0) ∧
    t.reg Reg.TIME_CAP_OUT = BitVec.ofNat 64 s.outStamp ∧
    t.reg Reg.TIME_CAP_MONO = wholeNs (some s.time.mono) ∧
    (∀ a, a ≠ Reg.TIME_CAP_CROWN → a ≠ Reg.TIME_CAP_OUT → a ≠ Reg.TIME_CAP_A → a ≠ Reg.TIME_CAP_B → a ≠ Reg.TIME_CAP_MONO →
      t.reg a = s.reg a)) ∧
  (∀ s : State, exec .bridgeSample s = .next s.bridgeSample) ∧
  (∀ (s u : State), s.rdb Reg.TIME_CTRL_BRIDGE_TX = true → s.rdb Reg.CRN_STATUS_RUNNING = true → s.now % 2 ^ 20 = 0 →
    u = s.bridgeSample →
    exec .bridgeSend s = .next ({ u with time := { u.time with bridgeSeq := (u.time.bridgeSeq + 1) % 2 ^ 16 } }.bridgeTo
      (u.bridgeWord (u.time.samples.headD u.sampleNow)))) ∧
  (∀ (s u v : State) (l : Nat) (f : Flit), s.niTake 1 (fun f => rwDstQ f == 0xF0) = some (u, l, f) →
    u.bridgeOk (rwData f % 2 ^ 256) = true → v = (u.bridgeSample.count Reg.TIME_BRIDGE_RX_CNT 1).takeBridge (rwData f % 2 ^ 256) →
    exec .bridgeMessage s = .next (if v.rdb Reg.TIME_CTRL_BRIDGE_RELAY then v.bridgeTo (rwData f % 2 ^ 256) else v)) ∧
  (∀ (s u : State) (l : Nat) (f : Flit), s.niTake 1 (fun f => rwDstQ f == 0xF0) = some (u, l, f) →
    u.bridgeOk (rwData f % 2 ^ 256) = false → exec .bridgeMessage s = .next (u.bridgeSample.count Reg.TIME_BRIDGE_DROP_CNT 1)) ∧
  (∀ (s u : State), s.time.bridge.isSome = true → s.bridgeFresh = false → s.time.staleRaised = false →
    u = { s with time := { s.time with staleRaised := true } } →
    exec .bridgeStale s = .next ((if u.rdb Reg.TIME_CTRL_OUT_SRC then u.ptpLoss 3 0 else u).outFollow)) ∧
  (∀ (s u v : State) (i : Fin 4) (w : Word), fget w 0 0 = 1 → u = s.writeTpCtrl i w → u.rd (Reg.TIME_TP_CTRL_BASE i) ≤ 4 →
    (u.rd (Reg.TIME_TP_PERIOD_PERIOD i) = 0 ∨ u.tpWidth i < u.rd (Reg.TIME_TP_PERIOD_PERIOD i)) →
    v = ((u.wr (Reg.TIME_TP_STATUS_FIRED i) 0).wr (Reg.TIME_TP_STATUS_WAIT_BASE i) 0) →
    ∃ x : TpSt, exec (.tpArm i w) s = .next
      (if (v.setTp i x).tpValid (u.rd (Reg.TIME_TP_CTRL_BASE i)) then (v.setTp i x).tpStart i
       else ((v.setTp i x).wr (Reg.TIME_TP_STATUS_ARMED i) 1).wr (Reg.TIME_TP_STATUS_WAIT_BASE i) 1) ∧
      x.edge = 0 ∧ x.done = 0) ∧
  (∀ (s : State) (i : Fin 4),
    exec (.tpStop i) s = .next ((s.wr (Reg.TIME_TP_STATUS_ARMED i) 0).wr (Reg.TIME_TP_STATUS_WAIT_BASE i) 0)) ∧
  (∀ (s u : State) (i : Fin 4), s.seamClear = true → s.epochDue = false →
    s.rdb (Reg.TIME_TP_STATUS_ARMED i) = true → s.rdb (Reg.TIME_TP_STATUS_WAIT_BASE i) = false →
    s.tpValid (s.rd (Reg.TIME_TP_CTRL_BASE i)) = true →
    (s.rd (Reg.TIME_TP_START_START i) : Int) + (s.tp i).edge * s.rd (Reg.TIME_TP_PERIOD_PERIOD i)
      < s.tpDue (s.rd (Reg.TIME_TP_CTRL_BASE i)) (s.now + 1) →
    u = s.wr (Reg.TIME_TP_STATUS_FIRED i) (min 0xFFFFFFFF (s.rd (Reg.TIME_TP_STATUS_FIRED i) + 1)) →
    exec (.tpEdge i) s = .next ((u.setTp i { s.tp i with
      edge := (s.tp i).edge + 1, done := (s.tp i).done + 1, pulse := some (u.cyc + u.tpWidth i) }).tpCount i)) ∧
  (∀ (s : State) (i : Fin 4) (t : Nat), (s.tp i).pulse = some t → t ≤ s.cyc →
    exec (.tpPulseEnd i) s = .next (s.setTp i { s.tp i with pulse := none })) ∧
  (∀ (s u : State) (i : Fin 4), s.rdb (Reg.TIME_TP_STATUS_ARMED i) = true →
    u = (s.wr (Reg.TIME_TP_STATUS_WAIT_BASE i) 0).setTp i
      { (s.wr (Reg.TIME_TP_STATUS_WAIT_BASE i) 0).tp i with fresh := false } →
    exec (.tpBaseStep i) s = .next
      (if s.tpValid (s.rd (Reg.TIME_TP_CTRL_BASE i)) then (if (s.tp i).fresh then u.tpStart i else u.tpMiss i)
       else s.wr (Reg.TIME_TP_STATUS_WAIT_BASE i) 1))

/-- Management packets (R21, R452 to R454): a READ and a WRITE are answered, a request that breaks a check is refused with its
STATUS, and a packet of another mitten is discarded. -/
def Obligations.ManagementCommandsComplete : Prop :=
  (∀ (s u : State) (l : Nat) (f : Flit), s.niTake 1 isMgmt = some (u, l, f) → f.mitten = 0 → mgMsg f = 0x20 →
    exec .mgmtRead s = .next (if mgShape f = 0 then u.mgRead f else u.mgRefuse f (mgShape f))) ∧
  (∀ (s u : State) (l o st : Nat) (f : Flit), s.niTake 1 isMgmt = some (u, l, f) → f.mitten = 0 → mgMsg f = 0x21 →
    ((mgTargets f).find? fun o => !mgWritable f o) = some o →
    st = (if mgShape f ≠ 0 then mgShape f else if (mgTargets f).any (u.mgOff f) then 3 else 1) →
    exec .mgmtWrite s = .next (((u.accErr 3 3 true o).mgViolation l f).mgRefuse f st)) ∧
  (∀ (s u : State) (l : Nat) (f : Flit), s.niTake 1 isMgmt = some (u, l, f) → f.mitten = 0 → mgMsg f = 0x21 →
    (∀ o ∈ mgTargets f, mgWritable f o = true) →
    (mgShape f ≠ 0 → exec .mgmtWrite s = .next (u.mgRefuse f (mgShape f))) ∧
    (∀ o, mgShape f = 0 → (mgTargets f).find? (u.mgOff f) = some o →
      exec .mgmtWrite s = .next ((u.accErr 3 2 true o).mgRefuse f 3))) ∧
  (∀ (s u : State) (l : Nat) (f : Flit), s.niTake 1 isMgmt = some (u, l, f) → f.mitten = 0 → mgMsg f = 0x21 →
    mgShape f = 0 → (∀ o ∈ mgTargets f, u.mgOff f o = false ∧ mgWritable f o = true) →
    exec .mgmtWrite s = .next (u.mgWrite f)) ∧
  (∀ (s u v : State) (l : Nat) (f : Flit), s.niTake 1 isMgmt = some (u, l, f) → f.mitten ≠ 0 →
    v = u.count Reg.RTE_MGMT_REFUSE_CNT 1 →
    exec .mgmtDiscard s = .next (if mgMsg f = 0x21 then v.mgViolation l f else v))

/-- Bring-up (R376, R377, R379, R381 to R385, R388, R390, R391): each phase's command completes with the phase's effect. -/
def Obligations.BringUpCommandsComplete : Prop :=
  (∀ s u v : State, s.pwr.aonHeld = false → s.pwr.closed = true → s.boot.running = [] → s.boot.ended = [] →
    u = ((s.startPhase 1).forEach (List.range 5) fun x k => x.choose k (x.pickCopy k)) →
    v = (((u.wr Reg.NVM_LOG_NEXT u.nvm.logNext).wr Reg.NVM_LOG_ENTRIES u.nvm.logCount).wr Reg.NVM_STATUS_WEAR_MAX
      ((u.nvm.wear.map Prod.snd).foldl max 0)) →
    exec (.aonPowerGood true) s = .next
      (if (v.chosen 0).isNone then v.stopBoot 2
       else (if (v.loadSections.endPhase 1).autoGo then (v.loadSections.endPhase 1).startBringUp
         else v.loadSections.endPhase 1).updFaultN)) ∧
  (∀ s : State, s.pwr.aonHeld = false → s.pwr.closed = true → s.boot.running = [] → s.boot.ended = [] →
    exec (.aonPowerGood false) s = .next ((s.startPhase 1).stopBoot 1)) ∧
  (∀ (s u : State) (mode allow : Bool),
    u = (s.drvWr Reg.GEN_BOOT_CTRL_MODE (b2n mode)).drvWr Reg.GEN_BOOT_CTRL_ALLOW_DEGRADED (b2n allow) →
    s.rd Reg.GEN_BOOT_STATUS_PHASE = 0 → s.boot.ended.contains 1 = true → s.same.reset = false →
    exec (.bootGo mode allow) s = .next { u with same := { u.same with go := true } }) ∧
  (∀ (s u : State) (g t : Nat) (rest : List Nat), s.boot.groups = g :: rest → s.boot.groupAt = some t → t ≤ s.cyc →
    u = (s.forEach (s.wanted g) fun x d => x.setBit Reg.PWR_DOMAIN_PGOOD d true).supplyCause →
    exec .domainPowerGood s = .next
      ({ u with boot := { u.boot with groups := rest, groupAt := none } }.domainsDone.powerNext
        (if 3 ≤ g then t + 1000000 else ({ u with boot := { u.boot with groups := rest, groupAt := none } }.domainsDone).cyc))) ∧
  (∀ s : State, s.boot.groups = [] → exec .domainPowerGood s = .next s.domainsDone) ∧
  (∀ (s u : State) (t : Nat), s.boot.groups ≠ [] → s.boot.groupAt = some t → t + 10000000 ≤ s.cyc →
    u = { s with boot := { s.boot with groups := [], groupAt := none } } →
    exec .domainPowerTimeout s = .next (if s.boot.inPhase then u.stopBoot 3 else u)) ∧
  (∀ (s u : State) (failed : List Nat), s.boot.running.contains 3 = true →
    u = (s.forEach (List.range 68) fun x k => x.setReg (Reg.PLM_BIST k)
      (BitVec.ofNat 64 (((failed.filter fun p => p / 64 == k).dedup).map fun p => 2 ^ (p % 64)).sum)) →
    exec (.bistDone failed) s = .next ({ u with sram := [] }.endPhase 3)) ∧
  (∀ (s u : State) (failed : BitVec 8), s.boot.running.contains 4 = true →
    u = (s.forEach (List.range 8) fun x k =>
      if !x.domOn (16 + k) then x
      else
        have y := x.wr (Reg.HBM_STATUS_STATE k) (if nbit failed.toNat k then 3 else 1)
        if y.boot.warm then y
        else { y with mem := { y.mem with
          trainTemp := SMap.set (fun _ => 0) y.mem.trainTemp k (y.rd (Reg.HBM_STATUS_TEMP k)) } }) →
    exec (.hbmTrainingDone failed) s = .next (u.endPhase 4) ∧
    ∀ k < 8, u.rd (Reg.HBM_STATUS_STATE k) =
      if s.domOn (16 + k) then (if nbit failed.toNat k then 3 else 1) else s.rd (Reg.HBM_STATUS_STATE k)) ∧
  (∀ s u : State, s.boot.running.contains 6 = true → s.rdb Reg.PLM_STATUS_LINER_BUSY = false →
    u = (if s.boot.warm then s else s.linerFromNvm.forEach s.bistFailed State.markBad) →
    exec .linerBuild s = .next (if u.loadLiner.2 then u.loadLiner.1 else u.loadLiner.1.endPhase 6)) ∧
  (∀ (s : State) (l : Fin 24), exec (.discoveryEval l) s = .next (s.discover l)) ∧
  (∀ s : State, s.boot.running.contains 8 = true →
    (∀ l < 24, s.rd (Reg.LNK_PLAN_EXPECT l) = 1 → s.rd (Reg.LNK_DISC_RESULT l) ≠ 7) →
    exec .discoveryEnd s = .next ((s.endPhase 8).forEach
      (allLinks.filter fun l => (s.endPhase 8).rd (Reg.LNK_DISC_RESULT l) == 7) State.evalLink)) ∧
  (∀ (s u : State) (r : Nat), s.boot.running.contains 9 = true →
    r = readiness s.shortfalls (s.rdb Reg.GEN_BOOT_CTRL_ALLOW_DEGRADED) →
    u = (if r = 3 then (s.wr Reg.GEN_BOOT_STATUS_SHORT s.shortfalls).wr Reg.GEN_BOOT_STATUS_READY r
      else ((s.wr Reg.GEN_BOOT_STATUS_SHORT s.shortfalls).wr Reg.GEN_BOOT_STATUS_READY r).wr
        Reg.GEN_BOOT_STATUS_FAULT_SINCE_READY 0) →
    exec .readinessReport s = .next
      ({ u with boot := { u.boot with lastReady := r, reported := true } }.endPhase 9).updFaultN) ∧
  (∀ (s u : State) (mode allow : Bool),
    u = (s.drvWr Reg.GEN_BOOT_CTRL_MODE (b2n mode)).drvWr Reg.GEN_BOOT_CTRL_ALLOW_DEGRADED (b2n allow) →
    s.run = false → s.rd Reg.GEN_BOOT_STATUS_PHASE = 0 → s.boot.reported = true →
    exec (.rediscover mode allow) s = .next (u.startPhase 8))

/-- NVM commands (R382): while AON runs and no command is in progress, each starts with BUSY 1 or is refused with its RESULT; the
command in progress ends with its effect. -/
def Obligations.NvmCommandsComplete : Prop :=
  (∀ (s : State) (sect : Fin 16) (copy : Fin 2) (i : Fin 65536),
    exec (.nvmRead sect copy i) s = .next (s.nvmStart
      { cmd := 1, sect := sect, copy := if sect.val = 5 then 0 else copy, index := i, length := 0 }
      (if 5 < sect.val ∨ (sect.val = 0 ∧ copy.val = 1) ∨ (nvmBase sect 0).2 ≤ i.val then some 5 else none))) ∧
  (∀ (s : State) (sect : Fin 16) (n : BitVec 32), 1 ≤ sect.val → sect.val ≤ 4 → n.toNat ≤ nvmRoom sect →
    exec (.nvmOpen sect n) s = .next (s.nvmStart
      { cmd := 2, sect := sect, copy := s.otherCopy sect, index := 0, length := n.toNat }
      (if s.nvm.opened.isSome then some 4 else none))) ∧
  (∀ (s : State) (sect : Fin 16) (i : Fin 65536) (o : Nat × Nat × Nat × List Nat), s.openOf sect = some o →
    1 ≤ i.val → i.val < (nvmBase sect 0).2 →
    exec (.nvmWrite sect i) s = .next (s.nvmStart { cmd := 3, sect := sect, copy := 0, index := i, length := 0 }
      (if s.worn ((nvmBase sect o.2.1).1 + i) then some 3 else none))) ∧
  (∀ (s : State) (sect : Fin 16) (o : Nat × Nat × Nat × List Nat), s.openOf sect = some o → allWritten o = true →
    exec (.nvmCommit sect) s = .next (s.nvmStart { cmd := 4, sect := sect, copy := 0, index := 0, length := 0 }
      (if s.worn (nvmBase sect o.2.1).1 then some 3 else none))) ∧
  (∀ (s : State) (sect : Fin 16),
    exec (.nvmAbort sect) s = .next (s.nvmStart { cmd := 5, sect := sect, copy := 0, index := 0, length := 0 } none)) ∧
  (∀ (s : State) (sect : Fin 16), sect.val = 5 →
    exec (.nvmAppend sect) s = .next (s.nvmStart { cmd := 6, sect := sect, copy := 0, index := 0, length := 0 }
      (if s.logErases ∧ s.worn (512 + s.nvm.logNext / 64) then some 3 else none))) ∧
  (∀ (s : State) (sect : Fin 16), 1 ≤ sect.val → sect.val ≤ 3 → s.nvm.opened = none →
    exec (.storeLive sect) s = .next (s.nvmStart
      { cmd := 7, sect := sect, copy := s.otherCopy sect, index := 0, length := 0 }
      (if (List.range (((s.liveData sect).length + 4095) / 4096 + 1)).any fun i =>
        s.worn ((nvmBase sect (s.otherCopy sect)).1 + i) then some 3 else none))) ∧
  (∀ (s : State) (c : NvmCmd) (good : Bool), s.nvm.running = some c →
    exec (.nvmCommandDone good) s = .next
      ({ (s.wr Reg.NVM_STATUS_BUSY 0).nvmResult 1 with nvm := { s.nvm with running := none } }.nvmDo c good))

/-- Resets (R393 to R396): with no reset of an equal or wider class in progress, each class resets what R393 gives it and
GEN_RESET_STATUS says which it was; PERST_N resets the PCIe endpoint alone. -/
def Obligations.ResetCommandsComplete : Prop :=
  (∀ s u v : State, s.boot.reset = none → u = { s.wr Reg.GEN_RESET_KIND 1 with boot := { s.boot with reset := none } } →
    v = u.clearPalm.reloadLiner →
    exec .palmReset s = .next
      (((({ v with boot := { v.boot with reset := some 1 } } : State).wr Reg.GEN_RESET_STATUS_LAST 1).wr
        Reg.GEN_RESET_STATUS_SOURCE 1).refuseGo s.same.go).updFaultN) ∧
  (∀ s u : State, (∀ j ∈ s.boot.reset, j < 2) →
    u = { s.wr Reg.GEN_RESET_KIND 2 with boot := { s.boot with reset := none } } →
    exec .serviceReset s = .next
      (((u.loseBonnet.portsStop.wr Reg.GEN_RESET_STATUS_LAST 2).wr Reg.GEN_RESET_STATUS_SOURCE 1).refuseGo s.same.go).updFaultN) ∧
  (∀ s u v : State, (∀ j ∈ s.boot.reset, j < 3) →
    u = { s.wr Reg.GEN_RESET_KIND 3 with boot := { s.boot with reset := none } }.loseCuff →
    v = (if u.domOn 28 then
      (if u.boot.ended.contains 7 then ((u.startPhase 5).stopPhase 5).startPhase 8 else u.startPhase 5) else u) →
    exec .cuffReset s = .next
      (((v.wr Reg.GEN_RESET_STATUS_LAST 3).wr Reg.GEN_RESET_STATUS_SOURCE 1).refuseGo s.same.go).updFaultN) ∧
  (∀ s u w x v : State, (∀ j ∈ s.boot.reset, j < 4) →
    u = { s.wr Reg.GEN_RESET_KIND 4 with boot := { s.boot with reset := none } }.loseModule →
    w = (if u.rd Reg.GEN_BOOT_STATUS_STOP_CAUSE = 3 then u.wr Reg.GEN_BOOT_STATUS_STOP_CAUSE 0 else u) →
    x = { w with boot := { w.boot with
      running := w.boot.running.filter (· == 1), ended := if w.boot.ended.contains 1 then [1] else [], groups := [],
      groupAt := none, inPhase := false, reported := false } } →
    v = ((if x.domOn 28 then x.devWr Reg.RTE_SELF_ID (x.rd Reg.GEN_PLAN_SEAT_SEAT) else x).wr Reg.GEN_RESET_STATUS_LAST
      4).showPhase.showWaits →
    exec .moduleWarmReset s = .next (((((if v.autoGo && w.boot.ended.contains 1 then v.startBringUp else v).wr
      Reg.GEN_RESET_STATUS_LAST 4).wr Reg.GEN_RESET_STATUS_SOURCE 1).refuseGo s.same.go).updFaultN)) ∧
  (∀ s u : State, (∀ j ∈ s.boot.reset, j < 5) →
    u = { s.wr Reg.GEN_RESET_KIND 5 with boot := { s.boot with reset := none } } →
    exec .powerOnReset s = .next
      ((((u.powerOn 1).wr Reg.GEN_RESET_STATUS_LAST 5).wr Reg.GEN_RESET_STATUS_SOURCE 1).refuseGo s.same.go).updFaultN) ∧
  (∀ s : State, exec .perst s = .next { s with flt := { s.flt with
    msixAddr := 0, msixData := 0, msixMasked := true, msixPending := false, msixEnable := false } })

/-- Alarms, the fault queue, snapshots and telemetry (R403, R407, R411 to R415, R430). -/
def Obligations.TelemetryCommandsComplete : Prop :=
  (∀ (s u : State) (l : Nat) (f : Flit), s.niTake 0 (fun f => rwDstQ f == 0xF3) = some (u, l, f) →
    exec .alarmReceived s = .next (u.takeAlarmPacket l f).updFaultN) ∧
  (∀ (s : State) (i : Fin 2048) (held adv : Nat), s.live = true → s.powered Reg.FLT_HEAD = true →
    held = (s.rd Reg.FLT_TAIL_IDX + 2048 - s.rd Reg.FLT_HEAD_IDX) % 2048 →
    adv = (i.val + 2048 - s.rd Reg.FLT_HEAD_IDX) % 2048 → adv ≤ held →
    exec (.fltHeadWrite i) s = .next { (s.wr Reg.FLT_HEAD_IDX i).wr Reg.FLT_STATUS_COUNT (held - adv) with
      same := { s.same with recs := s.same.recs.drop (s.same.recs.length - (held - adv)) } }) ∧
  (∀ s : State, s.live = true →
    exec .faultMaxClr s = .next ((s.wr Reg.FLT_STATUS_ANY 0).wr Reg.FLT_STATUS_MAX_CLASS 0).updFaultN) ∧
  (∀ (s : State) (b i : Fin 256), s.live = true →
    exec (.snapshot b i) s = .next
      { ((s.wr Reg.FLT_SNAP_BLOCK b).wr Reg.FLT_SNAP_INSTANCE i).wr Reg.FLT_SNAP_DONE 0 with same := { s.same with snap := true } }) ∧
  (∀ s : State, s.telDue = true → exec .telemetryReport s = .next s.telDrop.telReport) ∧
  (∀ (s u : State) (l : Nat) (f : Flit), s.niTake 7 (fun f => rwDstQ f == 0xF1) = some (u, l, f) →
    exec .telemetrySink s = .next (u.sinkTake l f))

/-- The input, the switch and AON (R417 to R419, R421, R422, R426, R439): each event completes with the state the rules give. -/
def Obligations.SupplyCommandsComplete : Prop :=
  (∀ s : State, s.pwr.closed = true → exec .inArmBreak s = .next ((s.wr Reg.PWR_STATUS_IN_ARM 0).aonLost false false 4)) ∧
  (∀ s : State, s.pwr.closed = false →
    exec .inArmBreak s = .next { s.wr Reg.PWR_STATUS_IN_ARM 0 with pwr := { s.pwr with charge := none } }) ∧
  (∀ s : State, s.pwr.closed = false → s.pwr.charge = none → s.pwr.retryAt ≤ s.cyc → s.tripEnded = true →
    exec .inputStart s = .next { (s.wr Reg.PWR_STATUS_IN_ARM 1).wr Reg.PWR_STATUS_PWR_EN 1 with
      pwr := { s.pwr with charge := some s.cyc, tripped := false, lowAt := none } }) ∧
  (∀ (s : State) (t : Nat), s.pwr.charge = some t → s.cyc ≤ t + 200000000 →
    exec .prechargeDone s = .next (s.powerOn s.pwr.source)) ∧
  (∀ (s : State) (t : Nat), s.pwr.charge = some t → t + 200000000 ≤ s.cyc →
    exec .prechargeTimeout s = .next ({ s with pwr := { s.pwr with
      charge := none, closed := false, aonHeld := false, retryAt := s.cyc + 1000000000 } }.updFaultN)) ∧
  (∀ (s u : State) (v : Fin 65536), s.live = true → s.rd Reg.PWR_STATUS_INPUT ≠ 1 →
    u = (((s.count Reg.PWR_WARN_CNT 1).fault { code := 0x0501, block := 1, cause := 1, a := v }).wr
      Reg.PLM_BUDGET_EFFECTIVE (s.rd Reg.PLM_BUDGET_GRADE / 2)).wr Reg.PWR_STATUS_INPUT 1 →
    exec (.supplyWarn v) s = .next
      (({ u with pwr := { u.pwr with recoverAt := none } } : State).forEach ((List.range 16).filter u.domOn) fun x g =>
        (x.wr (Reg.RGN_STATUS_STEP_SUPPLY g) 1).stepIfSlower g)) ∧
  (∀ s u : State, s.rd Reg.PWR_STATUS_INPUT = 1 →
    u = { s.wr Reg.PWR_STATUS_INPUT 2 with pwr := { s.pwr with recoverAt := some (s.cyc + 10000) } } →
    exec .supplyWarnClear s = .next (u.forEach ((List.range 16).filter u.domOn) fun x g =>
      (x.wr (Reg.RGN_STATUS_STEP_SUPPLY g) 0).setRg g { x.rg g with restoreAt := x.cyc })) ∧
  (∀ (s u : State) (t g e : Nat), s.pwr.recoverAt = some t → t ≤ s.cyc → g = s.rd Reg.PLM_BUDGET_GRADE →
    e = min g (s.rd Reg.PLM_BUDGET_EFFECTIVE + (g + 19) / 20) → u = s.wr Reg.PLM_BUDGET_EFFECTIVE e →
    exec .budgetRecoveryStep s = .next
      (if e = g then { u.wr Reg.PWR_STATUS_INPUT 0 with pwr := { s.pwr with recoverAt := none } }
       else { u with pwr := { s.pwr with recoverAt := some (t + 10000) } })) ∧
  (∀ s : State, s.live = true → exec .powerFail s = .next (s.aonLost true false 2)) ∧
  (∀ s : State, s.pwr.closed = true → exec .overvoltage s = .next (s.aonLost false false 4)) ∧
  (∀ s : State, s.pwr.closed = true → exec .overcurrent s = .next (s.aonLost false true 4)) ∧
  (∀ s : State, s.pwr.closed = true → s.pwr.aonHeld = false → s.pwr.shut = none →
    exec .pwrEnLow s = .next (s.wr Reg.PWR_STATUS_PWR_EN 0).beginShutdown) ∧
  (∀ s : State, s.pwr.closed = false →
    exec .pwrEnLow s = .next { s.wr Reg.PWR_STATUS_PWR_EN 0 with
      pwr := { s.pwr with charge := none, lowAt := if s.pwr.tripped then some s.cyc else none } })

/-- Domains, cooling and sensors (R398, R423 to R426, R428, R429, R439, R440). -/
def Obligations.DomainCommandsComplete : Prop :=
  (∀ (s u : State) (k t : Nat), s.shutDue = false → s.pwr.shut = some (k, t) → t ≤ s.cyc → k < 3 →
    u = (if s.rdb Reg.FLT_STATUS_MODULE_FATAL then s.wr Reg.PWR_STATUS_SHUTDOWN 1 else s).forEach (shutGroups k) State.groupOff →
    exec .domainShutdown s = .next { u with pwr := { u.pwr with shut := some (k + 1, t + 1000) } }) ∧
  (∀ (s u : State) (k t : Nat), s.shutDue = false → s.pwr.shut = some (k, t) → t ≤ s.cyc → 3 ≤ k →
    u = (if s.rdb Reg.FLT_STATUS_MODULE_FATAL then s.wr Reg.PWR_STATUS_SHUTDOWN 1 else s).forEach (shutGroups k) State.groupOff →
    exec .domainShutdown s = .next
      (if u.rdb Reg.PWR_STATUS_PWR_EN then { u with pwr := { u.pwr with shut := none } } else u.aonLost true false 3)) ∧
  (∀ (s : State) (off : Bool) (m : BitVec 8), s.live = true → exec (.palmOff off m) s = .next (s.pwrCtrl off m.toNat)) ∧
  (∀ (s : State) (off : Bool) (m : BitVec 8), s.live = true → exec (.stackOff m off) s = .next (s.pwrCtrl off m.toNat)) ∧
  (∀ s : State, s.live = true →
    exec .coolOkHigh s = .next (((s.wr Reg.PWR_STATUS_COOL_OK 1).wr Reg.PWR_STATUS_COOL_FILT 1).powerNext s.cyc)) ∧
  (∀ s u : State, s.live = true →
    u = ((s.wr Reg.PWR_STATUS_COOL_OK 0).wr Reg.PWR_STATUS_COOL_FILT 0).holdPalmGroup.showWaits →
    exec .coolOkLow s = .next
      (if s.rdb Reg.PWR_STATUS_COOL_FILT && (List.range 16).any fun d => nbit (u.rd Reg.PWR_DOMAIN_ON) d then
        u.fault { code := 0x0503, block := 1, cause := 1 } else u)) ∧
  (∀ s : State, s.live = true → s.rdb Reg.PWR_STATUS_COOL_FILT = true →
    exec .coolOkGlitch s = .next (s.count Reg.PWR_COOL_GLITCH_CNT 1)) ∧
  (∀ (s : State) (x : Sensors), s.live = true → ∃ t, exec (.sensorSample x) s = .next t ∧
    t.rd Reg.PWR_COOL_INLET = ofSigned 8 x.inlet % 256 ∧ t.rd Reg.PWR_COOL_OUTLET = ofSigned 8 x.outlet % 256 ∧
    t.rd Reg.PWR_INPUT_VOLTAGE = x.voltage % 2 ^ 16)

/-- Every command answers a next state, whatever the state: nothing stops this block. It leaves the queue and the model's clock alone
and takes back nothing already sent (log entry 1). -/
def Obligations.EveryCommandAnswers : Prop :=
  ∀ (c : Instr) (s : State), ∃ t, exec c s = .next t ∧ t.pending = s.pending ∧ t.cyc = s.cyc ∧ s.egress <+: t.egress

/-- The frame of every command: the tables, memories and engines outside those that `touches` names for it are as before. -/
def Obligations.CommandsChangeOnlyTheirParts : Prop :=
  ∀ (c : Instr) (s t : State), exec c s = .next t → (touches c).Same s t

/-- Every step keeps the register file, the BAR2 tables and every memory in their canonical form, from any state that has it. -/
def Obligations.StepKeepsCanonicalForm : Prop :=
  ∀ s t : State, s.canonical = true → step s = .next t → t.canonical = true

/-- The word code: a stored word reads as its data, and a stored word with any one byte changed, data or check, is found, named and
corrected. -/
def Obligations.WordCodeCorrectsOneByte : Prop :=
  ∀ d : List Byte, d.length = 32 →
    decodeWord (encodeWord d) = .ok d ∧
    ∀ (i : Nat) (b : Byte), i < 36 → (encodeWord d)[i]? ≠ some b →
      decodeWord ((encodeWord d).set i b) = .corrected i (encodeWord d)

/-- A word written to a stack that is UP reads back, unless the word is HARD or its data is the poison pattern; the stored bytes of
every other word of the module are as before. -/
def Obligations.HbmReadsBackWhatWasWritten : Prop :=
  ∀ (s : State) (w n : Nat), w / stackWords < 8 → s.stackUp (w / stackWords) = true → n < 2 ^ 256 →
    leBytes 32 n ≠ poisonBytes →
    (w ∉ s.mem.hard → ((s.hbmWrite w (some n)).hbmRead w 0).2 = some n) ∧
    ((s.hbmWrite w none).hbmRead w 0).2 = none ∧
    (∀ w', w' ≠ w → (s.hbmWrite w (some n)).hbmStored w' = s.hbmStored w')

/-- The replay window (R332): a COUNTER is accepted when it lies above H − 1,024, is not 0, its SENDER is 0 and it has not been accepted
before; accepting it moves H to the greater of the two, refuses it from then on, and leaves every other one as it was. A datagram whose
tag does not verify changes neither H nor the bitmap. -/
def Obligations.AcceptedCountersAreNeverAcceptedAgain : Prop :=
  (∀ (s : State) (i sender c : Nat), s.replayOk i sender c = true →
    sender = 0 ∧ c ≠ 0 ∧ seHigh (s.session i) < c + 1024) ∧
  (∀ (s : State) (i c : Nat), c ≠ 0 → seHigh (s.session i) < c → s.replayOk i 0 c = true) ∧
  (∀ (s : State) (i c : Nat), i < 4096 → c < 2 ^ 64 → seHigh (s.session i) < 2 ^ 64 → s.replayOk i 0 c = true →
    seHigh ((s.acceptCounter i c).session i) = max (seHigh (s.session i)) c ∧
    (s.acceptCounter i c).replayOk i 0 c = false ∧
    (∀ c', c' < 2 ^ 64 → c' ≠ c → seHigh (s.session i) < c' + 1024 → seHigh ((s.acceptCounter i c).session i) < c' + 1024 →
      (s.acceptCounter i c).replayOk i 0 c' = s.replayOk i 0 c') ∧
    (∀ c', s.replayOk i 0 c' = false → (s.acceptCounter i c).replayOk i 0 c' = false)) ∧
  (∀ (s : State) (v6 : Bool) (src sport i len : Nat) (x : List Byte),
    s.findSession (ofBeBytes ((x.drop 4).take 4)) src sport v6 = some i → len = ofBeBytes ((x.drop 36).take 4) →
    gcmTag (aesKeys (SMap.get (fun _ => 0) s.bon.keys i)) (ofBeBytes ((x.drop 8).take 12)) (x.take 40) ((x.drop 40).take len) ≠
      ofBeBytes ((x.drop (40 + len)).take 16) →
    ∃ u, s.checkBrp v6 src sport x = .dropped u ∧ u.bon.bitmap = s.bon.bitmap ∧ ∀ j < 4096, u.session j = s.session j)

/-- Counter mode is its own inverse: what the Bonnet encrypts for a datagram decrypts to the plaintext, and the length stays. -/
def Obligations.DatagramDecryptsToItsPlaintext : Prop :=
  ∀ (key iv : Nat) (m : List Byte),
    gcmCtr (aesKeys key) iv (gcmCtr (aesKeys key) iv m) = m ∧ (gcmCtr (aesKeys key) iv m).length = m.length

/-- Recovery of the Palm's budget: from half of GRADE, ten recovery steps reach GRADE and INPUT NORMAL, and no step passes GRADE. -/
def Obligations.BudgetRecoversInTenSteps : Prop :=
  ∀ f : Nat → State, (f 0).rd Reg.PLM_BUDGET_EFFECTIVE = (f 0).rd Reg.PLM_BUDGET_GRADE / 2 → (f 0).pwr.recoverAt.isSome = true →
    (∀ i, exec .budgetRecoveryStep { f i with cyc := max (f i).cyc ((f i).pwr.recoverAt.getD 0) } = .next (f (i + 1))) →
    (0 < (f 0).rd Reg.PLM_BUDGET_GRADE →
      (f 10).rd Reg.PLM_BUDGET_EFFECTIVE = (f 0).rd Reg.PLM_BUDGET_GRADE ∧ (f 10).rd Reg.PWR_STATUS_INPUT = 0 ∧
      (f 10).pwr.recoverAt = none) ∧
    ∀ i, (f i).rd Reg.PLM_BUDGET_EFFECTIVE ≤ (f 0).rd Reg.PLM_BUDGET_GRADE

/-- A record made while the queue has room enters it, FLT_TAIL moves on and the next SEQ is taken. It stands before the `n` records of its
cycle that come after it by descending class, ascending code and ascending index, each of which moves on by a slot and a SEQ (R405); its
eight words stand in its slot with its SEQ, and no other slot changes. With none after it, its slot is the tail's. -/
def Obligations.FaultRecordEntersTheQueue : Prop :=
  ∀ (s : State) (f : FaultArgs) (tail seq held n : Nat) (slot : Nat → Nat), tail = s.rd Reg.FLT_TAIL_IDX →
    seq = s.rd Reg.FLT_TAIL_NEXT_SEQ → held = (tail + 2048 - s.rd Reg.FLT_HEAD_IDX) % 2048 → held < 1024 →
    n = s.behind (recordRank f (faultClass s f)) → (∀ j, slot j = (tail + 2048 - j) % 1024) →
    (s.fault f).rd Reg.FLT_TAIL_IDX = (tail + 1) % 2048 ∧
    (s.fault f).rd Reg.FLT_TAIL_NEXT_SEQ = (seq + 1) % 2 ^ 32 ∧
    (s.fault f).rd Reg.FLT_STATUS_COUNT = held + 1 ∧
    (∀ k < 8, (s.fault f).reg (Reg.FLT_QUEUE (8 * slot n + k)) =
      BitVec.ofNat 64 ((recordWords s f (faultClass s f) ((seq + 2 ^ 32 - n) % 2 ^ 32)).getD k 0)) ∧
    (∀ j < n, ∀ (k : Nat) (old : Word), k < 8 → old = s.reg (Reg.FLT_QUEUE (8 * slot (j + 1) + k)) →
      (s.fault f).reg (Reg.FLT_QUEUE (8 * slot j + k)) = if k = 0 then fset old 63 32 (fget old 63 32 + 1) else old) ∧
    (∀ i < 1024, (∀ j ≤ n, i ≠ slot j) → ∀ k < 8, (s.fault f).reg (Reg.FLT_QUEUE (8 * i + k)) = s.reg (Reg.FLT_QUEUE (8 * i + k))) ∧
    (s.same.recs.length ≤ held → s.same.recs.Pairwise (fun x y => x ≤ y) →
      (s.fault f).same.recs.Perm (recordRank f (faultClass s f) :: s.same.recs) ∧
      (s.fault f).same.recs.Pairwise (fun x y => x ≤ y)) ∧
    (∀ (f g : FaultArgs) (c d : Nat), c ≤ 5 → d ≤ 5 → f.code < 2 ^ 16 → g.code < 2 ^ 16 → f.link < 2 ^ 8 → g.link < 2 ^ 8 →
      f.region < 2 ^ 8 → g.region < 2 ^ 8 → f.tile < 2 ^ 16 → g.tile < 2 ^ 16 →
      (recordRank f c < recordRank g d ↔ d < c ∨ d = c ∧ (f.code < g.code ∨ f.code = g.code ∧ (f.link < g.link ∨ f.link = g.link ∧
        (f.region < g.region ∨ f.region = g.region ∧ f.tile < g.tile)))))

/-- A record made with the queue full (R404) sets OVERFLOW and counts one lost record, and FLT_TAIL's index stays. One of class DEGRADED or
below is discarded; a graver one takes the slot of the newest kept record of class CORRECTED or INFO with its own SEQ, and is discarded
when there is none. The first graver one since FLT_FIRST was cleared is captured there. -/
def Obligations.FullQueueKeepsGraveRecords : Prop :=
  ∀ (s : State) (f : FaultArgs) (tail cls : Nat) (slot kept : Nat → Nat), tail = s.rd Reg.FLT_TAIL_IDX → cls = faultClass s f →
    (∀ m, slot m = (tail + 2047 - m) % 1024) → (∀ m, kept m = fget (s.reg (Reg.FLT_QUEUE (8 * slot m))) 23 16) →
    (tail + 2048 - s.rd Reg.FLT_HEAD_IDX) % 2048 = 1024 →
    (s.fault f).rdb Reg.FLT_STATUS_OVERFLOW = true ∧ (s.fault f).rd Reg.FLT_TAIL_IDX = tail ∧
    (s.fault f).reg Reg.FLT_LOST_CNT = (s.count Reg.FLT_LOST_CNT 1).reg Reg.FLT_LOST_CNT ∧
    ((cls ≤ 2 ∨ ∀ m < 1024, 1 < kept m) →
      ∀ i < 8192, (s.fault f).reg (Reg.FLT_QUEUE i) = s.reg (Reg.FLT_QUEUE i)) ∧
    (∀ n < 1024, 3 ≤ cls → kept n ≤ 1 → (∀ m < n, 1 < kept m) →
      (∀ k < 8, (s.fault f).reg (Reg.FLT_QUEUE (8 * slot n + k)) =
        BitVec.ofNat 64 ((recordWords s f cls (s.rd Reg.FLT_TAIL_NEXT_SEQ)).getD k 0)) ∧
      ∀ i < 8192, i / 8 ≠ slot n → (s.fault f).reg (Reg.FLT_QUEUE i) = s.reg (Reg.FLT_QUEUE i)) ∧
    (3 ≤ cls → s.rdb Reg.FLT_FIRST_VALID = false →
      (s.fault f).rd Reg.FLT_FIRST_SEQ = s.rd Reg.FLT_TAIL_NEXT_SEQ ∧ (s.fault f).rd Reg.FLT_FIRST_CLASS = cls ∧
      (s.fault f).rdb Reg.FLT_FIRST_VALID = true) ∧
    (cls ≤ 2 ∨ s.rdb Reg.FLT_FIRST_VALID = true → (s.fault f).reg Reg.FLT_FIRST = s.reg Reg.FLT_FIRST)

/-- The action of a record's class: INFO and CORRECTED leave bring-up, the Palm and scheduled traffic alone; DEGRADED and above set
FAULT_SINCE_READY; OP_FATAL and above halt the Palm; MITTEN_FATAL and above end scheduled traffic, stop a RUNNING load and set
MITTEN_STOPPED; MODULE_FATAL sets its flag. The actions follow whether or not the queue keeps the record. -/
def Obligations.FaultClassSetsItsAction : Prop :=
  ∀ (s : State) (f : FaultArgs) (cls : Nat), cls = faultClass s f →
    (cls < 2 → (s.fault f).reg Reg.PLM_STATUS = s.reg Reg.PLM_STATUS ∧ (s.fault f).reg Reg.CUF_STATUS = s.reg Reg.CUF_STATUS ∧
      (s.fault f).reg Reg.GEN_BOOT_STATUS = s.reg Reg.GEN_BOOT_STATUS ∧ (s.fault f).cuff = s.cuff) ∧
    (2 ≤ cls → (s.fault f).rdb Reg.GEN_BOOT_STATUS_FAULT_SINCE_READY = true) ∧
    (cls < 3 → (s.fault f).rd Reg.PLM_STATUS_HALTED = s.rd Reg.PLM_STATUS_HALTED) ∧
    (3 ≤ cls → (s.fault f).rdb Reg.PLM_STATUS_HALTED = true) ∧
    (cls < 4 → (s.fault f).cuff = s.cuff ∧ (s.fault f).ldr = s.ldr ∧
      (s.fault f).rd Reg.FLT_STATUS_MITTEN_STOPPED = s.rd Reg.FLT_STATUS_MITTEN_STOPPED) ∧
    (4 ≤ cls → (s.fault f).cuff.stopped = true ∧ (s.fault f).rdb Reg.CUF_STATUS_RUNNING = false ∧
      (s.fault f).ldr = (if s.ldr = 8 then 9 else s.ldr) ∧ (s.fault f).rdb Reg.FLT_STATUS_MITTEN_STOPPED = true) ∧
    (cls < 5 → (s.fault f).rd Reg.FLT_STATUS_MODULE_FATAL = s.rd Reg.FLT_STATUS_MODULE_FATAL) ∧
    (cls = 5 → (s.fault f).rdb Reg.FLT_STATUS_MODULE_FATAL = true)

/-- A beacon's timestamp extends to the full value nearest the module's own crown: the low 28 bits are the stamp's, and no other value
with those bits is nearer. -/
def Obligations.StampExtendsToTheNearestValue : Prop :=
  ∀ x near : Nat, x < 2 ^ 28 → extendStamp x near % 2 ^ 28 = x ∧
    ∀ y : Int, y % 2 ^ 28 = x → (extendStamp x near - near).natAbs ≤ (y - near).natAbs

/-- The stretches a clock remembers stay at least eight cycles apart and at most 51 in 1,024 cycles, whatever droops come; a droop
stretches no cycle but the next. -/
def Obligations.StretchesStayApart : Prop :=
  ∀ (s t : State) (g : Fin 17), (s.rg g).stretches.Pairwise (fun x y => y + 8 ≤ x) → (s.rg g).stretches.length ≤ 51 →
    exec (.droopDetected g) s = .next t →
    (t.rg g).stretches.Pairwise (fun x y => y + 8 ≤ x) ∧ (t.rg g).stretches.length ≤ 51 ∧
    (∀ x ∈ (t.rg g).stretches, x ∈ (s.rg g).stretches ∨ x = (s.rg g).cycle + 1) ∧
    ∀ g', g' ≠ g.val → t.rg g' = s.rg g'

/-- The route word carries each of its fields: reading a field of a packed route word gives what was packed, for every value of every
field's width. -/
def Obligations.RouteWordCarriesItsFields : Prop :=
  ∀ (f : Flit) (src pkt born dr dq sr rtag rn kind hdr data : Nat), src < 2 ^ 12 → pkt < 2 ^ 16 → born < 2 ^ 16 → dr < 2 ^ 16 →
    dq < 2 ^ 8 → sr < 2 ^ 16 → rtag < 2 ^ 16 → rn < 2 ^ 8 → kind < 2 ^ 4 → hdr < 2 ^ 144 →
    f.payload = routeWord src pkt born dr dq sr rtag rn kind hdr + 2 ^ 256 * data →
    rwSrc f = src ∧ rwPkt f = pkt ∧ rwBorn f = born ∧ rwDstRank f = dr ∧ rwDstQ f = dq ∧ rwSrcRank f = sr ∧ rwRtag f = rtag ∧
      rwReplyN f = rn ∧ rwKind f = kind ∧ rwHdr f = hdr ∧ rwData f = data

/-- An NVM sector programmed from the sector buffer reads back as the buffer, its erase count rises by 1, and every byte outside the
sector is as before. -/
def Obligations.ProgrammedSectorReadsBack : Prop :=
  ∀ (s : State) (sector : Nat),
    (s.program sector s.nvmBuf).nvm.bytes.readBytes (4096 * sector) 4096 = s.nvmBuf ∧
    (∀ a, a / 4096 ≠ sector → (s.program sector s.nvmBuf).nvm.bytes.read a = s.nvm.bytes.read a) ∧
    SMap.get (fun _ => 0) (s.program sector s.nvmBuf).nvm.wear sector = SMap.get (fun _ => 0) s.nvm.wear sector + 1

/-- The floating-point formats: a bit pattern that is not a NaN converts back to itself in every rounding mode, zeros and infinities with
their sign, and records no exception. -/
def Obligations.EveryValueConvertsToItself : Prop :=
  ∀ (fmt : Nat) (ff : FloatFmt) (x mode r : Nat), floatFmt fmt = some ff → x < 2 ^ (elemBits fmt) → r < 2 ^ 16 →
    (ff.decode x).isNan = false →
    ff.encode mode r (ff.decode x) = { bits := x, sat := false, nanMapped := false }

/-- Combines (R187): MAX and MIN of operands without a NaN give one of them bit for bit; in whatever order the operands come, ADD_L64
gives the same sum and OR the same bits. -/
def Obligations.CombinesOfLongSumsAndExtremes : Prop :=
  (∀ (isMax : Bool) (fmt : Nat) (xs : List Nat), xs ≠ [] → (∀ x ∈ xs, (decodeElem fmt x).isNan = false) →
    (cmbMinMax isMax fmt xs).bits ∈ xs) ∧
  (∀ xs ys : List Nat, xs.Perm ys → cmbElem 1 0x0B xs = cmbElem 1 0x0B ys) ∧
  (∀ (fmt : Nat) (xs ys : List Nat), xs.Perm ys → cmbElem 4 fmt xs = cmbElem 4 fmt ys)

/-- What stands on the wire (R122, R125 to R130, R156): a flit of any class is read from its slot's 400 bytes as it was sent, the null flit
too; a slot of which any one bit has flipped is errored; what is put into a frame stands there and nothing else moves; an
LCW keeps its bits under a CRC that holds, and a lane marker names its lane, link and frame. -/
def Obligations.SlotsWordsAndMarkersOnTheWire : Prop :=
  (∀ f : Flit, f.mitten < 2 ^ 12 → f.origSeq < 2 ^ 12 → f.payload < 2 ^ 3072 → f.seq < 2 ^ 24 → f.carried < 8 →
    (f.moved = false → f.origSeq = 0) → (f.carriedV = false → f.carried = 0) →
    ((f.cls = 0 ∧ f.fmt < 32 ∧ f.tag < 2 ^ 16 ∧ f.vc = 0 ∧ f.epoch = 0 ∧ f.lat = false ∧ f.dest = 0 ∧ f.age = 0) ∨
     (f.cls = 1 ∧ f.vc < 8 ∧ f.epoch < 2 ∧ f.dest < 2 ^ 12 ∧ f.age < 2 ^ 8 ∧ f.fmt = 0 ∧ f.tag = 0 ∧ f.void = false ∧
       f.poison = false) ∨ f = nullFlit) →
    flitBits f < 2 ^ 3200 ∧ slotOk (flitBits f) = true ∧ flitOf (flitBits f) = f) ∧
  (∀ x i : Nat, x < 2 ^ 3200 → slotOk x = true → i < 3200 → slotOk (x ^^^ 2 ^ i) = false) ∧
  (∀ x p n v : Nat, nbits (putBits x p n v) (p + n - 1) p = v % 2 ^ n ∨ n = 0) ∧
  (∀ x p n v i : Nat, (i < p ∨ p + n ≤ i) → nbit (putBits x p n v) i = nbit x i) ∧
  (∀ x : Nat, lcwSeal x < 2 ^ 192 ∧ lcwOk (lcwSeal x) = true ∧ lcwSeal x % 2 ^ 176 = x % 2 ^ 176) ∧
  (∀ lane link n : Nat, lane < 8 → link < 32 → markerOk (laneMarker lane link n) = true ∧ laneMarker lane link n < 2 ^ 64 ∧
    nbits (laneMarker lane link n) 55 53 = lane ∧ nbits (laneMarker lane link n) 52 48 = link ∧
    nbits (laneMarker lane link n) 47 8 = n % 2 ^ 40)
end

