-- ==== Sys2Proof/Laws/Map.lean ====
section
/-! SUPPORT. Sys2Proof/Laws/Map.lean: what reading and writing a sparse map give, that every operation keeps the canonical
form, and the same for byte memories. -/
set_option Elab.async false
namespace Sys2Proof.Machine

theorem SMap.find_erase_same {α : Type} (m : SMap α) (k : Nat) :
    (SMap.erase m k).find? (fun p => p.1 == k) = none := by
  simp [SMap.erase, List.find?_eq_none]

theorem SMap.find_erase_ne {α : Type} (m : SMap α) {k j : Nat} (h : j ≠ k) :
    (SMap.erase m k).find? (fun p => p.1 == j) = m.find? (fun p => p.1 == j) := by
  induction m with
  | nil => rfl
  | cons p m ih =>
    simp only [SMap.erase] at ih ⊢
    by_cases hk : p.1 = k
    · have hj : (p.1 == j) = false := by
        simp only [beq_eq_false_iff_ne]; rintro rfl; exact h hk
      simp only [List.filter_cons, hk, bne_self_eq_false, Bool.false_eq_true, if_false, List.find?_cons]
      rw [← hk, hj, hk]; exact ih
    · simp [hk, List.find?_cons, ih]

theorem SMap.find_insert_same {α : Type} (m : SMap α) (k : Nat) (v : α)
    (h : m.find? (fun p => p.1 == k) = none) :
    (SMap.insert k v m).find? (fun p => p.1 == k) = some (k, v) := by
  induction m with
  | nil => simp [SMap.insert]
  | cons p m ih =>
    simp only [List.find?_cons] at h
    split at h
    · cases h
    · rename_i hp
      simp only [SMap.insert]
      split
      · simp
      · simp [hp, ih h]

theorem SMap.find_insert_ne {α : Type} (m : SMap α) {k j : Nat} (v : α) (h : j ≠ k) :
    (SMap.insert k v m).find? (fun p => p.1 == j) = m.find? (fun p => p.1 == j) := by
  have hk : (k == j) = false := by simpa using fun e => h (Eq.symm e)
  induction m with
  | nil => simp [SMap.insert, hk]
  | cons p m ih =>
    simp only [SMap.insert]
    split
    · simp [List.find?_cons, hk]
    · simp [List.find?_cons, ih]

/-- Reading the key just written gives the value written. -/
@[simp] theorem SMap.get_set_same {α : Type} [DecidableEq α] (d : Nat → α) (m : SMap α) (k : Nat) (v : α) :
    SMap.get d (SMap.set d m k v) k = v := by
  have e := SMap.find_erase_same m k
  have i := SMap.find_insert_same (SMap.erase m k) k v e
  by_cases hv : v = d k
  · simp only [SMap.set, SMap.get, if_pos hv, e]; exact hv.symm
  · simp only [SMap.set, SMap.get, if_neg hv, i]

/-- A write leaves every other key as it was. -/
theorem SMap.get_set_ne {α : Type} [DecidableEq α] (d : Nat → α) (m : SMap α) {k j : Nat} (v : α) (h : j ≠ k) :
    SMap.get d (SMap.set d m k v) j = SMap.get d m j := by
  have e := SMap.find_erase_ne m h
  have i := SMap.find_insert_ne (SMap.erase m k) v h
  by_cases hv : v = d k
  · simp only [SMap.set, SMap.get, if_pos hv, e]
  · simp only [SMap.set, SMap.get, if_neg hv, i, e]

theorem SMap.get_set {α : Type} [DecidableEq α] (d : Nat → α) (m : SMap α) (k j : Nat) (v : α) :
    SMap.get d (SMap.set d m k v) j = if j = k then v else SMap.get d m j := by
  split
  · rename_i h; subst h; simp
  · rename_i h; exact SMap.get_set_ne d m v h

theorem SMap.rising_filter {α : Type} (q : Nat × α → Bool) (m : SMap α) (h : SMap.rising m = true) :
    SMap.rising (m.filter q) = true := by
  induction m with
  | nil => rfl
  | cons p m ih =>
    simp only [SMap.rising, Bool.and_eq_true, List.all_eq_true] at h
    simp only [List.filter_cons]
    split
    · simp only [SMap.rising, Bool.and_eq_true, List.all_eq_true]
      exact ⟨fun x hx => h.1 x (List.mem_filter.mp hx).1, ih h.2⟩
    · exact ih h.2

theorem SMap.mem_insert {α : Type} (k : Nat) (v : α) (m : SMap α) (x : Nat × α) :
    x ∈ SMap.insert k v m ↔ x = (k, v) ∨ x ∈ m := by
  induction m with
  | nil => simp [SMap.insert]
  | cons p m ih =>
    simp only [SMap.insert]
    split
    · simp
    · simp [ih]; tauto

theorem SMap.rising_insert {α : Type} (k : Nat) (v : α) (m : SMap α) (h : SMap.rising m = true)
    (hk : ∀ x ∈ m, x.1 ≠ k) : SMap.rising (SMap.insert k v m) = true := by
  induction m with
  | nil => simp [SMap.insert, SMap.rising]
  | cons p m ih =>
    simp only [SMap.rising, Bool.and_eq_true, List.all_eq_true, decide_eq_true_eq] at h
    simp only [SMap.insert]
    split
    · rename_i hlt
      simp only [SMap.rising, Bool.and_eq_true, List.all_eq_true, decide_eq_true_eq]
      refine ⟨fun x hx => ?_, h.1, h.2⟩
      rcases List.mem_cons.mp hx with rfl | hx
      · exact hlt
      · exact lt_trans hlt (h.1 x hx)
    · rename_i hge
      simp only [SMap.rising, Bool.and_eq_true, List.all_eq_true, decide_eq_true_eq]
      refine ⟨fun x hx => ?_, ih h.2 (fun x hx => hk x (List.mem_cons_of_mem _ hx))⟩
      rcases (SMap.mem_insert k v m x).mp hx with rfl | hx
      · have := hk p (List.mem_cons_self ..)
        simp only; omega
      · exact h.1 x hx

/-- Every write keeps the canonical form. -/
theorem SMap.wf_set {α : Type} [DecidableEq α] (d : Nat → α) (m : SMap α) (k : Nat) (v : α)
    (h : SMap.wf d m = true) : SMap.wf d (SMap.set d m k v) = true := by
  simp only [SMap.wf, Bool.and_eq_true, List.all_eq_true] at h
  have her : SMap.rising (SMap.erase m k) = true := SMap.rising_filter _ m h.1
  have hed : ∀ p ∈ SMap.erase m k, (p.2 != d p.1) = true :=
    fun p hp => h.2 p (List.mem_filter.mp hp).1
  unfold SMap.set
  split
  · simp only [SMap.wf, Bool.and_eq_true, List.all_eq_true]; exact ⟨her, hed⟩
  · rename_i hv
    simp only [SMap.wf, Bool.and_eq_true, List.all_eq_true]
    refine ⟨SMap.rising_insert k v _ her (fun x hx => ?_), fun p hp => ?_⟩
    · simpa using (List.mem_filter.mp hx).2
    · rcases (SMap.mem_insert k v _ p).mp hp with rfl | hp
      · simpa using hv
      · exact hed p hp

/-- Dropping keys keeps the canonical form. -/
theorem SMap.wf_clear {α : Type} [DecidableEq α] (d : Nat → α) (m : SMap α) (q : Nat → Bool)
    (h : SMap.wf d m = true) : SMap.wf d (SMap.clear m q) = true := by
  simp only [SMap.wf, Bool.and_eq_true, List.all_eq_true] at h ⊢
  exact ⟨SMap.rising_filter _ m h.1, fun p hp => h.2 p (List.mem_filter.mp hp).1⟩

/-- Reading after a clear: the default for a cleared key, the old value for any other. -/
theorem SMap.get_clear {α : Type} (d : Nat → α) (m : SMap α) (q : Nat → Bool) (k : Nat) :
    SMap.get d (SMap.clear m q) k = if q k then d k else SMap.get d m k := by
  unfold SMap.clear SMap.get
  by_cases hq : q k = true
  · rw [if_pos hq, List.find?_eq_none.mpr]
    intro x hx hc
    have hx2 := (List.mem_filter.mp hx).2
    have hxk : x.1 = k := by simpa using hc
    rw [hxk] at hx2
    simp [hq] at hx2
  · rw [if_neg hq]
    congr 1
    induction m with
    | nil => rfl
    | cons p m ih =>
      by_cases hp : q p.1 = true
      · have hpk : (p.1 == k) = false := by
          simp only [beq_eq_false_iff_ne]; rintro rfl; exact hq hp
        simp [hp, hpk, ih]
      · simp [hp, List.find?_cons, ih]

/-- Reading a byte just written. -/
@[simp] theorem Memory.read_write_same (m : Memory) (a : Nat) (b : Byte) : (m.write a b).read a = b := by
  simp [Memory.read, Memory.write]

/-- A byte write leaves every other byte as it was. -/
theorem Memory.read_write_ne (m : Memory) {a a' : Nat} (b : Byte) (h : a' ≠ a) :
    (m.write a b).read a' = m.read a' := SMap.get_set_ne _ m b h

/-- A byte write keeps the canonical form. -/
theorem Memory.wf_write (m : Memory) (a : Nat) (b : Byte) (h : m.wf = true) : (m.write a b).wf = true :=
  SMap.wf_set _ m a b h

/-- A write of many bytes keeps the canonical form. -/
theorem Memory.wf_writeBytes (m : Memory) (a : Nat) (bs : List Byte) (h : m.wf = true) :
    (m.writeBytes a bs).wf = true := by
  induction bs generalizing m a with
  | nil => exact h
  | cons b bs ih => exact ih _ _ (Memory.wf_write m a b h)

/-- A write of many bytes leaves every byte outside them as it was. -/
theorem Memory.read_writeBytes_out (m : Memory) (a a' : Nat) (bs : List Byte)
    (h : a' < a ∨ a + bs.length ≤ a') : (m.writeBytes a bs).read a' = m.read a' := by
  induction bs generalizing m a with
  | nil => rfl
  | cons b bs ih =>
    simp only [List.length_cons] at h
    rw [Memory.writeBytes, ih _ _ (by omega), Memory.read_write_ne m b (by omega)]

end Sys2Proof.Machine
end

