-- ==== Sys2Proof/Laws/Kept.lean ====
section
/-! SUPPORT. Sys2Proof/Laws/Kept.lean: what every operation of the model keeps of a state `r` it started from: the queue and
the model's clock are untouched, nothing already sent is taken back, every canonical map stays canonical, and no part of the
state outside `w` changes. The files Kept<Module>.lean beside this one hold one lemma for each operation of a module; this one
holds how they compose. -/
set_option Elab.async false
namespace Sys2Proof.Machine

/-- `s` came from `r` by changes to the register file and to the parts in `w` alone, without touching the queue or the model's
clock; what was sent stays sent, and canonical maps stay so. -/
structure Kept (w : Wr) (r s : State) : Prop extends Wr.Same w r s where
  pending : s.pending = r.pending
  cyc : s.cyc = r.cyc
  egress : r.egress <+: s.egress
  regsWf : SMap.wf Reg.resetVal r.regs = true → SMap.wf Reg.resetVal s.regs = true
  bar2Wf : SMap.wf (fun _ => 0) r.bar2 = true → SMap.wf (fun _ => 0) s.bar2 = true
  hbmWf : r.hbm.wf = true → s.hbm.wf = true
  sramWf : r.sram.wf = true → s.sram.wf = true
  nvmWf : r.nvm.bytes.wf = true → s.nvm.bytes.wf = true

/-- The state of a pair was kept. -/
def KeptP {α : Type} (w : Wr) (r : State) (x : State × α) : Prop := Kept w r x.1

/-- The state an operation answers, if it answers one, was kept. -/
def KeptO (w : Wr) (r : State) : Option State → Prop
  | some s => Kept w r s
  | none => True

/-- The same for an answer that carries more than the state. -/
def KeptOP {α : Type} (w : Wr) (r : State) : Option (State × α) → Prop
  | some s => Kept w r s.1
  | none => True

/-- The state inside an assignment of the lattice was kept. -/
def KeptAsg (w : Wr) (r : State) (a : Assign) : Prop := Kept w r a.s

/-- The state inside what the ingress checks answer was kept. -/
def KeptArr (w : Wr) (r : State) : Arrival → Prop
  | .dropped s => Kept w r s
  | .neighbour s => Kept w r s
  | .ptp s => Kept w r s
  | .dgram s _ => Kept w r s

/-- A command answers a next state, and that state was kept. -/
def Answers (w : Wr) (r : State) (o : Host.Outcome State Fault Refusal) : Prop := ∃ t, o = .next t ∧ Kept w r t

theorem Kept.refl {w : Wr} (r : State) : Kept w r r where
  pending := rfl
  cyc := rfl
  egress := List.prefix_rfl
  regsWf := id
  bar2Wf := id
  hbmWf := id
  sramWf := id
  nvmWf := id
  bar2 := .inr rfl
  hbm := .inr rfl
  sram := .inr rfl
  crown := .inr rfl
  rgn := .inr rfl
  links := .inr rfl
  cuff := .inr rfl
  route := .inr rfl
  flt := .inr rfl
  time := .inr rfl
  pwr := .inr rfl
  mem := .inr rfl
  palm := .inr rfl
  ldrs := .inr rfl
  boot := .inr rfl
  nvm := .inr rfl
  bon := .inr rfl
  freeCtr := .inr rfl
  same := .inr rfl
  flash := .inr rfl

/-- A part that may change, or is as it was, after two moves. -/
theorem or_trans {α : Type} {p : Prop} {a b c : α} (g : p ∨ a = b) (h : p ∨ b = c) : p ∨ a = c := by
  rcases g with g | g
  · exact .inl g
  · rcases h with h | h
    · exact .inl h
    · exact .inr (g.trans h)

theorem Answers.next {w : Wr} {r s : State} (h : Kept w r s) : Answers w r (.next s) := ⟨s, rfl, h⟩

/-- An update of fields other than the queue, the clock, the egress, the register file and the memories; each changed field names its permission. -/
theorem Kept.upd {w : Wr} {r s : State} (h : Kept w r s) {cr : CrownSt} {rg : SMap RgnSt} {lk : SMap LinkSt} {cu : CuffSt} {ro : RouteSt} {fl : FltSt} {ti : TimeSt} {pw :
    PwrSt} {me : MemSt} {pa : PalmSt} {ld : LdrSt} {bo : BootSt} {nv : NvmSt} {bn : BonSt} {fr : Nat} {sm : SameSt}
    (bytes : nv.bytes = s.nvm.bytes := by rfl)
    (crown : w.crown = true ∨ cr = s.crown := by exact .inr rfl)
    (rgn : w.rgn = true ∨ rg = s.rgn := by exact .inr rfl)
    (links : w.links = true ∨ lk = s.links := by exact .inr rfl)
    (cuff : w.cuff = true ∨ cu = s.cuff := by exact .inr rfl)
    (route : w.route = true ∨ ro = s.route := by exact .inr rfl)
    (flt : w.flt = true ∨ fl = s.flt := by exact .inr rfl)
    (time : w.time = true ∨ ti = s.time := by exact .inr rfl)
    (pwr : w.pwr = true ∨ pw = s.pwr := by exact .inr rfl)
    (mem : w.mem = true ∨ me = s.mem := by exact .inr rfl)
    (palm : w.palm = true ∨ pa = s.palm := by exact .inr rfl)
    (ldrs : w.ldrs = true ∨ ld = s.ldrs := by exact .inr rfl)
    (boot : w.boot = true ∨ bo = s.boot := by exact .inr rfl)
    (nvm : w.nvm = true ∨ nv = s.nvm := by exact .inr rfl)
    (bon : w.bon = true ∨ bn = s.bon := by exact .inr rfl)
    (freeCtr : w.freeCtr = true ∨ fr = s.freeCtr := by exact .inr rfl)
    (same : w.same = true ∨ sm = s.same := by exact .inr rfl) :
    Kept w r (State.mk s.pending s.regs s.bar2 s.hbm s.sram cr rg lk cu ro fl ti pw me pa ld bo nv bn s.egress s.cyc fr sm) where
  pending := h.pending
  cyc := h.cyc
  egress := h.egress
  regsWf := h.regsWf
  bar2Wf := h.bar2Wf
  hbmWf := h.hbmWf
  sramWf := h.sramWf
  nvmWf := fun g => by show Memory.wf nv.bytes = true; rw [bytes]; exact h.nvmWf g
  bar2 := h.bar2
  hbm := h.hbm
  sram := h.sram
  crown := or_trans crown h.crown
  rgn := or_trans rgn h.rgn
  links := or_trans links h.links
  cuff := or_trans cuff h.cuff
  route := or_trans route h.route
  flt := or_trans flt h.flt
  time := or_trans time h.time
  pwr := or_trans pwr h.pwr
  mem := or_trans mem h.mem
  palm := or_trans palm h.palm
  ldrs := or_trans ldrs h.ldrs
  boot := or_trans boot h.boot
  nvm := or_trans nvm h.nvm
  bon := or_trans bon h.bon
  freeCtr := or_trans freeCtr h.freeCtr
  same := or_trans same h.same
  flash := or_trans (.inr bytes) h.flash

/-- An update of the register file that keeps its form, beside other fields. -/
theorem Kept.updRegs {w : Wr} {r s : State} (h : Kept w r s) {cr : CrownSt} {rg : SMap RgnSt} {lk : SMap LinkSt} {cu : CuffSt} {ro : RouteSt} {fl : FltSt} {ti : TimeSt} {pw :
    PwrSt} {me : MemSt} {pa : PalmSt} {ld : LdrSt} {bo : BootSt} {nv : NvmSt} {bn : BonSt} {fr : Nat} {sm : SameSt} {rs : SMap Word}
    (wf : SMap.wf Reg.resetVal s.regs = true → SMap.wf Reg.resetVal rs = true)
    (bytes : nv.bytes = s.nvm.bytes := by rfl)
    (crown : w.crown = true ∨ cr = s.crown := by exact .inr rfl)
    (rgn : w.rgn = true ∨ rg = s.rgn := by exact .inr rfl)
    (links : w.links = true ∨ lk = s.links := by exact .inr rfl)
    (cuff : w.cuff = true ∨ cu = s.cuff := by exact .inr rfl)
    (route : w.route = true ∨ ro = s.route := by exact .inr rfl)
    (flt : w.flt = true ∨ fl = s.flt := by exact .inr rfl)
    (time : w.time = true ∨ ti = s.time := by exact .inr rfl)
    (pwr : w.pwr = true ∨ pw = s.pwr := by exact .inr rfl)
    (mem : w.mem = true ∨ me = s.mem := by exact .inr rfl)
    (palm : w.palm = true ∨ pa = s.palm := by exact .inr rfl)
    (ldrs : w.ldrs = true ∨ ld = s.ldrs := by exact .inr rfl)
    (boot : w.boot = true ∨ bo = s.boot := by exact .inr rfl)
    (nvm : w.nvm = true ∨ nv = s.nvm := by exact .inr rfl)
    (bon : w.bon = true ∨ bn = s.bon := by exact .inr rfl)
    (freeCtr : w.freeCtr = true ∨ fr = s.freeCtr := by exact .inr rfl)
    (same : w.same = true ∨ sm = s.same := by exact .inr rfl) :
    Kept w r (State.mk s.pending rs s.bar2 s.hbm s.sram cr rg lk cu ro fl ti pw me pa ld bo nv bn s.egress s.cyc fr sm) where
  pending := h.pending
  cyc := h.cyc
  egress := h.egress
  regsWf := fun g => wf (h.regsWf g)
  bar2Wf := h.bar2Wf
  hbmWf := h.hbmWf
  sramWf := h.sramWf
  nvmWf := fun g => by show Memory.wf nv.bytes = true; rw [bytes]; exact h.nvmWf g
  bar2 := h.bar2
  hbm := h.hbm
  sram := h.sram
  crown := or_trans crown h.crown
  rgn := or_trans rgn h.rgn
  links := or_trans links h.links
  cuff := or_trans cuff h.cuff
  route := or_trans route h.route
  flt := or_trans flt h.flt
  time := or_trans time h.time
  pwr := or_trans pwr h.pwr
  mem := or_trans mem h.mem
  palm := or_trans palm h.palm
  ldrs := or_trans ldrs h.ldrs
  boot := or_trans boot h.boot
  nvm := or_trans nvm h.nvm
  bon := or_trans bon h.bon
  freeCtr := or_trans freeCtr h.freeCtr
  same := or_trans same h.same
  flash := or_trans (.inr bytes) h.flash

/-- An update of the BAR2 tables that keeps their form, beside other fields. -/
theorem Kept.updBar2 {w : Wr} {r s : State} (h : Kept w r s) {cr : CrownSt} {rg : SMap RgnSt} {lk : SMap LinkSt} {cu : CuffSt} {ro : RouteSt} {fl : FltSt} {ti : TimeSt} {pw :
    PwrSt} {me : MemSt} {pa : PalmSt} {ld : LdrSt} {bo : BootSt} {nv : NvmSt} {bn : BonSt} {fr : Nat} {sm : SameSt} {b2 : SMap Word}
    (w_bar2 : w.bar2 = true)
    (wf : SMap.wf (fun _ => 0) s.bar2 = true → SMap.wf (fun _ => 0) b2 = true)
    (bytes : nv.bytes = s.nvm.bytes := by rfl)
    (crown : w.crown = true ∨ cr = s.crown := by exact .inr rfl)
    (rgn : w.rgn = true ∨ rg = s.rgn := by exact .inr rfl)
    (links : w.links = true ∨ lk = s.links := by exact .inr rfl)
    (cuff : w.cuff = true ∨ cu = s.cuff := by exact .inr rfl)
    (route : w.route = true ∨ ro = s.route := by exact .inr rfl)
    (flt : w.flt = true ∨ fl = s.flt := by exact .inr rfl)
    (time : w.time = true ∨ ti = s.time := by exact .inr rfl)
    (pwr : w.pwr = true ∨ pw = s.pwr := by exact .inr rfl)
    (mem : w.mem = true ∨ me = s.mem := by exact .inr rfl)
    (palm : w.palm = true ∨ pa = s.palm := by exact .inr rfl)
    (ldrs : w.ldrs = true ∨ ld = s.ldrs := by exact .inr rfl)
    (boot : w.boot = true ∨ bo = s.boot := by exact .inr rfl)
    (nvm : w.nvm = true ∨ nv = s.nvm := by exact .inr rfl)
    (bon : w.bon = true ∨ bn = s.bon := by exact .inr rfl)
    (freeCtr : w.freeCtr = true ∨ fr = s.freeCtr := by exact .inr rfl)
    (same : w.same = true ∨ sm = s.same := by exact .inr rfl) :
    Kept w r (State.mk s.pending s.regs b2 s.hbm s.sram cr rg lk cu ro fl ti pw me pa ld bo nv bn s.egress s.cyc fr sm) where
  pending := h.pending
  cyc := h.cyc
  egress := h.egress
  regsWf := h.regsWf
  bar2Wf := fun g => wf (h.bar2Wf g)
  hbmWf := h.hbmWf
  sramWf := h.sramWf
  nvmWf := fun g => by show Memory.wf nv.bytes = true; rw [bytes]; exact h.nvmWf g
  bar2 := .inl w_bar2
  hbm := h.hbm
  sram := h.sram
  crown := or_trans crown h.crown
  rgn := or_trans rgn h.rgn
  links := or_trans links h.links
  cuff := or_trans cuff h.cuff
  route := or_trans route h.route
  flt := or_trans flt h.flt
  time := or_trans time h.time
  pwr := or_trans pwr h.pwr
  mem := or_trans mem h.mem
  palm := or_trans palm h.palm
  ldrs := or_trans ldrs h.ldrs
  boot := or_trans boot h.boot
  nvm := or_trans nvm h.nvm
  bon := or_trans bon h.bon
  freeCtr := or_trans freeCtr h.freeCtr
  same := or_trans same h.same
  flash := or_trans (.inr bytes) h.flash

/-- An update of HBM contents that keeps their form, beside other fields. -/
theorem Kept.updHbm {w : Wr} {r s : State} (h : Kept w r s) {cr : CrownSt} {rg : SMap RgnSt} {lk : SMap LinkSt} {cu : CuffSt} {ro : RouteSt} {fl : FltSt} {ti : TimeSt} {pw :
    PwrSt} {me : MemSt} {pa : PalmSt} {ld : LdrSt} {bo : BootSt} {nv : NvmSt} {bn : BonSt} {fr : Nat} {sm : SameSt} {hb : Memory}
    (w_hbm : w.hbm = true)
    (wf : s.hbm.wf = true → Memory.wf hb = true)
    (bytes : nv.bytes = s.nvm.bytes := by rfl)
    (crown : w.crown = true ∨ cr = s.crown := by exact .inr rfl)
    (rgn : w.rgn = true ∨ rg = s.rgn := by exact .inr rfl)
    (links : w.links = true ∨ lk = s.links := by exact .inr rfl)
    (cuff : w.cuff = true ∨ cu = s.cuff := by exact .inr rfl)
    (route : w.route = true ∨ ro = s.route := by exact .inr rfl)
    (flt : w.flt = true ∨ fl = s.flt := by exact .inr rfl)
    (time : w.time = true ∨ ti = s.time := by exact .inr rfl)
    (pwr : w.pwr = true ∨ pw = s.pwr := by exact .inr rfl)
    (mem : w.mem = true ∨ me = s.mem := by exact .inr rfl)
    (palm : w.palm = true ∨ pa = s.palm := by exact .inr rfl)
    (ldrs : w.ldrs = true ∨ ld = s.ldrs := by exact .inr rfl)
    (boot : w.boot = true ∨ bo = s.boot := by exact .inr rfl)
    (nvm : w.nvm = true ∨ nv = s.nvm := by exact .inr rfl)
    (bon : w.bon = true ∨ bn = s.bon := by exact .inr rfl)
    (freeCtr : w.freeCtr = true ∨ fr = s.freeCtr := by exact .inr rfl)
    (same : w.same = true ∨ sm = s.same := by exact .inr rfl) :
    Kept w r (State.mk s.pending s.regs s.bar2 hb s.sram cr rg lk cu ro fl ti pw me pa ld bo nv bn s.egress s.cyc fr sm) where
  pending := h.pending
  cyc := h.cyc
  egress := h.egress
  regsWf := h.regsWf
  bar2Wf := h.bar2Wf
  hbmWf := fun g => wf (h.hbmWf g)
  sramWf := h.sramWf
  nvmWf := fun g => by show Memory.wf nv.bytes = true; rw [bytes]; exact h.nvmWf g
  bar2 := h.bar2
  hbm := .inl w_hbm
  sram := h.sram
  crown := or_trans crown h.crown
  rgn := or_trans rgn h.rgn
  links := or_trans links h.links
  cuff := or_trans cuff h.cuff
  route := or_trans route h.route
  flt := or_trans flt h.flt
  time := or_trans time h.time
  pwr := or_trans pwr h.pwr
  mem := or_trans mem h.mem
  palm := or_trans palm h.palm
  ldrs := or_trans ldrs h.ldrs
  boot := or_trans boot h.boot
  nvm := or_trans nvm h.nvm
  bon := or_trans bon h.bon
  freeCtr := or_trans freeCtr h.freeCtr
  same := or_trans same h.same
  flash := or_trans (.inr bytes) h.flash

/-- An update of tile SRAM contents that keeps their form, beside other fields. -/
theorem Kept.updSram {w : Wr} {r s : State} (h : Kept w r s) {cr : CrownSt} {rg : SMap RgnSt} {lk : SMap LinkSt} {cu : CuffSt} {ro : RouteSt} {fl : FltSt} {ti : TimeSt} {pw :
    PwrSt} {me : MemSt} {pa : PalmSt} {ld : LdrSt} {bo : BootSt} {nv : NvmSt} {bn : BonSt} {fr : Nat} {sm : SameSt} {sr : Memory}
    (w_sram : w.sram = true)
    (wf : s.sram.wf = true → Memory.wf sr = true)
    (bytes : nv.bytes = s.nvm.bytes := by rfl)
    (crown : w.crown = true ∨ cr = s.crown := by exact .inr rfl)
    (rgn : w.rgn = true ∨ rg = s.rgn := by exact .inr rfl)
    (links : w.links = true ∨ lk = s.links := by exact .inr rfl)
    (cuff : w.cuff = true ∨ cu = s.cuff := by exact .inr rfl)
    (route : w.route = true ∨ ro = s.route := by exact .inr rfl)
    (flt : w.flt = true ∨ fl = s.flt := by exact .inr rfl)
    (time : w.time = true ∨ ti = s.time := by exact .inr rfl)
    (pwr : w.pwr = true ∨ pw = s.pwr := by exact .inr rfl)
    (mem : w.mem = true ∨ me = s.mem := by exact .inr rfl)
    (palm : w.palm = true ∨ pa = s.palm := by exact .inr rfl)
    (ldrs : w.ldrs = true ∨ ld = s.ldrs := by exact .inr rfl)
    (boot : w.boot = true ∨ bo = s.boot := by exact .inr rfl)
    (nvm : w.nvm = true ∨ nv = s.nvm := by exact .inr rfl)
    (bon : w.bon = true ∨ bn = s.bon := by exact .inr rfl)
    (freeCtr : w.freeCtr = true ∨ fr = s.freeCtr := by exact .inr rfl)
    (same : w.same = true ∨ sm = s.same := by exact .inr rfl) :
    Kept w r (State.mk s.pending s.regs s.bar2 s.hbm sr cr rg lk cu ro fl ti pw me pa ld bo nv bn s.egress s.cyc fr sm) where
  pending := h.pending
  cyc := h.cyc
  egress := h.egress
  regsWf := h.regsWf
  bar2Wf := h.bar2Wf
  hbmWf := h.hbmWf
  sramWf := fun g => wf (h.sramWf g)
  nvmWf := fun g => by show Memory.wf nv.bytes = true; rw [bytes]; exact h.nvmWf g
  bar2 := h.bar2
  hbm := h.hbm
  sram := .inl w_sram
  crown := or_trans crown h.crown
  rgn := or_trans rgn h.rgn
  links := or_trans links h.links
  cuff := or_trans cuff h.cuff
  route := or_trans route h.route
  flt := or_trans flt h.flt
  time := or_trans time h.time
  pwr := or_trans pwr h.pwr
  mem := or_trans mem h.mem
  palm := or_trans palm h.palm
  ldrs := or_trans ldrs h.ldrs
  boot := or_trans boot h.boot
  nvm := or_trans nvm h.nvm
  bon := or_trans bon h.bon
  freeCtr := or_trans freeCtr h.freeCtr
  same := or_trans same h.same
  flash := or_trans (.inr bytes) h.flash

/-- An update of the NVM engine that leaves the bytes NVM holds as some earlier state `q` had them, beside other fields. -/
theorem Kept.updNvm {w : Wr} {r s : State} (h : Kept w r s) {cr : CrownSt} {rg : SMap RgnSt} {lk : SMap LinkSt} {cu : CuffSt} {ro : RouteSt} {fl : FltSt} {ti : TimeSt} {pw :
    PwrSt} {me : MemSt} {pa : PalmSt} {ld : LdrSt} {bo : BootSt} {nv : NvmSt} {bn : BonSt} {fr : Nat} {sm : SameSt}
    {q : State} (hq : Kept w r q)
    (bytes : nv.bytes = q.nvm.bytes := by rfl)
    (crown : w.crown = true ∨ cr = s.crown := by exact .inr rfl)
    (rgn : w.rgn = true ∨ rg = s.rgn := by exact .inr rfl)
    (links : w.links = true ∨ lk = s.links := by exact .inr rfl)
    (cuff : w.cuff = true ∨ cu = s.cuff := by exact .inr rfl)
    (route : w.route = true ∨ ro = s.route := by exact .inr rfl)
    (flt : w.flt = true ∨ fl = s.flt := by exact .inr rfl)
    (time : w.time = true ∨ ti = s.time := by exact .inr rfl)
    (pwr : w.pwr = true ∨ pw = s.pwr := by exact .inr rfl)
    (mem : w.mem = true ∨ me = s.mem := by exact .inr rfl)
    (palm : w.palm = true ∨ pa = s.palm := by exact .inr rfl)
    (ldrs : w.ldrs = true ∨ ld = s.ldrs := by exact .inr rfl)
    (boot : w.boot = true ∨ bo = s.boot := by exact .inr rfl)
    (nvm : w.nvm = true ∨ nv = s.nvm := by exact .inr rfl)
    (bon : w.bon = true ∨ bn = s.bon := by exact .inr rfl)
    (freeCtr : w.freeCtr = true ∨ fr = s.freeCtr := by exact .inr rfl)
    (same : w.same = true ∨ sm = s.same := by exact .inr rfl) :
    Kept w r (State.mk s.pending s.regs s.bar2 s.hbm s.sram cr rg lk cu ro fl ti pw me pa ld bo nv bn s.egress s.cyc fr sm) where
  pending := h.pending
  cyc := h.cyc
  egress := h.egress
  regsWf := h.regsWf
  bar2Wf := h.bar2Wf
  hbmWf := h.hbmWf
  sramWf := h.sramWf
  nvmWf := fun g => by show Memory.wf nv.bytes = true; rw [bytes]; exact hq.nvmWf g
  bar2 := h.bar2
  hbm := h.hbm
  sram := h.sram
  crown := or_trans crown h.crown
  rgn := or_trans rgn h.rgn
  links := or_trans links h.links
  cuff := or_trans cuff h.cuff
  route := or_trans route h.route
  flt := or_trans flt h.flt
  time := or_trans time h.time
  pwr := or_trans pwr h.pwr
  mem := or_trans mem h.mem
  palm := or_trans palm h.palm
  ldrs := or_trans ldrs h.ldrs
  boot := or_trans boot h.boot
  nvm := or_trans nvm h.nvm
  bon := or_trans bon h.bon
  freeCtr := or_trans freeCtr h.freeCtr
  same := or_trans same h.same
  flash := or_trans (.inr bytes) hq.flash

/-- An update of the bytes NVM holds that keeps their form, beside other fields. -/
theorem Kept.updFlash {w : Wr} {r s : State} (h : Kept w r s) {cr : CrownSt} {rg : SMap RgnSt} {lk : SMap LinkSt} {cu : CuffSt} {ro : RouteSt} {fl : FltSt} {ti : TimeSt} {pw :
    PwrSt} {me : MemSt} {pa : PalmSt} {ld : LdrSt} {bo : BootSt} {nv : NvmSt} {bn : BonSt} {fr : Nat} {sm : SameSt}
    (w_flash : w.flash = true)
    (wf : r.nvm.bytes.wf = true → nv.bytes.wf = true)
    (crown : w.crown = true ∨ cr = s.crown := by exact .inr rfl)
    (rgn : w.rgn = true ∨ rg = s.rgn := by exact .inr rfl)
    (links : w.links = true ∨ lk = s.links := by exact .inr rfl)
    (cuff : w.cuff = true ∨ cu = s.cuff := by exact .inr rfl)
    (route : w.route = true ∨ ro = s.route := by exact .inr rfl)
    (flt : w.flt = true ∨ fl = s.flt := by exact .inr rfl)
    (time : w.time = true ∨ ti = s.time := by exact .inr rfl)
    (pwr : w.pwr = true ∨ pw = s.pwr := by exact .inr rfl)
    (mem : w.mem = true ∨ me = s.mem := by exact .inr rfl)
    (palm : w.palm = true ∨ pa = s.palm := by exact .inr rfl)
    (ldrs : w.ldrs = true ∨ ld = s.ldrs := by exact .inr rfl)
    (boot : w.boot = true ∨ bo = s.boot := by exact .inr rfl)
    (nvm : w.nvm = true ∨ nv = s.nvm := by exact .inr rfl)
    (bon : w.bon = true ∨ bn = s.bon := by exact .inr rfl)
    (freeCtr : w.freeCtr = true ∨ fr = s.freeCtr := by exact .inr rfl)
    (same : w.same = true ∨ sm = s.same := by exact .inr rfl) :
    Kept w r (State.mk s.pending s.regs s.bar2 s.hbm s.sram cr rg lk cu ro fl ti pw me pa ld bo nv bn s.egress s.cyc fr sm) where
  pending := h.pending
  cyc := h.cyc
  egress := h.egress
  regsWf := h.regsWf
  bar2Wf := h.bar2Wf
  hbmWf := h.hbmWf
  sramWf := h.sramWf
  nvmWf := wf
  bar2 := h.bar2
  hbm := h.hbm
  sram := h.sram
  crown := or_trans crown h.crown
  rgn := or_trans rgn h.rgn
  links := or_trans links h.links
  cuff := or_trans cuff h.cuff
  route := or_trans route h.route
  flt := or_trans flt h.flt
  time := or_trans time h.time
  pwr := or_trans pwr h.pwr
  mem := or_trans mem h.mem
  palm := or_trans palm h.palm
  ldrs := or_trans ldrs h.ldrs
  boot := or_trans boot h.boot
  nvm := or_trans nvm h.nvm
  bon := or_trans bon h.bon
  freeCtr := or_trans freeCtr h.freeCtr
  same := or_trans same h.same
  flash := .inl w_flash

theorem KeptAsg.mk {w : Wr} {r s : State} (h : Kept w r s) {f b : List Nat} : KeptAsg w r ⟨s, f, b⟩ := h
theorem KeptArr.dropped_ {w : Wr} {r s : State} (h : Kept w r s) : KeptArr w r (.dropped s) := h
theorem KeptArr.neighbour_ {w : Wr} {r s : State} (h : Kept w r s) : KeptArr w r (.neighbour s) := h
theorem KeptArr.ptp_ {w : Wr} {r s : State} (h : Kept w r s) : KeptArr w r (.ptp s) := h
theorem KeptArr.dgram_ {w : Wr} {r s : State} (h : Kept w r s) {d : Dgram} : KeptArr w r (.dgram s d) := h
theorem KeptO.some {w : Wr} {r s : State} (h : Kept w r s) : KeptO w r (Option.some s) := h
theorem KeptO.none {w : Wr} {r : State} : KeptO w r Option.none := trivial
theorem KeptOP.some {α : Type} {w : Wr} {r : State} {x : State × α} (h : KeptP w r x) : KeptOP w r (Option.some x) := h
theorem KeptOP.none {α : Type} {w : Wr} {r : State} : KeptOP w r (Option.none : Option (State × α)) := trivial

theorem KeptO.map {β : Type} {w : Wr} {r : State} {o : Option β} {f : β → State} (h : ∀ b, Kept w r (f b)) :
    KeptO w r (o.map f) := by
  cases o with
  | none => trivial
  | some b => exact h b

theorem KeptO.mapS {w : Wr} {r : State} {o : Option State} {f : State → State} (h : KeptO w r o)
    (g : ∀ s, Kept w r s → Kept w r (f s)) : KeptO w r (o.map f) := by
  cases o with
  | none => trivial
  | some b => exact g b h

theorem KeptO.getD {w : Wr} {r d : State} {o : Option State} (h : KeptO w r o) (g : Kept w r d) : Kept w r (o.getD d) := by
  cases o with
  | none => exact g
  | some s => exact h

theorem of_ {β : Type} (Q : β → Prop) {a b : β} (h : Q a) (e : a = b) : Q b := e ▸ h

/-! How the operations compose: a condition (`ite_`) and a fold (`foldl_`), for each of the predicates above. -/

theorem Kept.ite_ {w : Wr} {r : State} {c : Prop} [Decidable c] {a b : State} (ha : Kept w r a) (hb : Kept w r b) :
    Kept w r (if c then a else b) := by split <;> assumption
theorem Kept.foldl_ {w : Wr} {α : Type} {r : State} {f : State → α → State} {b : State} {l : List α} (hb : Kept w r b)
    (hf : ∀ b a, Kept w r b → Kept w r (f b a)) : Kept w r (l.foldl f b) := by
  induction l generalizing b with
  | nil => exact hb
  | cons a l ih => exact ih (hf b a hb)

theorem KeptP.ite_ {w : Wr} {γ : Type} {r : State} {c : Prop} [Decidable c] {a b : State × γ} (ha : KeptP w r a) (hb : KeptP w r b) :
    KeptP w r (if c then a else b) := by split <;> assumption
theorem KeptP.foldl_ {w : Wr} {α : Type} {γ : Type} {r : State} {f : (State × γ) → α → State × γ} {b : State × γ} {l : List α} (hb : KeptP w r b)
    (hf : ∀ b a, KeptP w r b → KeptP w r (f b a)) : KeptP w r (l.foldl f b) := by
  induction l generalizing b with
  | nil => exact hb
  | cons a l ih => exact ih (hf b a hb)

theorem KeptO.ite_ {w : Wr} {r : State} {c : Prop} [Decidable c] {a b : Option State} (ha : KeptO w r a) (hb : KeptO w r b) :
    KeptO w r (if c then a else b) := by split <;> assumption

theorem KeptOP.ite_ {w : Wr} {γ : Type} {r : State} {c : Prop} [Decidable c] {a b : Option (State × γ)} (ha : KeptOP w r a) (hb : KeptOP w r b) :
    KeptOP w r (if c then a else b) := by split <;> assumption

theorem KeptAsg.ite_ {w : Wr} {r : State} {c : Prop} [Decidable c] {a b : Assign} (ha : KeptAsg w r a) (hb : KeptAsg w r b) :
    KeptAsg w r (if c then a else b) := by split <;> assumption
theorem KeptAsg.foldl_ {w : Wr} {α : Type} {r : State} {f : Assign → α → Assign} {b : Assign} {l : List α} (hb : KeptAsg w r b)
    (hf : ∀ b a, KeptAsg w r b → KeptAsg w r (f b a)) : KeptAsg w r (l.foldl f b) := by
  induction l generalizing b with
  | nil => exact hb
  | cons a l ih => exact ih (hf b a hb)

theorem KeptArr.ite_ {w : Wr} {r : State} {c : Prop} [Decidable c] {a b : Arrival} (ha : KeptArr w r a) (hb : KeptArr w r b) :
    KeptArr w r (if c then a else b) := by split <;> assumption

theorem Answers.ite_ {w : Wr} {r : State} {c : Prop} [Decidable c] {a b : Host.Outcome State Fault Refusal} (ha : Answers w r a) (hb : Answers w r b) :
    Answers w r (if c then a else b) := by split <;> assumption

theorem State.setReg_kept {w : Wr} {r s : State} (h : Kept w r s) {a : Nat} {v : Word} : Kept w r (s.setReg a v) :=
  Kept.updRegs h fun g => SMap.wf_set _ _ a v g

theorem State.clearRegs_kept {w : Wr} {r s : State} (w_flt : w.flt = true) (h : Kept w r s) {p : Nat → Bool} :
    Kept w r (s.clearRegs p) :=
  Kept.updRegs h (fun g => SMap.wf_clear _ _ p g) (flt := .inl w_flt)

theorem State.setTab_kept {w : Wr} {r s : State} (w_bar2 : w.bar2 = true) (h : Kept w r s) {o : Nat} {v : Word} :
    Kept w r (s.setTab o v) :=
  Kept.updBar2 h w_bar2 fun g => SMap.wf_set _ _ o v g

theorem State.emit_kept {w : Wr} {r s : State} (h : Kept w r s) {e : Emission} : Kept w r (s.emit e) :=
  { h with egress := h.egress.trans (List.prefix_append _ _) }

end Sys2Proof.Machine
end

