-- ==== Sys2Proof/Laws/KeptOps.lean ====
section
/-! SUPPORT. Sys2Proof/Laws/KeptOps.lean: what each operation of Machine/Ops.lean keeps (Kept, Laws/Kept.lean). -/
set_option Elab.async false
namespace Sys2Proof.Machine

theorem State.wr_kept {w : Wr} {r s : State} {f : Fld} {v : Nat} (h : Kept w r s) :
    Kept w r (State.wr s f v) := by
  unfold State.wr
  exact State.setReg_kept h

theorem State.wrb_kept {w : Wr} {r s : State} {f : Fld} {b : Bool} (h : Kept w r s) :
    Kept w r (State.wrb s f b) := by
  unfold State.wrb
  exact State.wr_kept h

theorem State.flag_kept {w : Wr} {r s : State} {f : Fld} (w_same : w.same = true) (h : Kept w r s) :
    Kept w r (State.flag s f) := by
  unfold State.flag
  lift_lets -underBinder
  intro x0
  have h0 : Kept w r x0 := State.wr_kept h
  clear_value x0
  intro x1; clear_value x1
  exact Kept.upd h0 (same := .inl w_same)

theorem State.drvWr_kept {w : Wr} {r s : State} {f : Fld} {v : Nat} (w_same : w.same = true) (h : Kept w r s) :
    Kept w r (State.drvWr s f v) := by
  unfold State.drvWr
  lift_lets -underBinder
  intro x0
  have h0 : Kept w r x0 := State.wr_kept h
  clear_value x0
  intro x1; clear_value x1
  exact Kept.upd h0 (same := .inl w_same)

theorem State.devWr_kept {w : Wr} {r s : State} {f : Fld} {v : Nat} (h : Kept w r s) :
    Kept w r (State.devWr s f v) := by
  unfold State.devWr
  exact Kept.ite_ (State.wr_kept h)
    h

theorem State.devReg_kept {w : Wr} {r s : State} {a : Nat} {v : Word} (h : Kept w r s) :
    Kept w r (State.devReg s a v) := by
  unfold State.devReg
  lift_lets -underBinder
  intro x0; clear_value x0
  exact State.setReg_kept h

theorem State.setLk_kept {w : Wr} {r s : State} {l : Nat} {x : LinkSt} (w_links : w.links = true) (h : Kept w r s) :
    Kept w r (State.setLk s l x) := by
  unfold State.setLk
  exact Kept.upd h (links := .inl w_links)

theorem State.setRg_kept {w : Wr} {r s : State} {g : Nat} {x : RgnSt} (w_rgn : w.rgn = true) (h : Kept w r s) :
    Kept w r (State.setRg s g x) := by
  unfold State.setRg
  exact Kept.upd h (rgn := .inl w_rgn)

theorem State.tickFree_kept {w : Wr} {r s : State} (w_freeCtr : w.freeCtr = true) (h : Kept w r s) :
    Kept w r (State.tickFree s) := by
  unfold State.tickFree
  exact Kept.upd h (freeCtr := .inl w_freeCtr)

theorem State.count_kept {w : Wr} {r s : State} {a : Nat} {n : Nat} (h : Kept w r s) :
    Kept w r (State.count s a n) := by
  unfold State.count
  lift_lets -underBinder
  intro x0; clear_value x0
  exact Kept.ite_ (State.setReg_kept h)
    (State.setReg_kept h)

theorem State.noteLevel_kept {w : Wr} {r s : State} {f : Fld} {v : Nat} (w_same : w.same = true) (h : Kept w r s) :
    Kept w r (State.noteLevel s f v) := by
  unfold State.noteLevel
  exact Kept.upd h (same := .inl w_same)

theorem State.raise_kept {w : Wr} {r s : State} {f : Fld} {v : Nat} (w_same : w.same = true) (h : Kept w r s) :
    Kept w r (State.raise s f v) := by
  unfold State.raise
  exact State.noteLevel_kept w_same (Kept.ite_ (State.wr_kept h)
    h)

theorem State.lower_kept {w : Wr} {r s : State} {f : Fld} {v : Nat} (w_same : w.same = true) (h : Kept w r s) :
    Kept w r (State.lower s f v) := by
  unfold State.lower
  exact State.noteLevel_kept w_same (Kept.ite_ (State.wr_kept h)
    h)

theorem State.clearMark_kept {w : Wr} {r s : State} {f : Fld} {v : Nat} (h : Kept w r s) :
    Kept w r (State.clearMark s f v) := by
  unfold State.clearMark
  exact State.wr_kept h

theorem State.forEach_kept {w : Wr} {r : State} {α : Type} {s : State} {l : List α} {f : State → α → State} (h : Kept w r s) (hf : ∀ y1 y2, Kept w r y1 → Kept w r (f y1 y2)) :
    Kept w r (State.forEach s l f) := by
  unfold State.forEach
  exact Kept.foldl_ h fun _ _ h0 =>
    hf _ _ h0

theorem State.when_kept {w : Wr} {r s : State} {c : Bool} {f : State → State} (h : Kept w r s) (hf : ∀ y1, Kept w r y1 → Kept w r (f y1)) :
    Kept w r (State.when s c f) := by
  unfold State.when
  exact Kept.ite_ (hf _ h)
    h

theorem State.telRaise_kept {w : Wr} {r s : State} {k : Nat} {v : Nat} (w_flt : w.flt = true) (h : Kept w r s) :
    Kept w r (State.telRaise s k v) := by
  unfold State.telRaise
  exact Kept.ite_ (Kept.upd h (flt := .inl w_flt))
    h

end Sys2Proof.Machine
end

