-- ==== Sys2Proof/Laws/KeptTimeBase.lean ====
section
/-! SUPPORT. Sys2Proof/Laws/KeptTimeBase.lean: what each operation of Machine/TimeBase.lean keeps (Kept, Laws/Kept.lean). -/
set_option Elab.async false
namespace Sys2Proof.Machine

theorem State.setDom_kept {w : Wr} {r s : State} {d : Nat} {x : DomSt} (w_time : w.time = true) (h : Kept w r s) :
    Kept w r (State.setDom s d x) := by
  unfold State.setDom
  exact Kept.ite_ (Kept.upd h (time := .inl w_time))
    (Kept.upd h (time := .inl w_time))

end Sys2Proof.Machine
end

