-- ==== Sys2Proof/Laws/KeptFaults.lean ====
section
/-! SUPPORT. Sys2Proof/Laws/KeptFaults.lean: what each operation of Machine/Faults.lean keeps (Kept, Laws/Kept.lean). -/
set_option Elab.async false
namespace Sys2Proof.Machine

theorem State.updFaultN_kept {w : Wr} {r s : State} (h : Kept w r s) :
    Kept w r (State.updFaultN s) := by
  unfold State.updFaultN
  exact State.wrb_kept h

theorem State.palmHalt_kept {w : Wr} {r s : State} (h : Kept w r s) :
    Kept w r (State.palmHalt s) := by
  unfold State.palmHalt
  exact State.wr_kept h

theorem State.endScheduled_kept {w : Wr} {r s : State} (w_cuff : w.cuff = true) (h : Kept w r s) :
    Kept w r (State.endScheduled s) := by
  unfold State.endScheduled
  lift_lets -underBinder
  intro x0; clear_value x0
  intro x1
  have h1 : Kept w r x1 := Kept.upd h (cuff := .inl w_cuff)
  clear_value x1
  intro x2
  have h2 : Kept w r x2 := State.wr_kept (State.palmHalt_kept h1)
  clear_value x2
  intro x3
  have h3 : Kept w r x3 := Kept.ite_ (State.wr_kept h2)
    h2
  clear_value x3
  exact State.wr_kept h3

theorem State.sendAlarm_kept {w : Wr} {r s : State} {origin : Nat} {oseq : Nat} {rec : Nat} {skip : Option Nat} (w_route : w.route = true) (h : Kept w r s) :
    Kept w r (State.sendAlarm s origin oseq rec skip) := by
  unfold State.sendAlarm
  lift_lets -underBinder
  intro x0; clear_value x0
  exact State.forEach_kept h (fun _ _ h1 => by
      lift_lets -underBinder
      intro x2 x3 x4 x5 x6 x7; clear_value x2 x3 x4 x5 x6 x7
      exact State.count_kept (Kept.upd h1 (route := .inl w_route)))

theorem State.holdKey_kept {w : Wr} {r s : State} {k : Nat × Nat} (w_flt : w.flt = true) (h : Kept w r s) :
    Kept w r (State.holdKey s k) := by
  unfold State.holdKey
  exact Kept.upd h (flt := .inl w_flt)

theorem State.fatalActions_kept {w : Wr} {r s : State} {cls : Nat} {seq : Nat} {rec : Nat} (w_cuff : w.cuff = true) (w_route : w.route = true) (w_flt : w.flt = true) (w_pwr : w.pwr = true) (h : Kept w r s) :
    Kept w r (State.fatalActions s cls seq rec) := by
  unfold State.fatalActions
  lift_lets -underBinder
  intro x0
  have h0 : Kept w r x0 := State.endScheduled_kept w_cuff (State.wr_kept h)
  clear_value x0
  intro x1
  have h1 : Kept w r x1 := Kept.ite_ (State.holdKey_kept w_flt (State.sendAlarm_kept w_route h0))
    h0
  clear_value x1
  intro x2; clear_value x2
  intro x3
  have h3 : Kept w r x3 := State.wr_kept h1
  clear_value x3
  intro x4; clear_value x4
  exact Kept.ite_ (Kept.upd h3 (pwr := .inl w_pwr))
    h1

theorem State.classActions_kept {w : Wr} {r s : State} {cls : Nat} {seq : Nat} {rec : Nat} (w_cuff : w.cuff = true) (w_route : w.route = true) (w_flt : w.flt = true) (w_pwr : w.pwr = true) (h : Kept w r s) :
    Kept w r (State.classActions s cls seq rec) := by
  unfold State.classActions
  exact Kept.ite_ h
    (Kept.ite_ (State.wr_kept h)
    (Kept.ite_ (State.palmHalt_kept (State.wr_kept h))
    (State.fatalActions_kept w_cuff w_route w_flt w_pwr h)))

theorem State.msixDue_kept {w : Wr} {r s : State} (w_flt : w.flt = true) (h : Kept w r s) :
    Kept w r (State.msixDue s) := by
  unfold State.msixDue
  exact Kept.ite_ (Kept.upd h (flt := .inl w_flt))
    (by
    lift_lets -underBinder
    intro x0
    have h0 : Kept w r x0 := State.emit_kept h
    clear_value x0
    intro x1; clear_value x1
    exact Kept.upd h0 (flt := .inl w_flt))

theorem State.msixRecord_kept {w : Wr} {r s : State} {cls : Nat} (w_flt : w.flt = true) (h : Kept w r s) :
    Kept w r (State.msixRecord s cls) := by
  unfold State.msixRecord
  exact Kept.ite_ (by
    split
    · exact Kept.ite_ h
          (State.msixDue_kept w_flt h)
    · exact State.msixDue_kept w_flt h)
    h

theorem State.writeSlot_kept {w : Wr} {r s : State} {slot : Nat} {ws : List Nat} (h : Kept w r s) :
    Kept w r (State.writeSlot s slot ws) := by
  unfold State.writeSlot
  exact State.forEach_kept h (fun _ _ h0 => State.setReg_kept h0)

theorem State.moveRecord_kept {w : Wr} {r s : State} {i : Nat} (h : Kept w r s) :
    Kept w r (State.moveRecord s i) := by
  unfold State.moveRecord
  exact State.writeSlot_kept h

theorem State.bumpSeqs_kept {w : Wr} {r s : State} {lo : Nat} {n : Nat} (w_cuff : w.cuff = true) (w_route : w.route = true) (w_flt : w.flt = true) (h : Kept w r s) :
    Kept w r (State.bumpSeqs s lo n) := by
  unfold State.bumpSeqs
  lift_lets -underBinder
  intro x0 x1 x2 x3; clear_value x0 x1 x2 x3
  exact Kept.upd h (cuff := .inl w_cuff) (route := .inl w_route) (flt := .inl w_flt)

theorem State.makeRoom_kept {w : Wr} {r s : State} {cls : Nat} {lo : Nat} {n : Nat} (w_cuff : w.cuff = true) (w_route : w.route = true) (w_flt : w.flt = true) (h : Kept w r s) :
    Kept w r (State.makeRoom s cls lo n) := by
  unfold State.makeRoom
  lift_lets -underBinder
  intro x0; clear_value x0
  intro x1
  have h1 : Kept w r x1 := State.forEach_kept h (fun _ _ h2 => State.moveRecord_kept h2)
  clear_value x1
  exact Kept.ite_ (State.bumpSeqs_kept w_cuff w_route w_flt h1)
    h1

theorem State.noteRecord_kept {w : Wr} {r s : State} {k : Nat} {n : Nat} (w_same : w.same = true) (h : Kept w r s) :
    Kept w r (State.noteRecord s k n) := by
  unfold State.noteRecord
  lift_lets -underBinder
  intro x0 x1; clear_value x0 x1
  exact Kept.upd h (same := .inl w_same)

theorem State.enqueueRecord_kept {w : Wr} {r s : State} {cls : Nat} {rank : Nat} {n : Nat} {ws : List Nat} (w_same : w.same = true) (h : Kept w r s) :
    KeptP w r (State.enqueueRecord s cls rank n ws) := by
  unfold State.enqueueRecord
  lift_lets -underBinder
  intro x0 x1; clear_value x0 x1
  intro x2
  have h2 : Kept w r x2 := State.flag_kept w_same h
  clear_value x2
  intro x3; clear_value x3
  intro x4
  have h4 : Kept w r x4 := Kept.upd h2 (same := .inl w_same)
  clear_value x4
  exact KeptP.ite_ (State.noteRecord_kept w_same (State.wr_kept (State.wr_kept (State.writeSlot_kept h))))
    (KeptP.ite_ (State.count_kept h4)
    (by
    split
    · exact State.count_kept (State.writeSlot_kept h4)
    · exact State.count_kept h4))

theorem State.makeRecord_kept {w : Wr} {r s : State} {f : FaultArgs} (w_cuff : w.cuff = true) (w_route : w.route = true) (w_flt : w.flt = true) (w_same : w.same = true) (h : Kept w r s) :
    KeptP w r (State.makeRecord s f) := by
  unfold State.makeRecord
  lift_lets -underBinder
  intro x0 x1 x2 x3 x4 x5 x6; clear_value x0 x1 x2 x3 x4 x5 x6
  intro x7
  have h7 : Kept w r x7 := State.count_kept (State.wr_kept h)
  clear_value x7
  intro x8
  have h8 : Kept w r x8 := State.raise_kept w_same (State.wr_kept h7)
  clear_value x8
  intro x9
  have h9 : Kept w r x9 := State.telRaise_kept w_flt h8
  clear_value x9
  intro x10
  have h10 : KeptP w r x10 := State.enqueueRecord_kept w_same (Kept.ite_ h9
    (State.makeRoom_kept w_cuff w_route w_flt h9))
  clear_value x10
  intro x11
  have h11 : Kept w r x11 := h10
  clear_value x11
  intro x12
  have h12 : Kept w r x12 := Kept.ite_ (State.wr_kept (State.wr_kept (State.wr_kept h11)))
    h11
  clear_value x12
  intro x13
  have h13 : Kept w r x13 := Kept.ite_ (State.msixRecord_kept w_flt h12)
    h12
  clear_value x13
  exact h13

theorem State.fault_kept {w : Wr} {r s : State} {f : FaultArgs} (w_cuff : w.cuff = true) (w_route : w.route = true) (w_flt : w.flt = true) (w_pwr : w.pwr = true) (w_same : w.same = true) (h : Kept w r s) :
    Kept w r (State.fault s f) := by
  unfold State.fault
  lift_lets -underBinder
  intro x0
  have h0 : KeptP w r x0 := State.makeRecord_kept w_cuff w_route w_flt w_same h
  clear_value x0
  exact State.updFaultN_kept (State.classActions_kept w_cuff w_route w_flt w_pwr h0)

theorem State.faultAt_kept {w : Wr} {r s : State} {f : FaultArgs} {seg : Nat} (w_cuff : w.cuff = true) (w_route : w.route = true) (w_flt : w.flt = true) (w_pwr : w.pwr = true) (w_same : w.same = true) (h : Kept w r s) :
    Kept w r (State.faultAt s f seg) := by
  unfold State.faultAt
  lift_lets -underBinder
  intro x0
  have h0 : KeptP w r x0 := State.makeRecord_kept w_cuff w_route w_flt w_same h
  clear_value x0
  intro x1
  have h1 : Kept w r x1 := h0
  clear_value x1
  intro x2; clear_value x2
  exact Kept.ite_ (State.updFaultN_kept (State.classActions_kept w_cuff w_route w_flt w_pwr h0))
    (State.updFaultN_kept (Kept.upd h1 (cuff := .inl w_cuff)))

theorem State.accErr_kept {w : Wr} {r s : State} {path : Nat} {kind : Nat} {write : Bool} {offset : Nat} (w_same : w.same = true) (h : Kept w r s) :
    Kept w r (State.accErr s path kind write offset) := by
  unfold State.accErr
  exact Kept.ite_ (State.flag_kept w_same h)
    (State.wr_kept (State.wrb_kept (State.wr_kept (State.wr_kept (State.flag_kept w_same h)))))

end Sys2Proof.Machine
end

