-- ==== Sys2Proof/Laws/Word.lean ====
section
/-! SUPPORT. Sys2Proof/Laws/Word.lean: reading a bit field after writing it, or another, in a 64-bit word. -/
set_option Elab.async false
namespace Sys2Proof

/-- A field value always fits its width. -/
theorem fget_lt (x : Word) (hi lo : Nat) : fget x hi lo < 2 ^ (hi + 1 - lo) :=
  Nat.mod_lt _ (Nat.two_pow_pos _)

theorem fset_toNat (x : Word) (hi lo v : Nat) (hlo : lo ≤ hi) (hhi : hi < 64) :
    (fset x hi lo v).toNat =
      x.toNat % 2 ^ lo + v % 2 ^ (hi + 1 - lo) * 2 ^ lo + x.toNat / 2 ^ (hi + 1) * 2 ^ (hi + 1) := by
  have hp : 2 ^ (hi + 1 - lo) * 2 ^ lo = 2 ^ (hi + 1) := by
    rw [← Nat.pow_add]; congr 1; omega
  have h64 : (2 : Nat) ^ (63 - hi) * 2 ^ (hi + 1) = 2 ^ 64 := by
    rw [← Nat.pow_add]; congr 1; omega
  have h1 : x.toNat % 2 ^ lo < 2 ^ lo := Nat.mod_lt _ (Nat.two_pow_pos _)
  have h2 : v % 2 ^ (hi + 1 - lo) < 2 ^ (hi + 1 - lo) := Nat.mod_lt _ (Nat.two_pow_pos _)
  have h3 : x.toNat / 2 ^ (hi + 1) < 2 ^ (63 - hi) := by
    rw [Nat.div_lt_iff_lt_mul (Nat.two_pow_pos _), h64]; exact x.isLt
  have h4 : v % 2 ^ (hi + 1 - lo) * 2 ^ lo + 2 ^ lo ≤ 2 ^ (hi + 1) := by
    rw [← hp, ← Nat.succ_mul]; exact Nat.mul_le_mul_right _ h2
  have h5 : x.toNat / 2 ^ (hi + 1) * 2 ^ (hi + 1) + 2 ^ (hi + 1) ≤ 2 ^ 64 := by
    rw [← h64, ← Nat.succ_mul]; exact Nat.mul_le_mul_right _ h3
  unfold fset
  rw [BitVec.toNat_ofNat, Nat.mul_comm (2 ^ lo), Nat.mul_comm (2 ^ (hi + 1)), Nat.mod_eq_of_lt]
  omega

/-- Reading the field just written gives the value written, cut to the field's width. -/
theorem fget_fset_same (x : Word) (hi lo v : Nat) (hlo : lo ≤ hi) (hhi : hi < 64) :
    fget (fset x hi lo v) hi lo = v % 2 ^ (hi + 1 - lo) := by
  have hp : 2 ^ (hi + 1) = 2 ^ lo * 2 ^ (hi + 1 - lo) := by
    rw [← Nat.pow_add]; congr 1; omega
  have h1 : x.toNat % 2 ^ lo < 2 ^ lo := Nat.mod_lt _ (Nat.two_pow_pos _)
  unfold fget
  rw [fset_toNat x hi lo v hlo hhi]
  have : x.toNat % 2 ^ lo + v % 2 ^ (hi + 1 - lo) * 2 ^ lo + x.toNat / 2 ^ (hi + 1) * 2 ^ (hi + 1)
      = x.toNat % 2 ^ lo + 2 ^ lo * (v % 2 ^ (hi + 1 - lo) + 2 ^ (hi + 1 - lo) * (x.toNat / 2 ^ (hi + 1))) := by
    rw [hp]; ring
  rw [this, Nat.add_mul_div_left _ _ (Nat.two_pow_pos _), Nat.div_eq_of_lt h1, Nat.zero_add,
    Nat.add_mul_mod_self_left, Nat.mod_mod]

/-- Writing a field leaves every field below it as it was. -/
theorem fget_fset_below (x : Word) (hi lo v hi' lo' : Nat) (hlo : lo ≤ hi) (hhi : hi < 64)
    (h : hi' < lo) (hl : lo' ≤ hi') : fget (fset x hi lo v) hi' lo' = fget x hi' lo' := by
  have hm : ∀ y z : Nat, y % 2 ^ lo = z % 2 ^ lo →
      y / 2 ^ lo' % 2 ^ (hi' + 1 - lo') = z / 2 ^ lo' % 2 ^ (hi' + 1 - lo') := by
    intro y z e
    have key : ∀ w : Nat, w / 2 ^ lo' % 2 ^ (hi' + 1 - lo') = (w % 2 ^ lo) % 2 ^ (hi' + 1) / 2 ^ lo' := by
      intro w
      rw [Nat.mod_mod_of_dvd _ (Nat.pow_dvd_pow 2 (by omega : hi' + 1 ≤ lo)),
        show hi' + 1 = lo' + (hi' + 1 - lo') by omega, Nat.pow_add, Nat.mod_mul_right_div_self,
        show lo' + (hi' + 1 - lo') - lo' = hi' + 1 - lo' by omega]
    rw [key y, key z, e]
  unfold fget
  apply hm
  rw [fset_toNat x hi lo v hlo hhi, show hi + 1 = lo + (hi + 1 - lo) by omega, Nat.pow_add,
    show x.toNat % 2 ^ lo + v % 2 ^ (lo + (hi + 1 - lo) - lo) * 2 ^ lo
        + x.toNat / (2 ^ lo * 2 ^ (hi + 1 - lo)) * (2 ^ lo * 2 ^ (hi + 1 - lo))
      = x.toNat % 2 ^ lo + 2 ^ lo * (v % 2 ^ (lo + (hi + 1 - lo) - lo)
        + x.toNat / (2 ^ lo * 2 ^ (hi + 1 - lo)) * 2 ^ (hi + 1 - lo)) by ring,
    Nat.add_mul_mod_self_left, Nat.mod_mod]

/-- Writing a field leaves every field above it as it was. -/
theorem fget_fset_above (x : Word) (hi lo v hi' lo' : Nat) (hlo : lo ≤ hi) (hhi : hi < 64)
    (h : hi < lo') : fget (fset x hi lo v) hi' lo' = fget x hi' lo' := by
  have hp : 2 ^ (hi + 1 - lo) * 2 ^ lo = 2 ^ (hi + 1) := by
    rw [← Nat.pow_add]; congr 1; omega
  have h1 : x.toNat % 2 ^ lo < 2 ^ lo := Nat.mod_lt _ (Nat.two_pow_pos _)
  have h2 : v % 2 ^ (hi + 1 - lo) < 2 ^ (hi + 1 - lo) := Nat.mod_lt _ (Nat.two_pow_pos _)
  have h4 : v % 2 ^ (hi + 1 - lo) * 2 ^ lo + 2 ^ lo ≤ 2 ^ (hi + 1) := by
    rw [← hp, ← Nat.succ_mul]; exact Nat.mul_le_mul_right _ h2
  have hs : 2 ^ lo' = 2 ^ (hi + 1) * 2 ^ (lo' - (hi + 1)) := by
    rw [← Nat.pow_add]; congr 1; omega
  unfold fget
  rw [fset_toNat x hi lo v hlo hhi, hs, ← Nat.div_div_eq_div_mul, ← Nat.div_div_eq_div_mul,
    Nat.add_mul_div_right _ _ (Nat.two_pow_pos _),
    Nat.div_eq_of_lt (lt_of_lt_of_le (Nat.add_lt_add_right h1 _) (by rw [Nat.add_comm]; exact h4)), Nat.zero_add]

/-- A number of `n` little-endian bytes reads back. -/
theorem ofLeBytes_leBytes (n x : Nat) : ofLeBytes (leBytes n x) = x % 256 ^ n := by
  induction n generalizing x with
  | zero => simp [leBytes, ofLeBytes, Nat.mod_one]
  | succ n ih =>
    have e : (BitVec.ofNat 8 x).toNat = x % 256 := BitVec.toNat_ofNat ..
    rw [leBytes, ofLeBytes, ih, e, Nat.pow_succ', Nat.mod_mul]

theorem leBytes_length (n x : Nat) : (leBytes n x).length = n := by
  induction n generalizing x with
  | zero => rfl
  | succ n ih => simp [leBytes, ih]

end Sys2Proof
end

