-- ==== Sys2Proof/Laws/State.lean ====
section
/-! SUPPORT. Sys2Proof/Laws/State.lean: one lemma for each part of the state under each operation that updates it, so that no
proof unfolds a record update, and what reading a register, a field, a table entry, a link's or a region's state gives after a
write. -/
set_option Elab.async false
namespace Sys2Proof.Machine

variable (s : State)

@[simp] theorem State.setReg_pending (a : Nat) (v : Word) : (s.setReg a v).pending = s.pending := (Eq.refl _).trans rfl
@[simp] theorem State.setReg_bar2 (a : Nat) (v : Word) : (s.setReg a v).bar2 = s.bar2 := (Eq.refl _).trans rfl
@[simp] theorem State.setReg_hbm (a : Nat) (v : Word) : (s.setReg a v).hbm = s.hbm := (Eq.refl _).trans rfl
@[simp] theorem State.setReg_sram (a : Nat) (v : Word) : (s.setReg a v).sram = s.sram := (Eq.refl _).trans rfl
@[simp] theorem State.setReg_crown (a : Nat) (v : Word) : (s.setReg a v).crown = s.crown := (Eq.refl _).trans rfl
@[simp] theorem State.setReg_rgn (a : Nat) (v : Word) : (s.setReg a v).rgn = s.rgn := (Eq.refl _).trans rfl
@[simp] theorem State.setReg_links (a : Nat) (v : Word) : (s.setReg a v).links = s.links := (Eq.refl _).trans rfl
@[simp] theorem State.setReg_cuff (a : Nat) (v : Word) : (s.setReg a v).cuff = s.cuff := (Eq.refl _).trans rfl
@[simp] theorem State.setReg_route (a : Nat) (v : Word) : (s.setReg a v).route = s.route := (Eq.refl _).trans rfl
@[simp] theorem State.setReg_flt (a : Nat) (v : Word) : (s.setReg a v).flt = s.flt := (Eq.refl _).trans rfl
@[simp] theorem State.setReg_time (a : Nat) (v : Word) : (s.setReg a v).time = s.time := (Eq.refl _).trans rfl
@[simp] theorem State.setReg_pwr (a : Nat) (v : Word) : (s.setReg a v).pwr = s.pwr := (Eq.refl _).trans rfl
@[simp] theorem State.setReg_mem (a : Nat) (v : Word) : (s.setReg a v).mem = s.mem := (Eq.refl _).trans rfl
@[simp] theorem State.setReg_palm (a : Nat) (v : Word) : (s.setReg a v).palm = s.palm := (Eq.refl _).trans rfl
@[simp] theorem State.setReg_ldrs (a : Nat) (v : Word) : (s.setReg a v).ldrs = s.ldrs := (Eq.refl _).trans rfl
@[simp] theorem State.setReg_boot (a : Nat) (v : Word) : (s.setReg a v).boot = s.boot := (Eq.refl _).trans rfl
@[simp] theorem State.setReg_nvm (a : Nat) (v : Word) : (s.setReg a v).nvm = s.nvm := (Eq.refl _).trans rfl
@[simp] theorem State.setReg_bon (a : Nat) (v : Word) : (s.setReg a v).bon = s.bon := (Eq.refl _).trans rfl
@[simp] theorem State.setReg_egress (a : Nat) (v : Word) : (s.setReg a v).egress = s.egress := (Eq.refl _).trans rfl
@[simp] theorem State.setReg_cyc (a : Nat) (v : Word) : (s.setReg a v).cyc = s.cyc := (Eq.refl _).trans rfl
@[simp] theorem State.setReg_freeCtr (a : Nat) (v : Word) : (s.setReg a v).freeCtr = s.freeCtr := (Eq.refl _).trans rfl
@[simp] theorem State.setReg_same (a : Nat) (v : Word) : (s.setReg a v).same = s.same := (Eq.refl _).trans rfl
@[simp] theorem State.live_setReg (a : Nat) (v : Word) : (s.setReg a v).live = s.live := (Eq.refl _).trans rfl
@[simp] theorem State.tab_setReg (a : Nat) (v : Word) (k : Nat) : (s.setReg a v).tab k = s.tab k := (Eq.refl _).trans rfl
@[simp] theorem State.lk_setReg (a : Nat) (v : Word) (k : Nat) : (s.setReg a v).lk k = s.lk k := (Eq.refl _).trans rfl
@[simp] theorem State.rg_setReg (a : Nat) (v : Word) (k : Nat) : (s.setReg a v).rg k = s.rg k := (Eq.refl _).trans rfl

@[simp] theorem State.wr_pending (f : Fld) (v : Nat) : (s.wr f v).pending = s.pending := (Eq.refl _).trans rfl
@[simp] theorem State.wr_bar2 (f : Fld) (v : Nat) : (s.wr f v).bar2 = s.bar2 := (Eq.refl _).trans rfl
@[simp] theorem State.wr_hbm (f : Fld) (v : Nat) : (s.wr f v).hbm = s.hbm := (Eq.refl _).trans rfl
@[simp] theorem State.wr_sram (f : Fld) (v : Nat) : (s.wr f v).sram = s.sram := (Eq.refl _).trans rfl
@[simp] theorem State.wr_crown (f : Fld) (v : Nat) : (s.wr f v).crown = s.crown := (Eq.refl _).trans rfl
@[simp] theorem State.wr_rgn (f : Fld) (v : Nat) : (s.wr f v).rgn = s.rgn := (Eq.refl _).trans rfl
@[simp] theorem State.wr_links (f : Fld) (v : Nat) : (s.wr f v).links = s.links := (Eq.refl _).trans rfl
@[simp] theorem State.wr_cuff (f : Fld) (v : Nat) : (s.wr f v).cuff = s.cuff := (Eq.refl _).trans rfl
@[simp] theorem State.wr_route (f : Fld) (v : Nat) : (s.wr f v).route = s.route := (Eq.refl _).trans rfl
@[simp] theorem State.wr_flt (f : Fld) (v : Nat) : (s.wr f v).flt = s.flt := (Eq.refl _).trans rfl
@[simp] theorem State.wr_time (f : Fld) (v : Nat) : (s.wr f v).time = s.time := (Eq.refl _).trans rfl
@[simp] theorem State.wr_pwr (f : Fld) (v : Nat) : (s.wr f v).pwr = s.pwr := (Eq.refl _).trans rfl
@[simp] theorem State.wr_mem (f : Fld) (v : Nat) : (s.wr f v).mem = s.mem := (Eq.refl _).trans rfl
@[simp] theorem State.wr_palm (f : Fld) (v : Nat) : (s.wr f v).palm = s.palm := (Eq.refl _).trans rfl
@[simp] theorem State.wr_ldrs (f : Fld) (v : Nat) : (s.wr f v).ldrs = s.ldrs := (Eq.refl _).trans rfl
@[simp] theorem State.wr_boot (f : Fld) (v : Nat) : (s.wr f v).boot = s.boot := (Eq.refl _).trans rfl
@[simp] theorem State.wr_nvm (f : Fld) (v : Nat) : (s.wr f v).nvm = s.nvm := (Eq.refl _).trans rfl
@[simp] theorem State.wr_bon (f : Fld) (v : Nat) : (s.wr f v).bon = s.bon := (Eq.refl _).trans rfl
@[simp] theorem State.wr_egress (f : Fld) (v : Nat) : (s.wr f v).egress = s.egress := (Eq.refl _).trans rfl
@[simp] theorem State.wr_cyc (f : Fld) (v : Nat) : (s.wr f v).cyc = s.cyc := (Eq.refl _).trans rfl
@[simp] theorem State.wr_freeCtr (f : Fld) (v : Nat) : (s.wr f v).freeCtr = s.freeCtr := (Eq.refl _).trans rfl
@[simp] theorem State.wr_same (f : Fld) (v : Nat) : (s.wr f v).same = s.same := (Eq.refl _).trans rfl
@[simp] theorem State.live_wr (f : Fld) (v : Nat) : (s.wr f v).live = s.live := (Eq.refl _).trans rfl
@[simp] theorem State.tab_wr (f : Fld) (v : Nat) (k : Nat) : (s.wr f v).tab k = s.tab k := (Eq.refl _).trans rfl
@[simp] theorem State.lk_wr (f : Fld) (v : Nat) (k : Nat) : (s.wr f v).lk k = s.lk k := (Eq.refl _).trans rfl
@[simp] theorem State.rg_wr (f : Fld) (v : Nat) (k : Nat) : (s.wr f v).rg k = s.rg k := (Eq.refl _).trans rfl

@[simp] theorem State.wrb_pending (f : Fld) (b : Bool) : (s.wrb f b).pending = s.pending := (Eq.refl _).trans rfl
@[simp] theorem State.wrb_bar2 (f : Fld) (b : Bool) : (s.wrb f b).bar2 = s.bar2 := (Eq.refl _).trans rfl
@[simp] theorem State.wrb_hbm (f : Fld) (b : Bool) : (s.wrb f b).hbm = s.hbm := (Eq.refl _).trans rfl
@[simp] theorem State.wrb_sram (f : Fld) (b : Bool) : (s.wrb f b).sram = s.sram := (Eq.refl _).trans rfl
@[simp] theorem State.wrb_crown (f : Fld) (b : Bool) : (s.wrb f b).crown = s.crown := (Eq.refl _).trans rfl
@[simp] theorem State.wrb_rgn (f : Fld) (b : Bool) : (s.wrb f b).rgn = s.rgn := (Eq.refl _).trans rfl
@[simp] theorem State.wrb_links (f : Fld) (b : Bool) : (s.wrb f b).links = s.links := (Eq.refl _).trans rfl
@[simp] theorem State.wrb_cuff (f : Fld) (b : Bool) : (s.wrb f b).cuff = s.cuff := (Eq.refl _).trans rfl
@[simp] theorem State.wrb_route (f : Fld) (b : Bool) : (s.wrb f b).route = s.route := (Eq.refl _).trans rfl
@[simp] theorem State.wrb_flt (f : Fld) (b : Bool) : (s.wrb f b).flt = s.flt := (Eq.refl _).trans rfl
@[simp] theorem State.wrb_time (f : Fld) (b : Bool) : (s.wrb f b).time = s.time := (Eq.refl _).trans rfl
@[simp] theorem State.wrb_pwr (f : Fld) (b : Bool) : (s.wrb f b).pwr = s.pwr := (Eq.refl _).trans rfl
@[simp] theorem State.wrb_mem (f : Fld) (b : Bool) : (s.wrb f b).mem = s.mem := (Eq.refl _).trans rfl
@[simp] theorem State.wrb_palm (f : Fld) (b : Bool) : (s.wrb f b).palm = s.palm := (Eq.refl _).trans rfl
@[simp] theorem State.wrb_ldrs (f : Fld) (b : Bool) : (s.wrb f b).ldrs = s.ldrs := (Eq.refl _).trans rfl
@[simp] theorem State.wrb_boot (f : Fld) (b : Bool) : (s.wrb f b).boot = s.boot := (Eq.refl _).trans rfl
@[simp] theorem State.wrb_nvm (f : Fld) (b : Bool) : (s.wrb f b).nvm = s.nvm := (Eq.refl _).trans rfl
@[simp] theorem State.wrb_bon (f : Fld) (b : Bool) : (s.wrb f b).bon = s.bon := (Eq.refl _).trans rfl
@[simp] theorem State.wrb_egress (f : Fld) (b : Bool) : (s.wrb f b).egress = s.egress := (Eq.refl _).trans rfl
@[simp] theorem State.wrb_cyc (f : Fld) (b : Bool) : (s.wrb f b).cyc = s.cyc := (Eq.refl _).trans rfl
@[simp] theorem State.wrb_freeCtr (f : Fld) (b : Bool) : (s.wrb f b).freeCtr = s.freeCtr := (Eq.refl _).trans rfl
@[simp] theorem State.wrb_same (f : Fld) (b : Bool) : (s.wrb f b).same = s.same := (Eq.refl _).trans rfl
@[simp] theorem State.live_wrb (f : Fld) (b : Bool) : (s.wrb f b).live = s.live := (Eq.refl _).trans rfl
@[simp] theorem State.tab_wrb (f : Fld) (b : Bool) (k : Nat) : (s.wrb f b).tab k = s.tab k := (Eq.refl _).trans rfl
@[simp] theorem State.lk_wrb (f : Fld) (b : Bool) (k : Nat) : (s.wrb f b).lk k = s.lk k := (Eq.refl _).trans rfl
@[simp] theorem State.rg_wrb (f : Fld) (b : Bool) (k : Nat) : (s.wrb f b).rg k = s.rg k := (Eq.refl _).trans rfl

@[simp] theorem State.flag_pending (f : Fld) : (s.flag f).pending = s.pending := (Eq.refl _).trans rfl
@[simp] theorem State.flag_bar2 (f : Fld) : (s.flag f).bar2 = s.bar2 := (Eq.refl _).trans rfl
@[simp] theorem State.flag_hbm (f : Fld) : (s.flag f).hbm = s.hbm := (Eq.refl _).trans rfl
@[simp] theorem State.flag_sram (f : Fld) : (s.flag f).sram = s.sram := (Eq.refl _).trans rfl
@[simp] theorem State.flag_crown (f : Fld) : (s.flag f).crown = s.crown := (Eq.refl _).trans rfl
@[simp] theorem State.flag_rgn (f : Fld) : (s.flag f).rgn = s.rgn := (Eq.refl _).trans rfl
@[simp] theorem State.flag_links (f : Fld) : (s.flag f).links = s.links := (Eq.refl _).trans rfl
@[simp] theorem State.flag_cuff (f : Fld) : (s.flag f).cuff = s.cuff := (Eq.refl _).trans rfl
@[simp] theorem State.flag_route (f : Fld) : (s.flag f).route = s.route := (Eq.refl _).trans rfl
@[simp] theorem State.flag_flt (f : Fld) : (s.flag f).flt = s.flt := (Eq.refl _).trans rfl
@[simp] theorem State.flag_time (f : Fld) : (s.flag f).time = s.time := (Eq.refl _).trans rfl
@[simp] theorem State.flag_pwr (f : Fld) : (s.flag f).pwr = s.pwr := (Eq.refl _).trans rfl
@[simp] theorem State.flag_mem (f : Fld) : (s.flag f).mem = s.mem := (Eq.refl _).trans rfl
@[simp] theorem State.flag_palm (f : Fld) : (s.flag f).palm = s.palm := (Eq.refl _).trans rfl
@[simp] theorem State.flag_ldrs (f : Fld) : (s.flag f).ldrs = s.ldrs := (Eq.refl _).trans rfl
@[simp] theorem State.flag_boot (f : Fld) : (s.flag f).boot = s.boot := (Eq.refl _).trans rfl
@[simp] theorem State.flag_nvm (f : Fld) : (s.flag f).nvm = s.nvm := (Eq.refl _).trans rfl
@[simp] theorem State.flag_bon (f : Fld) : (s.flag f).bon = s.bon := (Eq.refl _).trans rfl
@[simp] theorem State.flag_egress (f : Fld) : (s.flag f).egress = s.egress := (Eq.refl _).trans rfl
@[simp] theorem State.flag_cyc (f : Fld) : (s.flag f).cyc = s.cyc := (Eq.refl _).trans rfl
@[simp] theorem State.flag_freeCtr (f : Fld) : (s.flag f).freeCtr = s.freeCtr := (Eq.refl _).trans rfl
@[simp] theorem State.live_flag (f : Fld) : (s.flag f).live = s.live := (Eq.refl _).trans rfl
@[simp] theorem State.tab_flag (f : Fld) (k : Nat) : (s.flag f).tab k = s.tab k := (Eq.refl _).trans rfl
@[simp] theorem State.lk_flag (f : Fld) (k : Nat) : (s.flag f).lk k = s.lk k := (Eq.refl _).trans rfl
@[simp] theorem State.rg_flag (f : Fld) (k : Nat) : (s.flag f).rg k = s.rg k := (Eq.refl _).trans rfl
@[simp] theorem State.reg_flag (f : Fld) (a : Nat) : (s.flag f).reg a = (s.wr f 1).reg a := (Eq.refl _).trans rfl
@[simp] theorem State.rd_flag (f : Fld) (g : Fld) : (s.flag f).rd g = (s.wr f 1).rd g := (Eq.refl _).trans rfl
@[simp] theorem State.rdb_flag (f : Fld) (g : Fld) : (s.flag f).rdb g = (s.wr f 1).rdb g := (Eq.refl _).trans rfl

@[simp] theorem State.drvWr_pending (f : Fld) (v : Nat) : (s.drvWr f v).pending = s.pending := (Eq.refl _).trans rfl
@[simp] theorem State.drvWr_bar2 (f : Fld) (v : Nat) : (s.drvWr f v).bar2 = s.bar2 := (Eq.refl _).trans rfl
@[simp] theorem State.drvWr_hbm (f : Fld) (v : Nat) : (s.drvWr f v).hbm = s.hbm := (Eq.refl _).trans rfl
@[simp] theorem State.drvWr_sram (f : Fld) (v : Nat) : (s.drvWr f v).sram = s.sram := (Eq.refl _).trans rfl
@[simp] theorem State.drvWr_crown (f : Fld) (v : Nat) : (s.drvWr f v).crown = s.crown := (Eq.refl _).trans rfl
@[simp] theorem State.drvWr_rgn (f : Fld) (v : Nat) : (s.drvWr f v).rgn = s.rgn := (Eq.refl _).trans rfl
@[simp] theorem State.drvWr_links (f : Fld) (v : Nat) : (s.drvWr f v).links = s.links := (Eq.refl _).trans rfl
@[simp] theorem State.drvWr_cuff (f : Fld) (v : Nat) : (s.drvWr f v).cuff = s.cuff := (Eq.refl _).trans rfl
@[simp] theorem State.drvWr_route (f : Fld) (v : Nat) : (s.drvWr f v).route = s.route := (Eq.refl _).trans rfl
@[simp] theorem State.drvWr_flt (f : Fld) (v : Nat) : (s.drvWr f v).flt = s.flt := (Eq.refl _).trans rfl
@[simp] theorem State.drvWr_time (f : Fld) (v : Nat) : (s.drvWr f v).time = s.time := (Eq.refl _).trans rfl
@[simp] theorem State.drvWr_pwr (f : Fld) (v : Nat) : (s.drvWr f v).pwr = s.pwr := (Eq.refl _).trans rfl
@[simp] theorem State.drvWr_mem (f : Fld) (v : Nat) : (s.drvWr f v).mem = s.mem := (Eq.refl _).trans rfl
@[simp] theorem State.drvWr_palm (f : Fld) (v : Nat) : (s.drvWr f v).palm = s.palm := (Eq.refl _).trans rfl
@[simp] theorem State.drvWr_ldrs (f : Fld) (v : Nat) : (s.drvWr f v).ldrs = s.ldrs := (Eq.refl _).trans rfl
@[simp] theorem State.drvWr_boot (f : Fld) (v : Nat) : (s.drvWr f v).boot = s.boot := (Eq.refl _).trans rfl
@[simp] theorem State.drvWr_nvm (f : Fld) (v : Nat) : (s.drvWr f v).nvm = s.nvm := (Eq.refl _).trans rfl
@[simp] theorem State.drvWr_bon (f : Fld) (v : Nat) : (s.drvWr f v).bon = s.bon := (Eq.refl _).trans rfl
@[simp] theorem State.drvWr_egress (f : Fld) (v : Nat) : (s.drvWr f v).egress = s.egress := (Eq.refl _).trans rfl
@[simp] theorem State.drvWr_cyc (f : Fld) (v : Nat) : (s.drvWr f v).cyc = s.cyc := (Eq.refl _).trans rfl
@[simp] theorem State.drvWr_freeCtr (f : Fld) (v : Nat) : (s.drvWr f v).freeCtr = s.freeCtr := (Eq.refl _).trans rfl
@[simp] theorem State.live_drvWr (f : Fld) (v : Nat) : (s.drvWr f v).live = s.live := (Eq.refl _).trans rfl
@[simp] theorem State.tab_drvWr (f : Fld) (v : Nat) (k : Nat) : (s.drvWr f v).tab k = s.tab k := (Eq.refl _).trans rfl
@[simp] theorem State.lk_drvWr (f : Fld) (v : Nat) (k : Nat) : (s.drvWr f v).lk k = s.lk k := (Eq.refl _).trans rfl
@[simp] theorem State.rg_drvWr (f : Fld) (v : Nat) (k : Nat) : (s.drvWr f v).rg k = s.rg k := (Eq.refl _).trans rfl
@[simp] theorem State.reg_drvWr (f : Fld) (v : Nat) (a : Nat) : (s.drvWr f v).reg a = (s.wr f v).reg a := (Eq.refl _).trans rfl
@[simp] theorem State.rd_drvWr (f : Fld) (v : Nat) (g : Fld) : (s.drvWr f v).rd g = (s.wr f v).rd g := (Eq.refl _).trans rfl
@[simp] theorem State.rdb_drvWr (f : Fld) (v : Nat) (g : Fld) : (s.drvWr f v).rdb g = (s.wr f v).rdb g := (Eq.refl _).trans rfl

@[simp] theorem State.devWr_pending (f : Fld) (v : Nat) : (s.devWr f v).pending = s.pending := by
  unfold State.devWr; split <;> simp only [State.wr_pending]
@[simp] theorem State.devWr_bar2 (f : Fld) (v : Nat) : (s.devWr f v).bar2 = s.bar2 := by
  unfold State.devWr; split <;> simp only [State.wr_bar2]
@[simp] theorem State.devWr_hbm (f : Fld) (v : Nat) : (s.devWr f v).hbm = s.hbm := by
  unfold State.devWr; split <;> simp only [State.wr_hbm]
@[simp] theorem State.devWr_sram (f : Fld) (v : Nat) : (s.devWr f v).sram = s.sram := by
  unfold State.devWr; split <;> simp only [State.wr_sram]
@[simp] theorem State.devWr_crown (f : Fld) (v : Nat) : (s.devWr f v).crown = s.crown := by
  unfold State.devWr; split <;> simp only [State.wr_crown]
@[simp] theorem State.devWr_rgn (f : Fld) (v : Nat) : (s.devWr f v).rgn = s.rgn := by
  unfold State.devWr; split <;> simp only [State.wr_rgn]
@[simp] theorem State.devWr_links (f : Fld) (v : Nat) : (s.devWr f v).links = s.links := by
  unfold State.devWr; split <;> simp only [State.wr_links]
@[simp] theorem State.devWr_cuff (f : Fld) (v : Nat) : (s.devWr f v).cuff = s.cuff := by
  unfold State.devWr; split <;> simp only [State.wr_cuff]
@[simp] theorem State.devWr_route (f : Fld) (v : Nat) : (s.devWr f v).route = s.route := by
  unfold State.devWr; split <;> simp only [State.wr_route]
@[simp] theorem State.devWr_flt (f : Fld) (v : Nat) : (s.devWr f v).flt = s.flt := by
  unfold State.devWr; split <;> simp only [State.wr_flt]
@[simp] theorem State.devWr_time (f : Fld) (v : Nat) : (s.devWr f v).time = s.time := by
  unfold State.devWr; split <;> simp only [State.wr_time]
@[simp] theorem State.devWr_pwr (f : Fld) (v : Nat) : (s.devWr f v).pwr = s.pwr := by
  unfold State.devWr; split <;> simp only [State.wr_pwr]
@[simp] theorem State.devWr_mem (f : Fld) (v : Nat) : (s.devWr f v).mem = s.mem := by
  unfold State.devWr; split <;> simp only [State.wr_mem]
@[simp] theorem State.devWr_palm (f : Fld) (v : Nat) : (s.devWr f v).palm = s.palm := by
  unfold State.devWr; split <;> simp only [State.wr_palm]
@[simp] theorem State.devWr_ldrs (f : Fld) (v : Nat) : (s.devWr f v).ldrs = s.ldrs := by
  unfold State.devWr; split <;> simp only [State.wr_ldrs]
@[simp] theorem State.devWr_boot (f : Fld) (v : Nat) : (s.devWr f v).boot = s.boot := by
  unfold State.devWr; split <;> simp only [State.wr_boot]
@[simp] theorem State.devWr_nvm (f : Fld) (v : Nat) : (s.devWr f v).nvm = s.nvm := by
  unfold State.devWr; split <;> simp only [State.wr_nvm]
@[simp] theorem State.devWr_bon (f : Fld) (v : Nat) : (s.devWr f v).bon = s.bon := by
  unfold State.devWr; split <;> simp only [State.wr_bon]
@[simp] theorem State.devWr_egress (f : Fld) (v : Nat) : (s.devWr f v).egress = s.egress := by
  unfold State.devWr; split <;> simp only [State.wr_egress]
@[simp] theorem State.devWr_cyc (f : Fld) (v : Nat) : (s.devWr f v).cyc = s.cyc := by
  unfold State.devWr; split <;> simp only [State.wr_cyc]
@[simp] theorem State.devWr_freeCtr (f : Fld) (v : Nat) : (s.devWr f v).freeCtr = s.freeCtr := by
  unfold State.devWr; split <;> simp only [State.wr_freeCtr]
@[simp] theorem State.devWr_same (f : Fld) (v : Nat) : (s.devWr f v).same = s.same := by
  unfold State.devWr; split <;> simp only [State.wr_same]

/-- The driver's write of this cycle stands against the device's (R9). -/
theorem State.devWr_driven (f : Fld) (v : Nat) (h : s.driven f.addr &&& f.bits ≠ 0) : s.devWr f v = s := if_neg h

@[simp] theorem State.devReg_pending (a : Nat) (v : Word) : (s.devReg a v).pending = s.pending := (Eq.refl _).trans rfl
@[simp] theorem State.devReg_bar2 (a : Nat) (v : Word) : (s.devReg a v).bar2 = s.bar2 := (Eq.refl _).trans rfl
@[simp] theorem State.devReg_hbm (a : Nat) (v : Word) : (s.devReg a v).hbm = s.hbm := (Eq.refl _).trans rfl
@[simp] theorem State.devReg_sram (a : Nat) (v : Word) : (s.devReg a v).sram = s.sram := (Eq.refl _).trans rfl
@[simp] theorem State.devReg_crown (a : Nat) (v : Word) : (s.devReg a v).crown = s.crown := (Eq.refl _).trans rfl
@[simp] theorem State.devReg_rgn (a : Nat) (v : Word) : (s.devReg a v).rgn = s.rgn := (Eq.refl _).trans rfl
@[simp] theorem State.devReg_links (a : Nat) (v : Word) : (s.devReg a v).links = s.links := (Eq.refl _).trans rfl
@[simp] theorem State.devReg_cuff (a : Nat) (v : Word) : (s.devReg a v).cuff = s.cuff := (Eq.refl _).trans rfl
@[simp] theorem State.devReg_route (a : Nat) (v : Word) : (s.devReg a v).route = s.route := (Eq.refl _).trans rfl
@[simp] theorem State.devReg_flt (a : Nat) (v : Word) : (s.devReg a v).flt = s.flt := (Eq.refl _).trans rfl
@[simp] theorem State.devReg_time (a : Nat) (v : Word) : (s.devReg a v).time = s.time := (Eq.refl _).trans rfl
@[simp] theorem State.devReg_pwr (a : Nat) (v : Word) : (s.devReg a v).pwr = s.pwr := (Eq.refl _).trans rfl
@[simp] theorem State.devReg_mem (a : Nat) (v : Word) : (s.devReg a v).mem = s.mem := (Eq.refl _).trans rfl
@[simp] theorem State.devReg_palm (a : Nat) (v : Word) : (s.devReg a v).palm = s.palm := (Eq.refl _).trans rfl
@[simp] theorem State.devReg_ldrs (a : Nat) (v : Word) : (s.devReg a v).ldrs = s.ldrs := (Eq.refl _).trans rfl
@[simp] theorem State.devReg_boot (a : Nat) (v : Word) : (s.devReg a v).boot = s.boot := (Eq.refl _).trans rfl
@[simp] theorem State.devReg_nvm (a : Nat) (v : Word) : (s.devReg a v).nvm = s.nvm := (Eq.refl _).trans rfl
@[simp] theorem State.devReg_bon (a : Nat) (v : Word) : (s.devReg a v).bon = s.bon := (Eq.refl _).trans rfl
@[simp] theorem State.devReg_egress (a : Nat) (v : Word) : (s.devReg a v).egress = s.egress := (Eq.refl _).trans rfl
@[simp] theorem State.devReg_cyc (a : Nat) (v : Word) : (s.devReg a v).cyc = s.cyc := (Eq.refl _).trans rfl
@[simp] theorem State.devReg_freeCtr (a : Nat) (v : Word) : (s.devReg a v).freeCtr = s.freeCtr := (Eq.refl _).trans rfl
@[simp] theorem State.devReg_same (a : Nat) (v : Word) : (s.devReg a v).same = s.same := (Eq.refl _).trans rfl

@[simp] theorem State.clearRegs_pending (p : Nat → Bool) : (s.clearRegs p).pending = s.pending := (Eq.refl _).trans rfl
@[simp] theorem State.clearRegs_bar2 (p : Nat → Bool) : (s.clearRegs p).bar2 = s.bar2 := (Eq.refl _).trans rfl
@[simp] theorem State.clearRegs_hbm (p : Nat → Bool) : (s.clearRegs p).hbm = s.hbm := (Eq.refl _).trans rfl
@[simp] theorem State.clearRegs_sram (p : Nat → Bool) : (s.clearRegs p).sram = s.sram := (Eq.refl _).trans rfl
@[simp] theorem State.clearRegs_crown (p : Nat → Bool) : (s.clearRegs p).crown = s.crown := (Eq.refl _).trans rfl
@[simp] theorem State.clearRegs_rgn (p : Nat → Bool) : (s.clearRegs p).rgn = s.rgn := (Eq.refl _).trans rfl
@[simp] theorem State.clearRegs_links (p : Nat → Bool) : (s.clearRegs p).links = s.links := (Eq.refl _).trans rfl
@[simp] theorem State.clearRegs_cuff (p : Nat → Bool) : (s.clearRegs p).cuff = s.cuff := (Eq.refl _).trans rfl
@[simp] theorem State.clearRegs_route (p : Nat → Bool) : (s.clearRegs p).route = s.route := (Eq.refl _).trans rfl
@[simp] theorem State.clearRegs_time (p : Nat → Bool) : (s.clearRegs p).time = s.time := (Eq.refl _).trans rfl
@[simp] theorem State.clearRegs_pwr (p : Nat → Bool) : (s.clearRegs p).pwr = s.pwr := (Eq.refl _).trans rfl
@[simp] theorem State.clearRegs_mem (p : Nat → Bool) : (s.clearRegs p).mem = s.mem := (Eq.refl _).trans rfl
@[simp] theorem State.clearRegs_palm (p : Nat → Bool) : (s.clearRegs p).palm = s.palm := (Eq.refl _).trans rfl
@[simp] theorem State.clearRegs_ldrs (p : Nat → Bool) : (s.clearRegs p).ldrs = s.ldrs := (Eq.refl _).trans rfl
@[simp] theorem State.clearRegs_boot (p : Nat → Bool) : (s.clearRegs p).boot = s.boot := (Eq.refl _).trans rfl
@[simp] theorem State.clearRegs_nvm (p : Nat → Bool) : (s.clearRegs p).nvm = s.nvm := (Eq.refl _).trans rfl
@[simp] theorem State.clearRegs_bon (p : Nat → Bool) : (s.clearRegs p).bon = s.bon := (Eq.refl _).trans rfl
@[simp] theorem State.clearRegs_egress (p : Nat → Bool) : (s.clearRegs p).egress = s.egress := (Eq.refl _).trans rfl
@[simp] theorem State.clearRegs_cyc (p : Nat → Bool) : (s.clearRegs p).cyc = s.cyc := (Eq.refl _).trans rfl
@[simp] theorem State.clearRegs_freeCtr (p : Nat → Bool) : (s.clearRegs p).freeCtr = s.freeCtr := (Eq.refl _).trans rfl
@[simp] theorem State.clearRegs_same (p : Nat → Bool) : (s.clearRegs p).same = s.same := (Eq.refl _).trans rfl
@[simp] theorem State.live_clearRegs (p : Nat → Bool) : (s.clearRegs p).live = s.live := (Eq.refl _).trans rfl
@[simp] theorem State.tab_clearRegs (p : Nat → Bool) (k : Nat) : (s.clearRegs p).tab k = s.tab k := (Eq.refl _).trans rfl
@[simp] theorem State.lk_clearRegs (p : Nat → Bool) (k : Nat) : (s.clearRegs p).lk k = s.lk k := (Eq.refl _).trans rfl
@[simp] theorem State.rg_clearRegs (p : Nat → Bool) (k : Nat) : (s.clearRegs p).rg k = s.rg k := (Eq.refl _).trans rfl

@[simp] theorem State.setTab_pending (o : Nat) (v : Word) : (s.setTab o v).pending = s.pending := (Eq.refl _).trans rfl
@[simp] theorem State.setTab_regs (o : Nat) (v : Word) : (s.setTab o v).regs = s.regs := (Eq.refl _).trans rfl
@[simp] theorem State.setTab_hbm (o : Nat) (v : Word) : (s.setTab o v).hbm = s.hbm := (Eq.refl _).trans rfl
@[simp] theorem State.setTab_sram (o : Nat) (v : Word) : (s.setTab o v).sram = s.sram := (Eq.refl _).trans rfl
@[simp] theorem State.setTab_crown (o : Nat) (v : Word) : (s.setTab o v).crown = s.crown := (Eq.refl _).trans rfl
@[simp] theorem State.setTab_rgn (o : Nat) (v : Word) : (s.setTab o v).rgn = s.rgn := (Eq.refl _).trans rfl
@[simp] theorem State.setTab_links (o : Nat) (v : Word) : (s.setTab o v).links = s.links := (Eq.refl _).trans rfl
@[simp] theorem State.setTab_cuff (o : Nat) (v : Word) : (s.setTab o v).cuff = s.cuff := (Eq.refl _).trans rfl
@[simp] theorem State.setTab_route (o : Nat) (v : Word) : (s.setTab o v).route = s.route := (Eq.refl _).trans rfl
@[simp] theorem State.setTab_flt (o : Nat) (v : Word) : (s.setTab o v).flt = s.flt := (Eq.refl _).trans rfl
@[simp] theorem State.setTab_time (o : Nat) (v : Word) : (s.setTab o v).time = s.time := (Eq.refl _).trans rfl
@[simp] theorem State.setTab_pwr (o : Nat) (v : Word) : (s.setTab o v).pwr = s.pwr := (Eq.refl _).trans rfl
@[simp] theorem State.setTab_mem (o : Nat) (v : Word) : (s.setTab o v).mem = s.mem := (Eq.refl _).trans rfl
@[simp] theorem State.setTab_palm (o : Nat) (v : Word) : (s.setTab o v).palm = s.palm := (Eq.refl _).trans rfl
@[simp] theorem State.setTab_ldrs (o : Nat) (v : Word) : (s.setTab o v).ldrs = s.ldrs := (Eq.refl _).trans rfl
@[simp] theorem State.setTab_boot (o : Nat) (v : Word) : (s.setTab o v).boot = s.boot := (Eq.refl _).trans rfl
@[simp] theorem State.setTab_nvm (o : Nat) (v : Word) : (s.setTab o v).nvm = s.nvm := (Eq.refl _).trans rfl
@[simp] theorem State.setTab_bon (o : Nat) (v : Word) : (s.setTab o v).bon = s.bon := (Eq.refl _).trans rfl
@[simp] theorem State.setTab_egress (o : Nat) (v : Word) : (s.setTab o v).egress = s.egress := (Eq.refl _).trans rfl
@[simp] theorem State.setTab_cyc (o : Nat) (v : Word) : (s.setTab o v).cyc = s.cyc := (Eq.refl _).trans rfl
@[simp] theorem State.setTab_freeCtr (o : Nat) (v : Word) : (s.setTab o v).freeCtr = s.freeCtr := (Eq.refl _).trans rfl
@[simp] theorem State.setTab_same (o : Nat) (v : Word) : (s.setTab o v).same = s.same := (Eq.refl _).trans rfl
@[simp] theorem State.rd_setTab (o : Nat) (v : Word) (g : Fld) : (s.setTab o v).rd g = s.rd g := (Eq.refl _).trans rfl
@[simp] theorem State.rdb_setTab (o : Nat) (v : Word) (g : Fld) : (s.setTab o v).rdb g = s.rdb g := (Eq.refl _).trans rfl
@[simp] theorem State.reg_setTab (o : Nat) (v : Word) (k : Nat) : (s.setTab o v).reg k = s.reg k := (Eq.refl _).trans rfl
@[simp] theorem State.now_setTab (o : Nat) (v : Word) : (s.setTab o v).now = s.now := (Eq.refl _).trans rfl
@[simp] theorem State.stitch_setTab (o : Nat) (v : Word) : (s.setTab o v).stitch = s.stitch := (Eq.refl _).trans rfl
@[simp] theorem State.ldr_setTab (o : Nat) (v : Word) : (s.setTab o v).ldr = s.ldr := (Eq.refl _).trans rfl
@[simp] theorem State.run_setTab (o : Nat) (v : Word) : (s.setTab o v).run = s.run := (Eq.refl _).trans rfl
@[simp] theorem State.live_setTab (o : Nat) (v : Word) : (s.setTab o v).live = s.live := (Eq.refl _).trans rfl
@[simp] theorem State.lk_setTab (o : Nat) (v : Word) (k : Nat) : (s.setTab o v).lk k = s.lk k := (Eq.refl _).trans rfl
@[simp] theorem State.rg_setTab (o : Nat) (v : Word) (k : Nat) : (s.setTab o v).rg k = s.rg k := (Eq.refl _).trans rfl

@[simp] theorem State.setLk_pending (l : Nat) (x : LinkSt) : (s.setLk l x).pending = s.pending := (Eq.refl _).trans rfl
@[simp] theorem State.setLk_regs (l : Nat) (x : LinkSt) : (s.setLk l x).regs = s.regs := (Eq.refl _).trans rfl
@[simp] theorem State.setLk_bar2 (l : Nat) (x : LinkSt) : (s.setLk l x).bar2 = s.bar2 := (Eq.refl _).trans rfl
@[simp] theorem State.setLk_hbm (l : Nat) (x : LinkSt) : (s.setLk l x).hbm = s.hbm := (Eq.refl _).trans rfl
@[simp] theorem State.setLk_sram (l : Nat) (x : LinkSt) : (s.setLk l x).sram = s.sram := (Eq.refl _).trans rfl
@[simp] theorem State.setLk_crown (l : Nat) (x : LinkSt) : (s.setLk l x).crown = s.crown := (Eq.refl _).trans rfl
@[simp] theorem State.setLk_rgn (l : Nat) (x : LinkSt) : (s.setLk l x).rgn = s.rgn := (Eq.refl _).trans rfl
@[simp] theorem State.setLk_cuff (l : Nat) (x : LinkSt) : (s.setLk l x).cuff = s.cuff := (Eq.refl _).trans rfl
@[simp] theorem State.setLk_route (l : Nat) (x : LinkSt) : (s.setLk l x).route = s.route := (Eq.refl _).trans rfl
@[simp] theorem State.setLk_flt (l : Nat) (x : LinkSt) : (s.setLk l x).flt = s.flt := (Eq.refl _).trans rfl
@[simp] theorem State.setLk_time (l : Nat) (x : LinkSt) : (s.setLk l x).time = s.time := (Eq.refl _).trans rfl
@[simp] theorem State.setLk_pwr (l : Nat) (x : LinkSt) : (s.setLk l x).pwr = s.pwr := (Eq.refl _).trans rfl
@[simp] theorem State.setLk_mem (l : Nat) (x : LinkSt) : (s.setLk l x).mem = s.mem := (Eq.refl _).trans rfl
@[simp] theorem State.setLk_palm (l : Nat) (x : LinkSt) : (s.setLk l x).palm = s.palm := (Eq.refl _).trans rfl
@[simp] theorem State.setLk_ldrs (l : Nat) (x : LinkSt) : (s.setLk l x).ldrs = s.ldrs := (Eq.refl _).trans rfl
@[simp] theorem State.setLk_boot (l : Nat) (x : LinkSt) : (s.setLk l x).boot = s.boot := (Eq.refl _).trans rfl
@[simp] theorem State.setLk_nvm (l : Nat) (x : LinkSt) : (s.setLk l x).nvm = s.nvm := (Eq.refl _).trans rfl
@[simp] theorem State.setLk_bon (l : Nat) (x : LinkSt) : (s.setLk l x).bon = s.bon := (Eq.refl _).trans rfl
@[simp] theorem State.setLk_egress (l : Nat) (x : LinkSt) : (s.setLk l x).egress = s.egress := (Eq.refl _).trans rfl
@[simp] theorem State.setLk_cyc (l : Nat) (x : LinkSt) : (s.setLk l x).cyc = s.cyc := (Eq.refl _).trans rfl
@[simp] theorem State.setLk_freeCtr (l : Nat) (x : LinkSt) : (s.setLk l x).freeCtr = s.freeCtr := (Eq.refl _).trans rfl
@[simp] theorem State.setLk_same (l : Nat) (x : LinkSt) : (s.setLk l x).same = s.same := (Eq.refl _).trans rfl
@[simp] theorem State.rd_setLk (l : Nat) (x : LinkSt) (g : Fld) : (s.setLk l x).rd g = s.rd g := (Eq.refl _).trans rfl
@[simp] theorem State.rdb_setLk (l : Nat) (x : LinkSt) (g : Fld) : (s.setLk l x).rdb g = s.rdb g := (Eq.refl _).trans rfl
@[simp] theorem State.reg_setLk (l : Nat) (x : LinkSt) (k : Nat) : (s.setLk l x).reg k = s.reg k := (Eq.refl _).trans rfl
@[simp] theorem State.now_setLk (l : Nat) (x : LinkSt) : (s.setLk l x).now = s.now := (Eq.refl _).trans rfl
@[simp] theorem State.stitch_setLk (l : Nat) (x : LinkSt) : (s.setLk l x).stitch = s.stitch := (Eq.refl _).trans rfl
@[simp] theorem State.ldr_setLk (l : Nat) (x : LinkSt) : (s.setLk l x).ldr = s.ldr := (Eq.refl _).trans rfl
@[simp] theorem State.run_setLk (l : Nat) (x : LinkSt) : (s.setLk l x).run = s.run := (Eq.refl _).trans rfl
@[simp] theorem State.live_setLk (l : Nat) (x : LinkSt) : (s.setLk l x).live = s.live := (Eq.refl _).trans rfl
@[simp] theorem State.tab_setLk (l : Nat) (x : LinkSt) (k : Nat) : (s.setLk l x).tab k = s.tab k := (Eq.refl _).trans rfl
@[simp] theorem State.rg_setLk (l : Nat) (x : LinkSt) (k : Nat) : (s.setLk l x).rg k = s.rg k := (Eq.refl _).trans rfl

@[simp] theorem State.setRg_pending (g : Nat) (x : RgnSt) : (s.setRg g x).pending = s.pending := (Eq.refl _).trans rfl
@[simp] theorem State.setRg_regs (g : Nat) (x : RgnSt) : (s.setRg g x).regs = s.regs := (Eq.refl _).trans rfl
@[simp] theorem State.setRg_bar2 (g : Nat) (x : RgnSt) : (s.setRg g x).bar2 = s.bar2 := (Eq.refl _).trans rfl
@[simp] theorem State.setRg_hbm (g : Nat) (x : RgnSt) : (s.setRg g x).hbm = s.hbm := (Eq.refl _).trans rfl
@[simp] theorem State.setRg_sram (g : Nat) (x : RgnSt) : (s.setRg g x).sram = s.sram := (Eq.refl _).trans rfl
@[simp] theorem State.setRg_crown (g : Nat) (x : RgnSt) : (s.setRg g x).crown = s.crown := (Eq.refl _).trans rfl
@[simp] theorem State.setRg_links (g : Nat) (x : RgnSt) : (s.setRg g x).links = s.links := (Eq.refl _).trans rfl
@[simp] theorem State.setRg_cuff (g : Nat) (x : RgnSt) : (s.setRg g x).cuff = s.cuff := (Eq.refl _).trans rfl
@[simp] theorem State.setRg_route (g : Nat) (x : RgnSt) : (s.setRg g x).route = s.route := (Eq.refl _).trans rfl
@[simp] theorem State.setRg_flt (g : Nat) (x : RgnSt) : (s.setRg g x).flt = s.flt := (Eq.refl _).trans rfl
@[simp] theorem State.setRg_time (g : Nat) (x : RgnSt) : (s.setRg g x).time = s.time := (Eq.refl _).trans rfl
@[simp] theorem State.setRg_pwr (g : Nat) (x : RgnSt) : (s.setRg g x).pwr = s.pwr := (Eq.refl _).trans rfl
@[simp] theorem State.setRg_mem (g : Nat) (x : RgnSt) : (s.setRg g x).mem = s.mem := (Eq.refl _).trans rfl
@[simp] theorem State.setRg_palm (g : Nat) (x : RgnSt) : (s.setRg g x).palm = s.palm := (Eq.refl _).trans rfl
@[simp] theorem State.setRg_ldrs (g : Nat) (x : RgnSt) : (s.setRg g x).ldrs = s.ldrs := (Eq.refl _).trans rfl
@[simp] theorem State.setRg_boot (g : Nat) (x : RgnSt) : (s.setRg g x).boot = s.boot := (Eq.refl _).trans rfl
@[simp] theorem State.setRg_nvm (g : Nat) (x : RgnSt) : (s.setRg g x).nvm = s.nvm := (Eq.refl _).trans rfl
@[simp] theorem State.setRg_bon (g : Nat) (x : RgnSt) : (s.setRg g x).bon = s.bon := (Eq.refl _).trans rfl
@[simp] theorem State.setRg_egress (g : Nat) (x : RgnSt) : (s.setRg g x).egress = s.egress := (Eq.refl _).trans rfl
@[simp] theorem State.setRg_cyc (g : Nat) (x : RgnSt) : (s.setRg g x).cyc = s.cyc := (Eq.refl _).trans rfl
@[simp] theorem State.setRg_freeCtr (g : Nat) (x : RgnSt) : (s.setRg g x).freeCtr = s.freeCtr := (Eq.refl _).trans rfl
@[simp] theorem State.setRg_same (g : Nat) (x : RgnSt) : (s.setRg g x).same = s.same := (Eq.refl _).trans rfl
@[simp] theorem State.rd_setRg (k : Nat) (x : RgnSt) (g : Fld) : (s.setRg k x).rd g = s.rd g := (Eq.refl _).trans rfl
@[simp] theorem State.rdb_setRg (k : Nat) (x : RgnSt) (g : Fld) : (s.setRg k x).rdb g = s.rdb g := (Eq.refl _).trans rfl
@[simp] theorem State.reg_setRg (g : Nat) (x : RgnSt) (k : Nat) : (s.setRg g x).reg k = s.reg k := (Eq.refl _).trans rfl
@[simp] theorem State.now_setRg (g : Nat) (x : RgnSt) : (s.setRg g x).now = s.now := (Eq.refl _).trans rfl
@[simp] theorem State.stitch_setRg (g : Nat) (x : RgnSt) : (s.setRg g x).stitch = s.stitch := (Eq.refl _).trans rfl
@[simp] theorem State.ldr_setRg (g : Nat) (x : RgnSt) : (s.setRg g x).ldr = s.ldr := (Eq.refl _).trans rfl
@[simp] theorem State.run_setRg (g : Nat) (x : RgnSt) : (s.setRg g x).run = s.run := (Eq.refl _).trans rfl
@[simp] theorem State.live_setRg (g : Nat) (x : RgnSt) : (s.setRg g x).live = s.live := (Eq.refl _).trans rfl
@[simp] theorem State.tab_setRg (g : Nat) (x : RgnSt) (k : Nat) : (s.setRg g x).tab k = s.tab k := (Eq.refl _).trans rfl
@[simp] theorem State.lk_setRg (g : Nat) (x : RgnSt) (k : Nat) : (s.setRg g x).lk k = s.lk k := (Eq.refl _).trans rfl

@[simp] theorem State.emit_pending (e : Emission) : (s.emit e).pending = s.pending := (Eq.refl _).trans rfl
@[simp] theorem State.emit_regs (e : Emission) : (s.emit e).regs = s.regs := (Eq.refl _).trans rfl
@[simp] theorem State.emit_bar2 (e : Emission) : (s.emit e).bar2 = s.bar2 := (Eq.refl _).trans rfl
@[simp] theorem State.emit_hbm (e : Emission) : (s.emit e).hbm = s.hbm := (Eq.refl _).trans rfl
@[simp] theorem State.emit_sram (e : Emission) : (s.emit e).sram = s.sram := (Eq.refl _).trans rfl
@[simp] theorem State.emit_crown (e : Emission) : (s.emit e).crown = s.crown := (Eq.refl _).trans rfl
@[simp] theorem State.emit_rgn (e : Emission) : (s.emit e).rgn = s.rgn := (Eq.refl _).trans rfl
@[simp] theorem State.emit_links (e : Emission) : (s.emit e).links = s.links := (Eq.refl _).trans rfl
@[simp] theorem State.emit_cuff (e : Emission) : (s.emit e).cuff = s.cuff := (Eq.refl _).trans rfl
@[simp] theorem State.emit_route (e : Emission) : (s.emit e).route = s.route := (Eq.refl _).trans rfl
@[simp] theorem State.emit_flt (e : Emission) : (s.emit e).flt = s.flt := (Eq.refl _).trans rfl
@[simp] theorem State.emit_time (e : Emission) : (s.emit e).time = s.time := (Eq.refl _).trans rfl
@[simp] theorem State.emit_pwr (e : Emission) : (s.emit e).pwr = s.pwr := (Eq.refl _).trans rfl
@[simp] theorem State.emit_mem (e : Emission) : (s.emit e).mem = s.mem := (Eq.refl _).trans rfl
@[simp] theorem State.emit_palm (e : Emission) : (s.emit e).palm = s.palm := (Eq.refl _).trans rfl
@[simp] theorem State.emit_ldrs (e : Emission) : (s.emit e).ldrs = s.ldrs := (Eq.refl _).trans rfl
@[simp] theorem State.emit_boot (e : Emission) : (s.emit e).boot = s.boot := (Eq.refl _).trans rfl
@[simp] theorem State.emit_nvm (e : Emission) : (s.emit e).nvm = s.nvm := (Eq.refl _).trans rfl
@[simp] theorem State.emit_bon (e : Emission) : (s.emit e).bon = s.bon := (Eq.refl _).trans rfl
@[simp] theorem State.emit_cyc (e : Emission) : (s.emit e).cyc = s.cyc := (Eq.refl _).trans rfl
@[simp] theorem State.emit_freeCtr (e : Emission) : (s.emit e).freeCtr = s.freeCtr := (Eq.refl _).trans rfl
@[simp] theorem State.emit_same (e : Emission) : (s.emit e).same = s.same := (Eq.refl _).trans rfl
@[simp] theorem State.rd_emit (e : Emission) (g : Fld) : (s.emit e).rd g = s.rd g := (Eq.refl _).trans rfl
@[simp] theorem State.rdb_emit (e : Emission) (g : Fld) : (s.emit e).rdb g = s.rdb g := (Eq.refl _).trans rfl
@[simp] theorem State.reg_emit (e : Emission) (k : Nat) : (s.emit e).reg k = s.reg k := (Eq.refl _).trans rfl
@[simp] theorem State.now_emit (e : Emission) : (s.emit e).now = s.now := (Eq.refl _).trans rfl
@[simp] theorem State.stitch_emit (e : Emission) : (s.emit e).stitch = s.stitch := (Eq.refl _).trans rfl
@[simp] theorem State.ldr_emit (e : Emission) : (s.emit e).ldr = s.ldr := (Eq.refl _).trans rfl
@[simp] theorem State.run_emit (e : Emission) : (s.emit e).run = s.run := (Eq.refl _).trans rfl
@[simp] theorem State.live_emit (e : Emission) : (s.emit e).live = s.live := (Eq.refl _).trans rfl
@[simp] theorem State.tab_emit (e : Emission) (k : Nat) : (s.emit e).tab k = s.tab k := (Eq.refl _).trans rfl
@[simp] theorem State.lk_emit (e : Emission) (k : Nat) : (s.emit e).lk k = s.lk k := (Eq.refl _).trans rfl
@[simp] theorem State.rg_emit (e : Emission) (k : Nat) : (s.emit e).rg k = s.rg k := (Eq.refl _).trans rfl

@[simp] theorem State.tickFree_pending : (s.tickFree).pending = s.pending := (Eq.refl _).trans rfl
@[simp] theorem State.tickFree_regs : (s.tickFree).regs = s.regs := (Eq.refl _).trans rfl
@[simp] theorem State.tickFree_bar2 : (s.tickFree).bar2 = s.bar2 := (Eq.refl _).trans rfl
@[simp] theorem State.tickFree_hbm : (s.tickFree).hbm = s.hbm := (Eq.refl _).trans rfl
@[simp] theorem State.tickFree_sram : (s.tickFree).sram = s.sram := (Eq.refl _).trans rfl
@[simp] theorem State.tickFree_crown : (s.tickFree).crown = s.crown := (Eq.refl _).trans rfl
@[simp] theorem State.tickFree_rgn : (s.tickFree).rgn = s.rgn := (Eq.refl _).trans rfl
@[simp] theorem State.tickFree_links : (s.tickFree).links = s.links := (Eq.refl _).trans rfl
@[simp] theorem State.tickFree_cuff : (s.tickFree).cuff = s.cuff := (Eq.refl _).trans rfl
@[simp] theorem State.tickFree_route : (s.tickFree).route = s.route := (Eq.refl _).trans rfl
@[simp] theorem State.tickFree_flt : (s.tickFree).flt = s.flt := (Eq.refl _).trans rfl
@[simp] theorem State.tickFree_time : (s.tickFree).time = s.time := (Eq.refl _).trans rfl
@[simp] theorem State.tickFree_pwr : (s.tickFree).pwr = s.pwr := (Eq.refl _).trans rfl
@[simp] theorem State.tickFree_mem : (s.tickFree).mem = s.mem := (Eq.refl _).trans rfl
@[simp] theorem State.tickFree_palm : (s.tickFree).palm = s.palm := (Eq.refl _).trans rfl
@[simp] theorem State.tickFree_ldrs : (s.tickFree).ldrs = s.ldrs := (Eq.refl _).trans rfl
@[simp] theorem State.tickFree_boot : (s.tickFree).boot = s.boot := (Eq.refl _).trans rfl
@[simp] theorem State.tickFree_nvm : (s.tickFree).nvm = s.nvm := (Eq.refl _).trans rfl
@[simp] theorem State.tickFree_bon : (s.tickFree).bon = s.bon := (Eq.refl _).trans rfl
@[simp] theorem State.tickFree_egress : (s.tickFree).egress = s.egress := (Eq.refl _).trans rfl
@[simp] theorem State.tickFree_cyc : (s.tickFree).cyc = s.cyc := (Eq.refl _).trans rfl
@[simp] theorem State.rd_tickFree (g : Fld) : (s.tickFree).rd g = s.rd g := (Eq.refl _).trans rfl
@[simp] theorem State.rdb_tickFree (g : Fld) : (s.tickFree).rdb g = s.rdb g := (Eq.refl _).trans rfl
@[simp] theorem State.reg_tickFree (k : Nat) : (s.tickFree).reg k = s.reg k := (Eq.refl _).trans rfl
@[simp] theorem State.now_tickFree : (s.tickFree).now = s.now := (Eq.refl _).trans rfl
@[simp] theorem State.stitch_tickFree : (s.tickFree).stitch = s.stitch := (Eq.refl _).trans rfl
@[simp] theorem State.ldr_tickFree : (s.tickFree).ldr = s.ldr := (Eq.refl _).trans rfl
@[simp] theorem State.run_tickFree : (s.tickFree).run = s.run := (Eq.refl _).trans rfl
@[simp] theorem State.live_tickFree : (s.tickFree).live = s.live := (Eq.refl _).trans rfl
@[simp] theorem State.tab_tickFree (k : Nat) : (s.tickFree).tab k = s.tab k := (Eq.refl _).trans rfl
@[simp] theorem State.lk_tickFree (k : Nat) : (s.tickFree).lk k = s.lk k := (Eq.refl _).trans rfl
@[simp] theorem State.rg_tickFree (k : Nat) : (s.tickFree).rg k = s.rg k := (Eq.refl _).trans rfl

@[simp] theorem State.count_pending (a n : Nat) : (s.count a n).pending = s.pending := by
  unfold State.count; dsimp only; split <;> simp only [State.setReg_pending]
@[simp] theorem State.count_bar2 (a n : Nat) : (s.count a n).bar2 = s.bar2 := by
  unfold State.count; dsimp only; split <;> simp only [State.setReg_bar2]
@[simp] theorem State.count_hbm (a n : Nat) : (s.count a n).hbm = s.hbm := by
  unfold State.count; dsimp only; split <;> simp only [State.setReg_hbm]
@[simp] theorem State.count_sram (a n : Nat) : (s.count a n).sram = s.sram := by
  unfold State.count; dsimp only; split <;> simp only [State.setReg_sram]
@[simp] theorem State.count_crown (a n : Nat) : (s.count a n).crown = s.crown := by
  unfold State.count; dsimp only; split <;> simp only [State.setReg_crown]
@[simp] theorem State.count_rgn (a n : Nat) : (s.count a n).rgn = s.rgn := by
  unfold State.count; dsimp only; split <;> simp only [State.setReg_rgn]
@[simp] theorem State.count_links (a n : Nat) : (s.count a n).links = s.links := by
  unfold State.count; dsimp only; split <;> simp only [State.setReg_links]
@[simp] theorem State.count_cuff (a n : Nat) : (s.count a n).cuff = s.cuff := by
  unfold State.count; dsimp only; split <;> simp only [State.setReg_cuff]
@[simp] theorem State.count_route (a n : Nat) : (s.count a n).route = s.route := by
  unfold State.count; dsimp only; split <;> simp only [State.setReg_route]
@[simp] theorem State.count_flt (a n : Nat) : (s.count a n).flt = s.flt := by
  unfold State.count; dsimp only; split <;> simp only [State.setReg_flt]
@[simp] theorem State.count_time (a n : Nat) : (s.count a n).time = s.time := by
  unfold State.count; dsimp only; split <;> simp only [State.setReg_time]
@[simp] theorem State.count_pwr (a n : Nat) : (s.count a n).pwr = s.pwr := by
  unfold State.count; dsimp only; split <;> simp only [State.setReg_pwr]
@[simp] theorem State.count_mem (a n : Nat) : (s.count a n).mem = s.mem := by
  unfold State.count; dsimp only; split <;> simp only [State.setReg_mem]
@[simp] theorem State.count_palm (a n : Nat) : (s.count a n).palm = s.palm := by
  unfold State.count; dsimp only; split <;> simp only [State.setReg_palm]
@[simp] theorem State.count_ldrs (a n : Nat) : (s.count a n).ldrs = s.ldrs := by
  unfold State.count; dsimp only; split <;> simp only [State.setReg_ldrs]
@[simp] theorem State.count_boot (a n : Nat) : (s.count a n).boot = s.boot := by
  unfold State.count; dsimp only; split <;> simp only [State.setReg_boot]
@[simp] theorem State.count_nvm (a n : Nat) : (s.count a n).nvm = s.nvm := by
  unfold State.count; dsimp only; split <;> simp only [State.setReg_nvm]
@[simp] theorem State.count_bon (a n : Nat) : (s.count a n).bon = s.bon := by
  unfold State.count; dsimp only; split <;> simp only [State.setReg_bon]
@[simp] theorem State.count_egress (a n : Nat) : (s.count a n).egress = s.egress := by
  unfold State.count; dsimp only; split <;> simp only [State.setReg_egress]
@[simp] theorem State.count_cyc (a n : Nat) : (s.count a n).cyc = s.cyc := by
  unfold State.count; dsimp only; split <;> simp only [State.setReg_cyc]
@[simp] theorem State.count_freeCtr (a n : Nat) : (s.count a n).freeCtr = s.freeCtr := by
  unfold State.count; dsimp only; split <;> simp only [State.setReg_freeCtr]
@[simp] theorem State.count_same (a n : Nat) : (s.count a n).same = s.same := by
  unfold State.count; dsimp only; split <;> simp only [State.setReg_same]
@[simp] theorem State.live_count (a n : Nat) : (s.count a n).live = s.live := by
  unfold State.count; dsimp only; split <;> simp only [State.live_setReg]
@[simp] theorem State.tab_count (a n : Nat) (k : Nat) : (s.count a n).tab k = s.tab k := by
  unfold State.count; dsimp only; split <;> simp only [State.tab_setReg]
@[simp] theorem State.lk_count (a n : Nat) (k : Nat) : (s.count a n).lk k = s.lk k := by
  unfold State.count; dsimp only; split <;> simp only [State.lk_setReg]
@[simp] theorem State.rg_count (a n : Nat) (k : Nat) : (s.count a n).rg k = s.rg k := by
  unfold State.count; dsimp only; split <;> simp only [State.rg_setReg]

@[simp] theorem State.noteLevel_pending (f : Fld) (v : Nat) : (s.noteLevel f v).pending = s.pending := (Eq.refl _).trans rfl
@[simp] theorem State.noteLevel_bar2 (f : Fld) (v : Nat) : (s.noteLevel f v).bar2 = s.bar2 := (Eq.refl _).trans rfl
@[simp] theorem State.noteLevel_hbm (f : Fld) (v : Nat) : (s.noteLevel f v).hbm = s.hbm := (Eq.refl _).trans rfl
@[simp] theorem State.noteLevel_sram (f : Fld) (v : Nat) : (s.noteLevel f v).sram = s.sram := (Eq.refl _).trans rfl
@[simp] theorem State.noteLevel_crown (f : Fld) (v : Nat) : (s.noteLevel f v).crown = s.crown := (Eq.refl _).trans rfl
@[simp] theorem State.noteLevel_rgn (f : Fld) (v : Nat) : (s.noteLevel f v).rgn = s.rgn := (Eq.refl _).trans rfl
@[simp] theorem State.noteLevel_links (f : Fld) (v : Nat) : (s.noteLevel f v).links = s.links := (Eq.refl _).trans rfl
@[simp] theorem State.noteLevel_cuff (f : Fld) (v : Nat) : (s.noteLevel f v).cuff = s.cuff := (Eq.refl _).trans rfl
@[simp] theorem State.noteLevel_route (f : Fld) (v : Nat) : (s.noteLevel f v).route = s.route := (Eq.refl _).trans rfl
@[simp] theorem State.noteLevel_flt (f : Fld) (v : Nat) : (s.noteLevel f v).flt = s.flt := (Eq.refl _).trans rfl
@[simp] theorem State.noteLevel_time (f : Fld) (v : Nat) : (s.noteLevel f v).time = s.time := (Eq.refl _).trans rfl
@[simp] theorem State.noteLevel_pwr (f : Fld) (v : Nat) : (s.noteLevel f v).pwr = s.pwr := (Eq.refl _).trans rfl
@[simp] theorem State.noteLevel_mem (f : Fld) (v : Nat) : (s.noteLevel f v).mem = s.mem := (Eq.refl _).trans rfl
@[simp] theorem State.noteLevel_palm (f : Fld) (v : Nat) : (s.noteLevel f v).palm = s.palm := (Eq.refl _).trans rfl
@[simp] theorem State.noteLevel_ldrs (f : Fld) (v : Nat) : (s.noteLevel f v).ldrs = s.ldrs := (Eq.refl _).trans rfl
@[simp] theorem State.noteLevel_boot (f : Fld) (v : Nat) : (s.noteLevel f v).boot = s.boot := (Eq.refl _).trans rfl
@[simp] theorem State.noteLevel_nvm (f : Fld) (v : Nat) : (s.noteLevel f v).nvm = s.nvm := (Eq.refl _).trans rfl
@[simp] theorem State.noteLevel_bon (f : Fld) (v : Nat) : (s.noteLevel f v).bon = s.bon := (Eq.refl _).trans rfl
@[simp] theorem State.noteLevel_egress (f : Fld) (v : Nat) : (s.noteLevel f v).egress = s.egress := (Eq.refl _).trans rfl
@[simp] theorem State.noteLevel_cyc (f : Fld) (v : Nat) : (s.noteLevel f v).cyc = s.cyc := (Eq.refl _).trans rfl
@[simp] theorem State.noteLevel_freeCtr (f : Fld) (v : Nat) : (s.noteLevel f v).freeCtr = s.freeCtr := (Eq.refl _).trans rfl
@[simp] theorem State.noteLevel_reg (f : Fld) (v a : Nat) : (s.noteLevel f v).reg a = s.reg a := (Eq.refl _).trans rfl
@[simp] theorem State.noteLevel_rd (f g : Fld) (v : Nat) : (s.noteLevel f v).rd g = s.rd g := (Eq.refl _).trans rfl
@[simp] theorem State.live_noteLevel (f : Fld) (v : Nat) : (s.noteLevel f v).live = s.live := (Eq.refl _).trans rfl
@[simp] theorem State.tab_noteLevel (f : Fld) (v k : Nat) : (s.noteLevel f v).tab k = s.tab k := (Eq.refl _).trans rfl
@[simp] theorem State.lk_noteLevel (f : Fld) (v k : Nat) : (s.noteLevel f v).lk k = s.lk k := (Eq.refl _).trans rfl
@[simp] theorem State.rg_noteLevel (f : Fld) (v k : Nat) : (s.noteLevel f v).rg k = s.rg k := (Eq.refl _).trans rfl

@[simp] theorem State.raise_pending (f : Fld) (v : Nat) : (s.raise f v).pending = s.pending := by
  unfold State.raise; split <;> simp only [State.noteLevel_pending, State.wr_pending]
@[simp] theorem State.raise_bar2 (f : Fld) (v : Nat) : (s.raise f v).bar2 = s.bar2 := by
  unfold State.raise; split <;> simp only [State.noteLevel_bar2, State.wr_bar2]
@[simp] theorem State.raise_hbm (f : Fld) (v : Nat) : (s.raise f v).hbm = s.hbm := by
  unfold State.raise; split <;> simp only [State.noteLevel_hbm, State.wr_hbm]
@[simp] theorem State.raise_sram (f : Fld) (v : Nat) : (s.raise f v).sram = s.sram := by
  unfold State.raise; split <;> simp only [State.noteLevel_sram, State.wr_sram]
@[simp] theorem State.raise_crown (f : Fld) (v : Nat) : (s.raise f v).crown = s.crown := by
  unfold State.raise; split <;> simp only [State.noteLevel_crown, State.wr_crown]
@[simp] theorem State.raise_rgn (f : Fld) (v : Nat) : (s.raise f v).rgn = s.rgn := by
  unfold State.raise; split <;> simp only [State.noteLevel_rgn, State.wr_rgn]
@[simp] theorem State.raise_links (f : Fld) (v : Nat) : (s.raise f v).links = s.links := by
  unfold State.raise; split <;> simp only [State.noteLevel_links, State.wr_links]
@[simp] theorem State.raise_cuff (f : Fld) (v : Nat) : (s.raise f v).cuff = s.cuff := by
  unfold State.raise; split <;> simp only [State.noteLevel_cuff, State.wr_cuff]
@[simp] theorem State.raise_route (f : Fld) (v : Nat) : (s.raise f v).route = s.route := by
  unfold State.raise; split <;> simp only [State.noteLevel_route, State.wr_route]
@[simp] theorem State.raise_flt (f : Fld) (v : Nat) : (s.raise f v).flt = s.flt := by
  unfold State.raise; split <;> simp only [State.noteLevel_flt, State.wr_flt]
@[simp] theorem State.raise_time (f : Fld) (v : Nat) : (s.raise f v).time = s.time := by
  unfold State.raise; split <;> simp only [State.noteLevel_time, State.wr_time]
@[simp] theorem State.raise_pwr (f : Fld) (v : Nat) : (s.raise f v).pwr = s.pwr := by
  unfold State.raise; split <;> simp only [State.noteLevel_pwr, State.wr_pwr]
@[simp] theorem State.raise_mem (f : Fld) (v : Nat) : (s.raise f v).mem = s.mem := by
  unfold State.raise; split <;> simp only [State.noteLevel_mem, State.wr_mem]
@[simp] theorem State.raise_palm (f : Fld) (v : Nat) : (s.raise f v).palm = s.palm := by
  unfold State.raise; split <;> simp only [State.noteLevel_palm, State.wr_palm]
@[simp] theorem State.raise_ldrs (f : Fld) (v : Nat) : (s.raise f v).ldrs = s.ldrs := by
  unfold State.raise; split <;> simp only [State.noteLevel_ldrs, State.wr_ldrs]
@[simp] theorem State.raise_boot (f : Fld) (v : Nat) : (s.raise f v).boot = s.boot := by
  unfold State.raise; split <;> simp only [State.noteLevel_boot, State.wr_boot]
@[simp] theorem State.raise_nvm (f : Fld) (v : Nat) : (s.raise f v).nvm = s.nvm := by
  unfold State.raise; split <;> simp only [State.noteLevel_nvm, State.wr_nvm]
@[simp] theorem State.raise_bon (f : Fld) (v : Nat) : (s.raise f v).bon = s.bon := by
  unfold State.raise; split <;> simp only [State.noteLevel_bon, State.wr_bon]
@[simp] theorem State.raise_egress (f : Fld) (v : Nat) : (s.raise f v).egress = s.egress := by
  unfold State.raise; split <;> simp only [State.noteLevel_egress, State.wr_egress]
@[simp] theorem State.raise_cyc (f : Fld) (v : Nat) : (s.raise f v).cyc = s.cyc := by
  unfold State.raise; split <;> simp only [State.noteLevel_cyc, State.wr_cyc]
@[simp] theorem State.raise_freeCtr (f : Fld) (v : Nat) : (s.raise f v).freeCtr = s.freeCtr := by
  unfold State.raise; split <;> simp only [State.noteLevel_freeCtr, State.wr_freeCtr]
@[simp] theorem State.live_raise (f : Fld) (v : Nat) : (s.raise f v).live = s.live := by
  unfold State.raise; split <;> simp only [State.live_noteLevel, State.live_wr]
@[simp] theorem State.tab_raise (f : Fld) (v : Nat) (k : Nat) : (s.raise f v).tab k = s.tab k := by
  unfold State.raise; split <;> simp only [State.tab_noteLevel, State.tab_wr]
@[simp] theorem State.lk_raise (f : Fld) (v : Nat) (k : Nat) : (s.raise f v).lk k = s.lk k := by
  unfold State.raise; split <;> simp only [State.lk_noteLevel, State.lk_wr]
@[simp] theorem State.rg_raise (f : Fld) (v : Nat) (k : Nat) : (s.raise f v).rg k = s.rg k := by
  unfold State.raise; split <;> simp only [State.rg_noteLevel, State.rg_wr]

@[simp] theorem State.lower_pending (f : Fld) (v : Nat) : (s.lower f v).pending = s.pending := by
  unfold State.lower; split <;> simp only [State.noteLevel_pending, State.wr_pending]
@[simp] theorem State.lower_bar2 (f : Fld) (v : Nat) : (s.lower f v).bar2 = s.bar2 := by
  unfold State.lower; split <;> simp only [State.noteLevel_bar2, State.wr_bar2]
@[simp] theorem State.lower_hbm (f : Fld) (v : Nat) : (s.lower f v).hbm = s.hbm := by
  unfold State.lower; split <;> simp only [State.noteLevel_hbm, State.wr_hbm]
@[simp] theorem State.lower_sram (f : Fld) (v : Nat) : (s.lower f v).sram = s.sram := by
  unfold State.lower; split <;> simp only [State.noteLevel_sram, State.wr_sram]
@[simp] theorem State.lower_crown (f : Fld) (v : Nat) : (s.lower f v).crown = s.crown := by
  unfold State.lower; split <;> simp only [State.noteLevel_crown, State.wr_crown]
@[simp] theorem State.lower_rgn (f : Fld) (v : Nat) : (s.lower f v).rgn = s.rgn := by
  unfold State.lower; split <;> simp only [State.noteLevel_rgn, State.wr_rgn]
@[simp] theorem State.lower_links (f : Fld) (v : Nat) : (s.lower f v).links = s.links := by
  unfold State.lower; split <;> simp only [State.noteLevel_links, State.wr_links]
@[simp] theorem State.lower_cuff (f : Fld) (v : Nat) : (s.lower f v).cuff = s.cuff := by
  unfold State.lower; split <;> simp only [State.noteLevel_cuff, State.wr_cuff]
@[simp] theorem State.lower_route (f : Fld) (v : Nat) : (s.lower f v).route = s.route := by
  unfold State.lower; split <;> simp only [State.noteLevel_route, State.wr_route]
@[simp] theorem State.lower_flt (f : Fld) (v : Nat) : (s.lower f v).flt = s.flt := by
  unfold State.lower; split <;> simp only [State.noteLevel_flt, State.wr_flt]
@[simp] theorem State.lower_time (f : Fld) (v : Nat) : (s.lower f v).time = s.time := by
  unfold State.lower; split <;> simp only [State.noteLevel_time, State.wr_time]
@[simp] theorem State.lower_pwr (f : Fld) (v : Nat) : (s.lower f v).pwr = s.pwr := by
  unfold State.lower; split <;> simp only [State.noteLevel_pwr, State.wr_pwr]
@[simp] theorem State.lower_mem (f : Fld) (v : Nat) : (s.lower f v).mem = s.mem := by
  unfold State.lower; split <;> simp only [State.noteLevel_mem, State.wr_mem]
@[simp] theorem State.lower_palm (f : Fld) (v : Nat) : (s.lower f v).palm = s.palm := by
  unfold State.lower; split <;> simp only [State.noteLevel_palm, State.wr_palm]
@[simp] theorem State.lower_ldrs (f : Fld) (v : Nat) : (s.lower f v).ldrs = s.ldrs := by
  unfold State.lower; split <;> simp only [State.noteLevel_ldrs, State.wr_ldrs]
@[simp] theorem State.lower_boot (f : Fld) (v : Nat) : (s.lower f v).boot = s.boot := by
  unfold State.lower; split <;> simp only [State.noteLevel_boot, State.wr_boot]
@[simp] theorem State.lower_nvm (f : Fld) (v : Nat) : (s.lower f v).nvm = s.nvm := by
  unfold State.lower; split <;> simp only [State.noteLevel_nvm, State.wr_nvm]
@[simp] theorem State.lower_bon (f : Fld) (v : Nat) : (s.lower f v).bon = s.bon := by
  unfold State.lower; split <;> simp only [State.noteLevel_bon, State.wr_bon]
@[simp] theorem State.lower_egress (f : Fld) (v : Nat) : (s.lower f v).egress = s.egress := by
  unfold State.lower; split <;> simp only [State.noteLevel_egress, State.wr_egress]
@[simp] theorem State.lower_cyc (f : Fld) (v : Nat) : (s.lower f v).cyc = s.cyc := by
  unfold State.lower; split <;> simp only [State.noteLevel_cyc, State.wr_cyc]
@[simp] theorem State.lower_freeCtr (f : Fld) (v : Nat) : (s.lower f v).freeCtr = s.freeCtr := by
  unfold State.lower; split <;> simp only [State.noteLevel_freeCtr, State.wr_freeCtr]
@[simp] theorem State.live_lower (f : Fld) (v : Nat) : (s.lower f v).live = s.live := by
  unfold State.lower; split <;> simp only [State.live_noteLevel, State.live_wr]
@[simp] theorem State.tab_lower (f : Fld) (v : Nat) (k : Nat) : (s.lower f v).tab k = s.tab k := by
  unfold State.lower; split <;> simp only [State.tab_noteLevel, State.tab_wr]
@[simp] theorem State.lk_lower (f : Fld) (v : Nat) (k : Nat) : (s.lower f v).lk k = s.lk k := by
  unfold State.lower; split <;> simp only [State.lk_noteLevel, State.lk_wr]
@[simp] theorem State.rg_lower (f : Fld) (v : Nat) (k : Nat) : (s.lower f v).rg k = s.rg k := by
  unfold State.lower; split <;> simp only [State.rg_noteLevel, State.rg_wr]

@[simp] theorem State.clearMark_pending (f : Fld) (v : Nat) : (s.clearMark f v).pending = s.pending := State.wr_pending s f _
@[simp] theorem State.clearMark_bar2 (f : Fld) (v : Nat) : (s.clearMark f v).bar2 = s.bar2 := State.wr_bar2 s f _
@[simp] theorem State.clearMark_hbm (f : Fld) (v : Nat) : (s.clearMark f v).hbm = s.hbm := State.wr_hbm s f _
@[simp] theorem State.clearMark_sram (f : Fld) (v : Nat) : (s.clearMark f v).sram = s.sram := State.wr_sram s f _
@[simp] theorem State.clearMark_crown (f : Fld) (v : Nat) : (s.clearMark f v).crown = s.crown := State.wr_crown s f _
@[simp] theorem State.clearMark_rgn (f : Fld) (v : Nat) : (s.clearMark f v).rgn = s.rgn := State.wr_rgn s f _
@[simp] theorem State.clearMark_links (f : Fld) (v : Nat) : (s.clearMark f v).links = s.links := State.wr_links s f _
@[simp] theorem State.clearMark_cuff (f : Fld) (v : Nat) : (s.clearMark f v).cuff = s.cuff := State.wr_cuff s f _
@[simp] theorem State.clearMark_route (f : Fld) (v : Nat) : (s.clearMark f v).route = s.route := State.wr_route s f _
@[simp] theorem State.clearMark_flt (f : Fld) (v : Nat) : (s.clearMark f v).flt = s.flt := State.wr_flt s f _
@[simp] theorem State.clearMark_time (f : Fld) (v : Nat) : (s.clearMark f v).time = s.time := State.wr_time s f _
@[simp] theorem State.clearMark_pwr (f : Fld) (v : Nat) : (s.clearMark f v).pwr = s.pwr := State.wr_pwr s f _
@[simp] theorem State.clearMark_mem (f : Fld) (v : Nat) : (s.clearMark f v).mem = s.mem := State.wr_mem s f _
@[simp] theorem State.clearMark_palm (f : Fld) (v : Nat) : (s.clearMark f v).palm = s.palm := State.wr_palm s f _
@[simp] theorem State.clearMark_ldrs (f : Fld) (v : Nat) : (s.clearMark f v).ldrs = s.ldrs := State.wr_ldrs s f _
@[simp] theorem State.clearMark_boot (f : Fld) (v : Nat) : (s.clearMark f v).boot = s.boot := State.wr_boot s f _
@[simp] theorem State.clearMark_nvm (f : Fld) (v : Nat) : (s.clearMark f v).nvm = s.nvm := State.wr_nvm s f _
@[simp] theorem State.clearMark_bon (f : Fld) (v : Nat) : (s.clearMark f v).bon = s.bon := State.wr_bon s f _
@[simp] theorem State.clearMark_egress (f : Fld) (v : Nat) : (s.clearMark f v).egress = s.egress := State.wr_egress s f _
@[simp] theorem State.clearMark_cyc (f : Fld) (v : Nat) : (s.clearMark f v).cyc = s.cyc := State.wr_cyc s f _
@[simp] theorem State.clearMark_freeCtr (f : Fld) (v : Nat) : (s.clearMark f v).freeCtr = s.freeCtr := State.wr_freeCtr s f _
@[simp] theorem State.clearMark_same (f : Fld) (v : Nat) : (s.clearMark f v).same = s.same := State.wr_same s f _

@[simp] theorem State.telRaise_pending (k v : Nat) : (s.telRaise k v).pending = s.pending := by
  unfold State.telRaise; split <;> rfl
@[simp] theorem State.telRaise_regs (k v : Nat) : (s.telRaise k v).regs = s.regs := by
  unfold State.telRaise; split <;> rfl
@[simp] theorem State.telRaise_bar2 (k v : Nat) : (s.telRaise k v).bar2 = s.bar2 := by
  unfold State.telRaise; split <;> rfl
@[simp] theorem State.telRaise_hbm (k v : Nat) : (s.telRaise k v).hbm = s.hbm := by
  unfold State.telRaise; split <;> rfl
@[simp] theorem State.telRaise_sram (k v : Nat) : (s.telRaise k v).sram = s.sram := by
  unfold State.telRaise; split <;> rfl
@[simp] theorem State.telRaise_crown (k v : Nat) : (s.telRaise k v).crown = s.crown := by
  unfold State.telRaise; split <;> rfl
@[simp] theorem State.telRaise_rgn (k v : Nat) : (s.telRaise k v).rgn = s.rgn := by
  unfold State.telRaise; split <;> rfl
@[simp] theorem State.telRaise_links (k v : Nat) : (s.telRaise k v).links = s.links := by
  unfold State.telRaise; split <;> rfl
@[simp] theorem State.telRaise_cuff (k v : Nat) : (s.telRaise k v).cuff = s.cuff := by
  unfold State.telRaise; split <;> rfl
@[simp] theorem State.telRaise_route (k v : Nat) : (s.telRaise k v).route = s.route := by
  unfold State.telRaise; split <;> rfl
@[simp] theorem State.telRaise_time (k v : Nat) : (s.telRaise k v).time = s.time := by
  unfold State.telRaise; split <;> rfl
@[simp] theorem State.telRaise_pwr (k v : Nat) : (s.telRaise k v).pwr = s.pwr := by
  unfold State.telRaise; split <;> rfl
@[simp] theorem State.telRaise_mem (k v : Nat) : (s.telRaise k v).mem = s.mem := by
  unfold State.telRaise; split <;> rfl
@[simp] theorem State.telRaise_palm (k v : Nat) : (s.telRaise k v).palm = s.palm := by
  unfold State.telRaise; split <;> rfl
@[simp] theorem State.telRaise_ldrs (k v : Nat) : (s.telRaise k v).ldrs = s.ldrs := by
  unfold State.telRaise; split <;> rfl
@[simp] theorem State.telRaise_boot (k v : Nat) : (s.telRaise k v).boot = s.boot := by
  unfold State.telRaise; split <;> rfl
@[simp] theorem State.telRaise_nvm (k v : Nat) : (s.telRaise k v).nvm = s.nvm := by
  unfold State.telRaise; split <;> rfl
@[simp] theorem State.telRaise_bon (k v : Nat) : (s.telRaise k v).bon = s.bon := by
  unfold State.telRaise; split <;> rfl
@[simp] theorem State.telRaise_egress (k v : Nat) : (s.telRaise k v).egress = s.egress := by
  unfold State.telRaise; split <;> rfl
@[simp] theorem State.telRaise_cyc (k v : Nat) : (s.telRaise k v).cyc = s.cyc := by
  unfold State.telRaise; split <;> rfl
@[simp] theorem State.telRaise_freeCtr (k v : Nat) : (s.telRaise k v).freeCtr = s.freeCtr := by
  unfold State.telRaise; split <;> rfl
@[simp] theorem State.telRaise_same (k v : Nat) : (s.telRaise k v).same = s.same := by
  unfold State.telRaise; split <;> rfl
@[simp] theorem State.rd_telRaise (k v : Nat) (g : Fld) : (s.telRaise k v).rd g = s.rd g := by
  unfold State.telRaise; split <;> rfl
@[simp] theorem State.rdb_telRaise (k v : Nat) (g : Fld) : (s.telRaise k v).rdb g = s.rdb g := by
  unfold State.telRaise; split <;> rfl
@[simp] theorem State.reg_telRaise (j v : Nat) (k : Nat) : (s.telRaise j v).reg k = s.reg k := by
  unfold State.telRaise; split <;> rfl
@[simp] theorem State.now_telRaise (k v : Nat) : (s.telRaise k v).now = s.now := by
  unfold State.telRaise; split <;> rfl
@[simp] theorem State.stitch_telRaise (k v : Nat) : (s.telRaise k v).stitch = s.stitch := by
  unfold State.telRaise; split <;> rfl
@[simp] theorem State.ldr_telRaise (k v : Nat) : (s.telRaise k v).ldr = s.ldr := by
  unfold State.telRaise; split <;> rfl
@[simp] theorem State.run_telRaise (k v : Nat) : (s.telRaise k v).run = s.run := by
  unfold State.telRaise; split <;> rfl
@[simp] theorem State.live_telRaise (k v : Nat) : (s.telRaise k v).live = s.live := by
  unfold State.telRaise; split <;> rfl
@[simp] theorem State.tab_telRaise (j v : Nat) (k : Nat) : (s.telRaise j v).tab k = s.tab k := by
  unfold State.telRaise; split <;> rfl
@[simp] theorem State.lk_telRaise (j v : Nat) (k : Nat) : (s.telRaise j v).lk k = s.lk k := by
  unfold State.telRaise; split <;> rfl
@[simp] theorem State.rg_telRaise (j v : Nat) (k : Nat) : (s.telRaise j v).rg k = s.rg k := by
  unfold State.telRaise; split <;> rfl

@[simp] theorem State.accErr_pending (p k : Nat) (b : Bool) (o : Nat) : (s.accErr p k b o).pending = s.pending := by
  unfold State.accErr; split <;> simp only [State.wr_pending, State.wrb_pending, State.flag_pending]
@[simp] theorem State.accErr_bar2 (p k : Nat) (b : Bool) (o : Nat) : (s.accErr p k b o).bar2 = s.bar2 := by
  unfold State.accErr; split <;> simp only [State.wr_bar2, State.wrb_bar2, State.flag_bar2]
@[simp] theorem State.accErr_hbm (p k : Nat) (b : Bool) (o : Nat) : (s.accErr p k b o).hbm = s.hbm := by
  unfold State.accErr; split <;> simp only [State.wr_hbm, State.wrb_hbm, State.flag_hbm]
@[simp] theorem State.accErr_sram (p k : Nat) (b : Bool) (o : Nat) : (s.accErr p k b o).sram = s.sram := by
  unfold State.accErr; split <;> simp only [State.wr_sram, State.wrb_sram, State.flag_sram]
@[simp] theorem State.accErr_crown (p k : Nat) (b : Bool) (o : Nat) : (s.accErr p k b o).crown = s.crown := by
  unfold State.accErr; split <;> simp only [State.wr_crown, State.wrb_crown, State.flag_crown]
@[simp] theorem State.accErr_rgn (p k : Nat) (b : Bool) (o : Nat) : (s.accErr p k b o).rgn = s.rgn := by
  unfold State.accErr; split <;> simp only [State.wr_rgn, State.wrb_rgn, State.flag_rgn]
@[simp] theorem State.accErr_links (p k : Nat) (b : Bool) (o : Nat) : (s.accErr p k b o).links = s.links := by
  unfold State.accErr; split <;> simp only [State.wr_links, State.wrb_links, State.flag_links]
@[simp] theorem State.accErr_cuff (p k : Nat) (b : Bool) (o : Nat) : (s.accErr p k b o).cuff = s.cuff := by
  unfold State.accErr; split <;> simp only [State.wr_cuff, State.wrb_cuff, State.flag_cuff]
@[simp] theorem State.accErr_route (p k : Nat) (b : Bool) (o : Nat) : (s.accErr p k b o).route = s.route := by
  unfold State.accErr; split <;> simp only [State.wr_route, State.wrb_route, State.flag_route]
@[simp] theorem State.accErr_flt (p k : Nat) (b : Bool) (o : Nat) : (s.accErr p k b o).flt = s.flt := by
  unfold State.accErr; split <;> simp only [State.wr_flt, State.wrb_flt, State.flag_flt]
@[simp] theorem State.accErr_time (p k : Nat) (b : Bool) (o : Nat) : (s.accErr p k b o).time = s.time := by
  unfold State.accErr; split <;> simp only [State.wr_time, State.wrb_time, State.flag_time]
@[simp] theorem State.accErr_pwr (p k : Nat) (b : Bool) (o : Nat) : (s.accErr p k b o).pwr = s.pwr := by
  unfold State.accErr; split <;> simp only [State.wr_pwr, State.wrb_pwr, State.flag_pwr]
@[simp] theorem State.accErr_mem (p k : Nat) (b : Bool) (o : Nat) : (s.accErr p k b o).mem = s.mem := by
  unfold State.accErr; split <;> simp only [State.wr_mem, State.wrb_mem, State.flag_mem]
@[simp] theorem State.accErr_palm (p k : Nat) (b : Bool) (o : Nat) : (s.accErr p k b o).palm = s.palm := by
  unfold State.accErr; split <;> simp only [State.wr_palm, State.wrb_palm, State.flag_palm]
@[simp] theorem State.accErr_ldrs (p k : Nat) (b : Bool) (o : Nat) : (s.accErr p k b o).ldrs = s.ldrs := by
  unfold State.accErr; split <;> simp only [State.wr_ldrs, State.wrb_ldrs, State.flag_ldrs]
@[simp] theorem State.accErr_boot (p k : Nat) (b : Bool) (o : Nat) : (s.accErr p k b o).boot = s.boot := by
  unfold State.accErr; split <;> simp only [State.wr_boot, State.wrb_boot, State.flag_boot]
@[simp] theorem State.accErr_nvm (p k : Nat) (b : Bool) (o : Nat) : (s.accErr p k b o).nvm = s.nvm := by
  unfold State.accErr; split <;> simp only [State.wr_nvm, State.wrb_nvm, State.flag_nvm]
@[simp] theorem State.accErr_bon (p k : Nat) (b : Bool) (o : Nat) : (s.accErr p k b o).bon = s.bon := by
  unfold State.accErr; split <;> simp only [State.wr_bon, State.wrb_bon, State.flag_bon]
@[simp] theorem State.accErr_egress (p k : Nat) (b : Bool) (o : Nat) : (s.accErr p k b o).egress = s.egress := by
  unfold State.accErr; split <;> simp only [State.wr_egress, State.wrb_egress, State.flag_egress]
@[simp] theorem State.accErr_cyc (p k : Nat) (b : Bool) (o : Nat) : (s.accErr p k b o).cyc = s.cyc := by
  unfold State.accErr; split <;> simp only [State.wr_cyc, State.wrb_cyc, State.flag_cyc]
@[simp] theorem State.accErr_freeCtr (p k : Nat) (b : Bool) (o : Nat) : (s.accErr p k b o).freeCtr = s.freeCtr := by
  unfold State.accErr; split <;> simp only [State.wr_freeCtr, State.wrb_freeCtr, State.flag_freeCtr]
@[simp] theorem State.live_accErr (p k : Nat) (b : Bool) (o : Nat) : (s.accErr p k b o).live = s.live := by
  unfold State.accErr; split <;> simp only [State.live_wr, State.live_wrb, State.live_flag]
@[simp] theorem State.tab_accErr (p j : Nat) (b : Bool) (o : Nat) (k : Nat) : (s.accErr p j b o).tab k = s.tab k := by
  unfold State.accErr; split <;> simp only [State.tab_wr, State.tab_wrb, State.tab_flag]
@[simp] theorem State.lk_accErr (p j : Nat) (b : Bool) (o : Nat) (k : Nat) : (s.accErr p j b o).lk k = s.lk k := by
  unfold State.accErr; split <;> simp only [State.lk_wr, State.lk_wrb, State.lk_flag]
@[simp] theorem State.rg_accErr (p j : Nat) (b : Bool) (o : Nat) (k : Nat) : (s.accErr p j b o).rg k = s.rg k := by
  unfold State.accErr; split <;> simp only [State.rg_wr, State.rg_wrb, State.rg_flag]

@[simp] theorem State.updFaultN_pending : (s.updFaultN).pending = s.pending := (Eq.refl _).trans rfl
@[simp] theorem State.updFaultN_bar2 : (s.updFaultN).bar2 = s.bar2 := (Eq.refl _).trans rfl
@[simp] theorem State.updFaultN_hbm : (s.updFaultN).hbm = s.hbm := (Eq.refl _).trans rfl
@[simp] theorem State.updFaultN_sram : (s.updFaultN).sram = s.sram := (Eq.refl _).trans rfl
@[simp] theorem State.updFaultN_crown : (s.updFaultN).crown = s.crown := (Eq.refl _).trans rfl
@[simp] theorem State.updFaultN_rgn : (s.updFaultN).rgn = s.rgn := (Eq.refl _).trans rfl
@[simp] theorem State.updFaultN_links : (s.updFaultN).links = s.links := (Eq.refl _).trans rfl
@[simp] theorem State.updFaultN_cuff : (s.updFaultN).cuff = s.cuff := (Eq.refl _).trans rfl
@[simp] theorem State.updFaultN_route : (s.updFaultN).route = s.route := (Eq.refl _).trans rfl
@[simp] theorem State.updFaultN_flt : (s.updFaultN).flt = s.flt := (Eq.refl _).trans rfl
@[simp] theorem State.updFaultN_time : (s.updFaultN).time = s.time := (Eq.refl _).trans rfl
@[simp] theorem State.updFaultN_pwr : (s.updFaultN).pwr = s.pwr := (Eq.refl _).trans rfl
@[simp] theorem State.updFaultN_mem : (s.updFaultN).mem = s.mem := (Eq.refl _).trans rfl
@[simp] theorem State.updFaultN_palm : (s.updFaultN).palm = s.palm := (Eq.refl _).trans rfl
@[simp] theorem State.updFaultN_ldrs : (s.updFaultN).ldrs = s.ldrs := (Eq.refl _).trans rfl
@[simp] theorem State.updFaultN_boot : (s.updFaultN).boot = s.boot := (Eq.refl _).trans rfl
@[simp] theorem State.updFaultN_nvm : (s.updFaultN).nvm = s.nvm := (Eq.refl _).trans rfl
@[simp] theorem State.updFaultN_bon : (s.updFaultN).bon = s.bon := (Eq.refl _).trans rfl
@[simp] theorem State.updFaultN_egress : (s.updFaultN).egress = s.egress := (Eq.refl _).trans rfl
@[simp] theorem State.updFaultN_cyc : (s.updFaultN).cyc = s.cyc := (Eq.refl _).trans rfl
@[simp] theorem State.updFaultN_freeCtr : (s.updFaultN).freeCtr = s.freeCtr := (Eq.refl _).trans rfl
@[simp] theorem State.updFaultN_same : (s.updFaultN).same = s.same := (Eq.refl _).trans rfl
@[simp] theorem State.live_updFaultN : (s.updFaultN).live = s.live := (Eq.refl _).trans rfl
@[simp] theorem State.tab_updFaultN (k : Nat) : (s.updFaultN).tab k = s.tab k := (Eq.refl _).trans rfl
@[simp] theorem State.lk_updFaultN (k : Nat) : (s.updFaultN).lk k = s.lk k := (Eq.refl _).trans rfl
@[simp] theorem State.rg_updFaultN (k : Nat) : (s.updFaultN).rg k = s.rg k := (Eq.refl _).trans rfl

/-- A register just written reads as it was written. -/
@[simp] theorem State.reg_setReg_same (a : Nat) (v : Word) : (s.setReg a v).reg a = v := SMap.get_set_same ..

/-- A write leaves every other register as it was. -/
theorem State.reg_setReg_ne {a b : Nat} (v : Word) (h : b ≠ a) : (s.setReg a v).reg b = s.reg b :=
  SMap.get_set_ne _ _ _ h

theorem State.reg_setReg (a b : Nat) (v : Word) : (s.setReg a v).reg b = if b = a then v else s.reg b :=
  SMap.get_set ..

/-- A field is bits of its register. -/
theorem State.rd_eq (f : Fld) : s.rd f = fget (s.reg f.addr) f.hi f.lo := rfl

theorem State.rdb_eq (f : Fld) : s.rdb f = (s.rd f != 0) := rfl

/-- A field's place lies inside a word. -/
def Fld.ok (f : Fld) : Bool := decide (f.lo ≤ f.hi) && decide (f.hi < 64)

/-- Two fields share no bit. -/
def Fld.apart (f g : Fld) : Bool := g.addr != f.addr || decide (g.hi < f.lo) || decide (f.hi < g.lo)

/-- The field just written reads as the value, cut to the field's width. -/
theorem State.rd_wr_same {f : Fld} (v : Nat) (h : Fld.ok f = true) : (s.wr f v).rd f = v % 2 ^ (f.hi + 1 - f.lo) := by
  simp only [Fld.ok, Bool.and_eq_true, decide_eq_true_eq] at h
  rw [State.rd_eq, State.wr, State.reg_setReg_same, fget_fset_same _ _ _ _ h.1 h.2]

/-- A write leaves every field that shares no bit with the one written. -/
theorem State.rd_wr_apart {f g : Fld} (v : Nat) (hf : Fld.ok f = true) (hg : Fld.ok g = true) (h : Fld.apart f g = true) :
    (s.wr f v).rd g = s.rd g := by
  simp only [Fld.ok, Bool.and_eq_true, decide_eq_true_eq] at hf hg
  simp only [Fld.apart, Bool.or_eq_true, bne_iff_ne, ne_eq, decide_eq_true_eq] at h
  rw [State.rd_eq, State.rd_eq, State.wr]
  by_cases ha : g.addr = f.addr
  · rw [ha, State.reg_setReg_same]
    rcases h with (h | h) | h
    · exact absurd ha h
    · exact fget_fset_below _ _ _ _ _ _ hf.1 hf.2 h hg.1
    · exact fget_fset_above _ _ _ _ _ _ hf.1 hf.2 h
  · rw [State.reg_setReg_ne _ _ ha]

/-- A field write leaves every other register as it was. -/
theorem State.reg_wr_ne {f : Fld} (v : Nat) {a : Nat} (h : a ≠ f.addr) : (s.wr f v).reg a = s.reg a :=
  s.reg_setReg_ne _ h

/-- Another register's field is untouched by a register write. -/
theorem State.rd_setReg_ne {a : Nat} {g : Fld} (v : Word) (h : g.addr ≠ a) : (s.setReg a v).rd g = s.rd g := by
  rw [State.rd_eq, State.rd_eq, s.reg_setReg_ne v h]

theorem State.rd_setReg_same (v : Word) (g : Fld) : (s.setReg g.addr v).rd g = fget v g.hi g.lo := by
  rw [State.rd_eq, State.reg_setReg_same]

/-- A cleared register reads as its reset value; any other as before. -/
theorem State.reg_clearRegs (p : Nat → Bool) (a : Nat) :
    (s.clearRegs p).reg a = if p a then Reg.resetVal a else s.reg a := SMap.get_clear ..

/-- What a counter holds after it counts `n` (R62, R408): it stops at its maximum with SAT set. -/
theorem State.reg_count_same (a n : Nat) :
    (s.count a n).reg a = if 0xFFFFFFFFFFFF ≤ fget (s.reg a) 47 0 + n then BitVec.ofNat 64 0x8000FFFFFFFFFFFF
      else fset (s.reg a) 47 0 (fget (s.reg a) 47 0 + n) := by
  unfold State.count; dsimp only; split <;> exact State.reg_setReg_same ..

/-- Counting leaves every other register as it was. -/
theorem State.reg_count_ne {a b : Nat} (n : Nat) (h : b ≠ a) : (s.count a n).reg b = s.reg b := by
  unfold State.count; dsimp only; split <;> exact s.reg_setReg_ne _ h

theorem State.rd_count_ne {a : Nat} {g : Fld} (n : Nat) (h : g.addr ≠ a) : (s.count a n).rd g = s.rd g := by
  rw [State.rd_eq, State.rd_eq, s.reg_count_ne n h]

/-- Raising a mark leaves every other register as it was. -/
theorem State.reg_raise_ne {f : Fld} (v : Nat) {a : Nat} (h : a ≠ f.addr) : (s.raise f v).reg a = s.reg a := by
  unfold State.raise; split
  · exact (State.noteLevel_reg _ _ _ _).trans (s.reg_wr_ne v h)
  · exact State.noteLevel_reg _ _ _ _

theorem State.rd_raise_ne {f g : Fld} (v : Nat) (h : g.addr ≠ f.addr) : (s.raise f v).rd g = s.rd g := by
  rw [State.rd_eq, State.rd_eq, s.reg_raise_ne v h]

/-- Raising a mark leaves the larger of the two values (R410). -/
theorem State.rd_raise_same {f : Fld} (v : Nat) (h : Fld.ok f = true) (hv : v < 2 ^ (f.hi + 1 - f.lo)) :
    (s.raise f v).rd f = max (s.rd f) v := by
  unfold State.raise; split
  · rename_i g; rw [State.noteLevel_rd, s.rd_wr_same v h, Nat.mod_eq_of_lt hv, Nat.max_eq_right (Nat.le_of_lt g)]
  · rename_i g; rw [State.noteLevel_rd, Nat.max_eq_left (Nat.not_lt.mp g)]

/-- Lowering a mark of the smallest level leaves the smaller of the two values, and every other register as it was (R410). -/
theorem State.rd_lower_same {f : Fld} (v : Nat) (h : Fld.ok f = true) (hv : v < 2 ^ (f.hi + 1 - f.lo)) :
    (s.lower f v).rd f = min (s.rd f) v := by
  unfold State.lower; split
  · rename_i g; rw [State.noteLevel_rd, s.rd_wr_same v h, Nat.mod_eq_of_lt hv, Nat.min_eq_right (Nat.le_of_lt g)]
  · rename_i g; rw [State.noteLevel_rd, Nat.min_eq_left (Nat.not_lt.mp g)]

theorem State.reg_lower_ne {f : Fld} (v : Nat) {a : Nat} (h : a ≠ f.addr) : (s.lower f v).reg a = s.reg a := by
  unfold State.lower; split
  · exact (State.noteLevel_reg _ _ _ _).trans (s.reg_wr_ne v h)
  · exact State.noteLevel_reg _ _ _ _

/-- A mark that has met level `v` in the cycle keeps at least it through a clear (R410). -/
theorem State.levelOr_raise (f : Fld) (v w : Nat) : (s.raise f v).levelOr f w = max v (s.levelOr f 0) := by
  have e : ∀ t : State, ∀ n, (t.noteLevel f n).levelOr f w = n := by
    intro t n
    simp only [State.levelOr, State.noteLevel, SMap.get_set_same]
  unfold State.raise; split <;> exact e _ _

/-- FAULT_N's pin changes no other register (R430). -/
theorem State.reg_updFaultN_ne {a : Nat} (h : a ≠ Reg.PWR_FAULTN) : s.updFaultN.reg a = s.reg a := s.reg_wr_ne _ h

/-- Recording a refused access changes no other register (R447). -/
theorem State.reg_accErr_ne (p k : Nat) (b : Bool) (o : Nat) {a : Nat} (h : a ≠ Reg.GEN_ACC_ERR) :
    (s.accErr p k b o).reg a = s.reg a := by
  unfold State.accErr
  split
  · rw [State.reg_flag, State.reg_wr_ne _ _ h]
  · unfold State.wrb
    rw [State.reg_wr_ne _ _ h, State.reg_wr_ne _ _ h, State.reg_wr_ne _ _ h, State.reg_wr_ne _ _ h, State.reg_flag, State.reg_wr_ne _ _ h]

/-- A table entry just written reads as it was written, and every other entry as before. -/
theorem State.tab_setTab (o k : Nat) (v : Word) : (s.setTab o v).tab k = if k = o then v else s.tab k := SMap.get_set ..

@[simp] theorem State.tab_setTab_same (o : Nat) (v : Word) : (s.setTab o v).tab o = v := SMap.get_set_same ..

/-- A link's state just written, and any other link's. -/
theorem State.lk_setLk (l k : Nat) (x : LinkSt) : (s.setLk l x).lk k = if k = l then x else s.lk k := SMap.get_set ..

@[simp] theorem State.lk_setLk_same (l : Nat) (x : LinkSt) : (s.setLk l x).lk l = x := SMap.get_set_same ..

/-- A region's clock state just written, and any other region's. -/
theorem State.rg_setRg (g k : Nat) (x : RgnSt) : (s.setRg g x).rg k = if k = g then x else s.rg k := SMap.get_set ..

@[simp] theorem State.rg_setRg_same (g : Nat) (x : RgnSt) : (s.setRg g x).rg g = x := SMap.get_set_same ..

@[simp] theorem State.emit_egress (e : Emission) : (s.emit e).egress = s.egress ++ [e] := (Eq.refl _).trans rfl

@[simp] theorem State.tickFree_freeCtr : s.tickFree.freeCtr = s.freeCtr + 1 := (Eq.refl _).trans rfl

end Sys2Proof.Machine
end

