-- ==== Sys2Proof/Laws/Faults.lean ====
section
/-! SUPPORT. Sys2Proof/Laws/Faults.lean: what recording a fault leaves alone: every register outside the fault registers, and
every part of the state but the Cuff's, the router's, the fault block's and the power controller's. -/
set_option Elab.async false
namespace Sys2Proof.Machine

/-- A write of another field's register leaves the field. -/
theorem State.rd_wr_ne (s : State) {f g : Fld} (v : Nat) (h : g.addr ≠ f.addr) : (s.wr f v).rd g = s.rd g := by
  rw [State.rd_eq, State.rd_eq, s.reg_wr_ne v h]

theorem State.reg_wrb_ne (s : State) {f : Fld} (b : Bool) {a : Nat} (h : a ≠ f.addr) : (s.wrb f b).reg a = s.reg a :=
  s.reg_wr_ne _ h

/-- A fold of operations that each leave register `a` leaves it. -/
theorem State.reg_forEach {α : Type} (a : Nat) (f : State → α → State) (l : List α) :
    (∀ s, ∀ x ∈ l, (f s x).reg a = s.reg a) → ∀ s : State, (s.forEach l f).reg a = s.reg a := by
  induction l with
  | nil => intro _ s; rfl
  | cons x l ih =>
    intro hf s
    exact (ih (fun s y hy => hf s y (List.mem_cons_of_mem _ hy)) (f s x)).trans (hf s x List.mem_cons_self)

/-- The addresses that `ofFaults` names are none of the others. -/
theorem ofFaults_ne {a : Nat} (h : ofFaults a = false) :
    a ≠ Reg.GEN_BOOT_STATUS ∧ a ≠ Reg.PWR_FAULTN ∧ a ≠ Reg.CUF_STATUS ∧ a ≠ Reg.PLM_STATUS ∧ a ≠ Reg.LDR_STATUS ∧
      (a < 0x6000000 ∨ 0x6020000 ≤ a) := by
  simp only [ofFaults, Bool.or_eq_false_iff, beq_eq_false_iff_ne, ne_eq, Bool.and_eq_false_iff, decide_eq_false_iff_not,
    Nat.not_le, Nat.not_lt] at h
  exact ⟨h.1.1.1.1.2, h.1.1.1.2, h.1.1.2, h.1.2, h.2, h.1.1.1.1.1⟩

theorem State.reg_palmHalt_ne (s : State) {a : Nat} (h : a ≠ Reg.PLM_STATUS) : s.palmHalt.reg a = s.reg a := s.reg_wr_ne _ h

theorem State.reg_updFaultN (s : State) {a : Nat} (h : ofFaults a = false) : s.updFaultN.reg a = s.reg a :=
  s.reg_updFaultN_ne (ofFaults_ne h).2.1

theorem State.reg_endScheduled (s : State) {a : Nat} (h : ofFaults a = false) : s.endScheduled.reg a = s.reg a := by
  obtain ⟨-, -, h3, h4, h5, h6⟩ := ofFaults_ne h
  have h7 : a ≠ Reg.FLT_STATUS := by rintro rfl; revert h6; decide
  unfold State.endScheduled
  dsimp only
  rw [State.reg_wr_ne _ _ h7]
  split
  · rw [State.reg_wr_ne _ _ h5, State.reg_wr_ne _ _ h3, State.reg_palmHalt_ne _ h4]; rfl
  · rw [State.reg_wr_ne _ _ h3, State.reg_palmHalt_ne _ h4]; rfl

theorem State.reg_route_count (s : State) (r : RouteSt) {a b : Nat} (h : a ≠ b) (n : Nat := 1) :
    (({ s with route := r } : State).count b n).reg a = s.reg a := (State.reg_count_ne _ _ h).trans rfl

theorem State.reg_sendAlarm (s : State) {a : Nat} (h : ofFaults a = false) (o q rec : Nat) (k : Option Nat) :
    (s.sendAlarm o q rec k).reg a = s.reg a := by
  have h7 : a ≠ Reg.FLT_ALARM_TX_CNT := by rintro rfl; revert h; decide
  unfold State.sendAlarm
  lift_lets -underBinder
  intro x0; clear_value x0
  refine State.reg_forEach a _ _ (fun s x _ => ?_) s
  lift_lets -underBinder
  intro x2 x3 x4 x5 x6 x7; clear_value x2 x3 x4 x5 x6 x7
  exact State.reg_route_count s _ h7

theorem State.reg_holdKey (s : State) (k : Nat × Nat) (a : Nat) : (s.holdKey k).reg a = s.reg a := rfl

theorem State.reg_pwr (s : State) (p : PwrSt) (a : Nat) : ({ s with pwr := p } : State).reg a = s.reg a := rfl

theorem State.reg_fatalActions (s : State) {a : Nat} (h : ofFaults a = false) (c q rec : Nat) :
    (s.fatalActions c q rec).reg a = s.reg a := by
  obtain ⟨h1, -, -, -, -, h6⟩ := ofFaults_ne h
  have h7 : a ≠ Reg.FLT_STATUS := by rintro rfl; revert h6; decide
  unfold State.fatalActions
  lift_lets -underBinder
  intro x0
  have e0 : x0.reg a = s.reg a := (State.reg_endScheduled _ h).trans (State.reg_wr_ne _ _ h1)
  clear_value x0
  intro x1
  have e1 : x1.reg a = s.reg a := by
    show (if _ then _ else _ : State).reg a = _
    split
    · exact (State.reg_holdKey _ _ a).trans ((State.reg_sendAlarm x0 h _ q rec none).trans e0)
    · exact e0
  clear_value x1
  intro x2; clear_value x2
  intro x3
  have e3 : x3.reg a = s.reg a := (State.reg_wr_ne _ _ h7).trans e1
  clear_value x3
  intro x4; clear_value x4
  split
  · exact (State.reg_pwr x3 _ a).trans e3
  · exact e1

theorem State.reg_classActions (s : State) {a : Nat} (h : ofFaults a = false) (c q rec : Nat) :
    (s.classActions c q rec).reg a = s.reg a := by
  obtain ⟨h1, -, -, h4, -, -⟩ := ofFaults_ne h
  unfold State.classActions
  split
  · rfl
  · split
    · exact s.reg_wr_ne _ h1
    · split
      · rw [State.reg_palmHalt_ne _ h4, State.reg_wr_ne _ _ h1]
      · exact s.reg_fatalActions h c q rec

theorem State.reg_msixRecord (s : State) (a c : Nat) : (s.msixRecord c).reg a = s.reg a := by
  have e : s.msixDue.reg a = s.reg a := by unfold State.msixDue; split <;> rfl
  unfold State.msixRecord
  split
  · split
    · split
      · rfl
      · exact e
    · exact e
  · rfl

theorem State.reg_writeSlot (s : State) {a : Nat} (h : a < 0x6010000 ∨ 0x6020000 ≤ a) {slot : Nat} (hs : slot < 1024) (ws : List Nat) :
    (s.writeSlot slot ws).reg a = s.reg a := by
  unfold State.writeSlot
  refine State.reg_forEach a _ _ (fun s x hx => ?_) s
  have := List.mem_range.mp hx
  exact State.reg_setReg_ne _ _ (by unfold Reg.FLT_QUEUE; omega)

theorem State.findMinor_lt (s : State) (n : Nat) : ∀ i k, s.findMinor i n = some k → k < 1024 := by
  induction n with
  | zero => intro i k h; exact absurd h (by simp [State.findMinor])
  | succ n ih =>
    intro i k h
    unfold State.findMinor at h
    dsimp only at h
    split at h
    · rw [← Option.some.inj h]; exact Nat.mod_lt _ (by decide)
    · exact ih _ _ h

theorem State.reg_moveRecord (s : State) {a : Nat} (h : a < 0x6010000 ∨ 0x6020000 ≤ a) (i : Nat) : (s.moveRecord i).reg a = s.reg a :=
  s.reg_writeSlot h (Nat.mod_lt _ (by decide)) _

theorem State.reg_makeRoom (s : State) {a : Nat} (h : ofFaults a = false) (c lo n : Nat) : (s.makeRoom c lo n).reg a = s.reg a := by
  have h6 : a < 0x6010000 ∨ 0x6020000 ≤ a := by have := (ofFaults_ne h).2.2.2.2.2; omega
  unfold State.makeRoom
  dsimp only
  have e := State.reg_forEach a (fun (x : State) j => x.moveRecord (s.rd Reg.FLT_TAIL_IDX + 2047 - j)) (List.range n)
    (fun s j _ => s.reg_moveRecord h6 _) s
  split
  · exact e
  · exact e

theorem State.reg_noteRecord (s : State) (k n a : Nat) : (s.noteRecord k n).reg a = s.reg a := rfl

theorem State.reg_same (s : State) (m : SameSt) (a : Nat) : ({ s with same := m } : State).reg a = s.reg a := rfl

theorem State.reg_enqueueRecord (s : State) {a : Nat} (h : ofFaults a = false) (c k n : Nat) (ws : List Nat) :
    (s.enqueueRecord c k n ws).1.reg a = s.reg a := by
  obtain ⟨-, -, -, -, -, h6⟩ := ofFaults_ne h
  have h7 : a ≠ Reg.FLT_STATUS := by rintro rfl; revert h6; decide
  have h8 : a ≠ Reg.FLT_TAIL := by rintro rfl; revert h6; decide
  have h9 : a ≠ Reg.FLT_LOST_CNT := by rintro rfl; revert h6; decide
  have h10 : a < 0x6010000 ∨ 0x6020000 ≤ a := by omega
  unfold State.enqueueRecord
  dsimp only
  split
  · rw [State.reg_noteRecord, State.reg_wr_ne _ _ h7, State.reg_wr_ne _ _ h8, State.reg_writeSlot _ h10 (Nat.mod_lt _ (by decide))]
  · have e : ∀ m, ({ s.flag Reg.FLT_STATUS_OVERFLOW with same := m } : State).reg a = s.reg a := fun m => by
      rw [State.reg_same, State.reg_flag, State.reg_wr_ne _ _ h7]
    split
    · rw [State.reg_count_ne _ _ h9, e]
    · split
      · rename_i k hk
        rw [State.reg_count_ne _ _ h9, State.reg_writeSlot _ h10 (State.findMinor_lt _ _ _ _ hk), e]
      · rw [State.reg_count_ne _ _ h9, e]

theorem State.reg_makeRecord (s : State) {a : Nat} (h : ofFaults a = false) (f : FaultArgs) :
    (s.makeRecord f).1.reg a = s.reg a := by
  obtain ⟨-, -, -, -, -, h6⟩ := ofFaults_ne h
  have h1 : a ≠ Reg.FLT_STATUS := by rintro rfl; revert h6; decide
  have h2 : a ≠ Reg.FLT_TAIL := by rintro rfl; revert h6; decide
  have h3 : a ≠ Reg.FLT_RECORD_CNT := by rintro rfl; revert h6; decide
  have h4 : a ≠ Reg.FLT_FIRST := by rintro rfl; revert h6; decide
  unfold State.makeRecord
  dsimp only
  generalize hq : State.enqueueRecord _ _ _ _ _ = q
  have e : q.1.reg a = s.reg a := by
    have r : ∀ t : State, ∀ c lo n, (if n = 0 then t else t.makeRoom c lo n).reg a = t.reg a := fun t c lo n => by
      split
      · rfl
      · exact t.reg_makeRoom h c lo n
    rw [← hq, State.reg_enqueueRecord _ h, r, State.reg_telRaise, State.reg_raise_ne _ _ h1, State.reg_wr_ne _ _ h1,
      State.reg_count_ne _ _ h3, State.reg_wr_ne _ _ h2]
  split
  · rw [State.reg_msixRecord]
    split
    · exact (State.reg_wr_ne _ _ h4).trans ((State.reg_wr_ne _ _ h4).trans ((State.reg_wr_ne _ _ h4).trans e))
    · exact e
  · split
    · exact (State.reg_wr_ne _ _ h4).trans ((State.reg_wr_ne _ _ h4).trans ((State.reg_wr_ne _ _ h4).trans e))
    · exact e

/-- Recording a fault and acting on its class changes no register outside the fault registers (R398, R401 to R406). -/
theorem State.reg_fault (s : State) {a : Nat} (h : ofFaults a = false) (f : FaultArgs) : (s.fault f).reg a = s.reg a := by
  unfold State.fault
  exact (State.reg_updFaultN _ h).trans ((State.reg_classActions _ h _ _ _).trans (s.reg_makeRecord h f))

theorem State.reg_faultAt (s : State) {a : Nat} (h : ofFaults a = false) (f : FaultArgs) (g : Nat) :
    (s.faultAt f g).reg a = s.reg a := by
  unfold State.faultAt
  dsimp only
  split
  · exact (State.reg_updFaultN _ h).trans ((State.reg_classActions _ h _ _ _).trans (s.reg_makeRecord h f))
  · rw [State.reg_updFaultN _ h]
    exact s.reg_makeRecord h f

theorem State.rd_fault (s : State) {g : Fld} (h : ofFaults g.addr = false) (f : FaultArgs) : (s.fault f).rd g = s.rd g := by
  rw [State.rd_eq, State.rd_eq, s.reg_fault h f]

theorem State.rd_faultAt (s : State) {g : Fld} (h : ofFaults g.addr = false) (f : FaultArgs) (n : Nat) :
    (s.faultAt f n).rd g = s.rd g := by
  rw [State.rd_eq, State.rd_eq, s.reg_faultAt h f n]

theorem State.fault_frame (s : State) (f : FaultArgs) : Kept { cuff := true, route := true, flt := true, pwr := true, same := true } s (s.fault f) :=
  State.fault_kept rfl rfl rfl rfl rfl (Kept.refl s)

theorem State.faultAt_frame (s : State) (f : FaultArgs) (g : Nat) :
    Kept { cuff := true, route := true, flt := true, pwr := true, same := true } s (s.faultAt f g) :=
  State.faultAt_kept rfl rfl rfl rfl rfl (Kept.refl s)

@[simp] theorem State.fault_bar2 (s : State) (f : FaultArgs) : (s.fault f).bar2 = s.bar2 := (s.fault_frame f).bar2.resolve_left (by decide)
@[simp] theorem State.fault_hbm (s : State) (f : FaultArgs) : (s.fault f).hbm = s.hbm := (s.fault_frame f).hbm.resolve_left (by decide)
@[simp] theorem State.fault_sram (s : State) (f : FaultArgs) : (s.fault f).sram = s.sram := (s.fault_frame f).sram.resolve_left (by decide)
@[simp] theorem State.fault_crown (s : State) (f : FaultArgs) : (s.fault f).crown = s.crown := (s.fault_frame f).crown.resolve_left (by decide)
@[simp] theorem State.fault_rgn (s : State) (f : FaultArgs) : (s.fault f).rgn = s.rgn := (s.fault_frame f).rgn.resolve_left (by decide)
@[simp] theorem State.fault_links (s : State) (f : FaultArgs) : (s.fault f).links = s.links := (s.fault_frame f).links.resolve_left (by decide)
@[simp] theorem State.fault_time (s : State) (f : FaultArgs) : (s.fault f).time = s.time := (s.fault_frame f).time.resolve_left (by decide)
@[simp] theorem State.fault_mem (s : State) (f : FaultArgs) : (s.fault f).mem = s.mem := (s.fault_frame f).mem.resolve_left (by decide)
@[simp] theorem State.fault_palm (s : State) (f : FaultArgs) : (s.fault f).palm = s.palm := (s.fault_frame f).palm.resolve_left (by decide)
@[simp] theorem State.fault_ldrs (s : State) (f : FaultArgs) : (s.fault f).ldrs = s.ldrs := (s.fault_frame f).ldrs.resolve_left (by decide)
@[simp] theorem State.fault_boot (s : State) (f : FaultArgs) : (s.fault f).boot = s.boot := (s.fault_frame f).boot.resolve_left (by decide)
@[simp] theorem State.fault_nvm (s : State) (f : FaultArgs) : (s.fault f).nvm = s.nvm := (s.fault_frame f).nvm.resolve_left (by decide)
@[simp] theorem State.fault_bon (s : State) (f : FaultArgs) : (s.fault f).bon = s.bon := (s.fault_frame f).bon.resolve_left (by decide)
@[simp] theorem State.fault_freeCtr (s : State) (f : FaultArgs) : (s.fault f).freeCtr = s.freeCtr := (s.fault_frame f).freeCtr.resolve_left (by decide)
@[simp] theorem State.fault_pending (s : State) (f : FaultArgs) : (s.fault f).pending = s.pending := (s.fault_frame f).pending
@[simp] theorem State.fault_cyc (s : State) (f : FaultArgs) : (s.fault f).cyc = s.cyc := (s.fault_frame f).cyc
@[simp] theorem State.faultAt_bar2 (s : State) (f : FaultArgs) (g : Nat) : (s.faultAt f g).bar2 = s.bar2 := (s.faultAt_frame f g).bar2.resolve_left (by decide)
@[simp] theorem State.faultAt_hbm (s : State) (f : FaultArgs) (g : Nat) : (s.faultAt f g).hbm = s.hbm := (s.faultAt_frame f g).hbm.resolve_left (by decide)
@[simp] theorem State.faultAt_sram (s : State) (f : FaultArgs) (g : Nat) : (s.faultAt f g).sram = s.sram := (s.faultAt_frame f g).sram.resolve_left (by decide)
@[simp] theorem State.faultAt_crown (s : State) (f : FaultArgs) (g : Nat) : (s.faultAt f g).crown = s.crown := (s.faultAt_frame f g).crown.resolve_left (by decide)
@[simp] theorem State.faultAt_rgn (s : State) (f : FaultArgs) (g : Nat) : (s.faultAt f g).rgn = s.rgn := (s.faultAt_frame f g).rgn.resolve_left (by decide)
@[simp] theorem State.faultAt_links (s : State) (f : FaultArgs) (g : Nat) : (s.faultAt f g).links = s.links := (s.faultAt_frame f g).links.resolve_left (by decide)
@[simp] theorem State.faultAt_time (s : State) (f : FaultArgs) (g : Nat) : (s.faultAt f g).time = s.time := (s.faultAt_frame f g).time.resolve_left (by decide)
@[simp] theorem State.faultAt_mem (s : State) (f : FaultArgs) (g : Nat) : (s.faultAt f g).mem = s.mem := (s.faultAt_frame f g).mem.resolve_left (by decide)
@[simp] theorem State.faultAt_palm (s : State) (f : FaultArgs) (g : Nat) : (s.faultAt f g).palm = s.palm := (s.faultAt_frame f g).palm.resolve_left (by decide)
@[simp] theorem State.faultAt_ldrs (s : State) (f : FaultArgs) (g : Nat) : (s.faultAt f g).ldrs = s.ldrs := (s.faultAt_frame f g).ldrs.resolve_left (by decide)
@[simp] theorem State.faultAt_boot (s : State) (f : FaultArgs) (g : Nat) : (s.faultAt f g).boot = s.boot := (s.faultAt_frame f g).boot.resolve_left (by decide)
@[simp] theorem State.faultAt_nvm (s : State) (f : FaultArgs) (g : Nat) : (s.faultAt f g).nvm = s.nvm := (s.faultAt_frame f g).nvm.resolve_left (by decide)
@[simp] theorem State.faultAt_bon (s : State) (f : FaultArgs) (g : Nat) : (s.faultAt f g).bon = s.bon := (s.faultAt_frame f g).bon.resolve_left (by decide)
@[simp] theorem State.faultAt_freeCtr (s : State) (f : FaultArgs) (g : Nat) : (s.faultAt f g).freeCtr = s.freeCtr := (s.faultAt_frame f g).freeCtr.resolve_left (by decide)
@[simp] theorem State.faultAt_pending (s : State) (f : FaultArgs) (g : Nat) : (s.faultAt f g).pending = s.pending := (s.faultAt_frame f g).pending
@[simp] theorem State.faultAt_cyc (s : State) (f : FaultArgs) (g : Nat) : (s.faultAt f g).cyc = s.cyc := (s.faultAt_frame f g).cyc

end Sys2Proof.Machine
end

