-- ==== Sys2Proof/Laws/KeptEcc.lean ====
section
/-! SUPPORT. Sys2Proof/Laws/KeptEcc.lean: what each operation of Machine/Ecc.lean keeps (Kept, Laws/Kept.lean). -/
set_option Elab.async false
namespace Sys2Proof.Machine

theorem State.eccFault_kept {w : Wr} {r s : State} {key : Nat} {f : FaultArgs} (w_cuff : w.cuff = true) (w_route : w.route = true) (w_flt : w.flt = true) (w_pwr : w.pwr = true) (w_mem : w.mem = true) (w_same : w.same = true) (h : Kept w r s) :
    Kept w r (State.eccFault s key f) := by
  unfold State.eccFault
  lift_lets -underBinder
  intro x0 x1; clear_value x0 x1
  exact Kept.ite_ h
    (State.fault_kept w_cuff w_route w_flt w_pwr w_same (Kept.upd h (mem := .inl w_mem)))

theorem State.dropUpsets_kept {w : Wr} {r s : State} {x : Store} {inst : Nat} {q : Nat} {item : Nat} (w_mem : w.mem = true) (h : Kept w r s) :
    Kept w r (State.dropUpsets s x inst q item) := by
  unfold State.dropUpsets
  exact Kept.ite_ h
    (Kept.upd h (mem := .inl w_mem))

theorem State.moveUpsets_kept {w : Wr} {r s : State} {x : Nat} {y : Nat} (w_mem : w.mem = true) (h : Kept w r s) :
    Kept w r (State.moveUpsets s x y) := by
  unfold State.moveUpsets
  exact Kept.ite_ h
    (Kept.upd h (mem := .inl w_mem))

theorem State.clearUpsets_kept {w : Wr} {r s : State} {l : Nat} (w_mem : w.mem = true) (h : Kept w r s) :
    Kept w r (State.clearUpsets s l) := by
  unfold State.clearUpsets
  exact Kept.ite_ h
    (Kept.upd h (mem := .inl w_mem))

theorem State.wipeUpsets_kept {w : Wr} {r s : State} {gone : Upset → Bool} (w_mem : w.mem = true) (h : Kept w r s) :
    Kept w r (State.wipeUpsets s gone) := by
  unfold State.wipeUpsets
  exact Kept.ite_ h
    (Kept.upd h (mem := .inl w_mem))

theorem State.storeFault_kept {w : Wr} {r s : State} {x : Store} {inst : Nat} {w0 : Nat} (w_cuff : w.cuff = true) (w_route : w.route = true) (w_flt : w.flt = true) (w_pwr : w.pwr = true) (w_mem : w.mem = true) (w_same : w.same = true) (h : Kept w r s) :
    Kept w r (State.storeFault s x inst w0) := by
  unfold State.storeFault
  exact State.eccFault_kept w_cuff w_route w_flt w_pwr w_mem w_same h

theorem State.readUpset_kept {w : Wr} {r : State} {a : State × Nat × Bool} {u : Upset} (w_cuff : w.cuff = true) (w_route : w.route = true) (w_flt : w.flt = true) (w_pwr : w.pwr = true) (w_mem : w.mem = true) (w_same : w.same = true) (h : KeptP w r a) :
    KeptP w r (State.readUpset a u) := by
  unfold State.readUpset
  split
  · exact h
  · exact State.count_kept h
  · exact State.storeFault_kept w_cuff w_route w_flt w_pwr w_mem w_same h

theorem State.guardWords_kept {w : Wr} {r s : State} {x : Store} {inst : Nat} {q : Nat} {item : Nat} {n : Nat} (w_cuff : w.cuff = true) (w_route : w.route = true) (w_flt : w.flt = true) (w_pwr : w.pwr = true) (w_mem : w.mem = true) (w_same : w.same = true) (h : Kept w r s) :
    KeptP w r (State.guardWords s x inst q item n) := by
  unfold State.guardWords
  exact KeptP.ite_ h
    (KeptP.foldl_ h fun _ _ h0 =>
    State.readUpset_kept w_cuff w_route w_flt w_pwr w_mem w_same h0)

theorem State.guardFlit_kept {w : Wr} {r s : State} {x : Store} {inst : Nat} {q : Nat} {item : Nat} {f : Flit} (w_cuff : w.cuff = true) (w_route : w.route = true) (w_flt : w.flt = true) (w_pwr : w.pwr = true) (w_mem : w.mem = true) (w_same : w.same = true) (h : Kept w r s) :
    KeptP w r (State.guardFlit s x inst q item f) := by
  unfold State.guardFlit
  lift_lets -underBinder
  intro x0
  have h0 : KeptP w r x0 := State.guardWords_kept w_cuff w_route w_flt w_pwr w_mem w_same h
  clear_value x0
  exact h0

theorem State.takeFlit_kept {w : Wr} {r s : State} {x : Store} {inst : Nat} {q : Nat} {item : Nat} {f : Flit} (w_cuff : w.cuff = true) (w_route : w.route = true) (w_flt : w.flt = true) (w_pwr : w.pwr = true) (w_mem : w.mem = true) (w_same : w.same = true) (h : Kept w r s) :
    KeptP w r (State.takeFlit s x inst q item f) := by
  unfold State.takeFlit
  lift_lets -underBinder
  intro x0
  have h0 : KeptP w r x0 := State.guardFlit_kept w_cuff w_route w_flt w_pwr w_mem w_same h
  clear_value x0
  exact State.dropUpsets_kept w_mem h0

theorem State.guardEntry_kept {w : Wr} {r s : State} {x : Store} {inst : Nat} {q : Nat} {item : Nat} {e : Word} (w_cuff : w.cuff = true) (w_route : w.route = true) (w_flt : w.flt = true) (w_pwr : w.pwr = true) (w_mem : w.mem = true) (w_same : w.same = true) (h : Kept w r s) :
    KeptP w r (State.guardEntry s x inst q item e) := by
  unfold State.guardEntry
  lift_lets -underBinder
  intro x0
  have h0 : KeptP w r x0 := State.guardWords_kept w_cuff w_route w_flt w_pwr w_mem w_same h
  clear_value x0
  exact h0

theorem State.guardTab_kept {w : Wr} {r s : State} {x : Store} {inst : Nat} {i : Nat} {e : Word} (w_cuff : w.cuff = true) (w_route : w.route = true) (w_flt : w.flt = true) (w_pwr : w.pwr = true) (w_mem : w.mem = true) (w_same : w.same = true) (h : Kept w r s) :
    KeptP w r (State.guardTab s x inst i e) := by
  unfold State.guardTab
  lift_lets -underBinder
  intro x0
  have h0 : KeptP w r x0 := State.guardWords_kept w_cuff w_route w_flt w_pwr w_mem w_same h
  clear_value x0
  exact h0

theorem State.eccLast_kept {w : Wr} {r s : State} {k : Nat} {kind : Nat} {source : Nat} {byte : Nat} {word : Nat} (h : Kept w r s) :
    Kept w r (State.eccLast s k kind source byte word) := by
  unfold State.eccLast
  exact State.wr_kept (State.wr_kept (State.wr_kept (State.wr_kept h)))

theorem State.hbmStore_kept {w : Wr} {r s : State} {a : Nat} {bs : List Byte} (w_hbm : w.hbm = true) (h : Kept w r s) :
    Kept w r (s.hbmStore a bs) :=
  Kept.updHbm h w_hbm fun g => Memory.wf_writeBytes _ _ _ g

theorem State.hbmBad_kept {w : Wr} {r s : State} {w0 : Nat} {source : Nat} (w_hbm : w.hbm = true) (w_cuff : w.cuff = true) (w_route : w.route = true) (w_flt : w.flt = true) (w_pwr : w.pwr = true) (w_mem : w.mem = true) (w_same : w.same = true) (h : Kept w r s) :
    Kept w r (State.hbmBad s w0 source) := by
  unfold State.hbmBad
  lift_lets -underBinder
  intro x0; clear_value x0
  intro x1
  have h1 : Kept w r x1 := State.eccLast_kept (State.count_kept h)
  clear_value x1
  intro x2
  have h2 : Kept w r x2 := State.eccFault_kept w_cuff w_route w_flt w_pwr w_mem w_same h1
  clear_value x2
  intro x3
  have h3 : Kept w r x3 := State.hbmStore_kept w_hbm h2
  clear_value x3
  intro x4; clear_value x4
  exact Kept.ite_ (State.eccLast_kept (Kept.upd h3 (mem := .inl w_mem)))
    h3

theorem State.hbmFixed_kept {w : Wr} {r s : State} {w0 : Nat} {source : Nat} {byte : Nat} (w_same : w.same = true) (h : Kept w r s) :
    Kept w r (State.hbmFixed s w0 source byte) := by
  unfold State.hbmFixed
  lift_lets -underBinder
  intro x0; clear_value x0
  intro x1
  have h1 : Kept w r x1 := State.eccLast_kept h
  clear_value x1
  intro x2
  have h2 : Kept w r x2 := State.count_kept h1
  clear_value x2
  intro x3; clear_value x3
  exact Kept.ite_ h1
    (Kept.upd h2 (same := .inl w_same))

theorem State.hbmRead_kept {w : Wr} {r s : State} {w0 : Nat} {source : Nat} (w_hbm : w.hbm = true) (w_cuff : w.cuff = true) (w_route : w.route = true) (w_flt : w.flt = true) (w_pwr : w.pwr = true) (w_mem : w.mem = true) (w_same : w.same = true) (h : Kept w r s) :
    KeptP w r (State.hbmRead s w0 source) := by
  unfold State.hbmRead
  lift_lets -underBinder
  intro x0; clear_value x0
  intro x1
  have h1 : Kept w r x1 := State.count_kept h
  clear_value x1
  intro x2
  have h2 : Kept w r x2 := State.eccLast_kept (State.count_kept h1)
  clear_value x2
  exact KeptP.ite_ h
    (KeptP.ite_ (State.count_kept h)
    (KeptP.ite_ (State.eccFault_kept w_cuff w_route w_flt w_pwr w_mem w_same h2)
    (by
    split
    · exact h1
    · exact by
          lift_lets -underBinder
          intro x3; clear_value x3
          intro x4
          have h4 : Kept w r x4 := Kept.upd h1 (mem := .inl w_mem)
          clear_value x4
          exact Kept.ite_ h4
            (State.hbmFixed_kept w_same h4)
    · exact State.hbmBad_kept w_hbm w_cuff w_route w_flt w_pwr w_mem w_same h1)))

theorem State.hbmWrite_kept {w : Wr} {r s : State} {w0 : Nat} {v : RWord} (w_hbm : w.hbm = true) (h : Kept w r s) :
    Kept w r (State.hbmWrite s w0 v) := by
  unfold State.hbmWrite
  lift_lets -underBinder
  intro x0; clear_value x0
  exact Kept.ite_ h
    (Kept.ite_ (State.count_kept h)
    (State.hbmStore_kept w_hbm (State.count_kept h)))

theorem State.leadPass_kept {w : Wr} {r s : State} {w0 : Nat} {q : Nat} {v : RWord} (w_cuff : w.cuff = true) (w_route : w.route = true) (w_flt : w.flt = true) (w_pwr : w.pwr = true) (w_mem : w.mem = true) (w_same : w.same = true) (h : Kept w r s) :
    KeptP w r (State.leadPass s w0 q v) := by
  unfold State.leadPass
  split
  · exact h
  · exact by
        lift_lets -underBinder
        intro x0; clear_value x0
        intro x1
        have h1 : KeptP w r x1 := State.guardWords_kept w_cuff w_route w_flt w_pwr w_mem w_same h
        clear_value x1
        intro x2
        have h2 : Kept w r x2 := State.dropUpsets_kept w_mem h1
        clear_value x2
        exact KeptP.ite_ (State.count_kept h2)
          h2

theorem State.leadReadN_kept {w : Wr} {r s : State} {q a n : Nat} (w_hbm : w.hbm = true) (w_cuff : w.cuff = true) (w_route : w.route = true) (w_flt : w.flt = true) (w_pwr : w.pwr = true) (w_mem : w.mem = true) (w_same : w.same = true) (h : Kept w r s) :
    KeptP w r (s.leadReadN q a n) := by
  induction n generalizing s a with
  | zero => exact h
  | succ n ih =>
    have h1 := State.hbmRead_kept w_hbm w_cuff w_route w_flt w_pwr w_mem w_same (w0 := a) (source := 0) h
    exact ih (State.leadPass_kept w_cuff w_route w_flt w_pwr w_mem w_same h1)

theorem State.leadMark_kept {w : Wr} {r s : State} {k : Nat} {q : Nat} {n : Nat} (w_freeCtr : w.freeCtr = true) (w_same : w.same = true) (h : Kept w r s) :
    Kept w r (State.leadMark s k q n) := by
  unfold State.leadMark
  exact Kept.ite_ h
    (State.raise_kept w_same (State.tickFree_kept w_freeCtr h))

theorem State.capUse_kept {w : Wr} {r s : State} {k : Nat} {cls : Nat} {n : Nat} (w_mem : w.mem = true) (h : Kept w r s) :
    Kept w r (State.capUse s k cls n) := by
  unfold State.capUse
  exact Kept.ite_ h
    (by
    lift_lets -underBinder
    intro x0 x1 x2; clear_value x0 x1 x2
    exact Kept.upd h (mem := .inl w_mem))

theorem State.capTick_kept {w : Wr} {r s : State} (w_mem : w.mem = true) (h : Kept w r s) :
    Kept w r (State.capTick s) := by
  unfold State.capTick
  exact State.forEach_kept h (fun _ _ h0 => by
      lift_lets -underBinder
      intro x1 x2 x3; clear_value x1 x2 x3
      intro x4
      have h4 : Kept w r x4 := Kept.ite_ h0
        (State.count_kept h0)
      clear_value x4
      intro x5; clear_value x5
      exact Kept.upd h4 (mem := .inl w_mem))

theorem State.hbmReadN_kept {w : Wr} {r s : State} {q : Nat} {w0 : Nat} {n : Nat} (w_hbm : w.hbm = true) (w_cuff : w.cuff = true) (w_route : w.route = true) (w_flt : w.flt = true) (w_pwr : w.pwr = true) (w_mem : w.mem = true) (w_freeCtr : w.freeCtr = true) (w_same : w.same = true) (h : Kept w r s) :
    KeptP w r (State.hbmReadN s q w0 n) := by
  unfold State.hbmReadN
  lift_lets -underBinder
  intro x0; clear_value x0
  intro x1
  have h1 : Kept w r x1 := Kept.ite_ (State.capUse_kept w_mem h)
    (Kept.ite_ (State.capUse_kept w_mem h)
    h)
  clear_value x1
  intro x2
  have h2 : KeptP w r x2 := State.leadReadN_kept w_hbm w_cuff w_route w_flt w_pwr w_mem w_same h1
  clear_value x2
  exact State.leadMark_kept w_freeCtr w_same h2

theorem State.hbmReadPalm_kept {w : Wr} {r s : State} {w0 : Nat} {n : Nat} (w_hbm : w.hbm = true) (w_cuff : w.cuff = true) (w_route : w.route = true) (w_flt : w.flt = true) (w_pwr : w.pwr = true) (w_mem : w.mem = true) (w_freeCtr : w.freeCtr = true) (w_same : w.same = true) (h : Kept w r s) :
    KeptP w r (State.hbmReadPalm s w0 n) := by
  unfold State.hbmReadPalm
  exact State.hbmReadN_kept w_hbm w_cuff w_route w_flt w_pwr w_mem w_freeCtr w_same (State.tickFree_kept w_freeCtr h)

theorem State.hbmWriteN_kept {w : Wr} {r s : State} {a : Nat} {vs : List RWord} (w_hbm : w.hbm = true) (h : Kept w r s) :
    Kept w r (s.hbmWriteN a vs) := by
  induction vs generalizing s a with
  | nil => exact h
  | cons v vs ih => exact ih (State.hbmWrite_kept w_hbm h)

theorem State.hbmWriteCap_kept {w : Wr} {r s : State} {cls : Nat} {w0 : Nat} {vs : List RWord} (w_hbm : w.hbm = true) (w_mem : w.mem = true) (h : Kept w r s) :
    Kept w r (State.hbmWriteCap s cls w0 vs) := by
  unfold State.hbmWriteCap
  exact State.hbmWriteN_kept w_hbm (State.capUse_kept w_mem h)

end Sys2Proof.Machine
end

