-- ==== Sys2Proof/Laws/KeptActions.lean ====
section
/-! SUPPORT. Sys2Proof/Laws/KeptActions.lean: what each operation of Machine/Actions.lean keeps (Kept, Laws/Kept.lean). -/
set_option Elab.async false
namespace Sys2Proof.Machine

theorem State.busWrite_kept {w : Wr} {r s : State} {a : Nat} {f : State → State} (w_same : w.same = true) (h : Kept w r s) (hf : ∀ y1, Kept w r y1 → Kept w r (f y1)) :
    Kept w r (State.busWrite s a f) := by
  unfold State.busWrite
  exact Kept.ite_ h
    (Kept.ite_ (hf _ h)
    (State.accErr_kept w_same h))

theorem State.runLocked_kept {w : Wr} {r s : State} {f : State → State} (w_same : w.same = true) (h : Kept w r s) (hf : ∀ y1, Kept w r y1 → Kept w r (f y1)) :
    Kept w r (State.runLocked s f) := by
  unfold State.runLocked
  exact Kept.ite_ (State.flag_kept w_same h)
    (hf _ h)

theorem State.ptpLoss_kept {w : Wr} {r s : State} {cause : Nat} {dom : Nat} (w_cuff : w.cuff = true) (w_route : w.route = true) (w_flt : w.flt = true) (w_pwr : w.pwr = true) (w_same : w.same = true) (h : Kept w r s) :
    Kept w r (State.ptpLoss s cause dom) := by
  unfold State.ptpLoss
  exact State.fault_kept w_cuff w_route w_flt w_pwr w_same h

theorem State.outHoldover_kept {w : Wr} {r s : State} (w_cuff : w.cuff = true) (w_route : w.route = true) (w_flt : w.flt = true) (w_time : w.time = true) (w_pwr : w.pwr = true) (w_same : w.same = true) (h : Kept w r s) :
    Kept w r (State.outHoldover s) := by
  unfold State.outHoldover
  exact Kept.ite_ (by
    lift_lets -underBinder
    intro x0; clear_value x0
    intro x1
    have h1 : Kept w r x1 := State.wr_kept (State.wr_kept h)
    clear_value x1
    intro x2; clear_value x2
    exact State.ptpLoss_kept w_cuff w_route w_flt w_pwr w_same (Kept.upd h1 (time := .inl w_time)))
    h

theorem State.cancelTps_kept {w : Wr} {r s : State} (w_same : w.same = true) (h : Kept w r s) :
    Kept w r (State.cancelTps s) := by
  unfold State.cancelTps
  exact State.forEach_kept h (fun _ _ h0 => Kept.ite_ (State.flag_kept w_same (State.wr_kept h0))
      h0)

theorem State.cancelArmed_kept {w : Wr} {r s : State} (w_same : w.same = true) (h : Kept w r s) :
    Kept w r (State.cancelArmed s) := by
  unfold State.cancelArmed
  lift_lets -underBinder
  intro x0
  have h0 : Kept w r x0 := Kept.ite_ (State.flag_kept w_same (State.wr_kept h))
    h
  clear_value x0
  exact State.cancelTps_kept w_same (State.wr_kept h0)

theorem State.orderStop_kept {w : Wr} {r s : State} {g : Nat} (w_rgn : w.rgn = true) (h : Kept w r s) :
    Kept w r (State.orderStop s g) := by
  unfold State.orderStop
  exact Kept.ite_ (State.setRg_kept w_rgn h)
    (State.setRg_kept w_rgn h)

theorem State.startStep_kept {w : Wr} {r s : State} {g : Nat} (w_rgn : w.rgn = true) (h : Kept w r s) :
    Kept w r (State.startStep s g) := by
  unfold State.startStep
  exact Kept.ite_ h
    (State.count_kept (State.orderStop_kept w_rgn h))

theorem State.stepIfSlower_kept {w : Wr} {r s : State} {g : Nat} (w_rgn : w.rgn = true) (h : Kept w r s) :
    Kept w r (State.stepIfSlower s g) := by
  unfold State.stepIfSlower
  exact Kept.ite_ (State.startStep_kept w_rgn h)
    h

end Sys2Proof.Machine
end

