-- ==== Sys2Proof/Laws/KeptCombine.lean ====
section
/-! SUPPORT. Sys2Proof/Laws/KeptCombine.lean: what each operation of Machine/Combine.lean keeps (Kept, Laws/Kept.lean). -/
set_option Elab.async false
namespace Sys2Proof.Machine

theorem State.cmbFirst_kept {w : Wr} {r s : State} {l : Nat} {side : Nat} {kind : Nat} {elem : Nat} {pos : Nat} {seg : Nat} (h : Kept w r s) :
    Kept w r (State.cmbFirst s l side kind elem pos seg) := by
  unfold State.cmbFirst
  exact Kept.ite_ (State.wr_kept (State.wr_kept (State.wr_kept (State.wr_kept (State.wr_kept h)))))
    h

theorem State.cmbRecord_kept {w : Wr} {r s : State} {l : Nat} {side : Nat} {pos : Nat} {seg : Nat} {es : List CmbElem} (w_same : w.same = true) (h : Kept w r s) :
    Kept w r (State.cmbRecord s l side pos seg es) := by
  unfold State.cmbRecord
  lift_lets -underBinder
  intro x0
  have h0 : Kept w r x0 := by
    unfold x0
    split
    · exact State.cmbFirst_kept h
    · exact h
  clear_value x0
  intro x1 x2 x3; clear_value x1 x2 x3
  intro x4
  have h4 : Kept w r x4 := State.when_kept h0 (fun _ h5 => State.count_kept (State.flag_kept w_same h5))
  clear_value x4
  intro x6
  have h6 : Kept w r x6 := State.when_kept h4 (fun _ h7 => State.count_kept h7)
  clear_value x6
  intro x8
  have h8 : Kept w r x8 := State.when_kept h6 (fun _ h9 => State.flag_kept w_same h9)
  clear_value x8
  intro x10
  have h10 : Kept w r x10 := State.when_kept h8 (fun _ h11 => State.flag_kept w_same h11)
  clear_value x10
  exact State.when_kept h10 (fun _ h12 => State.count_kept (State.flag_kept w_same h12))

theorem State.cmbFmtErr_kept {w : Wr} {r s : State} {l : Nat} {side : Nat} {fmt : Nat} {found : Nat} {pos : Nat} {seg : Nat} (w_links : w.links = true) (w_cuff : w.cuff = true) (w_route : w.route = true) (w_flt : w.flt = true) (w_pwr : w.pwr = true) (w_same : w.same = true) (h : Kept w r s) :
    Kept w r (State.cmbFmtErr s l side fmt found pos seg) := by
  unfold State.cmbFmtErr
  lift_lets -underBinder
  intro x0
  have h0 : Kept w r x0 := State.cmbFirst_kept (State.count_kept h)
  clear_value x0
  intro x1
  have h1 : Kept w r x1 := State.flag_kept w_same h0
  clear_value x1
  intro x2; clear_value x2
  exact Kept.ite_ h1
    (State.fault_kept w_cuff w_route w_flt w_pwr w_same (State.setLk_kept w_links h1))

theorem State.combine_kept {w : Wr} {r s : State} {l : Nat} {side : Nat} {op : Nat} {fmt : Nat} {landed : List Flit} {loc : Option Flit} {pos : Nat} {seg : Nat} (w_links : w.links = true) (w_cuff : w.cuff = true) (w_route : w.route = true) (w_flt : w.flt = true) (w_pwr : w.pwr = true) (w_same : w.same = true) (h : Kept w r s) :
    KeptP w r (State.combine s l side op fmt landed loc pos seg) := by
  unfold State.combine
  lift_lets -underBinder
  intro x0
  have h0 : Kept w r x0 := State.count_kept h
  clear_value x0
  intro x1 x2 x3; clear_value x1 x2 x3
  exact KeptP.ite_ (State.cmbFmtErr_kept w_links w_cuff w_route w_flt w_pwr w_same h0)
    (KeptP.ite_ h0
    (by
    split
    · exact h0
    · exact h0
    · exact by
          lift_lets -underBinder
          intro x4; clear_value x4
          exact State.cmbRecord_kept w_same h0))

end Sys2Proof.Machine
end

