-- ==== Sys2Proof/Laws/KeptStitch.lean ====
section
/-! SUPPORT. Sys2Proof/Laws/KeptStitch.lean: what each operation of Machine/Stitch.lean keeps (Kept, Laws/Kept.lean). -/
set_option Elab.async false
namespace Sys2Proof.Machine

theorem State.setSq_kept {w : Wr} {r s : State} {l : Nat} {q : Nat} {x : List Dep} (w_links : w.links = true) (h : Kept w r s) :
    Kept w r (State.setSq s l q x) := by
  unfold State.setSq
  lift_lets -underBinder
  intro x0 x1; clear_value x0 x1
  exact State.setLk_kept w_links h

theorem State.setRq_kept {w : Wr} {r s : State} {l : Nat} {q : Nat} {x : List (Nat × Flit)} (w_links : w.links = true) (h : Kept w r s) :
    Kept w r (State.setRq s l q x) := by
  unfold State.setRq
  lift_lets -underBinder
  intro x0 x1; clear_value x0 x1
  exact State.setLk_kept w_links h

theorem State.noteLead_kept {w : Wr} {r s : State} {l : Nat} {due : Nat} {entered : Nat} (w_same : w.same = true) (h : Kept w r s) :
    Kept w r (State.noteLead s l due entered) := by
  unfold State.noteLead
  lift_lets -underBinder
  intro x0; clear_value x0
  intro x1
  have h1 : Kept w r x1 := Kept.ite_ (State.count_kept h)
    h
  clear_value x1
  exact State.lower_kept w_same (Kept.ite_ (State.raise_kept w_same h1)
    h1)

theorem State.bindEntry_kept {w : Wr} {r s : State} {l : Nat} {q : Nat} {st : Nat} (w_links : w.links = true) (w_same : w.same = true) (h : Kept w r s) :
    KeptP w r (State.bindEntry s l q st) := by
  unfold State.bindEntry
  lift_lets -underBinder
  intro x0 x1 x2; clear_value x0 x1 x2
  intro x3
  have h3 : Kept w r x3 := State.setLk_kept w_links h
  clear_value x3
  exact by
    split
    · exact State.noteLead_kept w_same h3
    · exact h3

theorem State.deposit_kept {w : Wr} {r s : State} {l : Nat} {q : Nat} {f : Flit} {op : Nat} (w_links : w.links = true) (w_cuff : w.cuff = true) (w_route : w.route = true) (w_flt : w.flt = true) (w_pwr : w.pwr = true) (w_same : w.same = true) (h : Kept w r s) :
    Kept w r (State.deposit s l q f op) := by
  unfold State.deposit
  exact Kept.ite_ h
    (by
    lift_lets -underBinder
    intro x0 x1; clear_value x0 x1
    intro x2
    have h2 : Kept w r x2 := State.setSq_kept w_links h
    clear_value x2
    intro x3; clear_value x3
    intro x4
    have h4 : Kept w r x4 := State.setLk_kept w_links h2
    clear_value x4
    intro x5; clear_value x5
    intro x6
    have h6 : Kept w r x6 := State.raise_kept w_same h4
    clear_value x6
    exact Kept.ite_ (State.fault_kept w_cuff w_route w_flt w_pwr w_same h)
      (by
      split
      · exact State.noteLead_kept w_same h6
      · exact h6))

theorem State.lagLimit_kept {w : Wr} {r s : State} {l : Nat} {kind : Nat} {lag : Nat} {limit : Nat} {st : Nat} (w_links : w.links = true) (w_cuff : w.cuff = true) (w_route : w.route = true) (w_flt : w.flt = true) (w_pwr : w.pwr = true) (w_same : w.same = true) (h : Kept w r s) :
    Kept w r (State.lagLimit s l kind lag limit st) := by
  unfold State.lagLimit
  exact Kept.ite_ h
    (State.fault_kept w_cuff w_route w_flt w_pwr w_same (State.setLk_kept w_links h))

theorem State.stopLink_kept {w : Wr} {r s : State} {l : Nat} (w_links : w.links = true) (h : Kept w r s) :
    Kept w r (State.stopLink s l) := by
  unfold State.stopLink
  exact State.setLk_kept w_links h

theorem State.readEntry_kept {w : Wr} {r s : State} {l : Nat} {dir : Nat} {st : Nat} (w_links : w.links = true) (w_cuff : w.cuff = true) (w_route : w.route = true) (w_flt : w.flt = true) (w_pwr : w.pwr = true) (w_mem : w.mem = true) (w_same : w.same = true) (h : Kept w r s) :
    KeptP w r (State.readEntry s l dir st) := by
  unfold State.readEntry
  lift_lets -underBinder
  intro x0; clear_value x0
  exact KeptP.ite_ h
    (by
    split
    · exact by
          lift_lets -underBinder
          intro x1 x2; clear_value x1 x2
          intro x3
          have h3 : KeptP w r x3 := State.guardWords_kept w_cuff w_route w_flt w_pwr w_mem w_same h
          clear_value x3
          exact KeptP.ite_ (State.stopLink_kept w_links h3)
            h3
    · exact h)

theorem State.beginSend_kept {w : Wr} {r s : State} {l : Nat} {st : Nat} (w_links : w.links = true) (w_cuff : w.cuff = true) (w_route : w.route = true) (w_flt : w.flt = true) (w_pwr : w.pwr = true) (w_mem : w.mem = true) (w_same : w.same = true) (h : Kept w r s) :
    Kept w r (State.beginSend s l st) := by
  unfold State.beginSend
  lift_lets -underBinder
  intro x0
  have h0 : KeptP w r x0 := State.readEntry_kept w_links w_cuff w_route w_flt w_pwr w_mem w_same h
  clear_value x0
  intro x1; clear_value x1
  intro x2
  have h2 : Kept w r x2 := h0
  clear_value x2
  intro x3
  have h3 : KeptP w r x3 := by
    unfold x3
    split
    · exact State.bindEntry_kept w_links w_same h2
    · exact h2
  clear_value x3
  intro x4
  have h4 : Kept w r x4 := h3
  clear_value x4
  intro x5; clear_value x5
  intro x6
  have h6 : Kept w r x6 := State.setLk_kept w_links h4
  clear_value x6
  intro x7 x8; clear_value x7 x8
  exact Kept.ite_ h2
    (Kept.ite_ (State.lagLimit_kept w_links w_cuff w_route w_flt w_pwr w_same h6)
    (State.setLk_kept w_links h4))

theorem State.beginLand_kept {w : Wr} {r s : State} {l : Nat} {st : Nat} (w_links : w.links = true) (w_cuff : w.cuff = true) (w_route : w.route = true) (w_flt : w.flt = true) (w_pwr : w.pwr = true) (w_mem : w.mem = true) (w_same : w.same = true) (h : Kept w r s) :
    Kept w r (State.beginLand s l st) := by
  unfold State.beginLand
  lift_lets -underBinder
  intro x0
  have h0 : KeptP w r x0 := State.readEntry_kept w_links w_cuff w_route w_flt w_pwr w_mem w_same h
  clear_value x0
  intro x1; clear_value x1
  intro x2
  have h2 : Kept w r x2 := h0
  clear_value x2
  intro x3
  have h3 : KeptP w r x3 := KeptP.ite_ (State.bindEntry_kept w_links w_same h2)
    h2
  clear_value x3
  intro x4
  have h4 : Kept w r x4 := h3
  clear_value x4
  intro x5; clear_value x5
  intro x6
  have h6 : Kept w r x6 := State.setLk_kept w_links h4
  clear_value x6
  intro x7; clear_value x7
  exact Kept.ite_ h2
    (Kept.ite_ (State.lagLimit_kept w_links w_cuff w_route w_flt w_pwr w_same h6)
    (State.setLk_kept w_links h4))

theorem State.takeHold_kept {w : Wr} {r s : State} {l : Nat} {q : Nat} (w_links : w.links = true) (w_cuff : w.cuff = true) (w_route : w.route = true) (w_flt : w.flt = true) (w_pwr : w.pwr = true) (w_mem : w.mem = true) (w_same : w.same = true) (h : Kept w r s) :
    KeptP w r (State.takeHold s l q) := by
  unfold State.takeHold
  split
  · exact by
        lift_lets -underBinder
        intro x0 x1 x2; clear_value x0 x1 x2
        intro x3
        have h3 : Kept w r x3 := State.setLk_kept w_links h
        clear_value x3
        intro x4
        have h4 : KeptP w r x4 := KeptP.ite_ (State.takeFlit_kept w_cuff w_route w_flt w_pwr w_mem w_same h3)
          (State.guardFlit_kept w_cuff w_route w_flt w_pwr w_mem w_same h3)
        clear_value x4
        exact h4
  · exact h

theorem feedOperand_kept {w : Wr} {r : State} {a : State × Owed} {i : Nat} (w_links : w.links = true) (w_cuff : w.cuff = true) (w_route : w.route = true) (w_flt : w.flt = true) (w_pwr : w.pwr = true) (w_mem : w.mem = true) (w_same : w.same = true) (h : KeptP w r a) :
    KeptP w r (feedOperand a i) := by
  unfold feedOperand
  split
  · exact h
  · exact by
        lift_lets -underBinder
        intro x0
        have h0 : KeptP w r x0 := State.takeHold_kept w_links w_cuff w_route w_flt w_pwr w_mem w_same h
        clear_value x0
        exact by
          split
          · exact h0
          · exact h

theorem State.feedLink_kept {w : Wr} {r s : State} {l : Nat} (w_links : w.links = true) (w_cuff : w.cuff = true) (w_route : w.route = true) (w_flt : w.flt = true) (w_pwr : w.pwr = true) (w_mem : w.mem = true) (w_same : w.same = true) (h : Kept w r s) :
    Kept w r (State.feedLink s l) := by
  unfold State.feedLink
  lift_lets -underBinder
  intro x0
  have h0 : KeptP w r x0 := KeptP.foldl_ h fun _ _ h1 =>
    by
    lift_lets -underBinder
    intro x2
    have h2 : KeptP w r x2 := KeptP.foldl_ h1 fun _ _ h3 =>
      feedOperand_kept w_links w_cuff w_route w_flt w_pwr w_mem w_same h3
    clear_value x2
    exact h2
  clear_value x0
  intro x4; clear_value x4
  exact State.setLk_kept w_links h0

theorem State.feedOwed_kept {w : Wr} {r s : State} (w_links : w.links = true) (w_cuff : w.cuff = true) (w_route : w.route = true) (w_flt : w.flt = true) (w_pwr : w.pwr = true) (w_mem : w.mem = true) (w_same : w.same = true) (h : Kept w r s) :
    Kept w r (State.feedOwed s) := by
  unfold State.feedOwed
  exact State.forEach_kept h (fun _ _ h0 => State.feedLink_kept w_links w_cuff w_route w_flt w_pwr w_mem w_same h0)

theorem State.showLists_kept {w : Wr} {r s : State} {l : Nat} (h : Kept w r s) :
    Kept w r (State.showLists s l) := by
  unfold State.showLists
  exact Kept.ite_ h
    (State.wr_kept (State.wr_kept h))

theorem State.gauge_kept {w : Wr} {r s : State} {l : Nat} {st : Nat} (w_links : w.links = true) (w_cuff : w.cuff = true) (w_route : w.route = true) (w_flt : w.flt = true) (w_pwr : w.pwr = true) (w_same : w.same = true) (h : Kept w r s) :
    Kept w r (State.gauge s l st) := by
  unfold State.gauge
  lift_lets -underBinder
  intro x0 x1; clear_value x0 x1
  intro x2
  have h2 : Kept w r x2 := State.wr_kept (State.wr_kept h)
  clear_value x2
  intro x3
  have h3 : Kept w r x3 := State.telRaise_kept w_flt (State.raise_kept w_same h2)
  clear_value x3
  intro x4
  have h4 : Kept w r x4 := State.telRaise_kept w_flt (State.raise_kept w_same h3)
  clear_value x4
  intro x5 x6; clear_value x5 x6
  intro x7
  have h7 : Kept w r x7 := State.showLists_kept h4
  clear_value x7
  exact Kept.ite_ (State.lagLimit_kept w_links w_cuff w_route w_flt w_pwr w_same h7)
    (Kept.ite_ (State.lagLimit_kept w_links w_cuff w_route w_flt w_pwr w_same h7)
    h7)

theorem State.beginStitch_kept {w : Wr} {r s : State} {l : Nat} {st : Nat} (w_links : w.links = true) (w_cuff : w.cuff = true) (w_route : w.route = true) (w_flt : w.flt = true) (w_pwr : w.pwr = true) (w_mem : w.mem = true) (w_same : w.same = true) (h : Kept w r s) :
    Kept w r (State.beginStitch s l st) := by
  unfold State.beginStitch
  exact Kept.ite_ h
    (by
    lift_lets -underBinder
    intro x0; clear_value x0
    intro x1
    have h1 : Kept w r x1 := State.forEach_kept h (fun _ _ h2 => State.beginLand_kept w_links w_cuff w_route w_flt w_pwr w_mem w_same (State.beginSend_kept w_links w_cuff w_route w_flt w_pwr w_mem w_same (State.setLk_kept w_links h2)))
    clear_value x1
    exact State.forEach_kept (State.feedOwed_kept w_links w_cuff w_route w_flt w_pwr w_mem w_same h1) (fun _ _ h3 => State.gauge_kept w_links w_cuff w_route w_flt w_pwr w_same h3))

theorem State.mittenViol_kept {w : Wr} {r s : State} {l : Nat} {cause : Nat} {vc : Nat} {mitten : Nat} (w_links : w.links = true) (w_cuff : w.cuff = true) (w_route : w.route = true) (w_flt : w.flt = true) (w_pwr : w.pwr = true) (w_same : w.same = true) (h : Kept w r s) :
    Kept w r (State.mittenViol s l cause vc mitten) := by
  unfold State.mittenViol
  lift_lets -underBinder
  intro x0 x1; clear_value x0 x1
  exact Kept.ite_ h
    (State.fault_kept w_cuff w_route w_flt w_pwr w_same (State.setLk_kept w_links h))

theorem State.stitchMismatch_kept {w : Wr} {r s : State} {l : Nat} {cause : Nat} {got : Nat} {want : Nat} {pos : Nat} (w_links : w.links = true) (w_cuff : w.cuff = true) (w_route : w.route = true) (w_flt : w.flt = true) (w_pwr : w.pwr = true) (w_same : w.same = true) (h : Kept w r s) :
    Kept w r (State.stitchMismatch s l cause got want pos) := by
  unfold State.stitchMismatch
  lift_lets -underBinder
  intro x0
  have h0 : Kept w r x0 := State.count_kept h
  clear_value x0
  intro x1; clear_value x1
  exact Kept.ite_ h0
    (State.fault_kept w_cuff w_route w_flt w_pwr w_same (State.setLk_kept w_links h0))

theorem State.checkLanding_kept {w : Wr} {r s : State} {l : Nat} {e : Expect} {f : Flit} (w_links : w.links = true) (w_cuff : w.cuff = true) (w_route : w.route = true) (w_flt : w.flt = true) (w_pwr : w.pwr = true) (w_same : w.same = true) (h : Kept w r s) :
    KeptP w r (State.checkLanding s l e f) := by
  unfold State.checkLanding
  lift_lets -underBinder
  intro x0; clear_value x0
  exact KeptP.ite_ (State.count_kept h)
    (KeptP.ite_ (State.mittenViol_kept w_links w_cuff w_route w_flt w_pwr w_same h)
    (KeptP.ite_ (State.stitchMismatch_kept w_links w_cuff w_route w_flt w_pwr w_same h)
    (KeptP.ite_ (State.stitchMismatch_kept w_links w_cuff w_route w_flt w_pwr w_same h)
    (KeptP.ite_ (State.fault_kept w_cuff w_route w_flt w_pwr w_same (State.count_kept h))
    h))))

theorem State.deliver_kept {w : Wr} {r s : State} {l : Nat} {q : Nat} {e : Expect} {f : Flit} (w_links : w.links = true) (w_cuff : w.cuff = true) (w_route : w.route = true) (w_flt : w.flt = true) (w_pwr : w.pwr = true) (w_same : w.same = true) (h : Kept w r s) :
    Kept w r (State.deliver s l q e f) := by
  unfold State.deliver
  lift_lets -underBinder
  intro x0; clear_value x0
  intro x1
  have h1 : Kept w r x1 := State.setRq_kept w_links h
  clear_value x1
  exact Kept.ite_ (State.fault_kept w_cuff w_route w_flt w_pwr w_same h)
    (State.raise_kept w_same h1)

theorem State.takeDep_kept {w : Wr} {r s : State} {l : Nat} {q : Nat} {n : Nat} (w_links : w.links = true) (w_cuff : w.cuff = true) (w_route : w.route = true) (w_flt : w.flt = true) (w_pwr : w.pwr = true) (w_mem : w.mem = true) (w_same : w.same = true) (h : Kept w r s) :
    KeptP w r (State.takeDep s l q n) := by
  unfold State.takeDep
  split
  · exact h
  · exact by
        lift_lets -underBinder
        intro x0
        have h0 : Kept w r x0 := State.setSq_kept w_links h
        clear_value x0
        intro x1
        have h1 : KeptP w r x1 := State.takeFlit_kept w_cuff w_route w_flt w_pwr w_mem w_same h0
        clear_value x1
        exact h1

theorem State.landEffect_kept {w : Wr} {r s : State} {l : Nat} {e : Expect} {f : Flit} (w_links : w.links = true) (w_cuff : w.cuff = true) (w_route : w.route = true) (w_flt : w.flt = true) (w_pwr : w.pwr = true) (w_mem : w.mem = true) (w_same : w.same = true) (h : Kept w r s) :
    Kept w r (State.landEffect s l e f) := by
  unfold State.landEffect
  lift_lets -underBinder
  intro x0; clear_value x0
  intro x1
  have h1 : ∀ y1 y2, (Kept w r) y1 → (Kept w r) (x1 y1 y2) := fun _ _ h2 => State.setLk_kept w_links h2
  clear_value x1
  exact by
    split
    · exact State.deliver_kept w_links w_cuff w_route w_flt w_pwr w_same h
    · exact h1 _ _ h
    · exact by
          lift_lets -underBinder
          intro x3
          have h3 : Kept w r x3 := h1 _ _ h
          clear_value x3
          exact Kept.ite_ (State.deliver_kept w_links w_cuff w_route w_flt w_pwr w_same h3)
            h3
    · exact by
          lift_lets -underBinder
          intro x4
          have h4 : KeptP w r x4 := State.takeDep_kept w_links w_cuff w_route w_flt w_pwr w_mem w_same h
          clear_value x4
          intro x5
          have h5 : KeptP w r x5 := State.combine_kept w_links w_cuff w_route w_flt w_pwr w_same h4
          clear_value x5
          exact State.deliver_kept w_links w_cuff w_route w_flt w_pwr w_same h5
    · exact h

theorem State.landOldest_kept {w : Wr} {r s : State} {l : Nat} {st : Nat} (w_links : w.links = true) (w_cuff : w.cuff = true) (w_route : w.route = true) (w_flt : w.flt = true) (w_pwr : w.pwr = true) (w_mem : w.mem = true) (w_same : w.same = true) (h : Kept w r s) :
    Kept w r (State.landOldest s l st) := by
  unfold State.landOldest
  lift_lets -underBinder
  intro x0; clear_value x0
  exact by
    split
    · exact Kept.ite_ h
          (by
          lift_lets -underBinder
          intro x1
          have h1 : KeptP w r x1 := State.guardEntry_kept w_cuff w_route w_flt w_pwr w_mem w_same h
          clear_value x1
          intro x2
          have h2 : Kept w r x2 := State.setLk_kept w_links (State.dropUpsets_kept w_mem h1)
          clear_value x2
          intro x3
          have h3 : Kept w r x3 := State.count_kept h2
          clear_value x3
          intro x4
          have h4 : KeptP w r x4 := State.takeFlit_kept w_cuff w_route w_flt w_pwr w_mem w_same h3
          clear_value x4
          intro x5; clear_value x5
          intro x6
          have h6 : Kept w r x6 := State.when_kept h4 (fun _ h7 => State.count_kept h7)
          clear_value x6
          intro x8
          have h8 : Kept w r x8 := State.when_kept h6 (fun _ h9 => State.count_kept h9)
          clear_value x8
          intro x10
          have h10 : KeptP w r x10 := State.checkLanding_kept w_links w_cuff w_route w_flt w_pwr w_same h8
          clear_value x10
          exact Kept.ite_ (State.stopLink_kept w_links h1)
            (State.showLists_kept (State.feedOwed_kept w_links w_cuff w_route w_flt w_pwr w_mem w_same (State.landEffect_kept w_links w_cuff w_route w_flt w_pwr w_mem w_same h10))))
    · exact h

theorem State.rqTake_kept {w : Wr} {r s : State} {l : Nat} {q : Nat} (w_links : w.links = true) (w_cuff : w.cuff = true) (w_route : w.route = true) (w_flt : w.flt = true) (w_pwr : w.pwr = true) (w_mem : w.mem = true) (w_same : w.same = true) (h : Kept w r s) :
    KeptOP w r (State.rqTake s l q) := by
  unfold State.rqTake
  split
  · exact KeptOP.none
  · exact KeptOP.ite_ (KeptOP.none)
        (KeptOP.some (State.takeFlit_kept w_cuff w_route w_flt w_pwr w_mem w_same (State.setRq_kept w_links h)))

theorem State.keptFlits_kept {w : Wr} {r s : State} {l : Nat} {o : Owed} (w_cuff : w.cuff = true) (w_route : w.route = true) (w_flt : w.flt = true) (w_pwr : w.pwr = true) (w_mem : w.mem = true) (w_same : w.same = true) (h : Kept w r s) :
    KeptP w r (State.keptFlits s l o) := by
  unfold State.keptFlits
  exact KeptP.foldl_ h fun _ _ h0 =>
    by
    lift_lets -underBinder
    intro x1
    have h1 : KeptP w r x1 := State.takeFlit_kept w_cuff w_route w_flt w_pwr w_mem w_same h0
    clear_value x1
    exact h1

theorem State.owedFlit_kept {w : Wr} {r s : State} {l : Nat} {o : Owed} (w_links : w.links = true) (w_cuff : w.cuff = true) (w_route : w.route = true) (w_flt : w.flt = true) (w_pwr : w.pwr = true) (w_mem : w.mem = true) (w_same : w.same = true) (h : Kept w r s) :
    KeptP w r (State.owedFlit s l o) := by
  unfold State.owedFlit
  lift_lets -underBinder
  intro x0; clear_value x0
  intro x1
  have h1 : KeptP w r x1 := State.keptFlits_kept w_cuff w_route w_flt w_pwr w_mem w_same h
  clear_value x1
  intro x2
  have h2 : KeptP w r x2 := by
    unfold x2
    split
    · exact State.takeDep_kept w_links w_cuff w_route w_flt w_pwr w_mem w_same h1
    · exact h1
  clear_value x2
  intro x3
  have h3 : Kept w r x3 := h2
  clear_value x3
  exact by
    split
    · exact by
          lift_lets -underBinder
          intro x4; clear_value x4
          exact h3
    · exact by
          lift_lets -underBinder
          intro x5; clear_value x5
          exact h3
    · exact by
          lift_lets -underBinder
          intro x6
          have h6 : KeptP w r x6 := State.combine_kept w_links w_cuff w_route w_flt w_pwr w_same h3
          clear_value x6
          exact h6

end Sys2Proof.Machine
end

