-- ==== Sys2Proof/Laws/KeptLinkOps.lean ====
section
/-! SUPPORT. Sys2Proof/Laws/KeptLinkOps.lean: what each operation of Machine/LinkOps.lean keeps (Kept, Laws/Kept.lean). -/
set_option Elab.async false
namespace Sys2Proof.Machine

theorem State.showUnacked_kept {w : Wr} {r s : State} {l : Nat} {c : Nat} (h : Kept w r s) :
    Kept w r (State.showUnacked s l c) := by
  unfold State.showUnacked
  exact State.wr_kept h

theorem State.setCls_kept {w : Wr} {r s : State} {l : Nat} {c : Nat} {y : ClsSt} (w_links : w.links = true) (h : Kept w r s) :
    Kept w r (State.setCls s l c y) := by
  unfold State.setCls
  exact State.showUnacked_kept (State.setLk_kept w_links h)

theorem State.slotOut_kept {w : Wr} {r s : State} {l : Nat} {st : Nat} {f : Flit} (w_links : w.links = true) (h : Kept w r s) :
    Kept w r (State.slotOut s l st f) := by
  unfold State.slotOut
  lift_lets -underBinder
  intro x0
  have h0 : Kept w r x0 := State.emit_kept h
  clear_value x0
  exact by
    split
    · exact by
          lift_lets -underBinder
          intro x1 x2; clear_value x1 x2
          exact State.setLk_kept w_links h0
    · exact h0

theorem State.txNew_kept {w : Wr} {r s : State} {l : Nat} {c : Nat} {st : Nat} {f : Flit} {pos : Nat} {seg : Nat} {due : Nat} (w_links : w.links = true) (h : Kept w r s) :
    Kept w r (State.txNew s l c st f pos seg due) := by
  unfold State.txNew
  lift_lets -underBinder
  intro x0 x1 x2 x3; clear_value x0 x1 x2 x3
  intro x4
  have h4 : Kept w r x4 := State.setCls_kept w_links h
  clear_value x4
  exact State.slotOut_kept w_links (State.wr_kept h4)

theorem State.countSched_kept {w : Wr} {r s : State} {l : Nat} {st : Nat} {due : Nat} {void : Bool} {brim : Bool} (h : Kept w r s) :
    Kept w r (State.countSched s l st due void brim) := by
  unfold State.countSched
  lift_lets -underBinder
  intro x0
  have h0 : Kept w r x0 := State.count_kept h
  clear_value x0
  intro x1
  have h1 : Kept w r x1 := State.when_kept h0 (fun _ h2 => State.count_kept h2)
  clear_value x1
  intro x3
  have h3 : Kept w r x3 := State.when_kept h1 (fun _ h4 => State.count_kept h4)
  clear_value x3
  exact State.when_kept h3 (fun _ h5 => State.count_kept h5)

theorem State.countLoose_kept {w : Wr} {r s : State} {l : Nat} {lat : Bool} (h : Kept w r s) :
    Kept w r (State.countLoose s l lat) := by
  unfold State.countLoose
  lift_lets -underBinder
  intro x0
  have h0 : Kept w r x0 := State.count_kept h
  clear_value x0
  exact Kept.ite_ (State.count_kept h0)
    (Kept.ite_ h0
    (State.count_kept h0))

theorem State.dropResend_kept {w : Wr} {r s : State} {l : Nat} {n : Nat} {t : Nat} (w_links : w.links = true) (h : Kept w r s) :
    Kept w r (State.dropResend s l n t) := by
  unfold State.dropResend
  lift_lets -underBinder
  intro x0 x1; clear_value x0 x1
  intro x2
  have h2 : Kept w r x2 := State.setCls_kept w_links h
  clear_value x2
  exact State.wr_kept h2

theorem State.resendNext_kept {w : Wr} {r s : State} {l : Nat} {c : Nat} {st : Nat} {lat : Bool} {brim : Bool} (w_links : w.links = true) (w_cuff : w.cuff = true) (w_route : w.route = true) (w_flt : w.flt = true) (w_pwr : w.pwr = true) (w_mem : w.mem = true) (w_same : w.same = true) (h : Kept w r s) :
    Kept w r (State.resendNext s l c st lat brim) := by
  unfold State.resendNext
  lift_lets -underBinder
  intro x0; clear_value x0
  exact by
    split
    · exact h
    · exact by
          split
          · exact State.setCls_kept w_links h
          · exact by
                lift_lets -underBinder
                intro x1
                have h1 : KeptP w r x1 := State.guardFlit_kept w_cuff w_route w_flt w_pwr w_mem w_same h
                clear_value x1
                intro x2
                have h2 : Kept w r x2 := h1
                clear_value x2
                intro x3 x4 x5 x6; clear_value x3 x4 x5 x6
                intro x7
                have h7 : Kept w r x7 := State.setCls_kept w_links h2
                clear_value x7
                intro x8
                have h8 : Kept w r x8 := State.count_kept (State.slotOut_kept w_links h7)
                clear_value x8
                exact Kept.ite_ (State.dropResend_kept w_links h2)
                  (Kept.ite_ (State.countSched_kept h8)
                  (State.countLoose_kept h8))

theorem State.updFit_kept {w : Wr} {r s : State} {l : Nat} (h : Kept w r s) :
    Kept w r (State.updFit s l) := by
  unfold State.updFit
  lift_lets -underBinder
  intro x0 x1; clear_value x0 x1
  intro x2
  have h2 : Kept w r x2 := State.wrb_kept (State.wrb_kept h)
  clear_value x2
  exact State.wrb_kept h2

theorem State.updMitten_kept {w : Wr} {r s : State} {l : Nat} (w_links : w.links = true) (w_cuff : w.cuff = true) (w_route : w.route = true) (w_flt : w.flt = true) (w_pwr : w.pwr = true) (w_same : w.same = true) (h : Kept w r s) :
    Kept w r (State.updMitten s l) := by
  unfold State.updMitten
  lift_lets -underBinder
  intro x0 x1 x2; clear_value x0 x1 x2
  intro x3
  have h3 : Kept w r x3 := State.updFit_kept (State.wrb_kept h)
  clear_value x3
  intro x4; clear_value x4
  exact Kept.ite_ (State.mittenViol_kept w_links w_cuff w_route w_flt w_pwr w_same (State.setLk_kept w_links h3))
    h3

theorem State.linkLost_kept {w : Wr} {r s : State} {l : Nat} {cause : Nat} {st : Nat} {spare : Nat} (w_links : w.links = true) (w_cuff : w.cuff = true) (w_route : w.route = true) (w_flt : w.flt = true) (w_pwr : w.pwr = true) (w_same : w.same = true) (h : Kept w r s) :
    Kept w r (State.linkLost s l cause st spare) := by
  unfold State.linkLost
  lift_lets -underBinder
  intro x0; clear_value x0
  exact Kept.ite_ h
    (State.fault_kept w_cuff w_route w_flt w_pwr w_same (State.setLk_kept w_links h))

theorem State.spendMoved_kept {w : Wr} {r s : State} {y : Nat} {us : List Sent} (h : Kept w r s) :
    Kept w r (State.spendMoved s y us) := by
  unfold State.spendMoved
  exact State.forEach_kept h (fun _ _ h0 => State.wr_kept h0)

theorem State.moveUnacked_kept {w : Wr} {r s : State} {x : Nat} {y : Nat} {c : Nat} {st : Nat} (w_links : w.links = true) (h : Kept w r s) :
    Kept w r (State.moveUnacked s x y c st) := by
  unfold State.moveUnacked
  lift_lets -underBinder
  intro x0 x1 x2 x3 x4 x5; clear_value x0 x1 x2 x3 x4 x5
  intro x6
  have h6 : Kept w r x6 := State.setCls_kept w_links h
  clear_value x6
  intro x7
  have h7 : Kept w r x7 := State.spendMoved_kept (State.wr_kept h6)
  clear_value x7
  intro x8; clear_value x8
  exact State.setCls_kept w_links h7

theorem State.failover_kept {w : Wr} {r s : State} {x : Nat} {y : Nat} (w_links : w.links = true) (w_cuff : w.cuff = true) (w_route : w.route = true) (w_flt : w.flt = true) (w_pwr : w.pwr = true) (w_mem : w.mem = true) (w_same : w.same = true) (h : Kept w r s) :
    Kept w r (State.failover s x y) := by
  unfold State.failover
  lift_lets -underBinder
  intro x0 x1; clear_value x0 x1
  intro x2
  have h2 : Kept w r x2 := State.linkLost_kept w_links w_cuff w_route w_flt w_pwr w_same h
  clear_value x2
  intro x3
  have h3 : Kept w r x3 := State.count_kept h2
  clear_value x3
  intro x4
  have h4 : Kept w r x4 := State.wr_kept (State.wr_kept h3)
  clear_value x4
  intro x5
  have h5 : Kept w r x5 := State.moveUpsets_kept w_mem (State.moveUnacked_kept w_links (State.moveUnacked_kept w_links h4))
  clear_value x5
  intro x6 x7; clear_value x6 x7
  intro x8
  have h8 : Kept w r x8 := State.setLk_kept w_links h5
  clear_value x8
  intro x9; clear_value x9
  intro x10
  have h10 : Kept w r x10 := State.setLk_kept w_links h8
  clear_value x10
  intro x11
  have h11 : Kept w r x11 := State.wr_kept (State.wr_kept h10)
  clear_value x11
  intro x12
  have h12 : Kept w r x12 := State.wr_kept (State.wr_kept h11)
  clear_value x12
  exact State.forEach_kept h12 (fun _ _ h13 => State.wr_kept h13)

theorem State.setTraining_kept {w : Wr} {r s : State} {l : Nat} {st : Nat} (w_links : w.links = true) (h : Kept w r s) :
    Kept w r (State.setTraining s l st) := by
  unfold State.setTraining
  lift_lets -underBinder
  intro x0
  have h0 : Kept w r x0 := State.wr_kept h
  clear_value x0
  intro x1; clear_value x1
  intro x2
  have h2 : Kept w r x2 := State.setLk_kept w_links h0
  clear_value x2
  exact Kept.ite_ h2
    (State.wr_kept (State.wr_kept (State.wr_kept h2)))

theorem State.showFound_kept {w : Wr} {r s : State} {l : Nat} {seat : Nat} {link : Nat} {v : Nat} {serial : Nat} (h : Kept w r s) :
    Kept w r (State.showFound s l seat link v serial) := by
  unfold State.showFound
  lift_lets -underBinder
  intro x0
  have h0 : Kept w r x0 := State.wr_kept (State.wr_kept h)
  clear_value x0
  exact State.wr_kept (State.wr_kept h0)

theorem State.showPeer_kept {w : Wr} {r s : State} {l : Nat} (h : Kept w r s) :
    Kept w r (State.showPeer s l) := by
  unfold State.showPeer
  split
  · exact State.showFound_kept h
  · exact State.showFound_kept h

theorem State.showDisc_kept {w : Wr} {r s : State} (h : Kept w r s) :
    Kept w r (State.showDisc s) := by
  unfold State.showDisc
  lift_lets -underBinder
  intro x0; clear_value x0
  exact State.forEach_kept h (fun _ _ h1 => State.wr_kept h1)

theorem State.noteChange_kept {w : Wr} {r s : State} {changed : Bool} (w_same : w.same = true) (h : Kept w r s) :
    Kept w r (State.noteChange s changed) := by
  unfold State.noteChange
  exact Kept.ite_ (State.flag_kept w_same (State.wr_kept h))
    h

theorem State.evalLink_kept {w : Wr} {r s : State} {l : Nat} (w_links : w.links = true) (w_cuff : w.cuff = true) (w_route : w.route = true) (w_flt : w.flt = true) (w_pwr : w.pwr = true) (w_same : w.same = true) (h : Kept w r s) :
    Kept w r (State.evalLink s l) := by
  unfold State.evalLink
  lift_lets -underBinder
  intro x0 x1; clear_value x0 x1
  intro x2
  have h2 : Kept w r x2 := State.wr_kept (State.wr_kept h)
  clear_value x2
  intro x3
  have h3 : Kept w r x3 := State.showPeer_kept (State.wr_kept h2)
  clear_value x3
  intro x4
  have h4 : Kept w r x4 := State.wrb_kept (State.showDisc_kept h3)
  clear_value x4
  exact State.updMitten_kept w_links w_cuff w_route w_flt w_pwr w_same (State.noteChange_kept w_same h4)

theorem State.discover_kept {w : Wr} {r s : State} {l : Nat} (w_links : w.links = true) (w_cuff : w.cuff = true) (w_route : w.route = true) (w_flt : w.flt = true) (w_pwr : w.pwr = true) (w_same : w.same = true) (h : Kept w r s) :
    Kept w r (State.discover s l) := by
  unfold State.discover
  lift_lets -underBinder
  intro x0; clear_value x0
  exact State.forEach_kept (State.evalLink_kept w_links w_cuff w_route w_flt w_pwr w_same h) (fun _ _ h1 => State.evalLink_kept w_links w_cuff w_route w_flt w_pwr w_same h1)

theorem State.freshStart_kept {w : Wr} {r s : State} {l : Nat} (w_links : w.links = true) (h : Kept w r s) :
    Kept w r (State.freshStart s l) := by
  unfold State.freshStart
  lift_lets -underBinder
  intro x0; clear_value x0
  intro x1
  have h1 : Kept w r x1 := State.setLk_kept w_links h
  clear_value x1
  intro x2
  have h2 : Kept w r x2 := State.setReg_kept (State.setReg_kept h1)
  clear_value x2
  exact Kept.ite_ (State.forEach_kept h2 (fun _ _ h3 => State.wr_kept (State.wr_kept h3)))
    h2

theorem State.leaveUp_kept {w : Wr} {r s : State} {l : Nat} {toSt : Nat} {full : Bool} {cause : Nat} (w_links : w.links = true) (w_cuff : w.cuff = true) (w_route : w.route = true) (w_flt : w.flt = true) (w_pwr : w.pwr = true) (w_same : w.same = true) (h : Kept w r s) :
    Kept w r (State.leaveUp s l toSt full cause) := by
  unfold State.leaveUp
  lift_lets -underBinder
  intro x0; clear_value x0
  intro x1
  have h1 : Kept w r x1 := Kept.ite_ (State.freshStart_kept w_links h)
    h
  clear_value x1
  intro x2 x3 x4; clear_value x2 x3 x4
  intro x5
  have h5 : Kept w r x5 := State.setLk_kept w_links h1
  clear_value x5
  intro x6
  have h6 : Kept w r x6 := State.wr_kept (State.count_kept h5)
  clear_value x6
  intro x7
  have h7 : Kept w r x7 := State.wr_kept (State.setTraining_kept w_links h6)
  clear_value x7
  exact State.discover_kept w_links w_cuff w_route w_flt w_pwr w_same h7

theorem State.dropLink_kept {w : Wr} {r s : State} {l : Nat} {full : Bool} {cause : Nat} {lost : Bool} (w_links : w.links = true) (w_cuff : w.cuff = true) (w_route : w.route = true) (w_flt : w.flt = true) (w_pwr : w.pwr = true) (w_mem : w.mem = true) (w_same : w.same = true) (h : Kept w r s) :
    Kept w r (State.dropLink s l full cause lost) := by
  unfold State.dropLink
  split
  · exact State.failover_kept w_links w_cuff w_route w_flt w_pwr w_mem w_same h
  · exact by
        lift_lets -underBinder
        intro x0
        have h0 : Kept w r x0 := State.leaveUp_kept w_links w_cuff w_route w_flt w_pwr w_same h
        clear_value x0
        exact Kept.ite_ (State.linkLost_kept w_links w_cuff w_route w_flt w_pwr w_same h0)
          h0

theorem State.replayLimit_kept {w : Wr} {r s : State} {l : Nat} {c : Nat} {kind : Nat} (w_links : w.links = true) (w_cuff : w.cuff = true) (w_route : w.route = true) (w_flt : w.flt = true) (w_pwr : w.pwr = true) (w_mem : w.mem = true) (w_same : w.same = true) (h : Kept w r s) :
    Kept w r (State.replayLimit s l c kind) := by
  unfold State.replayLimit
  lift_lets -underBinder
  intro x0; clear_value x0
  intro x1
  have h1 : Kept w r x1 := State.fault_kept w_cuff w_route w_flt w_pwr w_same h
  clear_value x1
  exact State.dropLink_kept w_links w_cuff w_route w_flt w_pwr w_mem w_same h1

theorem State.countReplay_kept {w : Wr} {r s : State} {l : Nat} {c : Nat} {timer : Bool} (w_links : w.links = true) (w_cuff : w.cuff = true) (w_route : w.route = true) (w_flt : w.flt = true) (w_pwr : w.pwr = true) (w_mem : w.mem = true) (w_same : w.same = true) (h : Kept w r s) :
    Kept w r (State.countReplay s l c timer) := by
  unfold State.countReplay
  lift_lets -underBinder
  intro x0 x1 x2 x3 x4; clear_value x0 x1 x2 x3 x4
  intro x5
  have h5 : Kept w r x5 := State.setLk_kept w_links h
  clear_value x5
  intro x6
  have h6 : Kept w r x6 := State.count_kept h5
  clear_value x6
  intro x7
  have h7 : Kept w r x7 := State.when_kept h6 (fun _ h8 => State.count_kept h8)
  clear_value x7
  exact Kept.ite_ (State.replayLimit_kept w_links w_cuff w_route w_flt w_pwr w_mem w_same h7)
    h7

theorem State.resendFrom_kept {w : Wr} {r s : State} {l : Nat} {c : Nat} {n : Nat} {t : Nat} {y : ClsSt} (w_links : w.links = true) (h : Kept w r s) :
    Kept w r (State.resendFrom s l c n t y) := by
  unfold State.resendFrom
  lift_lets -underBinder
  intro x0; clear_value x0
  exact State.setCls_kept w_links h

theorem State.startReplay_kept {w : Wr} {r s : State} {l : Nat} {c : Nat} {n : Nat} {t : Nat} {timer : Bool} (w_links : w.links = true) (w_cuff : w.cuff = true) (w_route : w.route = true) (w_flt : w.flt = true) (w_pwr : w.pwr = true) (w_mem : w.mem = true) (w_same : w.same = true) (h : Kept w r s) :
    Kept w r (State.startReplay s l c n t timer) := by
  unfold State.startReplay
  lift_lets -underBinder
  intro x0 x1 x2 x3; clear_value x0 x1 x2 x3
  exact Kept.ite_ h
    (Kept.ite_ (Kept.ite_ h
    (State.replayLimit_kept w_links w_cuff w_route w_flt w_pwr w_mem w_same (State.setCls_kept w_links h)))
    (State.countReplay_kept w_links w_cuff w_route w_flt w_pwr w_mem w_same (State.resendFrom_kept w_links h)))

theorem State.applyAck_kept {w : Wr} {r s : State} {l : Nat} {c : Nat} {ack : Nat} (w_links : w.links = true) (h : Kept w r s) :
    Kept w r (State.applyAck s l c ack) := by
  unfold State.applyAck
  lift_lets -underBinder
  intro x0; clear_value x0
  exact by
    split
    · exact h
    · exact by
          lift_lets -underBinder
          intro x1 x2 x3; clear_value x1 x2 x3
          exact Kept.ite_ h
            (State.setCls_kept w_links h)

theorem State.openNak_kept {w : Wr} {r s : State} {l : Nat} {c : Nat} (w_links : w.links = true) (h : Kept w r s) :
    Kept w r (State.openNak s l c) := by
  unfold State.openNak
  lift_lets -underBinder
  intro x0; clear_value x0
  exact State.count_kept (State.setCls_kept w_links h)

end Sys2Proof.Machine
end

