-- ==== Sys2Proof/Laws/KeptVerify.lean ====
section
/-! SUPPORT. Sys2Proof/Laws/KeptVerify.lean: what each operation of Machine/Verify.lean keeps (Kept, Laws/Kept.lean). -/
set_option Elab.async false
namespace Sys2Proof.Machine

theorem State.startVerify_kept {w : Wr} {r s : State} {seg : Nat} (w_cuff : w.cuff = true) (h : Kept w r s) :
    Kept w r (State.startVerify s seg) := by
  unfold State.startVerify
  lift_lets -underBinder
  intro x0 x1; clear_value x0 x1
  intro x2
  have h2 : Kept w r x2 := State.wr_kept (State.wr_kept (State.wr_kept h))
  clear_value x2
  intro x3; clear_value x3
  exact Kept.upd h2 (cuff := .inl w_cuff)

end Sys2Proof.Machine
end

