-- ==== Sys2Proof/Laws/KeptImage.lean ====
section
/-! SUPPORT. Sys2Proof/Laws/KeptImage.lean: what each operation of Machine/Image.lean keeps (Kept, Laws/Kept.lean). -/
set_option Elab.async false
namespace Sys2Proof.Machine

theorem State.stackLost_kept {w : Wr} {r s : State} {w0 : Nat} (w_cuff : w.cuff = true) (w_route : w.route = true) (w_flt : w.flt = true) (w_pwr : w.pwr = true) (w_mem : w.mem = true) (w_same : w.same = true) (h : Kept w r s) :
    Kept w r (State.stackLost s w0) := by
  unfold State.stackLost
  exact State.palmHalt_kept (State.eccFault_kept w_cuff w_route w_flt w_pwr w_mem w_same h)

theorem State.fetchSeg_kept {w : Wr} {r s : State} {k : Nat} (w_hbm : w.hbm = true) (w_cuff : w.cuff = true) (w_route : w.route = true) (w_flt : w.flt = true) (w_pwr : w.pwr = true) (w_mem : w.mem = true) (w_ldrs : w.ldrs = true) (w_freeCtr : w.freeCtr = true) (w_same : w.same = true) (h : Kept w r s) :
    Kept w r (State.fetchSeg s k) := by
  unfold State.fetchSeg
  exact Kept.ite_ h
    (by
    lift_lets -underBinder
    intro x0; clear_value x0
    intro x1
    have h1 : KeptP w r x1 := KeptP.ite_ (State.hbmReadN_kept w_hbm w_cuff w_route w_flt w_pwr w_mem w_freeCtr w_same h)
      (State.stackLost_kept w_cuff w_route w_flt w_pwr w_mem w_same h)
    clear_value x1
    intro x2; clear_value x2
    intro x3
    have h3 : Kept w r x3 := h1
    clear_value x3
    intro x4; clear_value x4
    exact Kept.upd h3 (ldrs := .inl w_ldrs))

theorem State.fillProgram_kept {w : Wr} {r s : State} {e : Nat} {l : Nat} {dir : Nat} {bank : Nat} (w_bar2 : w.bar2 = true) (w_hbm : w.hbm = true) (w_cuff : w.cuff = true) (w_route : w.route = true) (w_flt : w.flt = true) (w_pwr : w.pwr = true) (w_mem : w.mem = true) (w_freeCtr : w.freeCtr = true) (w_same : w.same = true) (h : Kept w r s) :
    Kept w r (State.fillProgram s e l dir bank) := by
  unfold State.fillProgram
  lift_lets -underBinder
  intro x0
  have h0 : KeptP w r x0 := State.hbmReadN_kept w_hbm w_cuff w_route w_flt w_pwr w_mem w_freeCtr w_same h
  clear_value x0
  exact State.forEach_kept h0 (fun _ _ h1 => State.setTab_kept w_bar2 h1)

theorem State.fillShadow_kept {w : Wr} {r s : State} {k : Nat} (w_bar2 : w.bar2 = true) (w_hbm : w.hbm = true) (w_cuff : w.cuff = true) (w_route : w.route = true) (w_flt : w.flt = true) (w_pwr : w.pwr = true) (w_mem : w.mem = true) (w_freeCtr : w.freeCtr = true) (w_same : w.same = true) (h : Kept w r s) :
    Kept w r (State.fillShadow s k) := by
  unfold State.fillShadow
  lift_lets -underBinder
  intro x0 x1; clear_value x0 x1
  intro x2
  have h2 : Kept w r x2 := State.devWr_kept (State.devWr_kept h)
  clear_value x2
  exact State.forEach_kept h2 (fun _ _ h3 => State.forEach_kept h3 (fun _ _ h4 => State.fillProgram_kept w_bar2 w_hbm w_cuff w_route w_flt w_pwr w_mem w_freeCtr w_same h4))

theorem State.startFill_kept {w : Wr} {r s : State} {k : Nat} (w_cuff : w.cuff = true) (h : Kept w r s) :
    Kept w r (State.startFill s k) := by
  unfold State.startFill
  lift_lets -underBinder
  intro x0; clear_value x0
  intro x1
  have h1 : Kept w r x1 := State.wr_kept (State.wr_kept h)
  clear_value x1
  intro x2; clear_value x2
  exact Kept.upd h1 (cuff := .inl w_cuff)

theorem State.writeRefuse_kept {w : Wr} {r s : State} {r0 : RefArgs} (w_ldrs : w.ldrs = true) (h : Kept w r s) :
    Kept w r (State.writeRefuse s r0) := by
  unfold State.writeRefuse
  exact Kept.ite_ h
    (by
    lift_lets -underBinder
    intro x0 x1; clear_value x0 x1
    intro x2
    have h2 : Kept w r x2 := Kept.upd h (ldrs := .inl w_ldrs)
    clear_value x2
    intro x3
    have h3 : Kept w r x3 := State.setReg_kept h2
    clear_value x3
    intro x4
    have h4 : Kept w r x4 := State.setReg_kept h3
    clear_value x4
    exact State.setReg_kept h4)

theorem State.refuseImage_kept {w : Wr} {r s : State} {r0 : RefArgs} (w_cuff : w.cuff = true) (w_route : w.route = true) (w_flt : w.flt = true) (w_pwr : w.pwr = true) (w_ldrs : w.ldrs = true) (w_same : w.same = true) (h : Kept w r s) :
    Kept w r (State.refuseImage s r0) := by
  unfold State.refuseImage
  lift_lets -underBinder
  intro x0
  have h0 : Kept w r x0 := State.fault_kept w_cuff w_route w_flt w_pwr w_same (State.writeRefuse_kept w_ldrs h)
  clear_value x0
  exact Kept.ite_ (State.wr_kept h0)
    h0

theorem State.refuseAt_kept {w : Wr} {r s : State} {r0 : RefArgs} {seg : Nat} (w_cuff : w.cuff = true) (w_route : w.route = true) (w_flt : w.flt = true) (w_pwr : w.pwr = true) (w_ldrs : w.ldrs = true) (w_same : w.same = true) (h : Kept w r s) :
    Kept w r (State.refuseAt s r0 seg) := by
  unfold State.refuseAt
  exact State.faultAt_kept w_cuff w_route w_flt w_pwr w_same (State.writeRefuse_kept w_ldrs h)

theorem State.startRetrain_kept {w : Wr} {r s : State} {k : Nat} {kind : Nat} (w_mem : w.mem = true) (h : Kept w r s) :
    Kept w r (State.startRetrain s k kind) := by
  unfold State.startRetrain
  lift_lets -underBinder
  intro x0
  have h0 : Kept w r x0 := State.count_kept (State.wr_kept (State.wr_kept h))
  clear_value x0
  intro x1; clear_value x1
  exact Kept.upd h0 (mem := .inl w_mem)

theorem State.pendingRetrains_kept {w : Wr} {r s : State} {k : Nat} (w_mem : w.mem = true) (h : Kept w r s) :
    Kept w r (State.pendingRetrains s k) := by
  unfold State.pendingRetrains
  exact State.forEach_kept h (fun _ _ h0 => Kept.ite_ (by
      lift_lets -underBinder
      intro x1 x2; clear_value x1 x2
      exact Kept.ite_ (State.startRetrain_kept w_mem h0)
        h0)
      h0)

theorem State.showSched_kept {w : Wr} {r s : State} (h : Kept w r s) :
    Kept w r (State.showSched s) := by
  unfold State.showSched
  exact State.forEach_kept h (fun _ _ h0 => State.wrb_kept h0)

theorem State.swapBanks_kept {w : Wr} {r s : State} {seam : Nat} (h : Kept w r s) :
    Kept w r (State.swapBanks s seam) := by
  unfold State.swapBanks
  lift_lets -underBinder
  intro x0 x1; clear_value x0 x1
  intro x2
  have h2 : Kept w r x2 := State.wr_kept h
  clear_value x2
  intro x3
  have h3 : Kept w r x3 := State.wr_kept (State.wr_kept h2)
  clear_value x3
  intro x4
  have h4 : Kept w r x4 := State.wr_kept (State.wr_kept (State.wr_kept h3))
  clear_value x4
  exact State.showSched_kept (State.count_kept h4)

theorem State.nextFill_kept {w : Wr} {r s : State} {seg : Nat} (w_cuff : w.cuff = true) (h : Kept w r s) :
    Kept w r (State.nextFill s seg) := by
  unfold State.nextFill
  exact Kept.ite_ (by
    split
    · exact State.startFill_kept w_cuff h
    · exact h)
    h

theorem State.commitSegment_kept {w : Wr} {r s : State} {k : Nat} (w_links : w.links = true) (w_mem : w.mem = true) (h : Kept w r s) :
    Kept w r (State.commitSegment s k) := by
  unfold State.commitSegment
  lift_lets -underBinder
  intro x0; clear_value x0
  intro x1
  have h1 : Kept w r x1 := State.wr_kept (State.wr_kept (State.wr_kept h))
  clear_value x1
  intro x2
  have h2 : Kept w r x2 := State.wr_kept h1
  clear_value x2
  intro x3
  have h3 : Kept w r x3 := State.forEach_kept h2 (fun _ _ h4 => State.setLk_kept w_links h4)
  clear_value x3
  exact State.pendingRetrains_kept w_mem h3

end Sys2Proof.Machine
end

