-- ==== Sys2Proof/Laws/KeptCrown.lean ====
section
/-! SUPPORT. Sys2Proof/Laws/KeptCrown.lean: what each operation of Machine/Crown.lean keeps (Kept, Laws/Kept.lean). -/
set_option Elab.async false
namespace Sys2Proof.Machine

theorem State.crownUnlock_kept {w : Wr} {r s : State} {cause : Nat} (w_cuff : w.cuff = true) (w_route : w.route = true) (w_flt : w.flt = true) (w_pwr : w.pwr = true) (w_same : w.same = true) (h : Kept w r s) :
    Kept w r (State.crownUnlock s cause) := by
  unfold State.crownUnlock
  exact State.fault_kept w_cuff w_route w_flt w_pwr w_same h

theorem State.reportHold_kept {w : Wr} {r s : State} (h : Kept w r s) :
    Kept w r (State.reportHold s) := by
  unfold State.reportHold
  exact Kept.ite_ (State.wr_kept (State.wr_kept h))
    (Kept.ite_ (State.wr_kept (State.wr_kept h))
    (State.wr_kept (State.wr_kept h)))

theorem State.checkDepth_kept {w : Wr} {r s : State} (w_crown : w.crown = true) (w_cuff : w.cuff = true) (w_route : w.route = true) (w_flt : w.flt = true) (w_pwr : w.pwr = true) (w_same : w.same = true) (h : Kept w r s) :
    Kept w r (State.checkDepth s) := by
  unfold State.checkDepth
  exact Kept.ite_ (State.crownUnlock_kept w_cuff w_route w_flt w_pwr w_same (Kept.upd h (crown := .inl w_crown)))
    h

theorem State.checkRefHold_kept {w : Wr} {r s : State} (w_crown : w.crown = true) (w_cuff : w.cuff = true) (w_route : w.route = true) (w_flt : w.flt = true) (w_pwr : w.pwr = true) (w_same : w.same = true) (h : Kept w r s) :
    Kept w r (State.checkRefHold s) := by
  unfold State.checkRefHold
  exact Kept.ite_ (State.crownUnlock_kept w_cuff w_route w_flt w_pwr w_same (Kept.upd h (crown := .inl w_crown)))
    h

theorem State.holdTrim_kept {w : Wr} {r s : State} (h : Kept w r s) :
    Kept w r (State.holdTrim s) := by
  unfold State.holdTrim
  exact Kept.ite_ h
    (State.wr_kept h)

theorem State.enterHoldover_kept {w : Wr} {r s : State} (w_crown : w.crown = true) (w_cuff : w.cuff = true) (w_route : w.route = true) (w_flt : w.flt = true) (w_pwr : w.pwr = true) (w_same : w.same = true) (h : Kept w r s) :
    Kept w r (State.enterHoldover s) := by
  unfold State.enterHoldover
  lift_lets -underBinder
  intro x0; clear_value x0
  intro x1
  have h1 : Kept w r x1 := State.holdTrim_kept h
  clear_value x1
  intro x2; clear_value x2
  intro x3
  have h3 : Kept w r x3 := Kept.upd h1 (crown := .inl w_crown)
  clear_value x3
  intro x4
  have h4 : Kept w r x4 := State.reportHold_kept (State.wr_kept h3)
  clear_value x4
  intro x5
  have h5 : Kept w r x5 := Kept.ite_ (State.crownUnlock_kept w_cuff w_route w_flt w_pwr w_same h4)
    h4
  clear_value x5
  exact State.checkDepth_kept w_crown w_cuff w_route w_flt w_pwr w_same h5

theorem State.tryMasterStart_kept {w : Wr} {r s : State} (w_crown : w.crown = true) (h : Kept w r s) :
    Kept w r (State.tryMasterStart s) := by
  unfold State.tryMasterStart
  exact Kept.ite_ (by
    lift_lets -underBinder
    intro x0
    have h0 : Kept w r x0 := State.wr_kept (State.wr_kept (State.wr_kept h))
    clear_value x0
    intro x1
    have h1 : Kept w r x1 := State.reportHold_kept (State.wr_kept h0)
    clear_value x1
    intro x2; clear_value x2
    exact Kept.upd h1 (crown := .inl w_crown))
    h

theorem State.noteRef_kept {w : Wr} {r s : State} (w_crown : w.crown = true) (h : Kept w r s) :
    Kept w r (State.noteRef s) := by
  unfold State.noteRef
  exact Kept.ite_ (by
    split
    · exact h
    · exact Kept.upd h (crown := .inl w_crown))
    (Kept.upd h (crown := .inl w_crown))

theorem execRootPllLock_kept {w : Wr} {r s : State} (w_crown : w.crown = true) (h : Kept w r s) :
    Answers w r (execRootPllLock s) := by
  unfold execRootPllLock
  exact Answers.next (State.tryMasterStart_kept w_crown (State.noteRef_kept w_crown (State.wr_kept h)))

theorem execReferenceLost_kept {w : Wr} {r s : State} (w_crown : w.crown = true) (w_cuff : w.cuff = true) (w_route : w.route = true) (w_flt : w.flt = true) (w_pwr : w.pwr = true) (w_same : w.same = true) (h : Kept w r s) :
    Answers w r (execReferenceLost s) := by
  unfold execReferenceLost
  exact Answers.ite_ (by
    lift_lets -underBinder
    intro x0
    have h0 : Kept w r x0 := State.noteRef_kept w_crown (State.wr_kept (State.wr_kept h))
    clear_value x0
    intro x1
    have h1 : Kept w r x1 := Kept.ite_ (State.enterHoldover_kept w_crown w_cuff w_route w_flt w_pwr w_same h0)
      h0
    clear_value x1
    exact Answers.next (State.checkRefHold_kept w_crown w_cuff w_route w_flt w_pwr w_same (State.crownUnlock_kept w_cuff w_route w_flt w_pwr w_same h1)))
    (Answers.next h)

theorem execReferenceRestored_kept {w : Wr} {r s : State} (w_crown : w.crown = true) (h : Kept w r s) :
    Answers w r (execReferenceRestored s) := by
  unfold execReferenceRestored
  exact Answers.next (State.tryMasterStart_kept w_crown (State.noteRef_kept w_crown (State.wr_kept h)))

theorem execCrnEnSet_kept {w : Wr} {r : State} {role : Bool} {altEn : Bool} {s : State} (w_crown : w.crown = true) (h : Kept w r s) :
    Answers w r (execCrnEnSet role altEn s) := by
  unfold execCrnEnSet
  lift_lets -underBinder
  intro x0
  have h0 : Kept w r x0 := State.wrb_kept h
  clear_value x0
  intro x1
  have h1 : Kept w r x1 := State.wr_kept (State.wr_kept (State.wrb_kept h0))
  clear_value x1
  intro x2; clear_value x2
  intro x3
  have h3 : Kept w r x3 := Kept.upd h1 (crown := .inl w_crown)
  clear_value x3
  exact Answers.ite_ (Answers.next h0)
    (Answers.next (State.tryMasterStart_kept w_crown h3))

theorem State.enterFree_kept {w : Wr} {r s : State} (w_crown : w.crown = true) (w_cuff : w.cuff = true) (w_route : w.route = true) (w_flt : w.flt = true) (w_time : w.time = true) (w_pwr : w.pwr = true) (w_same : w.same = true) (h : Kept w r s) :
    Kept w r (State.enterFree s) := by
  unfold State.enterFree
  lift_lets -underBinder
  intro x0; clear_value x0
  intro x1
  have h1 : Kept w r x1 := State.wr_kept (State.wr_kept (State.wr_kept h))
  clear_value x1
  intro x2
  have h2 : Kept w r x2 := State.wr_kept (State.wr_kept (State.wr_kept h1))
  clear_value x2
  intro x3 x4; clear_value x3 x4
  intro x5
  have h5 : Kept w r x5 := Kept.upd h2 (crown := .inl w_crown) (time := .inl w_time)
  clear_value x5
  intro x6
  have h6 : Kept w r x6 := Kept.ite_ (State.crownUnlock_kept w_cuff w_route w_flt w_pwr w_same h5)
    h5
  clear_value x6
  intro x7
  have h7 : Kept w r x7 := State.cancelArmed_kept w_same h6
  clear_value x7
  exact Kept.ite_ (State.outHoldover_kept w_cuff w_route w_flt w_time w_pwr w_same h7)
    h7

theorem execCrnEnClear_kept {w : Wr} {r : State} {role : Bool} {altEn : Bool} {s : State} (w_crown : w.crown = true) (w_cuff : w.cuff = true) (w_route : w.route = true) (w_flt : w.flt = true) (w_time : w.time = true) (w_pwr : w.pwr = true) (w_same : w.same = true) (h : Kept w r s) :
    Answers w r (execCrnEnClear role altEn s) := by
  unfold execCrnEnClear
  lift_lets -underBinder
  intro x0; clear_value x0
  intro x1
  have h1 : Kept w r x1 := State.wr_kept (State.wrb_kept (State.wrb_kept h))
  clear_value x1
  exact Answers.ite_ (Answers.next (State.enterFree_kept w_crown w_cuff w_route w_flt w_time w_pwr w_same h1))
    (Answers.next h1)

theorem execBeaconRequestTimer_kept {w : Wr} {r s : State} (w_crown : w.crown = true) (w_links : w.links = true) (h : Kept w r s) :
    Answers w r (execBeaconRequestTimer s) := by
  unfold execBeaconRequestTimer
  exact Answers.ite_ (by
    lift_lets -underBinder
    intro x0 x1 x2; clear_value x0 x1 x2
    intro x3
    have h3 : Kept w r x3 := Kept.ite_ (State.setLk_kept w_links h)
      h
    clear_value x3
    intro x4; clear_value x4
    exact Answers.next (Kept.upd h3 (crown := .inl w_crown)))
    (Answers.next h)

theorem execBeaconReq_kept {w : Wr} {r : State} {l : Fin 24} {b : Beacon} {t2 : Nat} {s : State} (w_links : w.links = true) (h : Kept w r s) :
    Answers w r (execBeaconReq l b t2 s) := by
  unfold execBeaconReq
  exact Answers.ite_ (Answers.next (State.setLk_kept w_links h))
    (Answers.next h)

theorem State.missEffects_kept {w : Wr} {r s : State} (w_crown : w.crown = true) (w_cuff : w.cuff = true) (w_route : w.route = true) (w_flt : w.flt = true) (w_pwr : w.pwr = true) (w_same : w.same = true) (h : Kept w r s) :
    Kept w r (State.missEffects s) := by
  unfold State.missEffects
  lift_lets -underBinder
  intro x0; clear_value x0
  intro x1
  have h1 : Kept w r x1 := State.wr_kept h
  clear_value x1
  intro x2; clear_value x2
  intro x3
  have h3 : Kept w r x3 := Kept.upd h1 (crown := .inl w_crown)
  clear_value x3
  exact State.checkRefHold_kept w_crown w_cuff w_route w_flt w_pwr w_same h3

theorem State.rejectExchange_kept {w : Wr} {r s : State} {tree : Bool} (w_crown : w.crown = true) (w_cuff : w.cuff = true) (w_route : w.route = true) (w_flt : w.flt = true) (w_pwr : w.pwr = true) (w_same : w.same = true) (h : Kept w r s) :
    Kept w r (State.rejectExchange s tree) := by
  unfold State.rejectExchange
  lift_lets -underBinder
  intro x0; clear_value x0
  intro x1
  have h1 : Kept w r x1 := State.missEffects_kept w_crown w_cuff w_route w_flt w_pwr w_same (State.count_kept h)
  clear_value x1
  intro x2; clear_value x2
  intro x3
  have h3 : Kept w r x3 := Kept.upd h1 (crown := .inl w_crown)
  clear_value x3
  exact Kept.ite_ (State.crownUnlock_kept w_cuff w_route w_flt w_pwr w_same h3)
    h3

theorem State.acceptExchange_kept {w : Wr} {r s : State} {b : Beacon} {off : Int} (w_crown : w.crown = true) (w_cuff : w.cuff = true) (w_route : w.route = true) (w_flt : w.flt = true) (w_pwr : w.pwr = true) (w_freeCtr : w.freeCtr = true) (w_same : w.same = true) (h : Kept w r s) :
    Kept w r (State.acceptExchange s b off) := by
  unfold State.acceptExchange
  lift_lets -underBinder
  intro x0 x1 x2; clear_value x0 x1 x2
  intro x3
  have h3 : Kept w r x3 := State.telRaise_kept w_flt (State.raise_kept w_same (State.wr_kept h))
  clear_value x3
  intro x4
  have h4 : Kept w r x4 := State.wr_kept h3
  clear_value x4
  intro x5; clear_value x5
  intro x6
  have h6 : Kept w r x6 := State.tickFree_kept w_freeCtr (State.wr_kept h4)
  clear_value x6
  intro x7
  have h7 : Kept w r x7 := State.wr_kept h6
  clear_value x7
  intro x8; clear_value x8
  intro x9
  have h9 : Kept w r x9 := Kept.upd h7 (crown := .inl w_crown)
  clear_value x9
  exact State.checkDepth_kept w_crown w_cuff w_route w_flt w_pwr w_same (State.reportHold_kept h9)

theorem State.acquire_kept {w : Wr} {r s : State} {b : Beacon} {t1 : Nat} {t4 : Nat} {asym : Int} (w_crown : w.crown = true) (h : Kept w r s) :
    Kept w r (State.acquire s b t1 t4 asym) := by
  unfold State.acquire
  lift_lets -underBinder
  intro x0 x1 x2; clear_value x0 x1 x2
  intro x3
  have h3 : Kept w r x3 := State.wr_kept (State.wr_kept (State.wr_kept h))
  clear_value x3
  intro x4
  have h4 : Kept w r x4 := State.wr_kept h3
  clear_value x4
  intro x5
  have h5 : Kept w r x5 := State.reportHold_kept h4
  clear_value x5
  intro x6; clear_value x6
  exact Kept.upd h5 (crown := .inl w_crown)

theorem State.parentExchange_kept {w : Wr} {r s : State} {l : Nat} {b : Beacon} {t1 : Nat} {t4 : Nat} (w_crown : w.crown = true) (w_cuff : w.cuff = true) (w_route : w.route = true) (w_flt : w.flt = true) (w_pwr : w.pwr = true) (w_freeCtr : w.freeCtr = true) (w_same : w.same = true) (h : Kept w r s) :
    Kept w r (State.parentExchange s l b t1 t4) := by
  unfold State.parentExchange
  lift_lets -underBinder
  intro x0 x1 x2; clear_value x0 x1 x2
  intro x3
  have h3 : Kept w r x3 := Kept.upd h (crown := .inl w_crown)
  clear_value x3
  intro x4; clear_value x4
  intro x5
  have h5 : Kept w r x5 := Kept.upd h3 (crown := .inl w_crown)
  clear_value x5
  intro x6; clear_value x6
  exact Kept.ite_ (Kept.ite_ (State.rejectExchange_kept w_crown w_cuff w_route w_flt w_pwr w_same h3)
    (Kept.ite_ (State.acquire_kept w_crown h5)
    h5))
    (Kept.ite_ (State.rejectExchange_kept w_crown w_cuff w_route w_flt w_pwr w_same h3)
    (Kept.ite_ (State.rejectExchange_kept w_crown w_cuff w_route w_flt w_pwr w_same (State.tickFree_kept w_freeCtr h3))
    (State.acceptExchange_kept w_crown w_cuff w_route w_flt w_pwr w_freeCtr w_same h3)))

theorem State.monitorExchange_kept {w : Wr} {r s : State} {l : Nat} {b : Beacon} {t1 : Nat} {t4 : Nat} (w_crown : w.crown = true) (w_cuff : w.cuff = true) (w_route : w.route = true) (w_flt : w.flt = true) (w_pwr : w.pwr = true) (w_same : w.same = true) (h : Kept w r s) :
    Kept w r (State.monitorExchange s l b t1 t4) := by
  unfold State.monitorExchange
  lift_lets -underBinder
  intro x0 x1 x2; clear_value x0 x1 x2
  intro x3
  have h3 : Kept w r x3 := Kept.upd h (crown := .inl w_crown)
  clear_value x3
  intro x4
  have h4 : Kept w r x4 := State.raise_kept w_same h3
  clear_value x4
  exact Kept.ite_ (State.crownUnlock_kept w_cuff w_route w_flt w_pwr w_same (State.count_kept h4))
    h4

theorem execBeaconRsp_kept {w : Wr} {r : State} {l : Fin 24} {b : Beacon} {t4 : Nat} {s : State} (w_crown : w.crown = true) (w_cuff : w.cuff = true) (w_route : w.route = true) (w_flt : w.flt = true) (w_pwr : w.pwr = true) (w_freeCtr : w.freeCtr = true) (w_same : w.same = true) (h : Kept w r s) :
    Answers w r (execBeaconRsp l b t4 s) := by
  unfold execBeaconRsp
  split
  · exact Answers.ite_ (Answers.next (State.parentExchange_kept w_crown w_cuff w_route w_flt w_pwr w_freeCtr w_same h))
        (by
        split
        · exact Answers.next (Kept.ite_ (State.monitorExchange_kept w_crown w_cuff w_route w_flt w_pwr w_same h)
              h)
        · exact Answers.next h)
  · exact by
        split
        · exact Answers.next (Kept.ite_ (State.monitorExchange_kept w_crown w_cuff w_route w_flt w_pwr w_same h)
              h)
        · exact Answers.next h

theorem execBeaconMiss_kept {w : Wr} {r : State} {dropped : Bool} {s : State} (w_crown : w.crown = true) (w_cuff : w.cuff = true) (w_route : w.route = true) (w_flt : w.flt = true) (w_pwr : w.pwr = true) (w_same : w.same = true) (h : Kept w r s) :
    Answers w r (execBeaconMiss dropped s) := by
  unfold execBeaconMiss
  split
  · exact Answers.ite_ (Answers.next (State.missEffects_kept w_crown w_cuff w_route w_flt w_pwr w_same (State.count_kept (Kept.upd h (crown := .inl w_crown)))))
        (Answers.next h)
  · exact Answers.next h

theorem execCrownLocked_kept {w : Wr} {r s : State} (w_crown : w.crown = true) (h : Kept w r s) :
    Answers w r (execCrownLocked s) := by
  unfold execCrownLocked
  lift_lets -underBinder
  intro x0; clear_value x0
  intro x1
  have h1 : Kept w r x1 := State.wr_kept h
  clear_value x1
  intro x2; clear_value x2
  exact Answers.ite_ (Answers.next (State.reportHold_kept (Kept.upd h1 (crown := .inl w_crown))))
    (Answers.next h)

theorem execCrownDrift_kept {w : Wr} {r s : State} (w_crown : w.crown = true) (w_cuff : w.cuff = true) (w_route : w.route = true) (w_flt : w.flt = true) (w_pwr : w.pwr = true) (w_same : w.same = true) (h : Kept w r s) :
    Answers w r (execCrownDrift s) := by
  unfold execCrownDrift
  exact Answers.ite_ (by
    lift_lets -underBinder
    intro x0
    have h0 : Kept w r x0 := State.wr_kept h
    clear_value x0
    intro x1; clear_value x1
    intro x2
    have h2 : Kept w r x2 := Kept.upd h0 (crown := .inl w_crown)
    clear_value x2
    exact Answers.next (Kept.ite_ (State.crownUnlock_kept w_cuff w_route w_flt w_pwr w_same h2)
      h2))
    (Answers.next h)

theorem execParentLost_kept {w : Wr} {r s : State} (w_crown : w.crown = true) (w_cuff : w.cuff = true) (w_route : w.route = true) (w_flt : w.flt = true) (w_pwr : w.pwr = true) (w_same : w.same = true) (h : Kept w r s) :
    Answers w r (execParentLost s) := by
  unfold execParentLost
  exact Answers.ite_ (by
    lift_lets -underBinder
    intro x0
    have h0 : Kept w r x0 := State.enterHoldover_kept w_crown w_cuff w_route w_flt w_pwr w_same h
    clear_value x0
    intro x1 x2; clear_value x1 x2
    exact Answers.next (State.checkRefHold_kept w_crown w_cuff w_route w_flt w_pwr w_same (Kept.upd h0 (crown := .inl w_crown))))
    (Answers.next h)

theorem execAltParentSwitch_kept {w : Wr} {r s : State} (w_crown : w.crown = true) (h : Kept w r s) :
    Answers w r (execAltParentSwitch s) := by
  unfold execAltParentSwitch
  exact Answers.ite_ (Answers.next (by
    lift_lets -underBinder
    intro x0
    have h0 : Kept w r x0 := State.wr_kept h
    clear_value x0
    intro x1; clear_value x1
    exact Kept.upd h0 (crown := .inl w_crown)))
    (Answers.next h)

theorem execMasterRelock_kept {w : Wr} {r s : State} (w_crown : w.crown = true) (h : Kept w r s) :
    Answers w r (execMasterRelock s) := by
  unfold execMasterRelock
  split
  · exact Answers.ite_ (Answers.next (by
        lift_lets -underBinder
        intro x0
        have h0 : Kept w r x0 := State.wr_kept h
        clear_value x0
        intro x1; clear_value x1
        exact Kept.upd h0 (crown := .inl w_crown)))
        (Answers.next h)
  · exact Answers.next h

theorem execHoldLimitReached_kept {w : Wr} {r s : State} (w_crown : w.crown = true) (w_cuff : w.cuff = true) (w_route : w.route = true) (w_flt : w.flt = true) (w_pwr : w.pwr = true) (w_same : w.same = true) (h : Kept w r s) :
    Answers w r (execHoldLimitReached s) := by
  unfold execHoldLimitReached
  lift_lets -underBinder
  intro x0
  have h0 : Kept w r x0 := State.reportHold_kept h
  clear_value x0
  intro x1; clear_value x1
  exact Answers.ite_ (Answers.next (State.crownUnlock_kept w_cuff w_route w_flt w_pwr w_same (Kept.upd h0 (crown := .inl w_crown))))
    (Answers.next h0)

theorem execAcqLimitReached_kept {w : Wr} {r s : State} (w_crown : w.crown = true) (w_cuff : w.cuff = true) (w_route : w.route = true) (w_flt : w.flt = true) (w_pwr : w.pwr = true) (w_same : w.same = true) (h : Kept w r s) :
    Answers w r (execAcqLimitReached s) := by
  unfold execAcqLimitReached
  exact Answers.ite_ (Answers.next (State.crownUnlock_kept w_cuff w_route w_flt w_pwr w_same (Kept.upd h (crown := .inl w_crown))))
    (Answers.next h)

theorem execMonitorTimer_kept {w : Wr} {r s : State} (w_crown : w.crown = true) (w_links : w.links = true) (h : Kept w r s) :
    Answers w r (execMonitorTimer s) := by
  unfold execMonitorTimer
  exact Answers.ite_ (by
    lift_lets -underBinder
    intro x0; clear_value x0
    exact Answers.next (State.forEach_kept h (fun _ _ h1 => by
        lift_lets -underBinder
        intro x2 x3; clear_value x2 x3
        intro x4
        have h4 : Kept w r x4 := State.setLk_kept w_links h1
        clear_value x4
        intro x5; clear_value x5
        exact Kept.upd h4 (crown := .inl w_crown))))
    (Answers.next h)

end Sys2Proof.Machine
end

