-- ==== Sys2Proof/Laws/KeptRegion.lean ====
section
/-! SUPPORT. Sys2Proof/Laws/KeptRegion.lean: what each operation of Machine/Region.lean keeps (Kept, Laws/Kept.lean). -/
set_option Elab.async false
namespace Sys2Proof.Machine

theorem State.crossCycle_kept {w : Wr} {r s : State} {g : Nat} (w_rgn : w.rgn = true) (h : Kept w r s) :
    Kept w r (State.crossCycle s g) := by
  unfold State.crossCycle
  exact Kept.ite_ (by
    lift_lets -underBinder
    intro x0 x1; clear_value x0 x1
    intro x2
    have h2 : Kept w r x2 := Kept.ite_ (State.setRg_kept w_rgn h)
      h
    clear_value x2
    intro x3; clear_value x3
    intro x4
    have h4 : Kept w r x4 := Kept.ite_ (State.setRg_kept w_rgn h2)
      h2
    clear_value x4
    intro x5; clear_value x5
    intro x6
    have h6 : Kept w r x6 := Kept.ite_ (State.setRg_kept w_rgn h4)
      h4
    clear_value x6
    intro x7; clear_value x7
    exact Kept.ite_ (Kept.ite_ (State.setRg_kept w_rgn h6)
      h6)
      (State.count_kept h4))
    h

theorem State.endCycle_kept {w : Wr} {r s : State} {g : Nat} (w_rgn : w.rgn = true) (h : Kept w r s) :
    Kept w r (State.endCycle s g) := by
  unfold State.endCycle
  lift_lets -underBinder
  intro x0
  have h0 : Kept w r x0 := State.crossCycle_kept w_rgn h
  clear_value x0
  intro x1; clear_value x1
  exact State.setRg_kept w_rgn h0

theorem State.clockSub_kept {w : Wr} {r s : State} {g : Nat} (w_rgn : w.rgn = true) (h : Kept w r s) :
    Kept w r (State.clockSub s g) := by
  unfold State.clockSub
  lift_lets -underBinder
  intro x0; clear_value x0
  exact Kept.ite_ h
    (Kept.ite_ (State.setRg_kept w_rgn h)
    (State.endCycle_kept w_rgn h))

theorem State.clocksTick_kept {w : Wr} {r s : State} (w_rgn : w.rgn = true) (h : Kept w r s) :
    Kept w r (State.clocksTick s) := by
  unfold State.clocksTick
  lift_lets -underBinder
  intro x0; clear_value x0
  exact Kept.ite_ h
    (State.forEach_kept h (fun _ _ h1 => State.forEach_kept h1 (fun _ _ h2 => State.clockSub_kept w_rgn h2)))

theorem State.setEst_kept {w : Wr} {r s : State} {g : Nat} {mark : Bool} (w_rgn : w.rgn = true) (w_same : w.same = true) (h : Kept w r s) :
    Kept w r (State.setEst s g mark) := by
  unfold State.setEst
  lift_lets -underBinder
  intro x0 x1 x2; clear_value x0 x1 x2
  intro x3
  have h3 : Kept w r x3 := State.setRg_kept w_rgn h
  clear_value x3
  intro x4
  have h4 : Kept w r x4 := State.wr_kept h3
  clear_value x4
  exact Kept.ite_ (Kept.ite_ (State.raise_kept w_same h4)
    h4)
    h3

theorem State.setEsts_kept {w : Wr} {r s : State} {mark : Bool} (w_rgn : w.rgn = true) (w_same : w.same = true) (h : Kept w r s) :
    Kept w r (State.setEsts s mark) := by
  unfold State.setEsts
  exact State.forEach_kept h (fun _ _ h0 => Kept.ite_ h0
      (State.setEst_kept w_rgn w_same h0))

theorem State.opEdge_kept {w : Wr} {r s : State} {g : Nat} (w_rgn : w.rgn = true) (w_same : w.same = true) (h : Kept w r s) :
    Kept w r (State.opEdge s g) := by
  unfold State.opEdge
  lift_lets -underBinder
  intro x0
  have h0 : Kept w r x0 := Kept.ite_ h
    (State.setEst_kept w_rgn w_same h)
  clear_value x0
  intro x1; clear_value x1
  exact State.setRg_kept w_rgn h0

theorem State.restEdge_kept {w : Wr} {r s : State} {g : Nat} (w_rgn : w.rgn = true) (h : Kept w r s) :
    Kept w r (State.restEdge s g) := by
  unfold State.restEdge
  exact State.setRg_kept w_rgn h

theorem State.crossEnd_kept {w : Wr} {r s : State} (w_rgn : w.rgn = true) (h : Kept w r s) :
    Kept w r (State.crossEnd s) := by
  unfold State.crossEnd
  exact State.forEach_kept h (fun _ _ h0 => Kept.ite_ (State.setRg_kept w_rgn h0)
      h0)

theorem execDroopDetected_kept {w : Wr} {r : State} {g : Fin 17} {s : State} (w_rgn : w.rgn = true) (h : Kept w r s) :
    Answers w r (execDroopDetected g s) := by
  unfold execDroopDetected
  lift_lets -underBinder
  intro x0; clear_value x0
  intro x1
  have h1 : Kept w r x1 := State.setRg_kept w_rgn h
  clear_value x1
  intro x2; clear_value x2
  intro x3
  have h3 : Kept w r x3 := State.setRg_kept w_rgn h1
  clear_value x3
  intro x4; clear_value x4
  intro x5
  have h5 : Kept w r x5 := State.setRg_kept w_rgn h1
  clear_value x5
  exact Answers.ite_ (Answers.next h)
    (Answers.ite_ (Answers.next h1)
    (Answers.ite_ (Answers.next (Kept.ite_ (State.count_kept h3)
    h3))
    (Answers.ite_ (Answers.ite_ (Answers.next (State.startStep_kept w_rgn (State.wr_kept h5)))
    (Answers.next h1))
    (Answers.next (State.orderStop_kept w_rgn h1)))))

theorem State.stepIfFaster_kept {w : Wr} {r s : State} {g : Nat} (w_rgn : w.rgn = true) (h : Kept w r s) :
    Kept w r (State.stepIfFaster s g) := by
  unfold State.stepIfFaster
  exact Kept.ite_ (State.startStep_kept w_rgn h)
    h

theorem execDroopStepReturn_kept {w : Wr} {r : State} {g : Fin 16} {s : State} (w_rgn : w.rgn = true) (h : Kept w r s) :
    Answers w r (execDroopStepReturn g s) := by
  unfold execDroopStepReturn
  lift_lets -underBinder
  intro x0 x1; clear_value x0 x1
  intro x2
  have h2 : Kept w r x2 := State.setRg_kept w_rgn h
  clear_value x2
  exact Answers.ite_ (Answers.next (State.stepIfFaster_kept w_rgn (State.wrb_kept h2)))
    (Answers.next h)

theorem State.thermStep_kept {w : Wr} {r s : State} {g : Nat} (w_rgn : w.rgn = true) (h : Kept w r s) :
    Kept w r (State.thermStep s g) := by
  unfold State.thermStep
  lift_lets -underBinder
  intro x0; clear_value x0
  intro x1
  have h1 : Kept w r x1 := State.wr_kept h
  clear_value x1
  intro x2; clear_value x2
  exact Kept.ite_ (State.startStep_kept w_rgn (State.setRg_kept w_rgn h1))
    (State.setRg_kept w_rgn h1)

theorem execThermalStepTimer_kept {w : Wr} {r : State} {g : Fin 16} {s : State} (w_rgn : w.rgn = true) (h : Kept w r s) :
    Answers w r (execThermalStepTimer g s) := by
  unfold execThermalStepTimer
  lift_lets -underBinder
  intro x0; clear_value x0
  exact Answers.ite_ (Answers.next (State.thermStep_kept w_rgn h))
    (Answers.next h)

theorem execDividerRestoreStep_kept {w : Wr} {r : State} {g : Fin 16} {s : State} (w_rgn : w.rgn = true) (h : Kept w r s) :
    Answers w r (execDividerRestoreStep g s) := by
  unfold execDividerRestoreStep
  lift_lets -underBinder
  intro x0 x1; clear_value x0 x1
  intro x2
  have h2 : Kept w r x2 := State.setRg_kept w_rgn h
  clear_value x2
  intro x3
  have h3 : Kept w r x3 := State.wrb_kept h2
  clear_value x3
  exact Answers.ite_ (Answers.next (State.stepIfFaster_kept w_rgn h3))
    (Answers.next h)

theorem State.showFloor_kept {w : Wr} {r s : State} {g : Nat} (h : Kept w r s) :
    Kept w r (State.showFloor s g) := by
  unfold State.showFloor
  exact State.wrb_kept h

theorem execDividerStepResume_kept {w : Wr} {r : State} {g : Fin 17} {s : State} (w_rgn : w.rgn = true) (w_same : w.same = true) (h : Kept w r s) :
    Answers w r (execDividerStepResume g s) := by
  unfold execDividerStepResume
  split
  · exact Answers.next h
  · exact Answers.ite_ (by
        lift_lets -underBinder
        intro x0; clear_value x0
        intro x1
        have h1 : Kept w r x1 := State.setEst_kept w_rgn w_same (State.setRg_kept w_rgn h)
        clear_value x1
        exact Answers.next (Kept.ite_ (State.showFloor_kept (State.wr_kept h1))
          h1))
        (Answers.next h)

theorem State.setDividers_kept {w : Wr} {r s : State} {g : Nat} {target : Nat} {floor : Nat} (w_rgn : w.rgn = true) (h : Kept w r s) :
    Kept w r (State.setDividers s g target floor) := by
  unfold State.setDividers
  lift_lets -underBinder
  intro x0
  have h0 : Kept w r x0 := State.showFloor_kept (State.wr_kept (State.wr_kept h))
  clear_value x0
  intro x1; clear_value x1
  intro x2
  have h2 : Kept w r x2 := Kept.ite_ (State.setRg_kept w_rgn h0)
    h0
  clear_value x2
  exact State.stepIfSlower_kept w_rgn h2

theorem execRgnClkWrite_kept {w : Wr} {r : State} {g : Fin 16} {target : Nat} {floor : Nat} {s : State} (w_rgn : w.rgn = true) (w_same : w.same = true) (h : Kept w r s) :
    Answers w r (execRgnClkWrite g target floor s) := by
  unfold execRgnClkWrite
  exact Answers.next (State.busWrite_kept w_same h (fun _ h0 => State.runLocked_kept w_same h0 (fun _ h1 => Kept.ite_ (State.flag_kept w_same h1)
        (State.setDividers_kept w_rgn h1))))

theorem execEstimateCorrection_kept {w : Wr} {r s : State} (w_rgn : w.rgn = true) (w_same : w.same = true) (h : Kept w r s) :
    Answers w r (execEstimateCorrection s) := by
  unfold execEstimateCorrection
  exact Answers.ite_ (Answers.next (State.setEsts_kept w_rgn w_same h))
    (Answers.next h)

end Sys2Proof.Machine
end

