-- ==== Sys2Proof/Laws/KeptRouter.lean ====
section
/-! SUPPORT. Sys2Proof/Laws/KeptRouter.lean: what each operation of Machine/Router.lean keeps (Kept, Laws/Kept.lean). -/
set_option Elab.async false
namespace Sys2Proof.Machine

theorem State.dropLast_kept {w : Wr} {r s : State} {cause : Nat} {link : Nat} {f : Flit} (h : Kept w r s) :
    Kept w r (State.dropLast s cause link f) := by
  unfold State.dropLast
  exact State.setReg_kept h

theorem State.dropTtl_kept {w : Wr} {r s : State} {link : Nat} {f : Flit} (w_cuff : w.cuff = true) (w_route : w.route = true) (w_flt : w.flt = true) (w_pwr : w.pwr = true) (w_same : w.same = true) (h : Kept w r s) :
    Kept w r (State.dropTtl s link f) := by
  unfold State.dropTtl
  lift_lets -underBinder
  intro x0
  have h0 : Kept w r x0 := State.dropLast_kept (State.count_kept h)
  clear_value x0
  intro x1 x2; clear_value x1 x2
  exact Kept.ite_ h0
    (State.fault_kept w_cuff w_route w_flt w_pwr w_same (Kept.upd h0 (route := .inl w_route)))

theorem State.dropMitten_kept {w : Wr} {r s : State} {link : Nat} {f : Flit} (w_links : w.links = true) (w_cuff : w.cuff = true) (w_route : w.route = true) (w_flt : w.flt = true) (w_pwr : w.pwr = true) (w_same : w.same = true) (h : Kept w r s) :
    Kept w r (State.dropMitten s link f) := by
  unfold State.dropMitten
  exact State.mittenViol_kept w_links w_cuff w_route w_flt w_pwr w_same (State.dropLast_kept (State.count_kept h))

theorem State.dropRoute_kept {w : Wr} {r s : State} {link : Nat} {f : Flit} (h : Kept w r s) :
    Kept w r (State.dropRoute s link f) := by
  unfold State.dropRoute
  exact State.dropLast_kept (State.count_kept h)

theorem State.dropVc_kept {w : Wr} {r s : State} {link : Nat} {f : Flit} (h : Kept w r s) :
    Kept w r (State.dropVc s link f) := by
  unfold State.dropVc
  exact State.dropLast_kept (State.count_kept h)

theorem State.dropFull_kept {w : Wr} {r s : State} {link : Nat} {f : Flit} (h : Kept w r s) :
    Kept w r (State.dropFull s link f) := by
  unfold State.dropFull
  exact State.dropLast_kept (State.count_kept h)

theorem State.readRoute_kept {w : Wr} {r s : State} {f : Flit} (w_cuff : w.cuff = true) (w_route : w.route = true) (w_flt : w.flt = true) (w_pwr : w.pwr = true) (w_mem : w.mem = true) (w_same : w.same = true) (h : Kept w r s) :
    KeptP w r (State.readRoute s f) := by
  unfold State.readRoute
  exact State.guardTab_kept w_cuff w_route w_flt w_pwr w_mem w_same h

theorem State.examine_kept {w : Wr} {r s : State} {link : Nat} {f : Flit} (w_links : w.links = true) (w_cuff : w.cuff = true) (w_route : w.route = true) (w_flt : w.flt = true) (w_pwr : w.pwr = true) (w_mem : w.mem = true) (w_same : w.same = true) (h : Kept w r s) :
    KeptP w r (State.examine s link f) := by
  unfold State.examine
  exact KeptP.ite_ (State.dropMitten_kept w_links w_cuff w_route w_flt w_pwr w_same h)
    (KeptP.ite_ (State.dropTtl_kept w_cuff w_route w_flt w_pwr w_same h)
    (State.readRoute_kept w_cuff w_route w_flt w_pwr w_mem w_same h))

theorem State.readLoose_kept {w : Wr} {r s : State} {x : Store} {inst : Nat} {q : Nat} {f : Flit} (w_cuff : w.cuff = true) (w_route : w.route = true) (w_flt : w.flt = true) (w_pwr : w.pwr = true) (w_mem : w.mem = true) (w_same : w.same = true) (h : Kept w r s) :
    KeptP w r (State.readLoose s x inst q f) := by
  unfold State.readLoose
  lift_lets -underBinder
  intro x0
  have h0 : KeptP w r x0 := State.guardWords_kept w_cuff w_route w_flt w_pwr w_mem w_same h
  clear_value x0
  exact State.dropUpsets_kept w_mem h0

theorem State.setNi_kept {w : Wr} {r s : State} {vc : Nat} {q : List (Nat × Flit)} (w_route : w.route = true) (h : Kept w r s) :
    Kept w r (State.setNi s vc q) := by
  unfold State.setNi
  exact Kept.upd h (route := .inl w_route)

theorem State.busyReply_kept {w : Wr} {r s : State} {f : Flit} (w_route : w.route = true) (w_freeCtr : w.freeCtr = true) (h : Kept w r s) :
    Kept w r (State.busyReply s f) := by
  unfold State.busyReply
  lift_lets -underBinder
  intro x0 x1 x2; clear_value x0 x1 x2
  intro x3
  have h3 : Kept w r x3 := State.tickFree_kept w_freeCtr h
  clear_value x3
  intro x4; clear_value x4
  exact Kept.upd h3 (route := .inl w_route)

theorem State.niAccept_kept {w : Wr} {r s : State} {link : Nat} {f : Flit} (w_route : w.route = true) (w_freeCtr : w.freeCtr = true) (h : Kept w r s) :
    KeptO w r (State.niAccept s link f) := by
  unfold State.niAccept
  lift_lets -underBinder
  intro x0 x1; clear_value x0 x1
  intro x2
  have h2 : Kept w r x2 := Kept.upd h (route := .inl w_route)
  clear_value x2
  exact KeptO.ite_ (KeptO.ite_ (KeptO.some (State.setNi_kept w_route h2))
    (KeptO.some (State.dropLast_kept (State.count_kept h))))
    (KeptO.ite_ (KeptO.some (State.setNi_kept w_route h))
    (KeptO.ite_ (KeptO.ite_ (KeptO.some (State.count_kept (State.busyReply_kept w_route w_freeCtr h)))
    (KeptO.none))
    (KeptO.some (State.dropFull_kept h))))

theorem State.eject_kept {w : Wr} {r s : State} {st : Nat} {link : Nat} {f : Flit} (w_route : w.route = true) (w_freeCtr : w.freeCtr = true) (h : Kept w r s) :
    KeptO w r (State.eject s st link f) := by
  unfold State.eject
  lift_lets -underBinder
  intro x0; clear_value x0
  exact KeptO.ite_ (KeptO.none)
    (by
    split
    · rename_i heq; have h1 : (Kept w r) _ := of_ (KeptO w r) (State.niAccept_kept w_route w_freeCtr h) heq; exact KeptO.some (State.count_kept (Kept.upd h1 (route := .inl w_route)))
    · exact KeptO.none)

theorem State.setTurn_kept {w : Wr} {r s : State} {t : List (Nat × Flit)} (w_route : w.route = true) (w_flt : w.flt = true) (w_same : w.same = true) (h : Kept w r s) :
    Kept w r (State.setTurn s t) := by
  unfold State.setTurn
  lift_lets -underBinder
  intro x0; clear_value x0
  intro x1
  have h1 : Kept w r x1 := State.wr_kept (Kept.upd h (route := .inl w_route))
  clear_value x1
  exact State.telRaise_kept w_flt (State.raise_kept w_same h1)

theorem State.turnIn_kept {w : Wr} {r s : State} {link : Nat} {f : Flit} (w_route : w.route = true) (w_flt : w.flt = true) (w_same : w.same = true) (h : Kept w r s) :
    Kept w r (State.turnIn s link f) := by
  unfold State.turnIn
  exact State.count_kept (State.setTurn_kept w_route w_flt w_same h)

theorem State.sendLoose_kept {w : Wr} {r s : State} {l : Nat} {st : Nat} {lat : Bool} {f : Flit} (w_links : w.links = true) (h : Kept w r s) :
    Kept w r (State.sendLoose s l st lat f) := by
  unfold State.sendLoose
  exact State.countLoose_kept (State.txNew_kept w_links h)

theorem State.setVcBuf_kept {w : Wr} {r s : State} {l : Nat} {v : Nat} {q : List Flit} (w_links : w.links = true) (w_same : w.same = true) (h : Kept w r s) :
    Kept w r (State.setVcBuf s l v q) := by
  unfold State.setVcBuf
  lift_lets -underBinder
  intro x0; clear_value x0
  intro x1
  have h1 : Kept w r x1 := State.setLk_kept w_links h
  clear_value x1
  exact State.raise_kept w_same (State.wr_kept h1)

theorem State.popVc_kept {w : Wr} {r s : State} {l : Nat} {v : Nat} (w_links : w.links = true) (w_same : w.same = true) (h : Kept w r s) :
    Kept w r (State.popVc s l v) := by
  unfold State.popVc
  lift_lets -underBinder
  intro x0
  have h0 : Kept w r x0 := State.setVcBuf_kept w_links w_same h
  clear_value x0
  intro x1; clear_value x1
  exact State.setLk_kept w_links h0

theorem State.takeVc_kept {w : Wr} {r s : State} {l : Nat} {v : Nat} {f : Flit} (w_links : w.links = true) (w_cuff : w.cuff = true) (w_route : w.route = true) (w_flt : w.flt = true) (w_pwr : w.pwr = true) (w_mem : w.mem = true) (w_same : w.same = true) (h : Kept w r s) :
    KeptP w r (State.takeVc s l v f) := by
  unfold State.takeVc
  exact State.readLoose_kept w_cuff w_route w_flt w_pwr w_mem w_same (State.popVc_kept w_links w_same h)

theorem State.ejectRead_kept {w : Wr} {r : State} {r0 : State × Option Flit} {st : Nat} {l : Nat} (w_route : w.route = true) (w_freeCtr : w.freeCtr = true) (h : KeptP w r r0) :
    Kept w r (State.ejectRead r0 st l) := by
  unfold State.ejectRead
  split
  · exact KeptO.getD (State.eject_kept w_route w_freeCtr h) h
  · exact h

theorem State.serveHead_kept {w : Wr} {r s : State} {st l v n : Nat} (w_links : w.links = true) (w_cuff : w.cuff = true) (w_route : w.route = true) (w_flt : w.flt = true) (w_pwr : w.pwr = true) (w_mem : w.mem = true) (w_freeCtr : w.freeCtr = true) (w_same : w.same = true) (h : Kept w r s) :
    Kept w r (s.serveHead st l v n) := by
  induction n generalizing s with
  | zero => exact h
  | succ n ih =>
    unfold State.serveHead
    split
    · exact h
    · lift_lets -underBinder
      intro x0
      have h0 : KeptP w r x0 := State.examine_kept w_links w_cuff w_route w_flt w_pwr w_mem w_same h
      clear_value x0
      refine Kept.ite_ (ih (State.takeVc_kept w_links w_cuff w_route w_flt w_pwr w_mem w_same h0)) ?_
      split
      · exact Kept.ite_ (ih (State.ejectRead_kept w_route w_freeCtr (State.takeVc_kept w_links w_cuff w_route w_flt w_pwr w_mem w_same h0))) h0
      · exact ih (State.takeVc_kept w_links w_cuff w_route w_flt w_pwr w_mem w_same (State.dropRoute_kept h0))
      · exact h0

theorem State.serveFar_kept {w : Wr} {r s : State} {st : Nat} (w_links : w.links = true) (w_cuff : w.cuff = true) (w_route : w.route = true) (w_flt : w.flt = true) (w_pwr : w.pwr = true) (w_mem : w.mem = true) (w_freeCtr : w.freeCtr = true) (w_same : w.same = true) (h : Kept w r s) :
    Kept w r (State.serveFar s st) := by
  unfold State.serveFar
  exact State.forEach_kept h (fun _ _ h0 => State.forEach_kept h0 (fun _ _ h1 => State.serveHead_kept w_links w_cuff w_route w_flt w_pwr w_mem w_freeCtr w_same h1))

theorem State.sweepAlarms_kept {w : Wr} {r s : State} (w_links : w.links = true) (w_cuff : w.cuff = true) (w_route : w.route = true) (w_flt : w.flt = true) (w_pwr : w.pwr = true) (w_mem : w.mem = true) (w_same : w.same = true) (h : Kept w r s) :
    Kept w r (State.sweepAlarms s) := by
  unfold State.sweepAlarms
  exact State.forEach_kept h (fun _ _ h0 => by
      lift_lets -underBinder
      intro x1
      have h1 : KeptP w r x1 := State.examine_kept w_links w_cuff w_route w_flt w_pwr w_mem w_same h0
      clear_value x1
      intro x2
      have h2 : Kept w r x2 := h1
      clear_value x2
      intro x3; clear_value x3
      exact Kept.ite_ h1
        (Kept.upd h2 (route := .inl w_route)))

theorem State.popInj_kept {w : Wr} {r s : State} {v : Nat} (w_route : w.route = true) (h : Kept w r s) :
    Kept w r (State.popInj s v) := by
  unfold State.popInj
  exact Kept.upd h (route := .inl w_route)

theorem State.stamp_kept {w : Wr} {r s : State} {i : Inj} (w_route : w.route = true) (w_freeCtr : w.freeCtr = true) (h : Kept w r s) :
    Kept w r (State.stamp s i) := by
  unfold State.stamp
  lift_lets -underBinder
  intro x0 x1 x2 x3 x4 x5; clear_value x0 x1 x2 x3 x4 x5
  intro x6
  have h6 : Kept w r x6 := State.count_kept (Kept.upd h (route := .inl w_route))
  clear_value x6
  intro x7 x8; clear_value x7 x8
  intro x9
  have h9 : Kept w r x9 := Kept.upd h6 (route := .inl w_route)
  clear_value x9
  intro x10; clear_value x10
  intro x11
  have h11 : Kept w r x11 := Kept.upd h9 (route := .inl w_route)
  clear_value x11
  exact Kept.ite_ (KeptO.getD (State.niAccept_kept w_route w_freeCtr h9) h11)
    h11

theorem State.retryWait_kept {w : Wr} {r s : State} (w_route : w.route = true) (w_freeCtr : w.freeCtr = true) (h : Kept w r s) :
    Kept w r (State.retryWait s) := by
  unfold State.retryWait
  lift_lets -underBinder
  intro x0 x1; clear_value x0 x1
  exact Kept.foldl_ (Kept.upd h (route := .inl w_route)) fun _ _ h2 =>
    Kept.ite_ (State.stamp_kept w_route w_freeCtr h2)
    (Kept.upd h2 (route := .inl w_route))

theorem State.injHop_kept {w : Wr} {r s : State} {v n : Nat} (w_links : w.links = true) (w_cuff : w.cuff = true) (w_route : w.route = true) (w_flt : w.flt = true) (w_pwr : w.pwr = true) (w_mem : w.mem = true) (w_same : w.same = true) (h : Kept w r s) :
    KeptP w r (s.injHop v n) := by
  induction n generalizing s with
  | zero => exact h
  | succ n ih =>
    unfold State.injHop
    split
    · exact h
    · lift_lets -underBinder
      intro x0
      have h0 : KeptP w r x0 := State.examine_kept w_links w_cuff w_route w_flt w_pwr w_mem w_same h
      clear_value x0
      refine KeptP.ite_ (ih (State.popInj_kept w_route h0)) ?_
      split
      · exact ih (State.popInj_kept w_route (State.dropRoute_kept h0))
      · exact h0

theorem State.sweepInj_kept {w : Wr} {r s : State} (w_links : w.links = true) (w_cuff : w.cuff = true) (w_route : w.route = true) (w_flt : w.flt = true) (w_pwr : w.pwr = true) (w_mem : w.mem = true) (w_same : w.same = true) (h : Kept w r s) :
    Kept w r (State.sweepInj s) := by
  unfold State.sweepInj
  exact State.forEach_kept h (fun _ _ h0 => State.injHop_kept w_links w_cuff w_route w_flt w_pwr w_mem w_same h0)

theorem State.takeCand_kept {w : Wr} {r s : State} {c : Cand} (w_links : w.links = true) (w_cuff : w.cuff = true) (w_route : w.route = true) (w_flt : w.flt = true) (w_pwr : w.pwr = true) (w_mem : w.mem = true) (w_same : w.same = true) (h : Kept w r s) :
    KeptP w r (State.takeCand s c) := by
  unfold State.takeCand
  split
  · exact h
  · exact State.readLoose_kept w_cuff w_route w_flt w_pwr w_mem w_same (State.setTurn_kept w_route w_flt w_same h)
  · exact State.takeVc_kept w_links w_cuff w_route w_flt w_pwr w_mem w_same h
  · exact State.popInj_kept w_route h
  · exact h

theorem Assign.depart_kept {w : Wr} {r : State} {a : Assign} {st : Nat} {c : Cand} {l : Nat} (w_links : w.links = true) (w_cuff : w.cuff = true) (w_route : w.route = true) (w_flt : w.flt = true) (w_pwr : w.pwr = true) (w_mem : w.mem = true) (w_same : w.same = true) (h : KeptAsg w r a) :
    KeptAsg w r (Assign.depart a st c l) := by
  unfold Assign.depart
  lift_lets -underBinder
  intro x0
  have h0 : KeptP w r x0 := State.takeCand_kept w_links w_cuff w_route w_flt w_pwr w_mem w_same h
  clear_value x0
  exact by
    split
    · exact KeptAsg.mk (State.sendLoose_kept w_links h0)
    · exact KeptAsg.mk h0

theorem Assign.deflect_kept {w : Wr} {r : State} {a : Assign} {st : Nat} {c : Cand} (w_links : w.links = true) (w_cuff : w.cuff = true) (w_route : w.route = true) (w_flt : w.flt = true) (w_pwr : w.pwr = true) (w_mem : w.mem = true) (w_same : w.same = true) (h : KeptAsg w r a) :
    KeptAsg w r (Assign.deflect a st c) := by
  unfold Assign.deflect
  split
  · exact by
        lift_lets -underBinder
        intro x0
        have h0 : KeptAsg w r x0 := Assign.depart_kept w_links w_cuff w_route w_flt w_pwr w_mem w_same h
        clear_value x0
        exact KeptAsg.mk (State.count_kept h0)
  · exact KeptAsg.ite_ (KeptAsg.mk (State.turnIn_kept w_route w_flt w_same h))
        (by
        split
        · exact KeptAsg.mk (State.count_kept (State.sendLoose_kept w_links h))
        · exact KeptAsg.mk (State.dropLast_kept (State.count_kept h)))

theorem Assign.place_kept {w : Wr} {r : State} {a : Assign} {st : Nat} {c : Cand} (w_links : w.links = true) (w_cuff : w.cuff = true) (w_route : w.route = true) (w_flt : w.flt = true) (w_pwr : w.pwr = true) (w_mem : w.mem = true) (w_freeCtr : w.freeCtr = true) (w_same : w.same = true) (h : KeptAsg w r a) :
    KeptAsg w r (Assign.place a st c) := by
  unfold Assign.place
  lift_lets -underBinder
  intro x0
  have h0 : KeptP w r x0 := State.examine_kept w_links w_cuff w_route w_flt w_pwr w_mem w_same h
  clear_value x0
  intro x1
  have h1 : KeptAsg w r x1 := KeptAsg.mk h0
  clear_value x1
  exact KeptAsg.ite_ (KeptAsg.mk (State.takeCand_kept w_links w_cuff w_route w_flt w_pwr w_mem w_same h1))
    (by
    split
    · exact KeptAsg.ite_ (KeptAsg.mk (State.ejectRead_kept w_route w_freeCtr (State.takeCand_kept w_links w_cuff w_route w_flt w_pwr w_mem w_same h1)))
          (by
          split
          · exact Assign.deflect_kept w_links w_cuff w_route w_flt w_pwr w_mem w_same h1
          · exact h1)
    · exact by
          split
          · exact Assign.depart_kept w_links w_cuff w_route w_flt w_pwr w_mem w_same h1
          · exact by
                split
                · exact Assign.deflect_kept w_links w_cuff w_route w_flt w_pwr w_mem w_same h1
                · exact h1
    · exact KeptAsg.mk (State.takeCand_kept w_links w_cuff w_route w_flt w_pwr w_mem w_same (State.dropRoute_kept h1)))

theorem State.releaseOne_kept {w : Wr} {r : State} {a : State × List Cand} {st : Nat} {l : Nat} (w_links : w.links = true) (w_cuff : w.cuff = true) (w_route : w.route = true) (w_flt : w.flt = true) (w_pwr : w.pwr = true) (w_mem : w.mem = true) (w_same : w.same = true) (h : KeptP w r a) :
    KeptP w r (State.releaseOne a st l) := by
  unfold State.releaseOne
  split
  · exact KeptP.ite_ (by
        lift_lets -underBinder
        intro x0; clear_value x0
        intro x1
        have h1 : KeptP w r x1 := State.readLoose_kept w_cuff w_route w_flt w_pwr w_mem w_same (State.setLk_kept w_links h)
        clear_value x1
        exact h1)
        h
  · exact h

theorem State.release_kept {w : Wr} {r s : State} {st : Nat} (w_links : w.links = true) (w_cuff : w.cuff = true) (w_route : w.route = true) (w_flt : w.flt = true) (w_pwr : w.pwr = true) (w_mem : w.mem = true) (w_same : w.same = true) (h : Kept w r s) :
    KeptP w r (State.release s st) := by
  unfold State.release
  exact KeptP.foldl_ h fun _ _ h0 =>
    State.releaseOne_kept w_links w_cuff w_route w_flt w_pwr w_mem w_same h0

theorem Assign.alarms_kept {w : Wr} {r : State} {a : Assign} {st : Nat} (w_links : w.links = true) (w_route : w.route = true) (h : KeptAsg w r a) :
    KeptAsg w r (Assign.alarms a st) := by
  unfold Assign.alarms
  lift_lets -underBinder
  intro x0; clear_value x0
  intro x1
  have h1 : Kept w r x1 := h
  clear_value x1
  intro x2; clear_value x2
  exact KeptAsg.foldl_ (KeptAsg.mk (Kept.upd h1 (route := .inl w_route))) fun _ _ h3 =>
    by
    split
    · exact KeptAsg.mk (State.sendLoose_kept w_links h3)
    · exact KeptAsg.mk (by
          lift_lets -underBinder
          intro x4
          have h4 : Kept w r x4 := h3
          clear_value x4
          intro x5; clear_value x5
          exact Kept.upd h4 (route := .inl w_route))

theorem Assign.inject_kept {w : Wr} {r : State} {a : Assign} {st : Nat} {v : Nat} (w_links : w.links = true) (w_cuff : w.cuff = true) (w_route : w.route = true) (w_flt : w.flt = true) (w_pwr : w.pwr = true) (w_mem : w.mem = true) (w_freeCtr : w.freeCtr = true) (w_same : w.same = true) (h : KeptAsg w r a) :
    KeptAsg w r (Assign.inject a st v) := by
  unfold Assign.inject
  lift_lets -underBinder
  intro x0
  have h0 : KeptP w r x0 := State.injHop_kept w_links w_cuff w_route w_flt w_pwr w_mem w_same h
  clear_value x0
  exact by
    split
    · exact Assign.place_kept w_links w_cuff w_route w_flt w_pwr w_mem w_freeCtr w_same (KeptAsg.mk h0)
    · exact Assign.place_kept w_links w_cuff w_route w_flt w_pwr w_mem w_freeCtr w_same (KeptAsg.mk h0)
    · exact KeptAsg.mk h0

theorem State.ageTurn_kept {w : Wr} {r s : State} (w_route : w.route = true) (h : Kept w r s) :
    Kept w r (State.ageTurn s) := by
  unfold State.ageTurn
  exact Kept.upd h (route := .inl w_route)

theorem State.assignLattice_kept {w : Wr} {r s : State} {st : Nat} (w_links : w.links = true) (w_cuff : w.cuff = true) (w_route : w.route = true) (w_flt : w.flt = true) (w_pwr : w.pwr = true) (w_mem : w.mem = true) (w_freeCtr : w.freeCtr = true) (w_same : w.same = true) (h : Kept w r s) :
    Kept w r (State.assignLattice s st) := by
  unfold State.assignLattice
  lift_lets -underBinder
  intro x0; clear_value x0
  intro x1
  have h1 : Kept w r x1 := Kept.upd h (route := .inl w_route)
  clear_value x1
  intro x2 x3 x4 x5 x6; clear_value x2 x3 x4 x5 x6
  intro x7
  have h7 : KeptP w r x7 := State.release_kept w_links w_cuff w_route w_flt w_pwr w_mem w_same (State.sweepAlarms_kept w_links w_cuff w_route w_flt w_pwr w_mem w_same h1)
  clear_value x7
  intro x8
  have h8 : KeptAsg w r x8 := KeptAsg.mk h7
  clear_value x8
  intro x9
  have h9 : KeptAsg w r x9 := KeptAsg.foldl_ h8 fun _ _ h10 =>
    Assign.place_kept w_links w_cuff w_route w_flt w_pwr w_mem w_freeCtr w_same h10
  clear_value x9
  intro x11
  have h11 : KeptAsg w r x11 := KeptAsg.foldl_ h9 fun _ _ h12 =>
    Assign.place_kept w_links w_cuff w_route w_flt w_pwr w_mem w_freeCtr w_same h12
  clear_value x11
  intro x13
  have h13 : KeptAsg w r x13 := KeptAsg.mk (State.serveFar_kept w_links w_cuff w_route w_flt w_pwr w_mem w_freeCtr w_same h11)
  clear_value x13
  intro x14
  have h14 : KeptAsg w r x14 := KeptAsg.foldl_ h13 fun _ _ h15 =>
    Assign.place_kept w_links w_cuff w_route w_flt w_pwr w_mem w_freeCtr w_same h15
  clear_value x14
  intro x16
  have h16 : KeptAsg w r x16 := Assign.alarms_kept w_links w_route h14
  clear_value x16
  intro x17
  have h17 : KeptAsg w r x17 := KeptAsg.foldl_ h16 fun _ _ h18 =>
    Assign.inject_kept w_links w_cuff w_route w_flt w_pwr w_mem w_freeCtr w_same h18
  clear_value x17
  intro x19; clear_value x19
  intro x20
  have h20 : Kept w r x20 := State.forEach_kept h17 (fun _ _ h21 => State.resendNext_kept w_links w_cuff w_route w_flt w_pwr w_mem w_same h21)
  clear_value x20
  intro x22
  have h22 : Kept w r x22 := State.ageTurn_kept w_route h20
  clear_value x22
  exact Kept.ite_ h22
    (State.count_kept h22)

theorem State.sweep_kept {w : Wr} {r s : State} (w_links : w.links = true) (w_cuff : w.cuff = true) (w_route : w.route = true) (w_flt : w.flt = true) (w_pwr : w.pwr = true) (w_mem : w.mem = true) (w_same : w.same = true) (h : Kept w r s) :
    Kept w r (State.sweep s) := by
  unfold State.sweep
  exact State.sweepInj_kept w_links w_cuff w_route w_flt w_pwr w_mem w_same (State.forEach_kept h (fun _ _ h0 => by
      lift_lets -underBinder
      intro x1
      have h1 : KeptP w r x1 := State.examine_kept w_links w_cuff w_route w_flt w_pwr w_mem w_same h0
      clear_value x1
      exact Kept.ite_ h1
        (State.dropUpsets_kept w_mem (State.setTurn_kept w_route w_flt w_same h1))))

theorem State.sendCand_kept {w : Wr} {r s : State} {l : Nat} {st : Nat} {c : Cand} (w_links : w.links = true) (w_cuff : w.cuff = true) (w_route : w.route = true) (w_flt : w.flt = true) (w_pwr : w.pwr = true) (w_mem : w.mem = true) (w_same : w.same = true) (h : Kept w r s) :
    Kept w r (State.sendCand s l st c) := by
  unfold State.sendCand
  lift_lets -underBinder
  intro x0
  have h0 : KeptP w r x0 := State.takeCand_kept w_links w_cuff w_route w_flt w_pwr w_mem w_same h
  clear_value x0
  exact by
    split
    · exact State.sendLoose_kept w_links h0
    · exact h0

theorem State.oppSend_kept {w : Wr} {r s : State} {l : Nat} {st : Nat} (w_links : w.links = true) (w_cuff : w.cuff = true) (w_route : w.route = true) (w_flt : w.flt = true) (w_pwr : w.pwr = true) (w_mem : w.mem = true) (w_freeCtr : w.freeCtr = true) (w_same : w.same = true) (h : Kept w r s) :
    Kept w r (State.oppSend s l st) := by
  unfold State.oppSend
  lift_lets -underBinder
  intro x0
  have h0 : Kept w r x0 := State.sweepAlarms_kept w_links w_cuff w_route w_flt w_pwr w_mem w_same h
  clear_value x0
  intro x1; clear_value x1
  exact Kept.ite_ h0
    (by
    split
    · exact Kept.ite_ (State.sendLoose_kept w_links (Kept.upd h0 (route := .inl w_route)))
          h0
    · exact Kept.ite_ (State.resendNext_kept w_links w_cuff w_route w_flt w_pwr w_mem w_same h0)
          (Kept.ite_ h0
          (by
          lift_lets -underBinder
          intro x2
          have h2 : Kept w r x2 := State.sweep_kept w_links w_cuff w_route w_flt w_pwr w_mem w_same h0
          clear_value x2
          exact by
            split
            · exact State.tickFree_kept w_freeCtr (State.sendCand_kept w_links w_cuff w_route w_flt w_pwr w_mem w_same h2)
            · exact State.tickFree_kept w_freeCtr h2)))

theorem State.takeAlarm_kept {w : Wr} {r s : State} {c : Cand} {l : Nat} (w_route : w.route = true) (h : Kept w r s) :
    Kept w r (State.takeAlarm s c l) := by
  unfold State.takeAlarm
  split
  · exact Kept.upd h (route := .inl w_route)
  · exact h

theorem State.farSend_kept {w : Wr} {r s : State} {l : Nat} {st : Nat} (w_links : w.links = true) (w_cuff : w.cuff = true) (w_route : w.route = true) (w_flt : w.flt = true) (w_pwr : w.pwr = true) (w_mem : w.mem = true) (w_freeCtr : w.freeCtr = true) (w_same : w.same = true) (h : Kept w r s) :
    Kept w r (State.farSend s l st) := by
  unfold State.farSend
  exact Kept.ite_ h
    (by
    lift_lets -underBinder
    intro x0
    have h0 : Kept w r x0 := State.sweepInj_kept w_links w_cuff w_route w_flt w_pwr w_mem w_same (State.sweepAlarms_kept w_links w_cuff w_route w_flt w_pwr w_mem w_same h)
    clear_value x0
    intro x1 x2 x3; clear_value x1 x2 x3
    intro x4
    have h4 : Kept w r x4 := State.when_kept h0 (fun _ h5 => State.count_kept h5)
    clear_value x4
    intro x6
    have h6 : Kept w r x6 := State.when_kept h4 (fun _ h7 => State.count_kept h7)
    clear_value x6
    exact Kept.ite_ (State.resendNext_kept w_links w_cuff w_route w_flt w_pwr w_mem w_same h0)
      (Kept.ite_ h0
      (by
      split
      · exact State.tickFree_kept w_freeCtr h6
      · exact by
            lift_lets -underBinder
            intro x8
            have h8 : Kept w r x8 := Kept.ite_ (State.takeAlarm_kept w_route h6)
              h6
            clear_value x8
            intro x9
            have h9 : KeptP w r x9 := State.takeCand_kept w_links w_cuff w_route w_flt w_pwr w_mem w_same h8
            clear_value x9
            intro x10; clear_value x10
            intro x11
            have h11 : Kept w r x11 := Kept.ite_ (State.setLk_kept w_links h9)
              h9
            clear_value x11
            exact by
              split
              · exact State.tickFree_kept w_freeCtr (State.sendLoose_kept w_links (State.wr_kept h11))
              · exact State.tickFree_kept w_freeCtr h11)))

theorem State.offer_kept {w : Wr} {r s : State} {l : Nat} {st : Nat} {f : Flit} (w_links : w.links = true) (w_cuff : w.cuff = true) (w_route : w.route = true) (w_flt : w.flt = true) (w_pwr : w.pwr = true) (w_freeCtr : w.freeCtr = true) (w_same : w.same = true) (h : Kept w r s) :
    KeptP w r (State.offer s l st f) := by
  unfold State.offer
  exact KeptP.ite_ (State.dropMitten_kept w_links w_cuff w_route w_flt w_pwr w_same h)
    (KeptP.ite_ (State.dropVc_kept h)
    (KeptP.ite_ (KeptP.ite_ (State.count_kept (State.setVcBuf_kept w_links w_same h))
    h)
    (KeptP.ite_ (by
    lift_lets -underBinder
    intro x0 x1; clear_value x0 x1
    exact State.count_kept (State.setLk_kept w_links h))
    (KeptP.ite_ (KeptP.ite_ (State.dropTtl_kept w_cuff w_route w_flt w_pwr w_same h)
    (by
    split
    · rename_i heq; have h2 : (Kept w r) _ := of_ (KeptO w r) (State.eject_kept w_route w_freeCtr h) heq; exact State.count_kept h2
    · exact h))
    (KeptP.ite_ (State.count_kept (State.turnIn_kept w_route w_flt w_same h))
    h)))))

theorem State.niRead_kept {w : Wr} {r s : State} {vc : Nat} {p : Flit → Bool} (w_cuff : w.cuff = true) (w_route : w.route = true) (w_flt : w.flt = true) (w_pwr : w.pwr = true) (w_mem : w.mem = true) (w_same : w.same = true) (h : Kept w r s) :
    KeptOP w r (State.niRead s vc p) := by
  unfold State.niRead
  split
  · exact KeptOP.none
  · exact by
        lift_lets -underBinder
        intro x0
        have h0 : KeptP w r x0 := State.readLoose_kept w_cuff w_route w_flt w_pwr w_mem w_same (State.setNi_kept w_route h)
        clear_value x0
        exact KeptOP.some h0

theorem State.niTake_kept {w : Wr} {r s : State} {vc : Nat} {p : Flit → Bool} (w_cuff : w.cuff = true) (w_route : w.route = true) (w_flt : w.flt = true) (w_pwr : w.pwr = true) (w_mem : w.mem = true) (w_same : w.same = true) (h : Kept w r s) :
    KeptOP w r (State.niTake s vc p) := by
  unfold State.niTake
  split
  · rename_i heq; have h0 : (Kept w r) _ := of_ (KeptOP w r) (State.niRead_kept w_cuff w_route w_flt w_pwr w_mem w_same h) heq; exact KeptOP.some h0
  · exact KeptOP.none

theorem State.niLost_kept {w : Wr} {r s : State} {vc : Nat} {p : Flit → Bool} (w_cuff : w.cuff = true) (w_route : w.route = true) (w_flt : w.flt = true) (w_pwr : w.pwr = true) (w_mem : w.mem = true) (w_same : w.same = true) (h : Kept w r s) :
    Kept w r (State.niLost s vc p) := by
  unfold State.niLost
  split
  · rename_i heq; have h0 : (Kept w r) _ := of_ (KeptOP w r) (State.niRead_kept w_cuff w_route w_flt w_pwr w_mem w_same h) heq; exact h0
  · exact h

end Sys2Proof.Machine
end

