-- ==== Sys2Proof/Laws/KeptSched.lean ====
section
/-! SUPPORT. Sys2Proof/Laws/KeptSched.lean: what each operation of Machine/Sched.lean keeps (Kept, Laws/Kept.lean). -/
set_option Elab.async false
namespace Sys2Proof.Machine

theorem State.bar2Write_kept {w : Wr} {r s : State} {d : Nat} {o : Nat} {f : State → State} (w_same : w.same = true) (h : Kept w r s) (hf : ∀ y1, Kept w r y1 → Kept w r (f y1)) :
    Kept w r (State.bar2Write s d o f) := by
  unfold State.bar2Write
  exact Kept.ite_ h
    (Kept.ite_ (hf _ h)
    (State.accErr_kept w_same h))

theorem State.palmDrainQ_kept {w : Wr} {r s : State} {l q n : Nat} (w_links : w.links = true) (w_cuff : w.cuff = true) (w_route : w.route = true) (w_flt : w.flt = true) (w_pwr : w.pwr = true) (w_mem : w.mem = true) (w_palm : w.palm = true) (w_same : w.same = true) (h : Kept w r s) :
    Kept w r (s.palmDrainQ l q n) := by
  induction n generalizing s with
  | zero => exact h
  | succ n ih =>
    unfold State.palmDrainQ
    split
    · exact h
    · split
      · exact h
      · rename_i heq
        have h1 := of_ (KeptOP w r) (State.rqTake_kept w_links w_cuff w_route w_flt w_pwr w_mem w_same h) heq
        exact ih (Kept.upd h1 (palm := .inl w_palm))

theorem State.palmDrain_kept {w : Wr} {r s : State} (w_links : w.links = true) (w_cuff : w.cuff = true) (w_route : w.route = true) (w_flt : w.flt = true) (w_pwr : w.pwr = true) (w_mem : w.mem = true) (w_palm : w.palm = true) (w_same : w.same = true) (h : Kept w r s) :
    Kept w r (State.palmDrain s) := by
  unfold State.palmDrain
  exact State.forEach_kept h (fun _ _ h0 => State.palmDrainQ_kept w_links w_cuff w_route w_flt w_pwr w_mem w_palm w_same h0)

theorem State.departOwed_kept {w : Wr} {r s : State} {l : Nat} {st : Nat} {o : Owed} {rest : List Owed} {brim : Bool} (w_links : w.links = true) (w_cuff : w.cuff = true) (w_route : w.route = true) (w_flt : w.flt = true) (w_pwr : w.pwr = true) (w_mem : w.mem = true) (w_same : w.same = true) (h : Kept w r s) :
    Kept w r (State.departOwed s l st o rest brim) := by
  unfold State.departOwed
  lift_lets -underBinder
  intro x0
  have h0 : KeptP w r x0 := State.guardEntry_kept w_cuff w_route w_flt w_pwr w_mem w_same h
  clear_value x0
  intro x1
  have h1 : KeptP w r x1 := State.owedFlit_kept w_links w_cuff w_route w_flt w_pwr w_mem w_same (State.dropUpsets_kept w_mem h0)
  clear_value x1
  intro x2; clear_value x2
  intro x3
  have h3 : Kept w r x3 := State.setLk_kept w_links h1
  clear_value x3
  intro x4 x5; clear_value x4 x5
  exact Kept.ite_ (State.stopLink_kept w_links h0)
    (State.countSched_kept (State.txNew_kept w_links h3))

theorem State.looseSend_kept {w : Wr} {r s : State} {l : Nat} {st : Nat} (w_links : w.links = true) (w_cuff : w.cuff = true) (w_route : w.route = true) (w_flt : w.flt = true) (w_pwr : w.pwr = true) (w_mem : w.mem = true) (w_freeCtr : w.freeCtr = true) (w_same : w.same = true) (h : Kept w r s) :
    Kept w r (State.looseSend s l st) := by
  unfold State.looseSend
  exact Kept.ite_ (State.farSend_kept w_links w_cuff w_route w_flt w_pwr w_mem w_freeCtr w_same h)
    (State.oppSend_kept w_links w_cuff w_route w_flt w_pwr w_mem w_freeCtr w_same h)

theorem State.holdStitch_kept {w : Wr} {r s : State} {l : Nat} {st : Nat} {k : Nat} (w_links : w.links = true) (w_cuff : w.cuff = true) (w_route : w.route = true) (w_flt : w.flt = true) (w_pwr : w.pwr = true) (w_mem : w.mem = true) (w_freeCtr : w.freeCtr = true) (w_same : w.same = true) (h : Kept w r s) :
    Kept w r (State.holdStitch s l st k) := by
  unfold State.holdStitch
  lift_lets -underBinder
  intro x0
  have h0 : Kept w r x0 := State.count_kept h
  clear_value x0
  exact Kept.ite_ (State.oppSend_kept w_links w_cuff w_route w_flt w_pwr w_mem w_freeCtr w_same h0)
    h0

theorem State.sendSched_kept {w : Wr} {r s : State} {l : Nat} {st : Nat} {k : Nat} (w_links : w.links = true) (w_cuff : w.cuff = true) (w_route : w.route = true) (w_flt : w.flt = true) (w_pwr : w.pwr = true) (w_mem : w.mem = true) (w_freeCtr : w.freeCtr = true) (w_same : w.same = true) (h : Kept w r s) :
    Kept w r (State.sendSched s l st k) := by
  unfold State.sendSched
  exact Kept.ite_ (State.resendNext_kept w_links w_cuff w_route w_flt w_pwr w_mem w_same h)
    (by
    split
    · exact Kept.ite_ (State.departOwed_kept w_links w_cuff w_route w_flt w_pwr w_mem w_same h)
          (State.holdStitch_kept w_links w_cuff w_route w_flt w_pwr w_mem w_freeCtr w_same h)
    · exact Kept.ite_ (State.holdStitch_kept w_links w_cuff w_route w_flt w_pwr w_mem w_freeCtr w_same h)
          (Kept.ite_ (State.looseSend_kept w_links w_cuff w_route w_flt w_pwr w_mem w_freeCtr w_same h)
          h))

theorem State.ejectFar_kept {w : Wr} {r s : State} {st : Nat} (w_links : w.links = true) (w_cuff : w.cuff = true) (w_route : w.route = true) (w_flt : w.flt = true) (w_pwr : w.pwr = true) (w_mem : w.mem = true) (w_freeCtr : w.freeCtr = true) (w_same : w.same = true) (h : Kept w r s) :
    Kept w r (State.ejectFar s st) := by
  unfold State.ejectFar
  exact Kept.ite_ h
    (State.serveFar_kept w_links w_cuff w_route w_flt w_pwr w_mem w_freeCtr w_same h)

theorem execStitchSend_kept {w : Wr} {r : State} {l : Fin 24} {s : State} (w_links : w.links = true) (w_cuff : w.cuff = true) (w_route : w.route = true) (w_flt : w.flt = true) (w_pwr : w.pwr = true) (w_mem : w.mem = true) (w_freeCtr : w.freeCtr = true) (w_same : w.same = true) (h : Kept w r s) :
    Answers w r (execStitchSend l s) := by
  unfold execStitchSend
  lift_lets -underBinder
  intro x0 x1 x2; clear_value x0 x1 x2
  intro x3
  have h3 : Kept w r x3 := State.ejectFar_kept w_links w_cuff w_route w_flt w_pwr w_mem w_freeCtr w_same (State.beginStitch_kept w_links w_cuff w_route w_flt w_pwr w_mem w_same (State.setLk_kept w_links h))
  clear_value x3
  intro x4; clear_value x4
  intro x5
  have h5 : Kept w r x5 := Kept.ite_ h3
    (Kept.ite_ (State.farSend_kept w_links w_cuff w_route w_flt w_pwr w_mem w_freeCtr w_same h3)
    (Kept.ite_ (Kept.ite_ h3
    (State.oppSend_kept w_links w_cuff w_route w_flt w_pwr w_mem w_freeCtr w_same h3))
    (State.sendSched_kept w_links w_cuff w_route w_flt w_pwr w_mem w_freeCtr w_same h3)))
  clear_value x5
  exact Answers.ite_ (Answers.next h)
    (Answers.next (State.showLists_kept (State.retryWait_kept w_route w_freeCtr h5)))

theorem execLandingStitch_kept {w : Wr} {r : State} {l : Fin 24} {s : State} (w_links : w.links = true) (w_cuff : w.cuff = true) (w_route : w.route = true) (w_flt : w.flt = true) (w_pwr : w.pwr = true) (w_mem : w.mem = true) (w_palm : w.palm = true) (w_same : w.same = true) (h : Kept w r s) :
    Answers w r (execLandingStitch l s) := by
  unfold execLandingStitch
  lift_lets -underBinder
  intro x0; clear_value x0
  intro x1
  have h1 : Kept w r x1 := State.beginStitch_kept w_links w_cuff w_route w_flt w_pwr w_mem w_same h
  clear_value x1
  intro x2
  have h2 : Kept w r x2 := by
    unfold x2
    split
    · exact Kept.ite_ (State.landOldest_kept w_links w_cuff w_route w_flt w_pwr w_mem w_same h1)
          h1
    · exact h1
  clear_value x2
  exact Answers.ite_ (Answers.next h)
    (Answers.next (State.showLists_kept (State.palmDrain_kept w_links w_cuff w_route w_flt w_pwr w_mem w_palm w_same h2)))

theorem execLateLanding_kept {w : Wr} {r : State} {l : Fin 24} {s : State} (w_links : w.links = true) (w_cuff : w.cuff = true) (w_route : w.route = true) (w_flt : w.flt = true) (w_pwr : w.pwr = true) (w_mem : w.mem = true) (w_palm : w.palm = true) (w_same : w.same = true) (h : Kept w r s) :
    Answers w r (execLateLanding l s) := by
  unfold execLateLanding
  lift_lets -underBinder
  intro x0; clear_value x0
  intro x1
  have h1 : Kept w r x1 := by
    unfold x1
    split
    · exact Kept.ite_ (State.landOldest_kept w_links w_cuff w_route w_flt w_pwr w_mem w_same h)
          h
    · exact h
  clear_value x1
  exact Answers.next (State.showLists_kept (State.palmDrain_kept w_links w_cuff w_route w_flt w_pwr w_mem w_palm w_same h1))

theorem execUnexpectedArrival_kept {w : Wr} {r : State} {l : Fin 24} {s : State} (w_links : w.links = true) (w_cuff : w.cuff = true) (w_route : w.route = true) (w_flt : w.flt = true) (w_pwr : w.pwr = true) (w_same : w.same = true) (h : Kept w r s) :
    Answers w r (execUnexpectedArrival l s) := by
  unfold execUnexpectedArrival
  exact Answers.ite_ (Answers.next h)
    (by
    split
    · exact Answers.next h
    · exact by
          lift_lets -underBinder
          intro x0 x1; clear_value x0 x1
          intro x2
          have h2 : Kept w r x2 := State.setLk_kept w_links h
          clear_value x2
          exact Answers.next (State.stitchMismatch_kept w_links w_cuff w_route w_flt w_pwr w_same h2))

theorem execDeposit_kept {w : Wr} {r : State} {l : Fin 24} {q : Fin 8} {s : State} (w_links : w.links = true) (w_cuff : w.cuff = true) (w_route : w.route = true) (w_flt : w.flt = true) (w_pwr : w.pwr = true) (w_palm : w.palm = true) (w_same : w.same = true) (h : Kept w r s) :
    Answers w r (execDeposit l q s) := by
  unfold execDeposit
  split
  · exact Answers.next h
  · exact by
        lift_lets -underBinder
        intro x0 x1; clear_value x0 x1
        exact Answers.next (State.deposit_kept w_links w_cuff w_route w_flt w_pwr w_same (Kept.upd h (palm := .inl w_palm)))

theorem execDepositReady_kept {w : Wr} {r : State} {l : Fin 24} {q : Fin 8} {s : State} (w_links : w.links = true) (h : Kept w r s) :
    Answers w r (execDepositReady l q s) := by
  unfold execDepositReady
  exact Answers.next (State.setSq_kept w_links h)

theorem State.cufRefuse_kept {w : Wr} {r s : State} (w_same : w.same = true) (h : Kept w r s) :
    Kept w r (State.cufRefuse s) := by
  unfold State.cufRefuse
  exact State.flag_kept w_same h

theorem execBankVerify_kept {w : Wr} {r s : State} (w_cuff : w.cuff = true) (w_same : w.same = true) (h : Kept w r s) :
    Answers w r (execBankVerify s) := by
  unfold execBankVerify
  exact Answers.next (State.busWrite_kept w_same h (fun _ h0 => Kept.ite_ (State.cufRefuse_kept w_same h0)
      (State.startVerify_kept w_cuff h0)))

theorem State.verifyFailed_kept {w : Wr} {r s : State} {v : VerifySt} (w_cuff : w.cuff = true) (w_route : w.route = true) (w_flt : w.flt = true) (w_pwr : w.pwr = true) (w_ldrs : w.ldrs = true) (w_same : w.same = true) (h : Kept w r s) :
    Kept w r (State.verifyFailed s v) := by
  unfold State.verifyFailed
  lift_lets -underBinder
  intro x0
  have h0 : Kept w r x0 := State.setReg_kept (State.wr_kept h)
  clear_value x0
  intro x1; clear_value x1
  exact Kept.ite_ (State.refuseAt_kept w_cuff w_route w_flt w_pwr w_ldrs w_same h0)
    (State.refuseImage_kept w_cuff w_route w_flt w_pwr w_ldrs w_same h0)

theorem execVerifyDone_kept {w : Wr} {r s : State} (w_cuff : w.cuff = true) (w_route : w.route = true) (w_flt : w.flt = true) (w_pwr : w.pwr = true) (w_ldrs : w.ldrs = true) (w_same : w.same = true) (h : Kept w r s) :
    Answers w r (execVerifyDone s) := by
  unfold execVerifyDone
  split
  · exact Answers.next h
  · exact Answers.ite_ (Answers.next h)
        (by
        lift_lets -underBinder
        intro x0
        have h0 : Kept w r x0 := State.wr_kept h
        clear_value x0
        intro x1; clear_value x1
        intro x2
        have h2 : Kept w r x2 := Kept.upd h0 (cuff := .inl w_cuff)
        clear_value x2
        intro x3
        have h3 : Kept w r x3 := State.setReg_kept (State.wr_kept h2)
        clear_value x3
        intro x4
        have h4 : Kept w r x4 := State.wr_kept h3
        clear_value x4
        intro x5; clear_value x5
        exact Answers.ite_ (Answers.next (State.verifyFailed_kept w_cuff w_route w_flt w_pwr w_ldrs w_same h2))
          (Answers.ite_ (Answers.next h3)
          (Answers.next (Kept.upd h4 (cuff := .inl w_cuff)))))

theorem execBankArm_kept {w : Wr} {r s : State} (w_cuff : w.cuff = true) (w_same : w.same = true) (h : Kept w r s) :
    Answers w r (execBankArm s) := by
  unfold execBankArm
  exact Answers.next (State.busWrite_kept w_same h (fun _ h0 => Kept.ite_ (State.cufRefuse_kept w_same h0)
      (by
      lift_lets -underBinder
      intro x1
      have h1 : Kept w r x1 := State.wr_kept h0
      clear_value x1
      intro x2; clear_value x2
      exact Kept.upd h1 (cuff := .inl w_cuff))))

theorem execAutoFillDone_kept {w : Wr} {r s : State} (w_bar2 : w.bar2 = true) (w_hbm : w.hbm = true) (w_cuff : w.cuff = true) (w_route : w.route = true) (w_flt : w.flt = true) (w_pwr : w.pwr = true) (w_mem : w.mem = true) (w_freeCtr : w.freeCtr = true) (w_same : w.same = true) (h : Kept w r s) :
    Answers w r (execAutoFillDone s) := by
  unfold execAutoFillDone
  split
  · exact Answers.next h
  · exact Answers.ite_ (Answers.next h)
        (Answers.next (State.startVerify_kept w_cuff (State.fillShadow_kept w_bar2 w_hbm w_cuff w_route w_flt w_pwr w_mem w_freeCtr w_same h)))

theorem execStitchTableWrite_kept {w : Wr} {r : State} {l : Fin 24} {dir : Fin 2} {bank : Fin 2} {p : Fin 32768} {v : Word} {s : State} (w_bar2 : w.bar2 = true) (w_mem : w.mem = true) (w_same : w.same = true) (h : Kept w r s) :
    Answers w r (execStitchTableWrite l dir bank p v s) := by
  unfold execStitchTableWrite
  lift_lets -underBinder
  intro x0; clear_value x0
  exact Answers.next (State.bar2Write_kept w_same h (fun _ h1 => Kept.ite_ (State.cufRefuse_kept w_same h1)
      (State.wr_kept (State.dropUpsets_kept w_mem (State.setTab_kept w_bar2 h1)))))

theorem execBankCfgWrite_kept {w : Wr} {r : State} {n : Fin 65536} {phase : Fin 32} {s : State} (w_same : w.same = true) (h : Kept w r s) :
    Answers w r (execBankCfgWrite n phase s) := by
  unfold execBankCfgWrite
  exact Answers.next (State.busWrite_kept w_same h (fun _ h0 => Kept.ite_ (State.cufRefuse_kept w_same h0)
      (Kept.ite_ (State.flag_kept w_same h0)
      (State.wr_kept (State.drvWr_kept w_same (State.drvWr_kept w_same h0))))))

theorem execQueueCfgWrite_kept {w : Wr} {r : State} {l : Fin 24} {rq : Bool} {v : Word} {s : State} (w_same : w.same = true) (h : Kept w r s) :
    Answers w r (execQueueCfgWrite l rq v s) := by
  unfold execQueueCfgWrite
  lift_lets -underBinder
  intro x0; clear_value x0
  exact Answers.next (State.busWrite_kept w_same h (fun _ h1 => Kept.ite_ (State.cufRefuse_kept w_same h1)
      (Kept.ite_ (State.flag_kept w_same h1)
      (State.setReg_kept h1))))

theorem execCufRunSet_kept {w : Wr} {r s : State} (w_flt : w.flt = true) (w_same : w.same = true) (h : Kept w r s) :
    Answers w r (execCufRunSet s) := by
  unfold execCufRunSet
  exact Answers.next (State.busWrite_kept w_same h (fun _ h0 => Kept.ite_ h0
      (by
      lift_lets -underBinder
      intro x1
      have h1 : Kept w r x1 := State.wr_kept (State.wr_kept h0)
      clear_value x1
      intro x2
      have h2 : Kept w r x2 := State.forEach_kept h1 (fun _ _ h3 => State.wr_kept h3)
      clear_value x2
      intro x4; clear_value x4
      exact Kept.upd h2 (flt := .inl w_flt))))

theorem State.clearLink_kept {w : Wr} {r s : State} {l : Nat} (w_links : w.links = true) (w_mem : w.mem = true) (h : Kept w r s) :
    Kept w r (State.clearLink s l) := by
  unfold State.clearLink
  lift_lets -underBinder
  intro x0; clear_value x0
  intro x1
  have h1 : Kept w r x1 := State.setLk_kept w_links h
  clear_value x1
  intro x2
  have h2 : Kept w r x2 := State.wr_kept (State.wr_kept h1)
  clear_value x2
  intro x3
  have h3 : Kept w r x3 := State.wr_kept (State.wr_kept h2)
  clear_value x3
  intro x4
  have h4 : Kept w r x4 := State.clearUpsets_kept w_mem (State.freshStart_kept w_links (State.wr_kept (State.wr_kept h3)))
  clear_value x4
  intro x5; clear_value x5
  exact Kept.ite_ (State.setLk_kept w_links h4)
    h4

theorem State.clearRun_kept {w : Wr} {r s : State} (w_links : w.links = true) (w_cuff : w.cuff = true) (w_flt : w.flt = true) (w_mem : w.mem = true) (w_palm : w.palm = true) (h : Kept w r s) :
    Kept w r (State.clearRun s) := by
  unfold State.clearRun
  lift_lets -underBinder
  intro x0
  have h0 : Kept w r x0 := State.wr_kept (State.wr_kept h)
  clear_value x0
  intro x1
  have h1 : Kept w r x1 := State.forEach_kept h0 (fun _ _ h2 => State.clearLink_kept w_links w_mem h2)
  clear_value x1
  intro x3
  have h3 : Kept w r x3 := Kept.ite_ (State.wr_kept h1)
    h1
  clear_value x3
  intro x4
  have h4 : Kept w r x4 := State.wr_kept (State.wr_kept (State.wr_kept h3))
  clear_value x4
  intro x5
  have h5 : Kept w r x5 := State.wr_kept (State.wr_kept (State.wr_kept h4))
  clear_value x5
  intro x6 x7 x8 x9; clear_value x6 x7 x8 x9
  intro x10
  have h10 : Kept w r x10 := Kept.upd h5 (cuff := .inl w_cuff) (flt := .inl w_flt) (palm := .inl w_palm)
  clear_value x10
  intro x11
  have h11 : Kept w r x11 := Kept.ite_ h10
    (State.wr_kept h10)
  clear_value x11
  exact State.showSched_kept (State.wr_kept (State.wr_kept h11))

theorem execCufRunClear_kept {w : Wr} {r s : State} (w_links : w.links = true) (w_cuff : w.cuff = true) (w_flt : w.flt = true) (w_mem : w.mem = true) (w_palm : w.palm = true) (w_same : w.same = true) (h : Kept w r s) :
    Answers w r (execCufRunClear s) := by
  unfold execCufRunClear
  exact Answers.next (State.busWrite_kept w_same h (fun _ h0 => Kept.ite_ (State.clearRun_kept w_links w_cuff w_flt w_mem w_palm h0)
      h0))

theorem State.takeDeferred_kept {w : Wr} {r s : State} {k : Nat} (w_cuff : w.cuff = true) (w_route : w.route = true) (w_flt : w.flt = true) (w_pwr : w.pwr = true) (h : Kept w r s) :
    Kept w r (State.takeDeferred s k) := by
  unfold State.takeDeferred
  lift_lets -underBinder
  intro x0 x1; clear_value x0 x1
  intro x2
  have h2 : Kept w r x2 := Kept.upd h (cuff := .inl w_cuff)
  clear_value x2
  exact Kept.ite_ h
    (State.updFaultN_kept (State.forEach_kept h2 (fun _ _ h3 => State.classActions_kept w_cuff w_route w_flt w_pwr h3)))

theorem State.beginAll_kept {w : Wr} {r s : State} (w_links : w.links = true) (w_cuff : w.cuff = true) (w_route : w.route = true) (w_flt : w.flt = true) (w_pwr : w.pwr = true) (w_mem : w.mem = true) (w_same : w.same = true) (h : Kept w r s) :
    Kept w r (State.beginAll s) := by
  unfold State.beginAll
  exact State.forEach_kept h (fun _ _ h0 => State.beginStitch_kept w_links w_cuff w_route w_flt w_pwr w_mem w_same h0)

theorem State.openNext_kept {w : Wr} {r s : State} {k : Nat} {t : Nat} {swapped : Bool} {fetched : Bool} (w_links : w.links = true) (w_cuff : w.cuff = true) (w_route : w.route = true) (w_flt : w.flt = true) (w_pwr : w.pwr = true) (w_mem : w.mem = true) (w_ldrs : w.ldrs = true) (w_same : w.same = true) (h : Kept w r s) :
    Kept w r (State.openNext s k t swapped fetched) := by
  unfold State.openNext
  lift_lets -underBinder
  intro x0; clear_value x0
  intro x1
  have h1 : Kept w r x1 := Kept.upd h (cuff := .inl w_cuff)
  clear_value x1
  intro x2
  have h2 : Kept w r x2 := State.commitSegment_kept w_links w_mem h1
  clear_value x2
  exact Kept.ite_ (State.refuseImage_kept w_cuff w_route w_flt w_pwr w_ldrs w_same h1)
    (State.beginAll_kept w_links w_cuff w_route w_flt w_pwr w_mem w_same (Kept.ite_ (State.nextFill_kept w_cuff h2)
    h2))

theorem execSeamOpen_kept {w : Wr} {r : State} {fetched : Bool} {s : State} (w_hbm : w.hbm = true) (w_rgn : w.rgn = true) (w_links : w.links = true) (w_cuff : w.cuff = true) (w_route : w.route = true) (w_flt : w.flt = true) (w_pwr : w.pwr = true) (w_mem : w.mem = true) (w_ldrs : w.ldrs = true) (w_freeCtr : w.freeCtr = true) (w_same : w.same = true) (h : Kept w r s) :
    Answers w r (execSeamOpen fetched s) := by
  unfold execSeamOpen
  lift_lets -underBinder
  intro x0 x1 x2; clear_value x0 x1 x2
  intro x3
  have h3 : Kept w r x3 := State.takeDeferred_kept w_cuff w_route w_flt w_pwr h
  clear_value x3
  intro x4
  have h4 : Kept w r x4 := State.forEach_kept h3 (fun _ _ h5 => State.setLk_kept w_links h5)
  clear_value x4
  intro x6; clear_value x6
  intro x7
  have h7 : Kept w r x7 := Kept.upd h4 (cuff := .inl w_cuff)
  clear_value x7
  intro x8; clear_value x8
  intro x9
  have h9 : Kept w r x9 := State.setEsts_kept w_rgn w_same (Kept.ite_ (State.swapBanks_kept h7)
    h7)
  clear_value x9
  intro x10; clear_value x10
  exact Answers.ite_ (Answers.next h)
    (Answers.ite_ (Answers.next h3)
    (Answers.next (Kept.ite_ (Kept.upd h9 (cuff := .inl w_cuff))
    (State.when_kept (State.openNext_kept w_links w_cuff w_route w_flt w_pwr w_mem w_ldrs w_same h9) (fun _ h11 => State.fetchSeg_kept w_hbm w_cuff w_route w_flt w_pwr w_mem w_ldrs w_freeCtr w_same h11)))))

theorem State.seamFailed_kept {w : Wr} {r s : State} {k : Nat} {f : Nat × Nat × Nat × Nat} (w_cuff : w.cuff = true) (w_route : w.route = true) (w_flt : w.flt = true) (w_pwr : w.pwr = true) (w_same : w.same = true) (h : Kept w r s) :
    Kept w r (State.seamFailed s k f) := by
  unfold State.seamFailed
  lift_lets -underBinder
  intro x0
  have h0 : Kept w r x0 := State.wr_kept (State.wr_kept (State.wr_kept h))
  clear_value x0
  intro x1
  have h1 : Kept w r x1 := State.wr_kept h0
  clear_value x1
  intro x2; clear_value x2
  intro x3
  have h3 : Kept w r x3 := Kept.upd h1 (cuff := .inl w_cuff)
  clear_value x3
  exact Kept.ite_ (State.fault_kept w_cuff w_route w_flt w_pwr w_same h3)
    (Kept.ite_ (State.fault_kept w_cuff w_route w_flt w_pwr w_same h3)
    (State.fault_kept w_cuff w_route w_flt w_pwr w_same h3))

theorem State.seamPassed_kept {w : Wr} {r s : State} {k : Nat} (h : Kept w r s) :
    Kept w r (State.seamPassed s k) := by
  unfold State.seamPassed
  lift_lets -underBinder
  intro x0
  have h0 : Kept w r x0 := State.wr_kept (State.wr_kept (State.wr_kept (State.wr_kept h)))
  clear_value x0
  intro x1
  have h1 : Kept w r x1 := State.wr_kept (State.count_kept h0)
  clear_value x1
  exact Kept.ite_ (State.wr_kept h1)
    h1

theorem execSeamCheck_kept {w : Wr} {r s : State} (w_cuff : w.cuff = true) (w_route : w.route = true) (w_flt : w.flt = true) (w_pwr : w.pwr = true) (w_same : w.same = true) (h : Kept w r s) :
    Answers w r (execSeamCheck s) := by
  unfold execSeamCheck
  split
  · exact Answers.next h
  · exact Answers.ite_ (Answers.next h)
        (by
        lift_lets -underBinder
        intro x0; clear_value x0
        intro x1
        have h1 : Kept w r x1 := Kept.upd h (cuff := .inl w_cuff)
        clear_value x1
        exact Answers.ite_ (Answers.next h1)
          (by
          split
          · exact Answers.next (State.seamFailed_kept w_cuff w_route w_flt w_pwr w_same h1)
          · exact Answers.next (State.seamPassed_kept h1)))

end Sys2Proof.Machine
end

