-- ==== Sys2Proof/Laws/KeptHbm.lean ====
section
/-! SUPPORT. Sys2Proof/Laws/KeptHbm.lean: what each operation of Machine/Hbm.lean keeps (Kept, Laws/Kept.lean). -/
set_option Elab.async false
namespace Sys2Proof.Machine

theorem execHbmWriteBack_kept {w : Wr} {r : State} {w0 : Nat} {s : State} (w_hbm : w.hbm = true) (w_mem : w.mem = true) (h : Kept w r s) :
    Answers w r (execHbmWriteBack w0 s) := by
  unfold execHbmWriteBack
  exact Answers.ite_ (by
    lift_lets -underBinder
    intro x0
    have h0 : Kept w r x0 := State.capUse_kept w_mem h
    clear_value x0
    intro x1; clear_value x1
    intro x2
    have h2 : Kept w r x2 := Kept.upd h0 (mem := .inl w_mem)
    clear_value x2
    exact by
      split
      · exact Answers.next (State.hbmStore_kept w_hbm h2)
      · exact Answers.next h2)
    (Answers.next h)

theorem State.storeUpset_kept {w : Wr} {r s : State} {u : Upset} (w_sram : w.sram = true) (w_mem : w.mem = true) (h : Kept w r s) :
    Kept w r (s.storeUpset u) := by
  unfold State.storeUpset
  split
  · exact Kept.updSram h w_sram fun g => Memory.wf_writeBytes _ _ _ g
  · exact Kept.upd h (mem := .inl w_mem)
  · exact Kept.upd h (mem := .inl w_mem)

theorem State.upset_kept {w : Wr} {r s : State} {k : Nat} {upsets : List (Nat × BitVec 8)} {defects : List Nat} (w_hbm : w.hbm = true) (w_mem : w.mem = true) (h : Kept w r s) :
    Kept w r (s.upset k upsets defects) := by
  unfold State.upset
  exact Kept.upd (State.forEach_kept h fun _ _ h1 => Kept.updHbm h1 w_hbm fun g => Memory.wf_write _ _ _ g) (mem := .inl w_mem)

theorem execScrubBurst_kept {w : Wr} {r : State} {k : Fin 8} {upsets : List (Nat × BitVec 8)} {defects : List Nat} {stores : List Upset} {s : State} (w_hbm : w.hbm = true) (w_sram : w.sram = true) (w_cuff : w.cuff = true) (w_route : w.route = true) (w_flt : w.flt = true) (w_pwr : w.pwr = true) (w_mem : w.mem = true) (w_same : w.same = true) (h : Kept w r s) :
    Answers w r (execScrubBurst k upsets defects stores s) := by
  unfold execScrubBurst
  lift_lets -underBinder
  intro x0
  have h0 : Kept w r x0 := State.forEach_kept (State.upset_kept w_hbm w_mem h) (fun _ _ h1 => State.storeUpset_kept w_sram w_mem h1)
  clear_value x0
  intro x2; clear_value x2
  intro x3
  have h3 : Kept w r x3 := Kept.upd h0 (mem := .inl w_mem)
  clear_value x3
  intro x4; clear_value x4
  intro x5
  have h5 : Kept w r x5 := State.forEach_kept h3 (fun _ _ h6 => State.hbmRead_kept w_hbm w_cuff w_route w_flt w_pwr w_mem w_same h6)
  clear_value x5
  intro x7
  have h7 : Kept w r x7 := State.wr_kept h5
  clear_value x7
  exact Answers.ite_ (Answers.next (Kept.ite_ (State.count_kept h7)
    h7))
    (Answers.next h0)

theorem execRefresh_kept {w : Wr} {r : State} {k : Fin 8} (channel : Fin 32) {s : State} (h : Kept w r s) :
    Answers w r (execRefresh k channel s) := by
  unfold execRefresh
  exact Answers.ite_ (Answers.next (State.wrb_kept h))
    (Answers.next h)

theorem State.retrainDue_kept {w : Wr} {r s : State} {k : Nat} {kind : Nat} (h : Kept w r s) :
    Kept w r (State.retrainDue s k kind) := by
  unfold State.retrainDue
  lift_lets -underBinder
  intro x0; clear_value x0
  exact State.wr_kept (State.wr_kept h)

theorem execPeriodicTraining_kept {w : Wr} {r : State} {k : Fin 8} (channel : Fin 32) {below : Bool} {s : State} (h : Kept w r s) :
    Answers w r (execPeriodicTraining k channel below s) := by
  unfold execPeriodicTraining
  exact Answers.ite_ (Answers.next (State.retrainDue_kept h))
    (Answers.next h)

theorem State.hbmCtrl_kept {w : Wr} {r s : State} {k : Nat} {full : Bool} {seam : Bool} {scrub : Bool} {req : Bool} (w_mem : w.mem = true) (w_same : w.same = true) (h : Kept w r s) :
    Kept w r (State.hbmCtrl s k full seam scrub req) := by
  unfold State.hbmCtrl
  lift_lets -underBinder
  intro x0
  have h0 : Kept w r x0 := State.wrb_kept (State.wrb_kept (State.wrb_kept h))
  clear_value x0
  intro x1; clear_value x1
  intro x2
  have h2 : Kept w r x2 := State.wr_kept h0
  clear_value x2
  intro x3; clear_value x3
  exact Kept.ite_ (Kept.ite_ (State.flag_kept w_same h0)
    (Kept.ite_ (Kept.upd h2 (mem := .inl w_mem))
    (State.startRetrain_kept w_mem h0)))
    (Kept.ite_ (State.startRetrain_kept w_mem h0)
    h0)

theorem execHbmRetrainRequest_kept {w : Wr} {r : State} {k : Fin 8} {full : Bool} {seam : Bool} {scrub : Bool} {s : State} (w_mem : w.mem = true) (w_same : w.same = true) (h : Kept w r s) :
    Answers w r (execHbmRetrainRequest k full seam scrub s) := by
  unfold execHbmRetrainRequest
  exact Answers.next (State.busWrite_kept w_same h (fun _ h0 => State.hbmCtrl_kept w_mem w_same h0))

theorem execHbmRetrainDone_kept {w : Wr} {r : State} {k : Fin 8} {s : State} (w_mem : w.mem = true) (h : Kept w r s) :
    Answers w r (execHbmRetrainDone k s) := by
  unfold execHbmRetrainDone
  lift_lets -underBinder
  intro x0; clear_value x0
  intro x1
  have h1 : Kept w r x1 := State.wr_kept h
  clear_value x1
  intro x2
  have h2 : Kept w r x2 := Kept.ite_ (State.wr_kept (State.wr_kept h1))
    h1
  clear_value x2
  intro x3 x4; clear_value x3 x4
  exact Answers.ite_ (Answers.next (Kept.upd h2 (mem := .inl w_mem)))
    (Answers.next h)

theorem execHbmRetrainTimeout_kept {w : Wr} {r : State} {k : Fin 8} {s : State} (w_cuff : w.cuff = true) (w_route : w.route = true) (w_flt : w.flt = true) (w_pwr : w.pwr = true) (w_mem : w.mem = true) (w_same : w.same = true) (h : Kept w r s) :
    Answers w r (execHbmRetrainTimeout k s) := by
  unfold execHbmRetrainTimeout
  exact Answers.ite_ (by
    lift_lets -underBinder
    intro x0
    have h0 : Kept w r x0 := State.wr_kept h
    clear_value x0
    intro x1; clear_value x1
    intro x2
    have h2 : Kept w r x2 := Kept.upd h0 (mem := .inl w_mem)
    clear_value x2
    exact Answers.next (State.eccFault_kept w_cuff w_route w_flt w_pwr w_mem w_same h2))
    (Answers.next h)

theorem execHbmCapWrite_kept {w : Wr} {r : State} {k : Fin 8} {other : Fin 256} {bonnet : Fin 256} {s : State} (w_same : w.same = true) (h : Kept w r s) :
    Answers w r (execHbmCapWrite k other bonnet s) := by
  unfold execHbmCapWrite
  exact Answers.next (State.busWrite_kept w_same h (fun _ h0 => State.runLocked_kept w_same h0 (fun _ h1 => Kept.ite_ (State.flag_kept w_same h1)
        (State.wr_kept (State.wr_kept h1)))))

end Sys2Proof.Machine
end

