-- ==== Sys2Proof/Laws/KeptLcw.lean ====
section
/-! SUPPORT. Sys2Proof/Laws/KeptLcw.lean: what each operation of Machine/Lcw.lean keeps (Kept, Laws/Kept.lean). -/
set_option Elab.async false
namespace Sys2Proof.Machine

theorem State.lcwOut_kept {w : Wr} {r s : State} {l : Nat} {w0 : Nat} (w_links : w.links = true) (h : Kept w r s) :
    Kept w r (State.lcwOut s l w0) := by
  unfold State.lcwOut
  lift_lets -underBinder
  intro x0
  have h0 : Kept w r x0 := State.emit_kept h
  clear_value x0
  exact by
    split
    · exact by
          lift_lets -underBinder
          intro x1 x2 x3; clear_value x1 x2 x3
          exact State.setLk_kept w_links h0
    · exact h0

theorem State.sendLcw_kept {w : Wr} {r s : State} {l : Nat} {typ : Nat} {var : Nat} (w_links : w.links = true) (h : Kept w r s) :
    Kept w r (State.sendLcw s l typ var) := by
  unfold State.sendLcw
  lift_lets -underBinder
  intro x0
  have h0 : Kept w r x0 := State.lcwOut_kept w_links h
  clear_value x0
  intro x1; clear_value x1
  exact State.setLk_kept w_links h0

theorem State.sendRsp_kept {w : Wr} {r s : State} {l : Nat} {b : Beacon} (w_crown : w.crown = true) (w_links : w.links = true) (h : Kept w r s) :
    Kept w r (State.sendRsp s l b) := by
  unfold State.sendRsp
  lift_lets -underBinder
  intro x0 x1; clear_value x0 x1
  intro x2
  have h2 : Kept w r x2 := State.setLk_kept w_links h
  clear_value x2
  intro x3
  have h3 : Kept w r x3 := State.sendLcw_kept w_links h2
  clear_value x3
  intro x4; clear_value x4
  exact Kept.upd h3 (crown := .inl w_crown)

theorem State.sendReq_kept {w : Wr} {r s : State} {l : Nat} {b : Beacon} (w_crown : w.crown = true) (w_links : w.links = true) (h : Kept w r s) :
    Kept w r (State.sendReq s l b) := by
  unfold State.sendReq
  lift_lets -underBinder
  intro x0 x1; clear_value x0 x1
  intro x2
  have h2 : Kept w r x2 := State.setLk_kept w_links h
  clear_value x2
  intro x3
  have h3 : Kept w r x3 := State.sendLcw_kept w_links h2
  clear_value x3
  intro x4 x5 x6; clear_value x4 x5 x6
  exact Kept.upd h3 (crown := .inl w_crown)

theorem State.sendTrain_kept {w : Wr} {r s : State} {l : Nat} {code : Nat} (w_links : w.links = true) (h : Kept w r s) :
    Kept w r (State.sendTrain s l code) := by
  unfold State.sendTrain
  lift_lets -underBinder
  intro x0; clear_value x0
  intro x1
  have h1 : Kept w r x1 := State.setLk_kept w_links h
  clear_value x1
  exact State.sendLcw_kept w_links h1

theorem State.sendIdent_kept {w : Wr} {r s : State} {l : Nat} (w_links : w.links = true) (h : Kept w r s) :
    Kept w r (State.sendIdent s l) := by
  unfold State.sendIdent
  lift_lets -underBinder
  intro x0 x1; clear_value x0 x1
  exact State.sendLcw_kept w_links (State.setLk_kept w_links h)

theorem State.sendCredit_kept {w : Wr} {r s : State} {l : Nat} (w_links : w.links = true) (h : Kept w r s) :
    Kept w r (State.sendCredit s l) := by
  unfold State.sendCredit
  lift_lets -underBinder
  intro x0 x1 x2; clear_value x0 x1 x2
  intro x3
  have h3 : Kept w r x3 := State.setLk_kept w_links h
  clear_value x3
  exact State.sendLcw_kept w_links h3

theorem State.sendLater_kept {w : Wr} {r s : State} {l : Nat} (w_crown : w.crown = true) (w_links : w.links = true) (h : Kept w r s) :
    Kept w r (State.sendLater s l) := by
  unfold State.sendLater
  lift_lets -underBinder
  intro x0 x1 x2; clear_value x0 x1 x2
  exact Kept.ite_ (State.sendIdent_kept w_links h)
    (Kept.ite_ (State.sendCredit_kept w_links h)
    (by
    split
    · exact State.sendReq_kept w_crown w_links h
    · exact Kept.ite_ (State.sendIdent_kept w_links h)
          (Kept.ite_ (State.sendCredit_kept w_links h)
          (State.sendLcw_kept w_links h))))

theorem State.frameEnd_kept {w : Wr} {r s : State} {l : Nat} {w0 : Nat} (h : Kept w r s) :
    Kept w r (State.frameEnd s l w0) := by
  unfold State.frameEnd
  split
  · exact State.emit_kept h
  · exact h

theorem State.frameNext_kept {w : Wr} {r s : State} {l : Nat} {w0 : Nat} (w_links : w.links = true) (h : Kept w r s) :
    Kept w r (State.frameNext s l w0) := by
  unfold State.frameNext
  lift_lets -underBinder
  intro x0 x1; clear_value x0 x1
  exact State.setLk_kept w_links h

theorem State.linkTick_kept {w : Wr} {r s : State} {l : Nat} (w_links : w.links = true) (h : Kept w r s) :
    Kept w r (State.linkTick s l) := by
  unfold State.linkTick
  exact Kept.ite_ (by
    lift_lets -underBinder
    intro x0 x1; clear_value x0 x1
    intro x2
    have h2 : Kept w r x2 := State.setLk_kept w_links h
    clear_value x2
    exact Kept.ite_ (State.frameNext_kept w_links (State.frameEnd_kept h2))
      h2)
    (Kept.ite_ (State.emit_kept h)
    h)

end Sys2Proof.Machine
end

