-- ==== Sys2Proof/Laws/KeptLoad.lean ====
section
/-! SUPPORT. Sys2Proof/Laws/KeptLoad.lean: what each operation of Machine/Load.lean keeps (Kept, Laws/Kept.lean). -/
set_option Elab.async false
namespace Sys2Proof.Machine

theorem State.ldrRefuse_kept {w : Wr} {r s : State} (w_same : w.same = true) (h : Kept w r s) :
    Kept w r (State.ldrRefuse s) := by
  unfold State.ldrRefuse
  exact State.flag_kept w_same h

theorem State.showLoad_kept {w : Wr} {r s : State} (h : Kept w r s) :
    Kept w r (State.showLoad s) := by
  unfold State.showLoad
  lift_lets -underBinder
  intro x0
  have h0 : Kept w r x0 := State.wr_kept h
  clear_value x0
  exact Kept.ite_ (State.wr_kept h0)
    h0

theorem State.readSection_kept {w : Wr} {r s : State} {x : Section} (w_hbm : w.hbm = true) (w_cuff : w.cuff = true) (w_route : w.route = true) (w_flt : w.flt = true) (w_pwr : w.pwr = true) (w_mem : w.mem = true) (w_freeCtr : w.freeCtr = true) (w_same : w.same = true) (h : Kept w r s) :
    Kept w r (State.readSection s x) := by
  unfold State.readSection
  exact Kept.ite_ h
    (State.forEach_kept h (fun _ _ h0 => by
      split
      · exact State.hbmReadN_kept w_hbm w_cuff w_route w_flt w_pwr w_mem w_freeCtr w_same h0
      · exact h0))

theorem State.clearLoad_kept {w : Wr} {r s : State} (w_ldrs : w.ldrs = true) (h : Kept w r s) :
    Kept w r (State.clearLoad s) := by
  unfold State.clearLoad
  lift_lets -underBinder
  intro x0
  have h0 : Kept w r x0 := State.wr_kept (State.wr_kept (State.wr_kept h))
  clear_value x0
  intro x1
  have h1 : Kept w r x1 := State.wr_kept h0
  clear_value x1
  intro x2; clear_value x2
  exact Kept.upd h1 (ldrs := .inl w_ldrs)

theorem execLoadOpen_kept {w : Wr} {r s : State} (w_ldrs : w.ldrs = true) (w_same : w.same = true) (h : Kept w r s) :
    Answers w r (execLoadOpen s) := by
  unfold execLoadOpen
  exact Answers.ite_ (Answers.next (State.ldrRefuse_kept w_same h))
    (by
    lift_lets -underBinder
    intro x0
    have h0 : Kept w r x0 := State.setReg_kept (State.setReg_kept (State.setReg_kept (State.wr_kept (State.wr_kept (State.clearLoad_kept w_ldrs h)))))
    clear_value x0
    intro x1; clear_value x1
    exact Answers.next (State.showLoad_kept (Kept.upd h0 (ldrs := .inl w_ldrs))))

theorem execLoadClose_kept {w : Wr} {r s : State} (w_ldrs : w.ldrs = true) (w_same : w.same = true) (h : Kept w r s) :
    Answers w r (execLoadClose s) := by
  unfold execLoadClose
  exact Answers.ite_ (Answers.next (State.ldrRefuse_kept w_same h))
    (Answers.next (State.wr_kept (State.clearLoad_kept w_ldrs h)))

theorem execLoadVerify_kept {w : Wr} {r s : State} (w_same : w.same = true) (h : Kept w r s) :
    Answers w r (execLoadVerify s) := by
  unfold execLoadVerify
  exact Answers.ite_ (Answers.next (State.ldrRefuse_kept w_same h))
    (Answers.next (State.wr_kept h))

theorem execLoadVerifyDone_kept {w : Wr} {r s : State} (w_hbm : w.hbm = true) (w_cuff : w.cuff = true) (w_route : w.route = true) (w_flt : w.flt = true) (w_pwr : w.pwr = true) (w_mem : w.mem = true) (w_ldrs : w.ldrs = true) (w_freeCtr : w.freeCtr = true) (w_same : w.same = true) (h : Kept w r s) :
    Answers w r (execLoadVerifyDone s) := by
  unfold execLoadVerifyDone
  exact Answers.ite_ (Answers.next h)
    (by
    lift_lets -underBinder
    intro x0; clear_value x0
    intro x1
    have h1 : Kept w r x1 := State.forEach_kept h (fun _ _ h2 => State.readSection_kept w_hbm w_cuff w_route w_flt w_pwr w_mem w_freeCtr w_same h2)
    clear_value x1
    exact by
      split
      · exact Answers.next (State.wr_kept h1)
      · exact Answers.next (State.refuseImage_kept w_cuff w_route w_flt w_pwr w_ldrs w_same h1))

theorem State.freshPages_kept {w : Wr} {r s : State} {n : Nat} (w_bar2 : w.bar2 = true) (h : Kept w r s) :
    Kept w r (s.freshPages n) := by
  unfold State.freshPages
  exact State.wr_kept (State.wr_kept (Kept.updBar2 h w_bar2 fun g => SMap.wf_clear _ _ _ g))

theorem State.readDecl_kept {w : Wr} {r s : State} (w_bar2 : w.bar2 = true) (w_hbm : w.hbm = true) (w_cuff : w.cuff = true) (w_route : w.route = true) (w_flt : w.flt = true) (w_pwr : w.pwr = true) (w_mem : w.mem = true) (w_ldrs : w.ldrs = true) (w_bon : w.bon = true) (w_freeCtr : w.freeCtr = true) (w_same : w.same = true) (h : Kept w r s) :
    Kept w r (State.readDecl s) := by
  unfold State.readDecl
  lift_lets -underBinder
  intro x0 x1; clear_value x0 x1
  intro x2
  have h2 : Kept w r x2 := Kept.upd h (ldrs := .inl w_ldrs) (bon := .inl w_bon)
  clear_value x2
  intro x3; clear_value x3
  intro x4
  have h4 : KeptP w r x4 := State.hbmReadN_kept w_hbm w_cuff w_route w_flt w_pwr w_mem w_freeCtr w_same h
  clear_value x4
  intro x5
  have h5 : Kept w r x5 := h4
  clear_value x5
  intro x6; clear_value x6
  intro x7
  have h7 : Kept w r x7 := Kept.upd h5 (ldrs := .inl w_ldrs) (bon := .inl w_bon)
  clear_value x7
  exact Kept.ite_ h2
    (Kept.ite_ (State.flag_kept w_same (Kept.upd h5 (ldrs := .inl w_ldrs) (bon := .inl w_bon)))
    (State.freshPages_kept w_bar2 h7))

theorem execAdmit_kept {w : Wr} {r s : State} (w_bar2 : w.bar2 = true) (w_hbm : w.hbm = true) (w_cuff : w.cuff = true) (w_route : w.route = true) (w_flt : w.flt = true) (w_pwr : w.pwr = true) (w_mem : w.mem = true) (w_ldrs : w.ldrs = true) (w_bon : w.bon = true) (w_freeCtr : w.freeCtr = true) (w_same : w.same = true) (h : Kept w r s) :
    Answers w r (execAdmit s) := by
  unfold execAdmit
  exact Answers.ite_ (Answers.next (State.ldrRefuse_kept w_same h))
    (Answers.next (State.readDecl_kept w_bar2 w_hbm w_cuff w_route w_flt w_pwr w_mem w_ldrs w_bon w_freeCtr w_same (State.wr_kept h)))

theorem execImageArm_kept {w : Wr} {r s : State} (w_hbm : w.hbm = true) (w_cuff : w.cuff = true) (w_route : w.route = true) (w_flt : w.flt = true) (w_pwr : w.pwr = true) (w_mem : w.mem = true) (w_ldrs : w.ldrs = true) (w_freeCtr : w.freeCtr = true) (w_same : w.same = true) (h : Kept w r s) :
    Answers w r (execImageArm s) := by
  unfold execImageArm
  lift_lets -underBinder
  intro x0 x1 x2 x3; clear_value x0 x1 x2 x3
  intro x4
  have h4 : Kept w r x4 := State.wr_kept h
  clear_value x4
  intro x5; clear_value x5
  intro x6
  have h6 : Kept w r x6 := State.fetchSeg_kept w_hbm w_cuff w_route w_flt w_pwr w_mem w_ldrs w_freeCtr w_same (State.fetchSeg_kept w_hbm w_cuff w_route w_flt w_pwr w_mem w_ldrs w_freeCtr w_same (Kept.upd h4 (ldrs := .inl w_ldrs)))
  clear_value x6
  exact Answers.ite_ (Answers.next (State.ldrRefuse_kept w_same h))
    (Answers.ite_ (Answers.next (State.flag_kept w_same h))
    (Answers.ite_ (Answers.next (State.flag_kept w_same h))
    (Answers.next (Kept.ite_ (State.startFill_kept w_cuff (State.wr_kept h6))
    h6))))

theorem execConvertStartTime_kept {w : Wr} {r : State} {domain : Bool} {s : State} (w_same : w.same = true) (h : Kept w r s) :
    Answers w r (execConvertStartTime domain s) := by
  unfold execConvertStartTime
  lift_lets -underBinder
  intro x0
  have h0 : Kept w r x0 := State.wrb_kept h
  clear_value x0
  exact Answers.ite_ (Answers.next (State.ldrRefuse_kept w_same h0))
    (Answers.ite_ (Answers.next (State.flag_kept w_same h0))
    (by
    split
    · exact Answers.next (State.wr_kept h0)
    · exact Answers.next (State.flag_kept w_same h0)))

theorem execRefuse_kept {w : Wr} {r s : State} (w_cuff : w.cuff = true) (w_route : w.route = true) (w_flt : w.flt = true) (w_pwr : w.pwr = true) (w_ldrs : w.ldrs = true) (w_same : w.same = true) (h : Kept w r s) :
    Answers w r (execRefuse s) := by
  unfold execRefuse
  exact Answers.ite_ (Answers.next (State.ldrRefuse_kept w_same h))
    (by
    lift_lets -underBinder
    intro x0 x1; clear_value x0 x1
    intro x2
    have h2 : Kept w r x2 := State.wr_kept h
    clear_value x2
    intro x3; clear_value x3
    intro x4
    have h4 : Kept w r x4 := Kept.upd h2 (ldrs := .inl w_ldrs)
    clear_value x4
    exact Answers.next (State.fault_kept w_cuff w_route w_flt w_pwr w_same h4))

theorem State.startImage_kept {w : Wr} {r s : State} {j : Nat} {fetched : Bool} (w_rgn : w.rgn = true) (w_links : w.links = true) (w_cuff : w.cuff = true) (w_route : w.route = true) (w_flt : w.flt = true) (w_pwr : w.pwr = true) (w_mem : w.mem = true) (w_palm : w.palm = true) (w_ldrs : w.ldrs = true) (w_bon : w.bon = true) (w_same : w.same = true) (h : Kept w r s) :
    Kept w r (State.startImage s j fetched) := by
  unfold State.startImage
  lift_lets -underBinder
  intro x0 x1; clear_value x0 x1
  intro x2
  have h2 : Kept w r x2 := State.wr_kept h
  clear_value x2
  intro x3
  have h3 : Kept w r x3 := State.wr_kept h2
  clear_value x3
  intro x4 x5 x6 x7; clear_value x4 x5 x6 x7
  intro x8
  have h8 : Kept w r x8 := Kept.upd h3 (cuff := .inl w_cuff) (palm := .inl w_palm) (ldrs := .inl w_ldrs) (bon := .inl w_bon)
  clear_value x8
  intro x9
  have h9 : Kept w r x9 := State.setEsts_kept w_rgn w_same (Kept.ite_ (State.swapBanks_kept h8)
    h8)
  clear_value x9
  exact State.openNext_kept w_links w_cuff w_route w_flt w_pwr w_mem w_ldrs w_same (State.wr_kept h9)

theorem execImageStart_kept {w : Wr} {r : State} {fetched : Bool} {s : State} (w_rgn : w.rgn = true) (w_links : w.links = true) (w_cuff : w.cuff = true) (w_route : w.route = true) (w_flt : w.flt = true) (w_pwr : w.pwr = true) (w_mem : w.mem = true) (w_palm : w.palm = true) (w_ldrs : w.ldrs = true) (w_bon : w.bon = true) (w_same : w.same = true) (h : Kept w r s) :
    Answers w r (execImageStart fetched s) := by
  unfold execImageStart
  exact Answers.ite_ (Answers.next h)
    (Answers.ite_ (Answers.next (State.wr_kept (State.flag_kept w_same (State.fault_kept w_cuff w_route w_flt w_pwr w_same h))))
    (Answers.ite_ (Answers.next (State.endScheduled_kept w_cuff (State.wr_kept h)))
    (Answers.next (State.startImage_kept w_rgn w_links w_cuff w_route w_flt w_pwr w_mem w_palm w_ldrs w_bon w_same h))))

end Sys2Proof.Machine
end

