-- ==== Sys2Proof/Laws/KeptPhases.lean ====
section
/-! SUPPORT. Sys2Proof/Laws/KeptPhases.lean: what each operation of Machine/Phases.lean keeps (Kept, Laws/Kept.lean). -/
set_option Elab.async false
namespace Sys2Proof.Machine

theorem State.loseRegion_kept {w : Wr} {r s : State} {g : Nat} (w_sram : w.sram = true) (w_rgn : w.rgn = true) (w_flt : w.flt = true) (w_mem : w.mem = true) (w_palm : w.palm = true) (w_ldrs : w.ldrs = true) (h : Kept w r s) :
    Kept w r (s.loseRegion g) := by
  unfold State.loseRegion
  exact Kept.updSram (State.wipeUpsets_kept w_mem (State.setRg_kept w_rgn (State.clearRegs_kept w_flt h))) w_sram
    (fun g => SMap.wf_clear _ _ _ g) (mem := .inl w_mem) (palm := .inl w_palm) (ldrs := .inl w_ldrs)

theorem State.loseStackCtl_kept {w : Wr} {r s : State} {k : Nat} (w_flt : w.flt = true) (w_mem : w.mem = true) (h : Kept w r s) :
    Kept w r (State.loseStackCtl s k) := by
  unfold State.loseStackCtl
  lift_lets -underBinder
  intro x0
  have h0 : Kept w r x0 := State.wipeUpsets_kept w_mem (State.clearRegs_kept w_flt h)
  clear_value x0
  intro x1; clear_value x1
  exact Kept.upd h0 (mem := .inl w_mem)

theorem State.loseStack_kept {w : Wr} {r s : State} {k : Nat} (w_hbm : w.hbm = true) (w_flt : w.flt = true) (w_mem : w.mem = true) (h : Kept w r s) :
    Kept w r (s.loseStack k) := by
  unfold State.loseStack
  exact Kept.updHbm (State.loseStackCtl_kept w_flt w_mem h) w_hbm (fun g => SMap.wf_clear _ _ _ g) (mem := .inl w_mem)

theorem State.loseBonnet_kept {w : Wr} {r s : State}  (w_bar2 : w.bar2 = true) (w_rgn : w.rgn = true) (w_flt : w.flt = true) (w_mem : w.mem = true) (w_ldrs : w.ldrs = true) (w_bon : w.bon = true) (h : Kept w r s) :
    Kept w r s.loseBonnet := by
  unfold State.loseBonnet
  exact Kept.updBar2 (State.wipeUpsets_kept w_mem (State.setRg_kept w_rgn (State.clearRegs_kept w_flt h))) w_bar2
    (fun g => SMap.wf_clear _ _ _ g) (bon := .inl w_bon) (ldrs := .inl w_ldrs)

theorem State.loseCuff_kept {w : Wr} {r s : State}  (w_bar2 : w.bar2 = true) (w_links : w.links = true) (w_cuff : w.cuff = true) (w_route : w.route = true) (w_flt : w.flt = true) (w_mem : w.mem = true) (w_palm : w.palm = true) (h : Kept w r s) :
    Kept w r s.loseCuff := by
  unfold State.loseCuff
  exact State.wr_kept (State.showDisc_kept (Kept.updBar2 (State.wipeUpsets_kept w_mem (State.clearRegs_kept w_flt (State.clearRun_kept w_links w_cuff w_flt w_mem w_palm h)))
    w_bar2 (fun g => SMap.wf_clear _ _ _ g) (links := .inl w_links) (cuff := .inl w_cuff) (route := .inl w_route)
    (flt := .inl w_flt)))

theorem State.setBit_kept {w : Wr} {r s : State} {f : Fld} {i : Nat} {b : Bool} (h : Kept w r s) :
    Kept w r (State.setBit s f i b) := by
  unfold State.setBit
  lift_lets -underBinder
  intro x0; clear_value x0
  exact State.wr_kept h

theorem State.supplyCause_kept {w : Wr} {r s : State} (h : Kept w r s) :
    Kept w r (State.supplyCause s) := by
  unfold State.supplyCause
  exact Kept.ite_ (State.forEach_kept h (fun _ _ h0 => State.wr_kept h0))
    h

theorem State.domainOff_kept {w : Wr} {r s : State} {d : Nat} (w_bar2 : w.bar2 = true) (w_hbm : w.hbm = true) (w_sram : w.sram = true) (w_rgn : w.rgn = true) (w_links : w.links = true) (w_cuff : w.cuff = true) (w_route : w.route = true) (w_flt : w.flt = true) (w_mem : w.mem = true) (w_palm : w.palm = true) (w_ldrs : w.ldrs = true) (w_bon : w.bon = true) (h : Kept w r s) :
    Kept w r (State.domainOff s d) := by
  unfold State.domainOff
  lift_lets -underBinder
  intro x0; clear_value x0
  intro x1
  have h1 : Kept w r x1 := State.setBit_kept (State.setBit_kept h)
  clear_value x1
  exact Kept.ite_ h1
    (Kept.ite_ (State.loseRegion_kept w_sram w_rgn w_flt w_mem w_palm w_ldrs h1)
    (Kept.ite_ (State.loseStack_kept w_hbm w_flt w_mem h1)
    (Kept.ite_ (State.loseBonnet_kept w_bar2 w_rgn w_flt w_mem w_ldrs w_bon h1)
    (Kept.ite_ (State.loseCuff_kept w_bar2 w_links w_cuff w_route w_flt w_mem w_palm h1)
    h1))))

theorem State.groupOff_kept {w : Wr} {r s : State} {g : Nat} (w_bar2 : w.bar2 = true) (w_hbm : w.hbm = true) (w_sram : w.sram = true) (w_rgn : w.rgn = true) (w_links : w.links = true) (w_cuff : w.cuff = true) (w_route : w.route = true) (w_flt : w.flt = true) (w_mem : w.mem = true) (w_palm : w.palm = true) (w_ldrs : w.ldrs = true) (w_bon : w.bon = true) (h : Kept w r s) :
    Kept w r (State.groupOff s g) := by
  unfold State.groupOff
  exact State.forEach_kept h (fun _ _ h0 => State.domainOff_kept w_bar2 w_hbm w_sram w_rgn w_links w_cuff w_route w_flt w_mem w_palm w_ldrs w_bon h0)

theorem State.showPhase_kept {w : Wr} {r s : State} (h : Kept w r s) :
    Kept w r (State.showPhase s) := by
  unfold State.showPhase
  exact State.wr_kept h

theorem State.showWaits_kept {w : Wr} {r s : State} (w_boot : w.boot = true) (h : Kept w r s) :
    Kept w r (State.showWaits s) := by
  unfold State.showWaits
  lift_lets -underBinder
  intro x0 x1; clear_value x0 x1
  intro x2
  have h2 : Kept w r x2 := State.wrb_kept (State.wrb_kept h)
  clear_value x2
  intro x3; clear_value x3
  exact by
    split
    · exact Kept.ite_ (Kept.upd h2 (boot := .inl w_boot))
          h2
    · exact Kept.ite_ h2
          (by
          lift_lets -underBinder
          intro x4 x5; clear_value x4 x5
          exact Kept.upd h2 (boot := .inl w_boot))

theorem State.powerStep_kept {w : Wr} {r s : State} (h : Kept w r s) :
    Kept w r (State.powerStep s) := by
  unfold State.powerStep
  split
  · exact Kept.ite_ (State.forEach_kept h (fun _ _ h0 => State.setBit_kept h0))
        h
  · exact h

theorem State.powerNext_kept {w : Wr} {r s : State} {t : Nat} (w_boot : w.boot = true) (h : Kept w r s) :
    Kept w r (State.powerNext s t) := by
  unfold State.powerNext
  split
  · exact h
  · exact Kept.ite_ (State.showWaits_kept w_boot h)
        (State.showWaits_kept w_boot (State.powerStep_kept (Kept.upd h (boot := .inl w_boot))))

theorem State.bringLink_kept {w : Wr} {r s : State} {l : Nat} (w_links : w.links = true) (h : Kept w r s) :
    Kept w r (State.bringLink s l) := by
  unfold State.bringLink
  lift_lets -underBinder
  intro x0
  have h0 : Kept w r x0 := State.wr_kept (State.wr_kept (State.devWr_kept h))
  clear_value x0
  intro x1; clear_value x1
  exact State.setTraining_kept w_links (State.setLk_kept w_links h0)

theorem State.phaseWork_kept {w : Wr} {r s : State} {p : Nat} (w_links : w.links = true) (w_cuff : w.cuff = true) (w_route : w.route = true) (w_flt : w.flt = true) (w_pwr : w.pwr = true) (w_same : w.same = true) (h : Kept w r s) :
    Kept w r (State.phaseWork s p) := by
  unfold State.phaseWork
  split
  · exact by
        lift_lets -underBinder
        intro x0
        have h0 : Kept w r x0 := State.devWr_kept h
        clear_value x0
        exact State.forEach_kept h0 (fun _ _ h1 => State.bringLink_kept w_links h1)
  · exact State.forEach_kept h (fun _ _ h2 => State.evalLink_kept w_links w_cuff w_route w_flt w_pwr w_same h2)
  · exact h

theorem State.startPhase_kept {w : Wr} {r s : State} {p : Nat} (w_links : w.links = true) (w_cuff : w.cuff = true) (w_route : w.route = true) (w_flt : w.flt = true) (w_pwr : w.pwr = true) (w_boot : w.boot = true) (w_same : w.same = true) (h : Kept w r s) :
    Kept w r (State.startPhase s p) := by
  unfold State.startPhase
  lift_lets -underBinder
  intro x0; clear_value x0
  intro x1
  have h1 : Kept w r x1 := Kept.upd h (boot := .inl w_boot)
  clear_value x1
  exact State.showWaits_kept w_boot (State.phaseWork_kept w_links w_cuff w_route w_flt w_pwr w_same (State.showPhase_kept h1))

theorem State.stopPhase_kept {w : Wr} {r s : State} {p : Nat} (w_boot : w.boot = true) (h : Kept w r s) :
    Kept w r (State.stopPhase s p) := by
  unfold State.stopPhase
  lift_lets -underBinder
  intro x0 x1; clear_value x0 x1
  intro x2
  have h2 : Kept w r x2 := Kept.upd h (boot := .inl w_boot)
  clear_value x2
  exact State.showPhase_kept (State.wr_kept (State.wr_kept h2))

theorem State.endPhase_kept {w : Wr} {r s : State} {p : Nat} (w_links : w.links = true) (w_cuff : w.cuff = true) (w_route : w.route = true) (w_flt : w.flt = true) (w_pwr : w.pwr = true) (w_boot : w.boot = true) (w_same : w.same = true) (h : Kept w r s) :
    Kept w r (State.endPhase s p) := by
  unfold State.endPhase
  exact Kept.ite_ h
    (by
    lift_lets -underBinder
    intro x0
    have h0 : Kept w r x0 := State.stopPhase_kept w_boot h
    clear_value x0
    intro x1; clear_value x1
    exact by
      split
      · exact Kept.ite_ (State.startPhase_kept w_links w_cuff w_route w_flt w_pwr w_boot w_same h0)
            h0
      · exact State.startPhase_kept w_links w_cuff w_route w_flt w_pwr w_boot w_same h0
      · exact Kept.ite_ (State.startPhase_kept w_links w_cuff w_route w_flt w_pwr w_boot w_same h0)
            h0
      · exact Kept.ite_ (State.startPhase_kept w_links w_cuff w_route w_flt w_pwr w_boot w_same h0)
            h0
      · exact State.startPhase_kept w_links w_cuff w_route w_flt w_pwr w_boot w_same (Kept.ite_ (State.stopPhase_kept w_boot h0)
            h0)
      · exact State.startPhase_kept w_links w_cuff w_route w_flt w_pwr w_boot w_same h0
      · exact State.showWaits_kept w_boot h0)

theorem State.groupStarts_kept {w : Wr} {r s : State} {g : Nat} (w_links : w.links = true) (w_cuff : w.cuff = true) (w_route : w.route = true) (w_flt : w.flt = true) (w_pwr : w.pwr = true) (w_boot : w.boot = true) (w_same : w.same = true) (h : Kept w r s) :
    Kept w r (State.groupStarts s g) := by
  unfold State.groupStarts
  split
  · exact State.startPhase_kept w_links w_cuff w_route w_flt w_pwr w_boot w_same h
  · exact State.startPhase_kept w_links w_cuff w_route w_flt w_pwr w_boot w_same h
  · exact Kept.ite_ h
        (State.startPhase_kept w_links w_cuff w_route w_flt w_pwr w_boot w_same h)
  · exact h

theorem State.bringUp_kept {w : Wr} {r s : State} {warm : Bool} (w_links : w.links = true) (w_cuff : w.cuff = true) (w_route : w.route = true) (w_flt : w.flt = true) (w_pwr : w.pwr = true) (w_boot : w.boot = true) (w_same : w.same = true) (h : Kept w r s) :
    Kept w r (State.bringUp s warm) := by
  unfold State.bringUp
  lift_lets -underBinder
  intro x0
  have h0 : Kept w r x0 := State.wr_kept (State.wr_kept (State.wr_kept h))
  clear_value x0
  intro x1
  have h1 : Kept w r x1 := State.wrb_kept h0
  clear_value x1
  intro x2
  have h2 : Kept w r x2 := State.count_kept h1
  clear_value x2
  intro x3
  have h3 : Kept w r x3 := State.forEach_kept h2 (fun _ _ h4 => State.wr_kept h4)
  clear_value x3
  intro x5; clear_value x5
  intro x6
  have h6 : Kept w r x6 := Kept.upd h3 (boot := .inl w_boot)
  clear_value x6
  exact State.powerNext_kept w_boot (State.startPhase_kept w_links w_cuff w_route w_flt w_pwr w_boot w_same h6)

theorem State.setLinerBad_kept {w : Wr} {r s : State} {e : Nat} {bad : Nat} (h : Kept w r s) :
    Kept w r (State.setLinerBad s e bad) := by
  unfold State.setLinerBad
  lift_lets -underBinder
  intro x0 x1 x2 x3; clear_value x0 x1 x2 x3
  exact State.setReg_kept h

theorem State.markBad_kept {w : Wr} {r s : State} {p : Nat} (h : Kept w r s) :
    Kept w r (State.markBad s p) := by
  unfold State.markBad
  lift_lets -underBinder
  intro x0; clear_value x0
  exact Kept.ite_ h
    (State.wr_kept (State.setLinerBad_kept h))

theorem State.loadLiner_kept {w : Wr} {r s : State} (w_palm : w.palm = true) (h : Kept w r s) :
    KeptP w r (State.loadLiner s) := by
  unfold State.loadLiner
  exact KeptP.ite_ (by
    lift_lets -underBinder
    intro x0
    have h0 : Kept w r x0 := State.wr_kept h
    clear_value x0
    intro x1; clear_value x1
    exact Kept.upd h0 (palm := .inl w_palm))
    (State.wr_kept h)

end Sys2Proof.Machine
end

