-- ==== Sys2Proof/Laws/KeptLoose.lean ====
section
/-! SUPPORT. Sys2Proof/Laws/KeptLoose.lean: what each operation of Machine/Loose.lean keeps (Kept, Laws/Kept.lean). -/
set_option Elab.async false
namespace Sys2Proof.Machine

theorem State.readRank_kept {w : Wr} {r s : State} {x : Addr} (w_cuff : w.cuff = true) (w_route : w.route = true) (w_flt : w.flt = true) (w_pwr : w.pwr = true) (w_mem : w.mem = true) (w_same : w.same = true) (h : Kept w r s) :
    Kept w r (State.readRank s x) := by
  unfold State.readRank
  split
  · exact Kept.ite_ (State.guardTab_kept w_cuff w_route w_flt w_pwr w_mem w_same h)
        h
  · exact h

theorem State.inject_kept {w : Wr} {r s : State} {vc : Nat} {a : Addr} {dstQ : Nat} {srcRank : Nat} {rtag : Nat} {replyN : Nat} {hdr : Nat} {data : Nat} (w_cuff : w.cuff = true) (w_route : w.route = true) (w_flt : w.flt = true) (w_pwr : w.pwr = true) (w_mem : w.mem = true) (w_freeCtr : w.freeCtr = true) (w_same : w.same = true) (h : Kept w r s) :
    Kept w r (State.inject s vc a dstQ srcRank rtag replyN hdr data) := by
  unfold State.inject
  lift_lets -underBinder
  intro x0; clear_value x0
  intro x1
  have h1 : Kept w r x1 := State.readRank_kept w_cuff w_route w_flt w_pwr w_mem w_same h
  clear_value x1
  exact Kept.ite_ (State.dropVc_kept h)
    (by
    split
    · exact State.dropRoute_kept h1
    · exact by
          lift_lets -underBinder
          intro x2 x3 x4; clear_value x2 x3 x4
          exact Kept.ite_ (State.dropRoute_kept h1)
            (Kept.ite_ (Kept.upd h1 (route := .inl w_route))
            (State.stamp_kept w_route w_freeCtr h1)))

theorem execLooseInject_kept {w : Wr} {r : State} {vc : Fin 8} {addr : Addr} {dstQ : Fin 256} {srcRank : Fin 65536} {rtag : Fin 65536} {replyN : Fin 256} {hdr : BitVec 144} {data : Nat} {s : State} (w_cuff : w.cuff = true) (w_route : w.route = true) (w_flt : w.flt = true) (w_pwr : w.pwr = true) (w_mem : w.mem = true) (w_freeCtr : w.freeCtr = true) (w_same : w.same = true) (h : Kept w r s) :
    Answers w r (execLooseInject vc addr dstQ srcRank rtag replyN hdr data s) := by
  unfold execLooseInject
  exact Answers.next (State.inject_kept w_cuff w_route w_flt w_pwr w_mem w_freeCtr w_same h)

theorem execLatticeAssign_kept {w : Wr} {r s : State} (w_links : w.links = true) (w_cuff : w.cuff = true) (w_route : w.route = true) (w_flt : w.flt = true) (w_pwr : w.pwr = true) (w_mem : w.mem = true) (w_freeCtr : w.freeCtr = true) (w_same : w.same = true) (h : Kept w r s) :
    Answers w r (execLatticeAssign s) := by
  unfold execLatticeAssign
  lift_lets -underBinder
  intro x0; clear_value x0
  exact Answers.ite_ (Answers.next h)
    (Answers.next (State.assignLattice_kept w_links w_cuff w_route w_flt w_pwr w_mem w_freeCtr w_same (State.retryWait_kept w_route w_freeCtr h)))

theorem execBusyInject_kept {w : Wr} {r s : State} (w_route : w.route = true) (w_freeCtr : w.freeCtr = true) (h : Kept w r s) :
    Answers w r (execBusyInject s) := by
  unfold execBusyInject
  split
  · exact Answers.next h
  · exact by
        lift_lets -underBinder
        intro x0; clear_value x0
        intro x1
        have h1 : Kept w r x1 := Kept.upd h (route := .inl w_route)
        clear_value x1
        intro x2; clear_value x2
        exact Answers.ite_ (Answers.next (State.dropVc_kept h1))
          (Answers.next (State.stamp_kept w_route w_freeCtr h1))

theorem execReservationTimeout_kept {w : Wr} {r : State} {rtag : Fin 65536} {s : State} (w_route : w.route = true) (w_freeCtr : w.freeCtr = true) (h : Kept w r s) :
    Answers w r (execReservationTimeout rtag s) := by
  unfold execReservationTimeout
  lift_lets -underBinder
  intro x0 x1; clear_value x0 x1
  exact Answers.next (State.retryWait_kept w_route w_freeCtr (Kept.upd h (route := .inl w_route)))

theorem execOppSuppressEnd_kept {w : Wr} {r : State} {l : Fin 24} {s : State} (w_links : w.links = true) (h : Kept w r s) :
    Answers w r (execOppSuppressEnd l s) := by
  unfold execOppSuppressEnd
  exact Answers.ite_ (Answers.next (State.setLk_kept w_links h))
    (Answers.next h)

theorem execRankTableWrite_kept {w : Wr} {r : State} {r0 : Fin 4096} {v : Word} {s : State} (w_bar2 : w.bar2 = true) (w_mem : w.mem = true) (w_same : w.same = true) (h : Kept w r s) :
    Answers w r (execRankTableWrite r0 v s) := by
  unfold execRankTableWrite
  lift_lets -underBinder
  intro x0; clear_value x0
  exact Answers.next (State.bar2Write_kept w_same h (fun _ h1 => Kept.ite_ (State.flag_kept w_same h1)
      (State.dropUpsets_kept w_mem (State.setTab_kept w_bar2 h1))))

theorem State.routeWrite_kept {w : Wr} {r s : State} {e : Nat} {m : Nat} {v : Word} (w_bar2 : w.bar2 = true) (w_mem : w.mem = true) (w_same : w.same = true) (h : Kept w r s) :
    Kept w r (State.routeWrite s e m v) := by
  unfold State.routeWrite
  exact Kept.ite_ (State.flag_kept w_same h)
    (Kept.ite_ (State.flag_kept w_same h)
    (State.dropUpsets_kept w_mem (State.setTab_kept w_bar2 h)))

theorem execRouteTableWrite_kept {w : Wr} {r : State} {epoch : Fin 2} {dest : Fin 4096} {v : Word} {s : State} (w_bar2 : w.bar2 = true) (w_mem : w.mem = true) (w_same : w.same = true) (h : Kept w r s) :
    Answers w r (execRouteTableWrite epoch dest v s) := by
  unfold execRouteTableWrite
  lift_lets -underBinder
  intro x0; clear_value x0
  exact Answers.next (State.bar2Write_kept w_same h (fun _ h1 => Kept.ite_ (State.routeWrite_kept w_bar2 w_mem w_same h1)
      h1))

theorem State.epochArm_kept {w : Wr} {r s : State} (w_same : w.same = true) (h : Kept w r s) :
    Kept w r (State.epochArm s) := by
  unfold State.epochArm
  exact Kept.ite_ (State.flag_kept w_same h)
    (Kept.ite_ (State.flag_kept w_same h)
    (Kept.ite_ (State.flag_kept w_same h)
    (State.wr_kept h)))

theorem execEpochArm_kept {w : Wr} {r s : State} (w_same : w.same = true) (h : Kept w r s) :
    Answers w r (execEpochArm s) := by
  unfold execEpochArm
  exact Answers.next (State.busWrite_kept w_same h (fun _ h0 => State.epochArm_kept w_same h0))

theorem execEpochSwitch_kept {w : Wr} {r s : State} (h : Kept w r s) :
    Answers w r (execEpochSwitch s) := by
  unfold execEpochSwitch
  lift_lets -underBinder
  intro x0; clear_value x0
  exact Answers.ite_ (Answers.next (State.wr_kept (State.wr_kept (State.wr_kept h))))
    (Answers.next h)

end Sys2Proof.Machine
end

