-- ==== Sys2Proof/Laws/KeptTile.lean ====
section
/-! SUPPORT. Sys2Proof/Laws/KeptTile.lean: what each operation of Machine/Tile.lean keeps (Kept, Laws/Kept.lean). -/
set_option Elab.async false
namespace Sys2Proof.Machine

theorem State.palmLast_kept {w : Wr} {r s : State} {kind : Nat} {detail : Nat} {region : Nat} {tile : Nat} {bank : Nat} {op : Nat} (h : Kept w r s) :
    Kept w r (State.palmLast s kind detail region tile bank op) := by
  unfold State.palmLast
  exact State.setReg_kept h

theorem State.sramWrite_kept {w : Wr} {r s : State} {t a : Nat} {v : RWord} (w_sram : w.sram = true) (h : Kept w r s) :
    Kept w r (s.sramWrite t a v) := by
  unfold State.sramWrite
  exact Kept.ite_ h (Kept.updSram h w_sram fun g => Memory.wf_writeBytes _ _ _ g)

theorem State.sramWriteN_kept {w : Wr} {r s : State} {t a : Nat} {vs : List RWord} (w_sram : w.sram = true) (h : Kept w r s) :
    Kept w r (s.sramWriteN t a vs) := by
  induction vs generalizing s a with
  | nil => exact h
  | cons v vs ih => exact ih (State.sramWrite_kept w_sram h)

theorem State.fence_kept {w : Wr} {r s : State} {p : Nat} (h : Kept w r s) :
    Kept w r (State.fence s p) := by
  unfold State.fence
  exact State.wr_kept (State.setReg_kept h)

theorem State.poisonRest_kept {w : Wr} {r s : State} {t : Nat} (w_sram : w.sram = true) (w_palm : w.palm = true) (h : Kept w r s) :
    Kept w r (State.poisonRest s t) := by
  unfold State.poisonRest
  split
  · exact h
  · exact by
        lift_lets -underBinder
        intro x0 x1 x2 x3; clear_value x0 x1 x2 x3
        intro x4
        have h4 : Kept w r x4 := Kept.upd h (palm := .inl w_palm)
        clear_value x4
        exact Kept.ite_ h
          (Kept.ite_ h4
          (State.forEach_kept h4 (fun _ _ h5 => State.sramWriteN_kept w_sram h5)))

theorem State.tileFail_kept {w : Wr} {r s : State} {t : Nat} {cause : Nat} (w_sram : w.sram = true) (w_cuff : w.cuff = true) (w_route : w.route = true) (w_flt : w.flt = true) (w_pwr : w.pwr = true) (w_palm : w.palm = true) (w_same : w.same = true) (h : Kept w r s) :
    Kept w r (State.tileFail s t cause) := by
  unfold State.tileFail
  lift_lets -underBinder
  intro x0 x1; clear_value x0 x1
  intro x2
  have h2 : Kept w r x2 := State.palmLast_kept (State.fence_kept (State.poisonRest_kept w_sram w_palm h))
  clear_value x2
  exact State.palmHalt_kept (State.fault_kept w_cuff w_route w_flt w_pwr w_same h2)

theorem State.sramBad_kept {w : Wr} {r s : State} {t p a op : Nat} (w_sram : w.sram = true) (w_cuff : w.cuff = true) (w_route : w.route = true) (w_flt : w.flt = true) (w_pwr : w.pwr = true) (w_mem : w.mem = true) (w_palm : w.palm = true) (w_same : w.same = true) (h : Kept w r s) :
    Kept w r (s.sramBad t p a op) := by
  unfold State.sramBad
  lift_lets -underBinder
  intro x0 x1
  have h1 : Kept w r x1 := State.count_kept h
  clear_value x1
  intro x2
  have h2 : Kept w r x2 := State.palmLast_kept h1
  clear_value x2
  intro x3
  have h3 : Kept w r x3 := State.eccFault_kept w_cuff w_route w_flt w_pwr w_mem w_same h2
  clear_value x3
  intro x4
  have h4 : Kept w r x4 := Kept.updSram h3 w_sram fun g => Memory.wf_writeBytes _ _ _ g
  clear_value x4
  exact Kept.ite_ (State.tileFail_kept w_sram w_cuff w_route w_flt w_pwr w_palm w_same h4) h4

theorem State.sramRead_kept {w : Wr} {r s : State} {op : Nat} {t : Nat} {w0 : Nat} (w_sram : w.sram = true) (w_cuff : w.cuff = true) (w_route : w.route = true) (w_flt : w.flt = true) (w_pwr : w.pwr = true) (w_mem : w.mem = true) (w_palm : w.palm = true) (w_same : w.same = true) (h : Kept w r s) :
    KeptP w r (State.sramRead s op t w0) := by
  unfold State.sramRead
  lift_lets -underBinder
  intro x0; clear_value x0
  exact KeptP.ite_ h
    (by
    split
    · exact h
    · exact Kept.ite_ h
          (State.count_kept h)
    · exact State.sramBad_kept w_sram w_cuff w_route w_flt w_pwr w_mem w_palm w_same h)

theorem State.sramReadN_kept {w : Wr} {r s : State} {op t a n : Nat} (w_sram : w.sram = true) (w_cuff : w.cuff = true) (w_route : w.route = true) (w_flt : w.flt = true) (w_pwr : w.pwr = true) (w_mem : w.mem = true) (w_palm : w.palm = true) (w_same : w.same = true) (h : Kept w r s) :
    KeptP w r (s.sramReadN op t a n) := by
  induction n generalizing s a with
  | zero => exact h
  | succ n ih =>
    have h1 := State.sramRead_kept w_sram w_cuff w_route w_flt w_pwr w_mem w_palm w_same (op := op) (t := t) (w0 := a) h
    exact ih (Kept.ite_ (State.count_kept h1) h1)

theorem State.readBuf_kept {w : Wr} {r s : State} {op : Nat} {t : Nat} {w0 : Nat} {fmt : Nat} {rows : Nat} {n : Nat} (w_sram : w.sram = true) (w_cuff : w.cuff = true) (w_route : w.route = true) (w_flt : w.flt = true) (w_pwr : w.pwr = true) (w_mem : w.mem = true) (w_palm : w.palm = true) (w_same : w.same = true) (h : Kept w r s) :
    KeptP w r (State.readBuf s op t w0 fmt rows n) := by
  unfold State.readBuf
  lift_lets -underBinder
  intro x0; clear_value x0
  intro x1
  have h1 : KeptP w r x1 := State.sramReadN_kept w_sram w_cuff w_route w_flt w_pwr w_mem w_palm w_same h
  clear_value x1
  exact h1

theorem State.numRecord_kept {w : Wr} {r s : State} {op : Nat} {t : Nat} {es : List Exc} (w_same : w.same = true) (h : Kept w r s) :
    Kept w r (State.numRecord s op t es) := by
  unfold State.numRecord
  lift_lets -underBinder
  intro x0; clear_value x0
  exact by
    split
    · exact h
    · exact by
          lift_lets -underBinder
          intro x1
          have h1 : Kept w r x1 := Kept.ite_ (State.wr_kept (State.wr_kept (State.wr_kept h)))
            h
          clear_value x1
          intro x2; clear_value x2
          intro x3
          have h3 : ∀ y1 y2 y3, (Kept w r) y1 → (Kept w r) (x3 y1 y2 y3) := fun _ _ _ h4 => Kept.ite_ (State.flag_kept w_same h4)
              h4
          clear_value x3
          intro x5
          have h5 : Kept w r x5 := h3 _ _ _ h1
          clear_value x5
          intro x6
          have h6 : Kept w r x6 := h3 _ _ _ h5
          clear_value x6
          intro x7
          have h7 : Kept w r x7 := h3 _ _ _ h6
          clear_value x7
          intro x8
          have h8 : Kept w r x8 := h3 _ _ _ h7
          clear_value x8
          intro x9
          have h9 : Kept w r x9 := h3 _ _ _ h8
          clear_value x9
          intro x10
          have h10 : Kept w r x10 := h3 _ _ _ h9
          clear_value x10
          intro x11
          have h11 : Kept w r x11 := h3 _ _ _ h10
          clear_value x11
          intro x12
          have h12 : Kept w r x12 := State.count_kept h11
          clear_value x12
          intro x13
          have h13 : Kept w r x13 := State.count_kept h12
          clear_value x13
          exact State.count_kept h13

theorem State.finish_kept {w : Wr} {r s : State} {o : Op} {t : Nat} {rows : List (List Out)} (w_same : w.same = true) (h : Kept w r s) :
    KeptP w r (State.finish s o t rows) := by
  unfold State.finish
  lift_lets -underBinder
  intro x0; clear_value x0
  exact State.numRecord_kept w_same h

theorem State.putOut_kept {w : Wr} {r s : State} {o : Op} {t : Nat} {w0 : Nat} {fmt : Nat} {ws : List RWord} (w_sram : w.sram = true) (w_palm : w.palm = true) (h : Kept w r s) :
    Kept w r (State.putOut s o t w0 fmt ws) := by
  unfold State.putOut
  lift_lets -underBinder
  intro x0 x1 x2; clear_value x0 x1 x2
  exact Kept.ite_ (Kept.upd h (palm := .inl w_palm))
    (State.sramWriteN_kept w_sram h)

theorem State.setAcc_kept {w : Wr} {r s : State} {t : Nat} {i : Nat} {j : Nat} {x : Acc} (w_palm : w.palm = true) (h : Kept w r s) :
    Kept w r (State.setAcc s t i j x) := by
  unfold State.setAcc
  exact Kept.upd h (palm := .inl w_palm)

theorem State.clearAcc_kept {w : Wr} {r s : State} {t : Nat} (w_palm : w.palm = true) (h : Kept w r s) :
    Kept w r (State.clearAcc s t) := by
  unfold State.clearAcc
  lift_lets -underBinder
  intro x0 x1; clear_value x0 x1
  exact Kept.upd h (palm := .inl w_palm)

theorem State.boundsData_kept {w : Wr} {r s : State} {o : Op} {t : Nat} {detail : Nat} {addr : Nat} (w_cuff : w.cuff = true) (w_route : w.route = true) (w_flt : w.flt = true) (w_pwr : w.pwr = true) (w_palm : w.palm = true) (w_same : w.same = true) (h : Kept w r s) :
    Kept w r (State.boundsData s o t detail addr) := by
  unfold State.boundsData
  lift_lets -underBinder
  intro x0
  have h0 : Kept w r x0 := State.count_kept h
  clear_value x0
  intro x1; clear_value x1
  intro x2
  have h2 : Kept w r x2 := Kept.upd h0 (palm := .inl w_palm)
  clear_value x2
  intro x3; clear_value x3
  exact Kept.ite_ h0
    (State.fault_kept w_cuff w_route w_flt w_pwr w_same (State.palmLast_kept h2))

theorem State.hbmData_kept {w : Wr} {r s : State} {o : Op} {t : Nat} {w0 : Nat} {n : Nat} (w_hbm : w.hbm = true) (w_cuff : w.cuff = true) (w_route : w.route = true) (w_flt : w.flt = true) (w_pwr : w.pwr = true) (w_mem : w.mem = true) (w_palm : w.palm = true) (w_freeCtr : w.freeCtr = true) (w_same : w.same = true) (h : Kept w r s) :
    KeptP w r (State.hbmData s o t w0 n) := by
  unfold State.hbmData
  exact KeptP.ite_ (by
    lift_lets -underBinder
    intro x0
    have h0 : KeptP w r x0 := State.hbmReadPalm_kept w_hbm w_cuff w_route w_flt w_pwr w_mem w_freeCtr w_same h
    clear_value x0
    exact State.count_kept h0)
    (State.count_kept (State.boundsData_kept w_cuff w_route w_flt w_pwr w_palm w_same h))

theorem State.hbmPut_kept {w : Wr} {r s : State} {o : Op} {t : Nat} {w0 : Nat} {ws : List RWord} (w_hbm : w.hbm = true) (w_cuff : w.cuff = true) (w_route : w.route = true) (w_flt : w.flt = true) (w_pwr : w.pwr = true) (w_palm : w.palm = true) (w_same : w.same = true) (h : Kept w r s) :
    Kept w r (State.hbmPut s o t w0 ws) := by
  unfold State.hbmPut
  exact Kept.ite_ (State.hbmWriteN_kept w_hbm h)
    (State.boundsData_kept w_cuff w_route w_flt w_pwr w_palm w_same h)

end Sys2Proof.Machine
end

