-- ==== Sys2Proof/Laws/KeptTileMath.lean ====
section
/-! SUPPORT. Sys2Proof/Laws/KeptTileMath.lean: what each operation of Machine/TileMath.lean keeps (Kept, Laws/Kept.lean). -/
set_option Elab.async false
namespace Sys2Proof.Machine

theorem State.writeGroup_kept {w : Wr} {r s : State} {o : Op} {g : List Part} (w_sram : w.sram = true) (w_palm : w.palm = true) (w_same : w.same = true) (h : Kept w r s) :
    Kept w r (State.writeGroup s o g) := by
  unfold State.writeGroup
  split
  · exact h
  · exact by
        lift_lets -underBinder
        intro x0 x1 x2; clear_value x0 x1 x2
        intro x3
        have h3 : Kept w r x3 := State.forEach_kept h (fun _ _ h4 => State.numRecord_kept w_same h4)
        clear_value x3
        intro x5; clear_value x5
        intro x6
        have h6 : KeptP w r x6 := State.finish_kept w_same h3
        clear_value x6
        exact State.putOut_kept w_sram w_palm h6

theorem State.keepPart_kept {w : Wr} {r s : State} {o : Op} {p : Part} (w_palm : w.palm = true) (w_same : w.same = true) (h : Kept w r s) :
    Kept w r (State.keepPart s o p) := by
  unfold State.keepPart
  lift_lets -underBinder
  intro x0; clear_value x0
  intro x1
  have h1 : Kept w r x1 := Kept.ite_ h
    (State.clearAcc_kept w_palm h)
  clear_value x1
  intro x2
  have h2 : Kept w r x2 := State.forEach_kept h1 (fun _ _ h3 => State.setAcc_kept w_palm h3)
  clear_value x2
  exact State.numRecord_kept w_same h2

theorem State.matrixEnd_kept {w : Wr} {r s : State} {o : Op} {parts : List Part} (w_sram : w.sram = true) (w_palm : w.palm = true) (w_same : w.same = true) (h : Kept w r s) :
    Kept w r (State.matrixEnd s o parts) := by
  unfold State.matrixEnd
  exact Kept.ite_ (State.forEach_kept h (fun _ _ h0 => State.keepPart_kept w_palm w_same h0))
    (by
    lift_lets -underBinder
    intro x1
    have h1 : Kept w r x1 := State.forEach_kept h (fun _ _ h2 => State.writeGroup_kept w_sram w_palm w_same h2)
    clear_value x1
    exact State.forEach_kept h1 (fun _ _ h3 => State.clearAcc_kept w_palm h3))

theorem State.matrixParts_kept {w : Wr} {r s : State} {o : Op} {k : Nat} {rowsA : State → Nat → State × List (List El)} (w_sram : w.sram = true) (w_cuff : w.cuff = true) (w_route : w.route = true) (w_flt : w.flt = true) (w_pwr : w.pwr = true) (w_mem : w.mem = true) (w_palm : w.palm = true) (w_same : w.same = true) (h : Kept w r s) (hf : ∀ y1 y2, Kept w r y1 → KeptP w r (rowsA y1 y2)) :
    KeptP w r (State.matrixParts s o k rowsA) := by
  unfold State.matrixParts
  exact KeptP.foldl_ h fun _ _ h0 =>
    by
    lift_lets -underBinder
    intro x1
    have h1 : KeptP w r x1 := hf _ _ h0
    clear_value x1
    intro x2
    have h2 : KeptP w r x2 := State.readBuf_kept w_sram w_cuff w_route w_flt w_pwr w_mem w_palm w_same h1
    clear_value x2
    intro x3; clear_value x3
    exact h2

theorem State.opMatmul_kept {w : Wr} {r s : State} {o : Op} (w_sram : w.sram = true) (w_cuff : w.cuff = true) (w_route : w.route = true) (w_flt : w.flt = true) (w_pwr : w.pwr = true) (w_mem : w.mem = true) (w_palm : w.palm = true) (w_same : w.same = true) (h : Kept w r s) :
    Kept w r (State.opMatmul s o) := by
  unfold State.opMatmul
  lift_lets -underBinder
  intro x0
  have h0 : KeptP w r x0 := State.matrixParts_kept w_sram w_cuff w_route w_flt w_pwr w_mem w_palm w_same h (fun _ _ h1 => by
      lift_lets -underBinder
      intro x2
      have h2 : KeptP w r x2 := State.readBuf_kept w_sram w_cuff w_route w_flt w_pwr w_mem w_palm w_same h1
      clear_value x2
      exact h2)
  clear_value x0
  exact State.matrixEnd_kept w_sram w_palm w_same h0

theorem State.opConv_kept {w : Wr} {r s : State} {o : Op} (w_sram : w.sram = true) (w_cuff : w.cuff = true) (w_route : w.route = true) (w_flt : w.flt = true) (w_pwr : w.pwr = true) (w_mem : w.mem = true) (w_palm : w.palm = true) (w_same : w.same = true) (h : Kept w r s) :
    Kept w r (State.opConv s o) := by
  unfold State.opConv
  lift_lets -underBinder
  intro x0; clear_value x0
  intro x1
  have h1 : KeptP w r x1 := State.matrixParts_kept w_sram w_cuff w_route w_flt w_pwr w_mem w_palm w_same h (fun _ _ h2 => by
      lift_lets -underBinder
      intro x3
      have h3 : KeptP w r x3 := State.readBuf_kept w_sram w_cuff w_route w_flt w_pwr w_mem w_palm w_same h2
      clear_value x3
      exact h3)
  clear_value x1
  exact State.matrixEnd_kept w_sram w_palm w_same h1

theorem State.opAttend_kept {w : Wr} {r s : State} {o : Op} (w_sram : w.sram = true) (w_cuff : w.cuff = true) (w_route : w.route = true) (w_flt : w.flt = true) (w_pwr : w.pwr = true) (w_mem : w.mem = true) (w_palm : w.palm = true) (w_same : w.same = true) (h : Kept w r s) :
    Kept w r (State.opAttend s o) := by
  unfold State.opAttend
  exact State.forEach_kept h (fun _ _ h0 => by
      lift_lets -underBinder
      intro x1
      have h1 : KeptP w r x1 := State.readBuf_kept w_sram w_cuff w_route w_flt w_pwr w_mem w_palm w_same h0
      clear_value x1
      intro x2
      have h2 : KeptP w r x2 := State.readBuf_kept w_sram w_cuff w_route w_flt w_pwr w_mem w_palm w_same h1
      clear_value x2
      intro x3
      have h3 : KeptP w r x3 := State.readBuf_kept w_sram w_cuff w_route w_flt w_pwr w_mem w_palm w_same h2
      clear_value x3
      intro x4
      have h4 : KeptP w r x4 := KeptP.ite_ (State.sramReadN_kept w_sram w_cuff w_route w_flt w_pwr w_mem w_palm w_same h3)
        h3
      clear_value x4
      intro x5; clear_value x5
      intro x6
      have h6 : KeptP w r x6 := State.finish_kept w_same h4
      clear_value x6
      exact State.clearAcc_kept w_palm (State.putOut_kept w_sram w_palm h6))

theorem State.rowOp_kept {w : Wr} {r s : State} {o : Op} {f : State → Nat → List El → State × List Out} (w_sram : w.sram = true) (w_cuff : w.cuff = true) (w_route : w.route = true) (w_flt : w.flt = true) (w_pwr : w.pwr = true) (w_mem : w.mem = true) (w_palm : w.palm = true) (w_same : w.same = true) (h : Kept w r s) (hf : ∀ y1 y2 y3, Kept w r y1 → KeptP w r (f y1 y2 y3)) :
    Kept w r (State.rowOp s o f) := by
  unfold State.rowOp
  exact State.forEach_kept h (fun _ _ h0 => by
      lift_lets -underBinder
      intro x1
      have h1 : KeptP w r x1 := State.readBuf_kept w_sram w_cuff w_route w_flt w_pwr w_mem w_palm w_same h0
      clear_value x1
      intro x2
      have h2 : KeptP w r x2 := KeptP.foldl_ h1 fun _ _ h3 =>
        by
        lift_lets -underBinder
        intro x4
        have h4 : KeptP w r x4 := hf _ _ _ h3
        clear_value x4
        exact h4
      clear_value x2
      intro x5
      have h5 : KeptP w r x5 := State.finish_kept w_same h2
      clear_value x5
      exact State.clearAcc_kept w_palm (State.putOut_kept w_sram w_palm h5))

theorem State.opSoftmax_kept {w : Wr} {r s : State} {o : Op} (w_sram : w.sram = true) (w_cuff : w.cuff = true) (w_route : w.route = true) (w_flt : w.flt = true) (w_pwr : w.pwr = true) (w_mem : w.mem = true) (w_palm : w.palm = true) (w_same : w.same = true) (h : Kept w r s) :
    Kept w r (State.opSoftmax s o) := by
  unfold State.opSoftmax
  exact State.rowOp_kept w_sram w_cuff w_route w_flt w_pwr w_mem w_palm w_same h (fun _ _ _ h0 => by
      lift_lets -underBinder
      intro x1 x2; clear_value x1 x2
      exact h0)

theorem State.opNorm_kept {w : Wr} {r s : State} {o : Op} (w_sram : w.sram = true) (w_cuff : w.cuff = true) (w_route : w.route = true) (w_flt : w.flt = true) (w_pwr : w.pwr = true) (w_mem : w.mem = true) (w_palm : w.palm = true) (w_same : w.same = true) (h : Kept w r s) :
    Kept w r (State.opNorm s o) := by
  unfold State.opNorm
  exact State.forEach_kept h (fun _ _ h0 => by
      lift_lets -underBinder
      intro x1
      have h1 : KeptP w r x1 := State.readBuf_kept w_sram w_cuff w_route w_flt w_pwr w_mem w_palm w_same h0
      clear_value x1
      intro x2
      have h2 : KeptP w r x2 := KeptP.ite_ (State.readBuf_kept w_sram w_cuff w_route w_flt w_pwr w_mem w_palm w_same h1)
        h1
      clear_value x2
      intro x3
      have h3 : KeptP w r x3 := KeptP.ite_ (State.readBuf_kept w_sram w_cuff w_route w_flt w_pwr w_mem w_palm w_same h2)
        h2
      clear_value x3
      intro x4 x5 x6; clear_value x4 x5 x6
      intro x7
      have h7 : KeptP w r x7 := State.finish_kept w_same h3
      clear_value x7
      exact State.clearAcc_kept w_palm (State.putOut_kept w_sram w_palm h7))

theorem State.opElement_kept {w : Wr} {r s : State} {o : Op} (w_sram : w.sram = true) (w_cuff : w.cuff = true) (w_route : w.route = true) (w_flt : w.flt = true) (w_pwr : w.pwr = true) (w_mem : w.mem = true) (w_palm : w.palm = true) (w_same : w.same = true) (h : Kept w r s) :
    Kept w r (State.opElement s o) := by
  unfold State.opElement
  exact State.forEach_kept h (fun _ _ h0 => by
      lift_lets -underBinder
      intro x1
      have h1 : KeptP w r x1 := State.readBuf_kept w_sram w_cuff w_route w_flt w_pwr w_mem w_palm w_same h0
      clear_value x1
      intro x2
      have h2 : KeptP w r x2 := KeptP.ite_ (State.readBuf_kept w_sram w_cuff w_route w_flt w_pwr w_mem w_palm w_same h1)
        h1
      clear_value x2
      intro x3; clear_value x3
      intro x4
      have h4 : KeptP w r x4 := State.finish_kept w_same h2
      clear_value x4
      exact State.clearAcc_kept w_palm (State.putOut_kept w_sram w_palm h4))

theorem State.opConvert_kept {w : Wr} {r s : State} {o : Op} (w_sram : w.sram = true) (w_cuff : w.cuff = true) (w_route : w.route = true) (w_flt : w.flt = true) (w_pwr : w.pwr = true) (w_mem : w.mem = true) (w_palm : w.palm = true) (w_same : w.same = true) (h : Kept w r s) :
    Kept w r (State.opConvert s o) := by
  unfold State.opConvert
  exact State.rowOp_kept w_sram w_cuff w_route w_flt w_pwr w_mem w_palm w_same h (fun _ _ _ h0 => h0)

theorem State.reduceLine_kept {w : Wr} {r s : State} {o : Op} {line : List Nat} (w_sram : w.sram = true) (w_cuff : w.cuff = true) (w_route : w.route = true) (w_flt : w.flt = true) (w_pwr : w.pwr = true) (w_mem : w.mem = true) (w_palm : w.palm = true) (w_same : w.same = true) (h : Kept w r s) :
    KeptP w r (State.reduceLine s o line) := by
  unfold State.reduceLine
  exact KeptP.foldl_ h fun _ _ h0 =>
    by
    lift_lets -underBinder
    intro x1
    have h1 : KeptP w r x1 := State.readBuf_kept w_sram w_cuff w_route w_flt w_pwr w_mem w_palm w_same h0
    clear_value x1
    intro x2 x3; clear_value x2 x3
    exact by
      split
      · exact Kept.ite_ (State.numRecord_kept w_same h1)
            h1
      · exact by
            lift_lets -underBinder
            intro x4; clear_value x4
            exact State.numRecord_kept w_same h1

theorem State.opReduceAxis_kept {w : Wr} {r s : State} {o : Op} (w_sram : w.sram = true) (w_cuff : w.cuff = true) (w_route : w.route = true) (w_flt : w.flt = true) (w_pwr : w.pwr = true) (w_mem : w.mem = true) (w_palm : w.palm = true) (w_same : w.same = true) (h : Kept w r s) :
    Kept w r (State.opReduceAxis s o) := by
  unfold State.opReduceAxis
  lift_lets -underBinder
  intro x0
  have h0 : KeptP w r x0 := KeptP.foldl_ h fun _ _ h1 =>
    by
    lift_lets -underBinder
    intro x2
    have h2 : KeptP w r x2 := State.reduceLine_kept w_sram w_cuff w_route w_flt w_pwr w_mem w_palm w_same h1
    clear_value x2
    intro x3 x4; clear_value x3 x4
    exact h2
  clear_value x0
  intro x5
  have h5 : Kept w r x5 := State.forEach_kept h0 (fun _ _ h6 => by
      split
      · exact State.putOut_kept w_sram w_palm h6
      · exact h6)
  clear_value x5
  exact State.forEach_kept h5 (fun _ _ h7 => State.clearAcc_kept w_palm h7)

theorem State.opReduce_kept {w : Wr} {r s : State} {o : Op} (w_sram : w.sram = true) (w_cuff : w.cuff = true) (w_route : w.route = true) (w_flt : w.flt = true) (w_pwr : w.pwr = true) (w_mem : w.mem = true) (w_palm : w.palm = true) (w_same : w.same = true) (h : Kept w r s) :
    Kept w r (State.opReduce s o) := by
  unfold State.opReduce
  exact Kept.ite_ (State.forEach_kept h (fun _ _ h0 => by
      lift_lets -underBinder
      intro x1
      have h1 : KeptP w r x1 := State.readBuf_kept w_sram w_cuff w_route w_flt w_pwr w_mem w_palm w_same h0
      clear_value x1
      intro x2; clear_value x2
      intro x3
      have h3 : Kept w r x3 := State.numRecord_kept w_same h1
      clear_value x3
      exact State.clearAcc_kept w_palm (State.putOut_kept w_sram w_palm h3)))
    (State.opReduceAxis_kept w_sram w_cuff w_route w_flt w_pwr w_mem w_palm w_same h)

theorem State.opTranspose_kept {w : Wr} {r s : State} {o : Op} (w_sram : w.sram = true) (w_cuff : w.cuff = true) (w_route : w.route = true) (w_flt : w.flt = true) (w_pwr : w.pwr = true) (w_mem : w.mem = true) (w_palm : w.palm = true) (w_freeCtr : w.freeCtr = true) (w_same : w.same = true) (h : Kept w r s) :
    Kept w r (State.opTranspose s o) := by
  unfold State.opTranspose
  exact State.forEach_kept h (fun _ _ h0 => by
      lift_lets -underBinder
      intro x1
      have h1 : KeptP w r x1 := State.readBuf_kept w_sram w_cuff w_route w_flt w_pwr w_mem w_palm w_same h0
      clear_value x1
      intro x2 x3 x4 x5; clear_value x2 x3 x4 x5
      intro x6
      have h6 : Kept w r x6 := State.putOut_kept w_sram w_palm h1
      clear_value x6
      exact State.clearAcc_kept w_palm (Kept.ite_ h6
        (State.tickFree_kept w_freeCtr h6)))

end Sys2Proof.Machine
end

