-- ==== Sys2Proof/Laws/KeptTileMove.lean ====
section
/-! SUPPORT. Sys2Proof/Laws/KeptTileMove.lean: what each operation of Machine/TileMove.lean keeps (Kept, Laws/Kept.lean). -/
set_option Elab.async false
namespace Sys2Proof.Machine

theorem State.stageRead_kept {w : Wr} {r : State} {a : State × SMap (List RWord)} {w0 : Nat} {n : Nat} (w_hbm : w.hbm = true) (w_cuff : w.cuff = true) (w_route : w.route = true) (w_flt : w.flt = true) (w_pwr : w.pwr = true) (w_mem : w.mem = true) (w_freeCtr : w.freeCtr = true) (w_same : w.same = true) (h : KeptP w r a) :
    KeptP w r (State.stageRead a w0 n) := by
  unfold State.stageRead
  exact KeptP.ite_ h
    (by
    lift_lets -underBinder
    intro x0
    have h0 : KeptP w r x0 := State.hbmReadPalm_kept w_hbm w_cuff w_route w_flt w_pwr w_mem w_freeCtr w_same h
    clear_value x0
    exact h0)

theorem State.hbmExtentsRead_kept {w : Wr} {r s : State} {o : Op} (w_hbm : w.hbm = true) (w_cuff : w.cuff = true) (w_route : w.route = true) (w_flt : w.flt = true) (w_pwr : w.pwr = true) (w_mem : w.mem = true) (w_freeCtr : w.freeCtr = true) (w_same : w.same = true) (h : Kept w r s) :
    KeptP w r (State.hbmExtentsRead s o) := by
  unfold State.hbmExtentsRead
  exact KeptP.foldl_ h fun _ _ h0 =>
    State.stageRead_kept w_hbm w_cuff w_route w_flt w_pwr w_mem w_freeCtr w_same h0

theorem State.opCopy_kept {w : Wr} {r s : State} {o : Op} (w_hbm : w.hbm = true) (w_sram : w.sram = true) (w_cuff : w.cuff = true) (w_route : w.route = true) (w_flt : w.flt = true) (w_pwr : w.pwr = true) (w_mem : w.mem = true) (w_palm : w.palm = true) (w_freeCtr : w.freeCtr = true) (w_same : w.same = true) (h : Kept w r s) :
    Kept w r (State.opCopy s o) := by
  unfold State.opCopy
  lift_lets -underBinder
  intro x0
  have h0 : KeptP w r x0 := KeptP.ite_ (State.hbmExtentsRead_kept w_hbm w_cuff w_route w_flt w_pwr w_mem w_freeCtr w_same h)
    h
  clear_value x0
  exact State.forEach_kept h0 (fun _ _ h1 => by
      split
      · exact by
            lift_lets -underBinder
            intro x2; clear_value x2
            intro x3
            have h3 : Kept w r x3 := State.count_kept h1
            clear_value x3
            exact State.clearAcc_kept w_palm (State.putOut_kept w_sram w_palm h3)
      · exact by
            lift_lets -underBinder
            intro x4
            have h4 : KeptP w r x4 := State.sramReadN_kept w_sram w_cuff w_route w_flt w_pwr w_mem w_palm w_same h1
            clear_value x4
            exact State.clearAcc_kept w_palm (State.hbmWriteN_kept w_hbm h4)
      · exact by
            lift_lets -underBinder
            intro x5
            have h5 : KeptP w r x5 := State.sramReadN_kept w_sram w_cuff w_route w_flt w_pwr w_mem w_palm w_same h1
            clear_value x5
            exact State.clearAcc_kept w_palm (State.putOut_kept w_sram w_palm h5))

theorem State.tableRow_kept {w : Wr} {r s : State} {o : Op} {t : Nat} {base : Nat} {idx : Nat} (w_hbm : w.hbm = true) (w_sram : w.sram = true) (w_cuff : w.cuff = true) (w_route : w.route = true) (w_flt : w.flt = true) (w_pwr : w.pwr = true) (w_mem : w.mem = true) (w_palm : w.palm = true) (w_freeCtr : w.freeCtr = true) (w_same : w.same = true) (h : Kept w r s) :
    KeptP w r (State.tableRow s o t base idx) := by
  unfold State.tableRow
  lift_lets -underBinder
  intro x0; clear_value x0
  exact KeptP.ite_ (State.count_kept (State.boundsData_kept w_cuff w_route w_flt w_pwr w_palm w_same h))
    (KeptP.ite_ (State.hbmData_kept w_hbm w_cuff w_route w_flt w_pwr w_mem w_palm w_freeCtr w_same h)
    (State.sramReadN_kept w_sram w_cuff w_route w_flt w_pwr w_mem w_palm w_same h))

theorem State.opGather_kept {w : Wr} {r s : State} {o : Op} (w_hbm : w.hbm = true) (w_sram : w.sram = true) (w_cuff : w.cuff = true) (w_route : w.route = true) (w_flt : w.flt = true) (w_pwr : w.pwr = true) (w_mem : w.mem = true) (w_palm : w.palm = true) (w_freeCtr : w.freeCtr = true) (w_same : w.same = true) (h : Kept w r s) :
    Kept w r (State.opGather s o) := by
  unfold State.opGather
  exact State.forEach_kept h (fun _ _ h0 => by
      lift_lets -underBinder
      intro x1
      have h1 : KeptP w r x1 := State.sramReadN_kept w_sram w_cuff w_route w_flt w_pwr w_mem w_palm w_same h0
      clear_value x1
      intro x2
      have h2 : KeptP w r x2 := KeptP.foldl_ h1 fun _ _ h3 =>
        by
        split
        · exact h3
        · exact KeptP.ite_ h3
              (by
              lift_lets -underBinder
              intro x4
              have h4 : KeptP w r x4 := State.tableRow_kept w_hbm w_sram w_cuff w_route w_flt w_pwr w_mem w_palm w_freeCtr w_same h3
              clear_value x4
              exact h4)
      clear_value x2
      exact State.clearAcc_kept w_palm (State.putOut_kept w_sram w_palm h2))

theorem State.tablePut_kept {w : Wr} {r s : State} {o : Op} {t : Nat} {idx : Nat} {ws : List RWord} (w_hbm : w.hbm = true) (w_sram : w.sram = true) (w_cuff : w.cuff = true) (w_route : w.route = true) (w_flt : w.flt = true) (w_pwr : w.pwr = true) (w_palm : w.palm = true) (w_same : w.same = true) (h : Kept w r s) :
    Kept w r (State.tablePut s o t idx ws) := by
  unfold State.tablePut
  exact Kept.ite_ (State.hbmPut_kept w_hbm w_cuff w_route w_flt w_pwr w_palm w_same h)
    (State.sramWriteN_kept w_sram h)

theorem State.scatterRow_kept {w : Wr} {r s : State} {o : Op} {t : Nat} {idx : Option Nat} {src : List RWord} (w_hbm : w.hbm = true) (w_sram : w.sram = true) (w_cuff : w.cuff = true) (w_route : w.route = true) (w_flt : w.flt = true) (w_pwr : w.pwr = true) (w_mem : w.mem = true) (w_palm : w.palm = true) (w_freeCtr : w.freeCtr = true) (w_same : w.same = true) (h : Kept w r s) :
    Kept w r (State.scatterRow s o t idx src) := by
  unfold State.scatterRow
  split
  · exact State.forEach_kept h (fun _ _ h0 => State.tablePut_kept w_hbm w_sram w_cuff w_route w_flt w_pwr w_palm w_same h0)
  · exact Kept.ite_ h
        (by
        lift_lets -underBinder
        intro x1
        have h1 : KeptP w r x1 := State.tableRow_kept w_hbm w_sram w_cuff w_route w_flt w_pwr w_mem w_palm w_freeCtr w_same h
        clear_value x1
        intro x2; clear_value x2
        exact Kept.ite_ h1
          (State.tablePut_kept w_hbm w_sram w_cuff w_route w_flt w_pwr w_palm w_same (State.numRecord_kept w_same h1)))

theorem State.scatterInto_kept {w : Wr} {r : State} {a : State × List RWord} {o : Op} {t : Nat} {idx : Option Nat} {src : List RWord} (w_hbm : w.hbm = true) (w_sram : w.sram = true) (w_cuff : w.cuff = true) (w_route : w.route = true) (w_flt : w.flt = true) (w_pwr : w.pwr = true) (w_mem : w.mem = true) (w_palm : w.palm = true) (w_freeCtr : w.freeCtr = true) (w_same : w.same = true) (h : KeptP w r a) :
    KeptP w r (State.scatterInto a o t idx src) := by
  unfold State.scatterInto
  split
  · exact h
  · exact KeptP.ite_ h
        (KeptP.ite_ (State.tableRow_kept w_hbm w_sram w_cuff w_route w_flt w_pwr w_mem w_palm w_freeCtr w_same h)
        (by
        lift_lets -underBinder
        intro x0; clear_value x0
        exact State.numRecord_kept w_same h))

theorem State.opScatter_kept {w : Wr} {r s : State} {o : Op} (w_hbm : w.hbm = true) (w_sram : w.sram = true) (w_cuff : w.cuff = true) (w_route : w.route = true) (w_flt : w.flt = true) (w_pwr : w.pwr = true) (w_mem : w.mem = true) (w_palm : w.palm = true) (w_freeCtr : w.freeCtr = true) (w_same : w.same = true) (h : Kept w r s) :
    Kept w r (State.opScatter s o) := by
  unfold State.opScatter
  exact State.forEach_kept h (fun _ _ h0 => by
      lift_lets -underBinder
      intro x1
      have h1 : KeptP w r x1 := State.sramReadN_kept w_sram w_cuff w_route w_flt w_pwr w_mem w_palm w_same h0
      clear_value x1
      intro x2
      have h2 : KeptP w r x2 := KeptP.foldl_ (State.sramReadN_kept w_sram w_cuff w_route w_flt w_pwr w_mem w_palm w_same h1) fun _ _ h3 =>
        by
        lift_lets -underBinder
        intro x4
        have h4 : KeptP w r x4 := State.sramReadN_kept w_sram w_cuff w_route w_flt w_pwr w_mem w_palm w_same h3
        clear_value x4
        exact State.scatterInto_kept w_hbm w_sram w_cuff w_route w_flt w_pwr w_mem w_palm w_freeCtr w_same h4
      clear_value x2
      intro x5
      have h5 : Kept w r x5 := Kept.ite_ (State.putOut_kept w_sram w_palm h2)
        (State.forEach_kept h1 (fun _ _ h6 => by
          lift_lets -underBinder
          intro x7
          have h7 : KeptP w r x7 := State.sramReadN_kept w_sram w_cuff w_route w_flt w_pwr w_mem w_palm w_same h6
          clear_value x7
          exact State.scatterRow_kept w_hbm w_sram w_cuff w_route w_flt w_pwr w_mem w_palm w_freeCtr w_same h7))
      clear_value x5
      exact State.clearAcc_kept w_palm h5)

theorem State.opTopk_kept {w : Wr} {r s : State} {o : Op} (w_sram : w.sram = true) (w_cuff : w.cuff = true) (w_route : w.route = true) (w_flt : w.flt = true) (w_pwr : w.pwr = true) (w_mem : w.mem = true) (w_palm : w.palm = true) (w_same : w.same = true) (h : Kept w r s) :
    Kept w r (State.opTopk s o) := by
  unfold State.opTopk
  exact State.forEach_kept h (fun _ _ h0 => by
      lift_lets -underBinder
      intro x1
      have h1 : KeptP w r x1 := State.readBuf_kept w_sram w_cuff w_route w_flt w_pwr w_mem w_palm w_same h0
      clear_value x1
      intro x2; clear_value x2
      intro x3
      have h3 : KeptP w r x3 := State.finish_kept w_same h1
      clear_value x3
      intro x4
      have h4 : Kept w r x4 := State.putOut_kept w_sram w_palm h3
      clear_value x4
      exact State.clearAcc_kept w_palm (State.sramWriteN_kept w_sram h4))

theorem State.spillSend_kept {w : Wr} {r s : State} {l : List Inj} (w_route : w.route = true) (w_palm : w.palm = true) (w_freeCtr : w.freeCtr = true) (h : Kept w r s) :
    Kept w r (s.spillSend l) := by
  induction l generalizing s with
  | nil => exact Kept.upd h (palm := .inl w_palm)
  | cons i l ih =>
    unfold State.spillSend
    refine Kept.ite_ (Kept.upd (State.dropVc_kept h) (palm := .inl w_palm)) ?_
    split
    · exact Kept.upd (State.dropRoute_kept h) (palm := .inl w_palm)
    · exact ih (State.stamp_kept w_route w_freeCtr h)

theorem State.tokenRow_kept {w : Wr} {r s : State} {o : Op} {tiles : List Nat} {tok : Nat} (w_hbm : w.hbm = true) (w_sram : w.sram = true) (w_cuff : w.cuff = true) (w_route : w.route = true) (w_flt : w.flt = true) (w_pwr : w.pwr = true) (w_mem : w.mem = true) (w_palm : w.palm = true) (w_freeCtr : w.freeCtr = true) (w_same : w.same = true) (h : Kept w r s) :
    KeptP w r (State.tokenRow s o tiles tok) := by
  unfold State.tokenRow
  lift_lets -underBinder
  intro x0; clear_value x0
  exact KeptP.ite_ (State.hbmData_kept w_hbm w_cuff w_route w_flt w_pwr w_mem w_palm w_freeCtr w_same h)
    (State.sramReadN_kept w_sram w_cuff w_route w_flt w_pwr w_mem w_palm w_same h)

theorem State.putSlot_kept {w : Wr} {r s : State} {o : Op} {tiles : List Nat} {x : Expert} {slot : Nat} {origin : Nat} {row : Option (List RWord)} (w_sram : w.sram = true) (w_cuff : w.cuff = true) (w_route : w.route = true) (w_flt : w.flt = true) (w_pwr : w.pwr = true) (w_palm : w.palm = true) (w_same : w.same = true) (h : Kept w r s) :
    Kept w r (State.putSlot s o tiles x slot origin row) := by
  unfold State.putSlot
  lift_lets -underBinder
  intro x0 x1 x2 x3 x4; clear_value x0 x1 x2 x3 x4
  exact Kept.ite_ (Kept.ite_ (State.sramWriteN_kept w_sram h)
    (State.boundsData_kept w_cuff w_route w_flt w_pwr w_palm w_same h))
    (Kept.upd h (palm := .inl w_palm))

theorem State.opDispatch_kept {w : Wr} {r s : State} {o : Op} (w_hbm : w.hbm = true) (w_sram : w.sram = true) (w_cuff : w.cuff = true) (w_route : w.route = true) (w_flt : w.flt = true) (w_pwr : w.pwr = true) (w_mem : w.mem = true) (w_palm : w.palm = true) (w_freeCtr : w.freeCtr = true) (w_same : w.same = true) (h : Kept w r s) :
    Kept w r (State.opDispatch s o) := by
  unfold State.opDispatch
  lift_lets -underBinder
  intro x0 x1; clear_value x0 x1
  intro x2
  have h2 : KeptP w r x2 := State.sramReadN_kept w_sram w_cuff w_route w_flt w_pwr w_mem w_palm w_same h
  clear_value x2
  intro x3; clear_value x3
  intro x4
  have h4 : KeptP w r x4 := KeptP.foldl_ h2 fun _ _ h5 =>
    by
    lift_lets -underBinder
    intro x6
    have h6 : KeptP w r x6 := State.sramReadN_kept w_sram w_cuff w_route w_flt w_pwr w_mem w_palm w_same h5
    clear_value x6
    exact h6
  clear_value x4
  intro x7 x8; clear_value x7 x8
  intro x9
  have h9 : Kept w r x9 := State.forEach_kept h4 (fun _ _ h10 => by
      split
      · exact Kept.ite_ (State.count_kept (State.boundsData_kept w_cuff w_route w_flt w_pwr w_palm w_same h10))
            h10
      · exact h10)
  clear_value x9
  intro x11
  have h11 : Kept w r x11 := State.count_kept h9
  clear_value x11
  intro x12
  have h12 : Kept w r x12 := State.count_kept h11
  clear_value x12
  intro x13
  have h13 : Kept w r x13 := State.forEach_kept h12 (fun _ _ h14 => by
      split
      · exact by
            lift_lets -underBinder
            intro x15; clear_value x15
            exact State.putOut_kept w_sram w_palm h14)
  clear_value x13
  intro x16
  have h16 : Kept w r x16 := State.forEach_kept h13 (fun _ _ h17 => by
      split
      · exact State.forEach_kept h17 (fun _ _ h18 => by
              split
              · exact by
                    lift_lets -underBinder
                    intro x19
                    have h19 : KeptP w r x19 := State.tokenRow_kept w_hbm w_sram w_cuff w_route w_flt w_pwr w_mem w_palm w_freeCtr w_same h18
                    clear_value x19
                    exact State.putSlot_kept w_sram w_cuff w_route w_flt w_pwr w_palm w_same h19
              · exact State.putSlot_kept w_sram w_cuff w_route w_flt w_pwr w_palm w_same h18))
  clear_value x16
  intro x20
  have h20 : KeptP w r x20 := KeptP.foldl_ h16 fun _ _ h21 =>
    by
    lift_lets -underBinder
    intro x22
    have h22 : KeptP w r x22 := State.tokenRow_kept w_hbm w_sram w_cuff w_route w_flt w_pwr w_mem w_palm w_freeCtr w_same h21
    clear_value x22
    exact h22
  clear_value x20
  exact State.forEach_kept (State.spillSend_kept w_route w_palm w_freeCtr h20) (fun _ _ h23 => State.clearAcc_kept w_palm h23)

theorem State.slotResults_kept {w : Wr} {r s : State} {o : Op} {table : List Expert} (w_sram : w.sram = true) (w_cuff : w.cuff = true) (w_route : w.route = true) (w_flt : w.flt = true) (w_pwr : w.pwr = true) (w_mem : w.mem = true) (w_palm : w.palm = true) (w_same : w.same = true) (h : Kept w r s) :
    KeptP w r (State.slotResults s o table) := by
  unfold State.slotResults
  lift_lets -underBinder
  intro x0 x1; clear_value x0 x1
  exact KeptP.foldl_ h fun _ _ h2 =>
    by
    split
    · exact KeptP.ite_ (by
          lift_lets -underBinder
          intro x3 x4; clear_value x3 x4
          intro x5
          have h5 : KeptP w r x5 := State.sramReadN_kept w_sram w_cuff w_route w_flt w_pwr w_mem w_palm w_same h2
          clear_value x5
          exact KeptP.ite_ h5
            (State.count_kept (State.boundsData_kept w_cuff w_route w_flt w_pwr w_palm w_same h2)))
          (by
          lift_lets -underBinder
          intro x6; clear_value x6
          intro x7
          have h7 : Kept w r x7 := h2
          clear_value x7
          intro x8; clear_value x8
          intro x9
          have h9 : Kept w r x9 := Kept.upd h7 (palm := .inl w_palm)
          clear_value x9
          intro x10; clear_value x10
          exact State.count_kept h9)

theorem State.opCombine_kept {w : Wr} {r s : State} {o : Op} (w_hbm : w.hbm = true) (w_sram : w.sram = true) (w_cuff : w.cuff = true) (w_route : w.route = true) (w_flt : w.flt = true) (w_pwr : w.pwr = true) (w_mem : w.mem = true) (w_palm : w.palm = true) (w_same : w.same = true) (h : Kept w r s) :
    Kept w r (State.opCombine s o) := by
  unfold State.opCombine
  lift_lets -underBinder
  intro x0; clear_value x0
  intro x1
  have h1 : KeptP w r x1 := State.sramReadN_kept w_sram w_cuff w_route w_flt w_pwr w_mem w_palm w_same h
  clear_value x1
  intro x2; clear_value x2
  intro x3
  have h3 : KeptP w r x3 := State.slotResults_kept w_sram w_cuff w_route w_flt w_pwr w_mem w_palm w_same h1
  clear_value x3
  intro x4; clear_value x4
  exact State.forEach_kept h3 (fun _ _ h5 => by
      split
      · exact by
            lift_lets -underBinder
            intro x6
            have h6 : KeptP w r x6 := State.sramReadN_kept w_sram w_cuff w_route w_flt w_pwr w_mem w_palm w_same h5
            clear_value x6
            intro x7
            have h7 : KeptP w r x7 := State.sramReadN_kept w_sram w_cuff w_route w_flt w_pwr w_mem w_palm w_same h6
            clear_value x7
            intro x8; clear_value x8
            intro x9
            have h9 : Kept w r x9 := State.count_kept h7
            clear_value x9
            intro x10
            have h10 : KeptP w r x10 := State.finish_kept w_same h9
            clear_value x10
            intro x11
            have h11 : Kept w r x11 := Kept.ite_ (State.forEach_kept h10 (fun _ _ h12 => by
                split
                · exact State.hbmPut_kept w_hbm w_cuff w_route w_flt w_pwr w_palm w_same h12))
              (State.putOut_kept w_sram w_palm h10)
            clear_value x11
            exact State.clearAcc_kept w_palm h11)

theorem State.fillTile_kept {w : Wr} {r s : State} {o : Op} {t : Nat} {fs : List Flit} (w_sram : w.sram = true) (h : Kept w r s) :
    Kept w r (State.fillTile s o t fs) := by
  unfold State.fillTile
  lift_lets -underBinder
  intro x0
  have h0 : Kept w r x0 := State.count_kept h
  clear_value x0
  exact State.sramWriteN_kept w_sram h0

theorem State.fillA_kept {w : Wr} {r s : State} {o : Op} (w_sram : w.sram = true) (w_palm : w.palm = true) (h : Kept w r s) :
    Kept w r (State.fillA s o) := by
  unfold State.fillA
  exact Kept.ite_ (by
    lift_lets -underBinder
    intro x0; clear_value x0
    exact State.forEach_kept h (fun _ _ h1 => by
        lift_lets -underBinder
        intro x2 x3; clear_value x2 x3
        exact State.fillTile_kept w_sram (Kept.upd h1 (palm := .inl w_palm))))
    h

end Sys2Proof.Machine
end

