-- ==== Sys2Proof/Laws/KeptPalm.lean ====
section
/-! SUPPORT. Sys2Proof/Laws/KeptPalm.lean: what each operation of Machine/Palm.lean keeps (Kept, Laws/Kept.lean). -/
set_option Elab.async false
namespace Sys2Proof.Machine

theorem State.checkHead_kept {w : Wr} {r s : State} (w_cuff : w.cuff = true) (w_route : w.route = true) (w_flt : w.flt = true) (w_pwr : w.pwr = true) (w_ldrs : w.ldrs = true) (w_same : w.same = true) (h : Kept w r s) :
    Kept w r (State.checkHead s) := by
  unfold State.checkHead
  split
  · exact h
  · exact Kept.ite_ h
        (by
        lift_lets -underBinder
        intro x0; clear_value x0
        intro x1
        have h1 : Kept w r x1 := State.wr_kept (State.wr_kept h)
        clear_value x1
        exact State.palmHalt_kept (State.refuseImage_kept w_cuff w_route w_flt w_pwr w_ldrs w_same h1))

theorem State.startStaging_kept {w : Wr} {r s : State} (w_cuff : w.cuff = true) (w_route : w.route = true) (w_flt : w.flt = true) (w_pwr : w.pwr = true) (w_palm : w.palm = true) (w_same : w.same = true) (h : Kept w r s) :
    Kept w r (State.startStaging s) := by
  unfold State.startStaging
  split
  · exact h
  · exact by
        lift_lets -underBinder
        intro x0; clear_value x0
        exact Kept.ite_ h
          (by
          split
          · exact by
                lift_lets -underBinder
                intro x1
                have h1 : Kept w r x1 := State.wr_kept h
                clear_value x1
                intro x2; clear_value x2
                exact Kept.upd h1 (palm := .inl w_palm)
          · exact State.forEach_kept h (fun _ _ h3 => State.fault_kept w_cuff w_route w_flt w_pwr w_same (State.palmLast_kept h3)))

theorem State.enqueue_kept {w : Wr} {r s : State} {word : RWord} {arg : Option RWord} (w_cuff : w.cuff = true) (w_route : w.route = true) (w_flt : w.flt = true) (w_pwr : w.pwr = true) (w_palm : w.palm = true) (w_ldrs : w.ldrs = true) (w_same : w.same = true) (h : Kept w r s) :
    Kept w r (State.enqueue s word arg) := by
  unfold State.enqueue
  lift_lets -underBinder
  intro x0 x1 x2 x3 x4; clear_value x0 x1 x2 x3 x4
  intro x5
  have h5 : Kept w r x5 := Kept.upd h (palm := .inl w_palm)
  clear_value x5
  intro x6
  have h6 : Kept w r x6 := State.wr_kept h5
  clear_value x6
  exact Kept.ite_ (State.startStaging_kept w_cuff w_route w_flt w_pwr w_palm w_same (State.checkHead_kept w_cuff w_route w_flt w_pwr w_ldrs w_same h6))
    h6

theorem execDescriptorFetch_kept {w : Wr} {r s : State} (w_hbm : w.hbm = true) (w_cuff : w.cuff = true) (w_route : w.route = true) (w_flt : w.flt = true) (w_pwr : w.pwr = true) (w_mem : w.mem = true) (w_palm : w.palm = true) (w_ldrs : w.ldrs = true) (w_freeCtr : w.freeCtr = true) (w_same : w.same = true) (h : Kept w r s) :
    Answers w r (execDescriptorFetch s) := by
  unfold execDescriptorFetch
  exact Answers.ite_ (Answers.next h)
    (by
    lift_lets -underBinder
    intro x0; clear_value x0
    intro x1
    have h1 : KeptP w r x1 := State.hbmReadN_kept w_hbm w_cuff w_route w_flt w_pwr w_mem w_freeCtr w_same h
    clear_value x1
    exact Answers.ite_ (Answers.next (State.stackLost_kept w_cuff w_route w_flt w_pwr w_mem w_same h))
      (by
      split
      · exact Answers.next (State.enqueue_kept w_cuff w_route w_flt w_pwr w_palm w_ldrs w_same h1)
      · exact by
            lift_lets -underBinder
            intro x2; clear_value x2
            intro x3
            have h3 : KeptP w r x3 := State.hbmReadN_kept w_hbm w_cuff w_route w_flt w_pwr w_mem w_freeCtr w_same h1
            clear_value x3
            exact Answers.ite_ (Answers.next (State.enqueue_kept w_cuff w_route w_flt w_pwr w_palm w_ldrs w_same h1))
              (Answers.ite_ (Answers.next (State.stackLost_kept w_cuff w_route w_flt w_pwr w_mem w_same h1))
              (Answers.next (State.enqueue_kept w_cuff w_route w_flt w_pwr w_palm w_ldrs w_same h3)))))

theorem execStagingDone_kept {w : Wr} {r s : State} (w_hbm : w.hbm = true) (w_sram : w.sram = true) (w_cuff : w.cuff = true) (w_route : w.route = true) (w_flt : w.flt = true) (w_pwr : w.pwr = true) (w_mem : w.mem = true) (w_palm : w.palm = true) (w_freeCtr : w.freeCtr = true) (w_same : w.same = true) (h : Kept w r s) :
    Answers w r (execStagingDone s) := by
  unfold execStagingDone
  split
  · exact Answers.next h
  · exact by
        lift_lets -underBinder
        intro x0 x1; clear_value x0 x1
        intro x2
        have h2 : KeptP w r x2 := State.hbmExtentsRead_kept w_hbm w_cuff w_route w_flt w_pwr w_mem w_freeCtr w_same h
        clear_value x2
        intro x3
        have h3 : Kept w r x3 := State.forEach_kept h2 (fun _ _ h4 => State.sramWriteN_kept w_sram h4)
        clear_value x3
        intro x5
        have h5 : Kept w r x5 := State.wr_kept h3
        clear_value x5
        intro x6; clear_value x6
        exact Answers.ite_ (Answers.next h)
          (Answers.next (Kept.upd h5 (palm := .inl w_palm)))

theorem State.opData_kept {w : Wr} {r s : State} {o : Op} (w_hbm : w.hbm = true) (w_sram : w.sram = true) (w_cuff : w.cuff = true) (w_route : w.route = true) (w_flt : w.flt = true) (w_pwr : w.pwr = true) (w_mem : w.mem = true) (w_palm : w.palm = true) (w_freeCtr : w.freeCtr = true) (w_same : w.same = true) (h : Kept w r s) :
    Kept w r (State.opData s o) := by
  unfold State.opData
  lift_lets -underBinder
  intro x0
  have h0 : Kept w r x0 := State.fillA_kept w_sram w_palm h
  clear_value x0
  exact by
    split
    · exact State.opMatmul_kept w_sram w_cuff w_route w_flt w_pwr w_mem w_palm w_same h0
    · exact State.opMatmul_kept w_sram w_cuff w_route w_flt w_pwr w_mem w_palm w_same h0
    · exact State.opConv_kept w_sram w_cuff w_route w_flt w_pwr w_mem w_palm w_same h0
    · exact State.opAttend_kept w_sram w_cuff w_route w_flt w_pwr w_mem w_palm w_same h0
    · exact State.opSoftmax_kept w_sram w_cuff w_route w_flt w_pwr w_mem w_palm w_same h0
    · exact State.opNorm_kept w_sram w_cuff w_route w_flt w_pwr w_mem w_palm w_same h0
    · exact State.opElement_kept w_sram w_cuff w_route w_flt w_pwr w_mem w_palm w_same h0
    · exact State.opReduce_kept w_sram w_cuff w_route w_flt w_pwr w_mem w_palm w_same h0
    · exact State.opTranspose_kept w_sram w_cuff w_route w_flt w_pwr w_mem w_palm w_freeCtr w_same h0
    · exact State.opGather_kept w_hbm w_sram w_cuff w_route w_flt w_pwr w_mem w_palm w_freeCtr w_same h0
    · exact State.opScatter_kept w_hbm w_sram w_cuff w_route w_flt w_pwr w_mem w_palm w_freeCtr w_same h0
    · exact State.opTopk_kept w_sram w_cuff w_route w_flt w_pwr w_mem w_palm w_same h0
    · exact State.opDispatch_kept w_hbm w_sram w_cuff w_route w_flt w_pwr w_mem w_palm w_freeCtr w_same h0
    · exact State.opCombine_kept w_hbm w_sram w_cuff w_route w_flt w_pwr w_mem w_palm w_same h0
    · exact State.opConvert_kept w_sram w_cuff w_route w_flt w_pwr w_mem w_palm w_same h0
    · exact State.opCopy_kept w_hbm w_sram w_cuff w_route w_flt w_pwr w_mem w_palm w_freeCtr w_same h0
    · exact h0

theorem State.palmTry_kept {w : Wr} {r s : State} (w_hbm : w.hbm = true) (w_sram : w.sram = true) (w_links : w.links = true) (w_cuff : w.cuff = true) (w_route : w.route = true) (w_flt : w.flt = true) (w_pwr : w.pwr = true) (w_mem : w.mem = true) (w_palm : w.palm = true) (w_freeCtr : w.freeCtr = true) (w_same : w.same = true) (h : Kept w r s) :
    Kept w r (State.palmTry s) := by
  unfold State.palmTry
  lift_lets -underBinder
  intro x0
  have h0 : Kept w r x0 := State.palmDrain_kept w_links w_cuff w_route w_flt w_pwr w_mem w_palm w_same h
  clear_value x0
  exact by
    split
    · exact h0
    · exact Kept.ite_ h0
          (by
          lift_lets -underBinder
          intro x1
          have h1 : Kept w r x1 := State.opData_kept w_hbm w_sram w_cuff w_route w_flt w_pwr w_mem w_palm w_freeCtr w_same h0
          clear_value x1
          intro x2; clear_value x2
          exact Kept.upd h1 (palm := .inl w_palm))

theorem State.restartRegions_kept {w : Wr} {r s : State} {o : Op} (w_rgn : w.rgn = true) (w_same : w.same = true) (h : Kept w r s) :
    Kept w r (State.restartRegions s o) := by
  unfold State.restartRegions
  lift_lets -underBinder
  intro x0
  have h0 : Kept w r x0 := State.forEach_kept h (fun _ _ h1 => Kept.ite_ (State.restEdge_kept w_rgn h1)
      (State.opEdge_kept w_rgn w_same h1))
  clear_value x0
  exact Kept.ite_ (State.setEst_kept w_rgn w_same h0)
    h0

theorem State.launch_kept {w : Wr} {r s : State} {d : Desc} {rest : List Desc} {t : Nat} {sum : Nat} (w_hbm : w.hbm = true) (w_sram : w.sram = true) (w_rgn : w.rgn = true) (w_links : w.links = true) (w_cuff : w.cuff = true) (w_route : w.route = true) (w_flt : w.flt = true) (w_pwr : w.pwr = true) (w_mem : w.mem = true) (w_palm : w.palm = true) (w_ldrs : w.ldrs = true) (w_freeCtr : w.freeCtr = true) (w_same : w.same = true) (h : Kept w r s) :
    Kept w r (State.launch s d rest t sum) := by
  unfold State.launch
  lift_lets -underBinder
  intro x0; clear_value x0
  intro x1
  have h1 : Kept w r x1 := State.wr_kept (State.wr_kept h)
  clear_value x1
  intro x2
  have h2 : Kept w r x2 := State.telRaise_kept w_flt (State.raise_kept w_same (State.wr_kept h1))
  clear_value x2
  intro x3; clear_value x3
  intro x4
  have h4 : Kept w r x4 := State.wr_kept (State.wr_kept (State.wr_kept h2))
  clear_value x4
  intro x5
  have h5 : Kept w r x5 := State.count_kept h4
  clear_value x5
  intro x6
  have h6 : Kept w r x6 := Kept.ite_ (State.count_kept h5)
    h5
  clear_value x6
  intro x7
  have h7 : Kept w r x7 := State.wr_kept (State.restartRegions_kept w_rgn w_same h6)
  clear_value x7
  intro x8; clear_value x8
  intro x9
  have h9 : Kept w r x9 := Kept.upd h7 (palm := .inl w_palm)
  clear_value x9
  exact State.palmTry_kept w_hbm w_sram w_links w_cuff w_route w_flt w_pwr w_mem w_palm w_freeCtr w_same (State.startStaging_kept w_cuff w_route w_flt w_pwr w_palm w_same (State.checkHead_kept w_cuff w_route w_flt w_pwr w_ldrs w_same h9))

theorem State.launchChecks_kept {w : Wr} {r s : State} {d : Desc} {rest : List Desc} {t : Nat} (w_hbm : w.hbm = true) (w_sram : w.sram = true) (w_rgn : w.rgn = true) (w_links : w.links = true) (w_cuff : w.cuff = true) (w_route : w.route = true) (w_flt : w.flt = true) (w_pwr : w.pwr = true) (w_mem : w.mem = true) (w_palm : w.palm = true) (w_ldrs : w.ldrs = true) (w_freeCtr : w.freeCtr = true) (w_same : w.same = true) (h : Kept w r s) :
    Kept w r (State.launchChecks s d rest t) := by
  unfold State.launchChecks
  lift_lets -underBinder
  intro x0 x1 x2 x3; clear_value x0 x1 x2 x3
  exact Kept.ite_ (State.fault_kept w_cuff w_route w_flt w_pwr w_same (State.palmLast_kept h))
    (by
    split
    · exact State.fault_kept w_cuff w_route w_flt w_pwr w_same (State.palmLast_kept h)
    · exact by
          split
          · exact State.fault_kept w_cuff w_route w_flt w_pwr w_same (State.palmLast_kept h)
          · exact Kept.ite_ (State.wr_kept h)
                (State.launch_kept w_hbm w_sram w_rgn w_links w_cuff w_route w_flt w_pwr w_mem w_palm w_ldrs w_freeCtr w_same h))

theorem State.opEvent_kept {w : Wr} {r s : State} {code : Nat} (w_hbm : w.hbm = true) (w_sram : w.sram = true) (w_rgn : w.rgn = true) (w_links : w.links = true) (w_cuff : w.cuff = true) (w_route : w.route = true) (w_flt : w.flt = true) (w_pwr : w.pwr = true) (w_mem : w.mem = true) (w_palm : w.palm = true) (w_ldrs : w.ldrs = true) (w_freeCtr : w.freeCtr = true) (w_same : w.same = true) (h : Kept w r s) :
    Kept w r (State.opEvent s code) := by
  unfold State.opEvent
  exact Kept.ite_ h
    (by
    lift_lets -underBinder
    intro x0
    have h0 : Kept w r x0 := State.checkHead_kept w_cuff w_route w_flt w_pwr w_ldrs w_same h
    clear_value x0
    exact by
      split
      · exact h0
      · exact by
            split
            · exact h0
            · exact Kept.ite_ h0
                  (State.launchChecks_kept w_hbm w_sram w_rgn w_links w_cuff w_route w_flt w_pwr w_mem w_palm w_ldrs w_freeCtr w_same h0))

theorem execMatmul_kept {w : Wr} {r s : State} (w_hbm : w.hbm = true) (w_sram : w.sram = true) (w_rgn : w.rgn = true) (w_links : w.links = true) (w_cuff : w.cuff = true) (w_route : w.route = true) (w_flt : w.flt = true) (w_pwr : w.pwr = true) (w_mem : w.mem = true) (w_palm : w.palm = true) (w_ldrs : w.ldrs = true) (w_freeCtr : w.freeCtr = true) (w_same : w.same = true) (h : Kept w r s) :
    Answers w r (execMatmul s) := by
  unfold execMatmul
  exact Answers.next (State.opEvent_kept w_hbm w_sram w_rgn w_links w_cuff w_route w_flt w_pwr w_mem w_palm w_ldrs w_freeCtr w_same h)

theorem execMatmulAcc_kept {w : Wr} {r s : State} (w_hbm : w.hbm = true) (w_sram : w.sram = true) (w_rgn : w.rgn = true) (w_links : w.links = true) (w_cuff : w.cuff = true) (w_route : w.route = true) (w_flt : w.flt = true) (w_pwr : w.pwr = true) (w_mem : w.mem = true) (w_palm : w.palm = true) (w_ldrs : w.ldrs = true) (w_freeCtr : w.freeCtr = true) (w_same : w.same = true) (h : Kept w r s) :
    Answers w r (execMatmulAcc s) := by
  unfold execMatmulAcc
  exact Answers.next (State.opEvent_kept w_hbm w_sram w_rgn w_links w_cuff w_route w_flt w_pwr w_mem w_palm w_ldrs w_freeCtr w_same h)

theorem execConv2d_kept {w : Wr} {r s : State} (w_hbm : w.hbm = true) (w_sram : w.sram = true) (w_rgn : w.rgn = true) (w_links : w.links = true) (w_cuff : w.cuff = true) (w_route : w.route = true) (w_flt : w.flt = true) (w_pwr : w.pwr = true) (w_mem : w.mem = true) (w_palm : w.palm = true) (w_ldrs : w.ldrs = true) (w_freeCtr : w.freeCtr = true) (w_same : w.same = true) (h : Kept w r s) :
    Answers w r (execConv2d s) := by
  unfold execConv2d
  exact Answers.next (State.opEvent_kept w_hbm w_sram w_rgn w_links w_cuff w_route w_flt w_pwr w_mem w_palm w_ldrs w_freeCtr w_same h)

theorem execAttend_kept {w : Wr} {r s : State} (w_hbm : w.hbm = true) (w_sram : w.sram = true) (w_rgn : w.rgn = true) (w_links : w.links = true) (w_cuff : w.cuff = true) (w_route : w.route = true) (w_flt : w.flt = true) (w_pwr : w.pwr = true) (w_mem : w.mem = true) (w_palm : w.palm = true) (w_ldrs : w.ldrs = true) (w_freeCtr : w.freeCtr = true) (w_same : w.same = true) (h : Kept w r s) :
    Answers w r (execAttend s) := by
  unfold execAttend
  exact Answers.next (State.opEvent_kept w_hbm w_sram w_rgn w_links w_cuff w_route w_flt w_pwr w_mem w_palm w_ldrs w_freeCtr w_same h)

theorem execSoftmax_kept {w : Wr} {r s : State} (w_hbm : w.hbm = true) (w_sram : w.sram = true) (w_rgn : w.rgn = true) (w_links : w.links = true) (w_cuff : w.cuff = true) (w_route : w.route = true) (w_flt : w.flt = true) (w_pwr : w.pwr = true) (w_mem : w.mem = true) (w_palm : w.palm = true) (w_ldrs : w.ldrs = true) (w_freeCtr : w.freeCtr = true) (w_same : w.same = true) (h : Kept w r s) :
    Answers w r (execSoftmax s) := by
  unfold execSoftmax
  exact Answers.next (State.opEvent_kept w_hbm w_sram w_rgn w_links w_cuff w_route w_flt w_pwr w_mem w_palm w_ldrs w_freeCtr w_same h)

theorem execNorm_kept {w : Wr} {r s : State} (w_hbm : w.hbm = true) (w_sram : w.sram = true) (w_rgn : w.rgn = true) (w_links : w.links = true) (w_cuff : w.cuff = true) (w_route : w.route = true) (w_flt : w.flt = true) (w_pwr : w.pwr = true) (w_mem : w.mem = true) (w_palm : w.palm = true) (w_ldrs : w.ldrs = true) (w_freeCtr : w.freeCtr = true) (w_same : w.same = true) (h : Kept w r s) :
    Answers w r (execNorm s) := by
  unfold execNorm
  exact Answers.next (State.opEvent_kept w_hbm w_sram w_rgn w_links w_cuff w_route w_flt w_pwr w_mem w_palm w_ldrs w_freeCtr w_same h)

theorem execElement_kept {w : Wr} {r s : State} (w_hbm : w.hbm = true) (w_sram : w.sram = true) (w_rgn : w.rgn = true) (w_links : w.links = true) (w_cuff : w.cuff = true) (w_route : w.route = true) (w_flt : w.flt = true) (w_pwr : w.pwr = true) (w_mem : w.mem = true) (w_palm : w.palm = true) (w_ldrs : w.ldrs = true) (w_freeCtr : w.freeCtr = true) (w_same : w.same = true) (h : Kept w r s) :
    Answers w r (execElement s) := by
  unfold execElement
  exact Answers.next (State.opEvent_kept w_hbm w_sram w_rgn w_links w_cuff w_route w_flt w_pwr w_mem w_palm w_ldrs w_freeCtr w_same h)

theorem execReduce_kept {w : Wr} {r s : State} (w_hbm : w.hbm = true) (w_sram : w.sram = true) (w_rgn : w.rgn = true) (w_links : w.links = true) (w_cuff : w.cuff = true) (w_route : w.route = true) (w_flt : w.flt = true) (w_pwr : w.pwr = true) (w_mem : w.mem = true) (w_palm : w.palm = true) (w_ldrs : w.ldrs = true) (w_freeCtr : w.freeCtr = true) (w_same : w.same = true) (h : Kept w r s) :
    Answers w r (execReduce s) := by
  unfold execReduce
  exact Answers.next (State.opEvent_kept w_hbm w_sram w_rgn w_links w_cuff w_route w_flt w_pwr w_mem w_palm w_ldrs w_freeCtr w_same h)

theorem execTranspose_kept {w : Wr} {r s : State} (w_hbm : w.hbm = true) (w_sram : w.sram = true) (w_rgn : w.rgn = true) (w_links : w.links = true) (w_cuff : w.cuff = true) (w_route : w.route = true) (w_flt : w.flt = true) (w_pwr : w.pwr = true) (w_mem : w.mem = true) (w_palm : w.palm = true) (w_ldrs : w.ldrs = true) (w_freeCtr : w.freeCtr = true) (w_same : w.same = true) (h : Kept w r s) :
    Answers w r (execTranspose s) := by
  unfold execTranspose
  exact Answers.next (State.opEvent_kept w_hbm w_sram w_rgn w_links w_cuff w_route w_flt w_pwr w_mem w_palm w_ldrs w_freeCtr w_same h)

theorem execGather_kept {w : Wr} {r s : State} (w_hbm : w.hbm = true) (w_sram : w.sram = true) (w_rgn : w.rgn = true) (w_links : w.links = true) (w_cuff : w.cuff = true) (w_route : w.route = true) (w_flt : w.flt = true) (w_pwr : w.pwr = true) (w_mem : w.mem = true) (w_palm : w.palm = true) (w_ldrs : w.ldrs = true) (w_freeCtr : w.freeCtr = true) (w_same : w.same = true) (h : Kept w r s) :
    Answers w r (execGather s) := by
  unfold execGather
  exact Answers.next (State.opEvent_kept w_hbm w_sram w_rgn w_links w_cuff w_route w_flt w_pwr w_mem w_palm w_ldrs w_freeCtr w_same h)

theorem execScatterAdd_kept {w : Wr} {r s : State} (w_hbm : w.hbm = true) (w_sram : w.sram = true) (w_rgn : w.rgn = true) (w_links : w.links = true) (w_cuff : w.cuff = true) (w_route : w.route = true) (w_flt : w.flt = true) (w_pwr : w.pwr = true) (w_mem : w.mem = true) (w_palm : w.palm = true) (w_ldrs : w.ldrs = true) (w_freeCtr : w.freeCtr = true) (w_same : w.same = true) (h : Kept w r s) :
    Answers w r (execScatterAdd s) := by
  unfold execScatterAdd
  exact Answers.next (State.opEvent_kept w_hbm w_sram w_rgn w_links w_cuff w_route w_flt w_pwr w_mem w_palm w_ldrs w_freeCtr w_same h)

theorem execTopk_kept {w : Wr} {r s : State} (w_hbm : w.hbm = true) (w_sram : w.sram = true) (w_rgn : w.rgn = true) (w_links : w.links = true) (w_cuff : w.cuff = true) (w_route : w.route = true) (w_flt : w.flt = true) (w_pwr : w.pwr = true) (w_mem : w.mem = true) (w_palm : w.palm = true) (w_ldrs : w.ldrs = true) (w_freeCtr : w.freeCtr = true) (w_same : w.same = true) (h : Kept w r s) :
    Answers w r (execTopk s) := by
  unfold execTopk
  exact Answers.next (State.opEvent_kept w_hbm w_sram w_rgn w_links w_cuff w_route w_flt w_pwr w_mem w_palm w_ldrs w_freeCtr w_same h)

theorem execDispatch_kept {w : Wr} {r s : State} (w_hbm : w.hbm = true) (w_sram : w.sram = true) (w_rgn : w.rgn = true) (w_links : w.links = true) (w_cuff : w.cuff = true) (w_route : w.route = true) (w_flt : w.flt = true) (w_pwr : w.pwr = true) (w_mem : w.mem = true) (w_palm : w.palm = true) (w_ldrs : w.ldrs = true) (w_freeCtr : w.freeCtr = true) (w_same : w.same = true) (h : Kept w r s) :
    Answers w r (execDispatch s) := by
  unfold execDispatch
  exact Answers.next (State.opEvent_kept w_hbm w_sram w_rgn w_links w_cuff w_route w_flt w_pwr w_mem w_palm w_ldrs w_freeCtr w_same h)

theorem execCombine_kept {w : Wr} {r s : State} (w_hbm : w.hbm = true) (w_sram : w.sram = true) (w_rgn : w.rgn = true) (w_links : w.links = true) (w_cuff : w.cuff = true) (w_route : w.route = true) (w_flt : w.flt = true) (w_pwr : w.pwr = true) (w_mem : w.mem = true) (w_palm : w.palm = true) (w_ldrs : w.ldrs = true) (w_freeCtr : w.freeCtr = true) (w_same : w.same = true) (h : Kept w r s) :
    Answers w r (execCombine s) := by
  unfold execCombine
  exact Answers.next (State.opEvent_kept w_hbm w_sram w_rgn w_links w_cuff w_route w_flt w_pwr w_mem w_palm w_ldrs w_freeCtr w_same h)

theorem execConvert_kept {w : Wr} {r s : State} (w_hbm : w.hbm = true) (w_sram : w.sram = true) (w_rgn : w.rgn = true) (w_links : w.links = true) (w_cuff : w.cuff = true) (w_route : w.route = true) (w_flt : w.flt = true) (w_pwr : w.pwr = true) (w_mem : w.mem = true) (w_palm : w.palm = true) (w_ldrs : w.ldrs = true) (w_freeCtr : w.freeCtr = true) (w_same : w.same = true) (h : Kept w r s) :
    Answers w r (execConvert s) := by
  unfold execConvert
  exact Answers.next (State.opEvent_kept w_hbm w_sram w_rgn w_links w_cuff w_route w_flt w_pwr w_mem w_palm w_ldrs w_freeCtr w_same h)

theorem execCopy_kept {w : Wr} {r s : State} (w_hbm : w.hbm = true) (w_sram : w.sram = true) (w_rgn : w.rgn = true) (w_links : w.links = true) (w_cuff : w.cuff = true) (w_route : w.route = true) (w_flt : w.flt = true) (w_pwr : w.pwr = true) (w_mem : w.mem = true) (w_palm : w.palm = true) (w_ldrs : w.ldrs = true) (w_freeCtr : w.freeCtr = true) (w_same : w.same = true) (h : Kept w r s) :
    Answers w r (execCopy s) := by
  unfold execCopy
  exact Answers.next (State.opEvent_kept w_hbm w_sram w_rgn w_links w_cuff w_route w_flt w_pwr w_mem w_palm w_ldrs w_freeCtr w_same h)

theorem execSeamWait_kept {w : Wr} {r s : State} (w_hbm : w.hbm = true) (w_sram : w.sram = true) (w_rgn : w.rgn = true) (w_links : w.links = true) (w_cuff : w.cuff = true) (w_route : w.route = true) (w_flt : w.flt = true) (w_pwr : w.pwr = true) (w_mem : w.mem = true) (w_palm : w.palm = true) (w_ldrs : w.ldrs = true) (w_freeCtr : w.freeCtr = true) (w_same : w.same = true) (h : Kept w r s) :
    Answers w r (execSeamWait s) := by
  unfold execSeamWait
  exact Answers.next (State.opEvent_kept w_hbm w_sram w_rgn w_links w_cuff w_route w_flt w_pwr w_mem w_palm w_ldrs w_freeCtr w_same h)

theorem State.crossError_kept {w : Wr} {r s : State} {u : Upset} (w_sram : w.sram = true) (w_cuff : w.cuff = true) (w_route : w.route = true) (w_flt : w.flt = true) (w_pwr : w.pwr = true) (w_mem : w.mem = true) (w_palm : w.palm = true) (w_freeCtr : w.freeCtr = true) (w_same : w.same = true) (h : Kept w r s) :
    Kept w r (State.crossError s u) := by
  unfold State.crossError
  split
  · exact h
  · exact Kept.ite_ h
        (by
        lift_lets -underBinder
        intro x0
        have h0 : KeptP w r x0 := State.guardWords_kept w_cuff w_route w_flt w_pwr w_mem w_same h
        clear_value x0
        intro x1; clear_value x1
        exact Kept.ite_ (State.poisonRest_kept w_sram w_palm (State.tickFree_kept w_freeCtr h0))
          h0)

theorem State.crossTick_kept {w : Wr} {r s : State} (w_sram : w.sram = true) (w_cuff : w.cuff = true) (w_route : w.route = true) (w_flt : w.flt = true) (w_pwr : w.pwr = true) (w_mem : w.mem = true) (w_palm : w.palm = true) (w_freeCtr : w.freeCtr = true) (w_same : w.same = true) (h : Kept w r s) :
    Kept w r (State.crossTick s) := by
  unfold State.crossTick
  exact State.forEach_kept h (fun _ _ h0 => State.dropUpsets_kept w_mem (State.crossError_kept w_sram w_cuff w_route w_flt w_pwr w_mem w_palm w_freeCtr w_same h0))

theorem execOpComplete_kept {w : Wr} {r s : State} (w_hbm : w.hbm = true) (w_sram : w.sram = true) (w_rgn : w.rgn = true) (w_links : w.links = true) (w_cuff : w.cuff = true) (w_route : w.route = true) (w_flt : w.flt = true) (w_pwr : w.pwr = true) (w_mem : w.mem = true) (w_palm : w.palm = true) (w_freeCtr : w.freeCtr = true) (w_same : w.same = true) (h : Kept w r s) :
    Answers w r (execOpComplete s) := by
  unfold execOpComplete
  lift_lets -underBinder
  intro x0
  have h0 : Kept w r x0 := State.palmTry_kept w_hbm w_sram w_links w_cuff w_route w_flt w_pwr w_mem w_palm w_freeCtr w_same h
  clear_value x0
  intro x1
  have h1 : Kept w r x1 := State.spillSend_kept w_route w_palm w_freeCtr h0
  clear_value x1
  exact by
    split
    · exact Answers.next h1
    · exact Answers.ite_ (by
          lift_lets -underBinder
          intro x2
          have h2 : Kept w r x2 := State.wr_kept (State.wr_kept h1)
          clear_value x2
          intro x3
          have h3 : Kept w r x3 := State.crossEnd_kept w_rgn h2
          clear_value x3
          intro x4; clear_value x4
          exact Answers.next (Kept.upd h3 (palm := .inl w_palm)))
          (Answers.next h1)

theorem execPalmStop_kept {w : Wr} {r s : State} (w_same : w.same = true) (h : Kept w r s) :
    Answers w r (execPalmStop s) := by
  unfold execPalmStop
  exact Answers.next (State.busWrite_kept w_same h (fun _ h0 => State.palmHalt_kept h0))

theorem execLinerLoad_kept {w : Wr} {r s : State} (w_palm : w.palm = true) (w_same : w.same = true) (h : Kept w r s) :
    Answers w r (execLinerLoad s) := by
  unfold execLinerLoad
  exact Answers.next (State.busWrite_kept w_same h (fun _ h0 => by
      lift_lets -underBinder
      intro x1; clear_value x1
      intro x2
      have h2 : Kept w r x2 := State.flag_kept w_same h0
      clear_value x2
      intro x3
      have h3 : Kept w r x3 := State.wr_kept h0
      clear_value x3
      intro x4; clear_value x4
      exact Kept.ite_ (Kept.ite_ h2
        (State.wr_kept h2))
        (Kept.upd h3 (palm := .inl w_palm))))

theorem State.copyLiner_kept {w : Wr} {r s : State} (h : Kept w r s) :
    Kept w r (State.copyLiner s) := by
  unfold State.copyLiner
  exact State.forEach_kept h (fun _ _ h0 => State.setReg_kept h0)

theorem execLinerLoadDone_kept {w : Wr} {r s : State} (w_links : w.links = true) (w_cuff : w.cuff = true) (w_route : w.route = true) (w_flt : w.flt = true) (w_pwr : w.pwr = true) (w_palm : w.palm = true) (w_boot : w.boot = true) (w_same : w.same = true) (h : Kept w r s) :
    Answers w r (execLinerLoadDone s) := by
  unfold execLinerLoadDone
  split
  · exact Answers.next h
  · exact Answers.ite_ (Answers.next h)
        (by
        lift_lets -underBinder
        intro x0
        have h0 : Kept w r x0 := State.wr_kept h
        clear_value x0
        intro x1
        have h1 : Kept w r x1 := Kept.ite_ h0
          (State.wr_kept (State.copyLiner_kept h0))
        clear_value x1
        intro x2 x3; clear_value x2 x3
        intro x4
        have h4 : Kept w r x4 := Kept.upd h1 (palm := .inl w_palm) (boot := .inl w_boot)
        clear_value x4
        intro x5
        have h5 : Kept w r x5 := Kept.ite_ (State.wr_kept h4)
          h4
        clear_value x5
        exact Answers.next (State.endPhase_kept w_links w_cuff w_route w_flt w_pwr w_boot w_same h5))

theorem execTileWatchdog_kept {w : Wr} {r : State} {t : Fin 4096} {cause : Fin 3} {s : State} (w_sram : w.sram = true) (w_cuff : w.cuff = true) (w_route : w.route = true) (w_flt : w.flt = true) (w_pwr : w.pwr = true) (w_palm : w.palm = true) (w_same : w.same = true) (h : Kept w r s) :
    Answers w r (execTileWatchdog t cause s) := by
  unfold execTileWatchdog
  lift_lets -underBinder
  intro x0 x1; clear_value x0 x1
  exact Answers.ite_ (Answers.next h)
    (Answers.next (State.tileFail_kept w_sram w_cuff w_route w_flt w_pwr w_palm w_same h))

end Sys2Proof.Machine
end

