-- ==== Sys2Proof/Laws/KeptStore.lean ====
section
/-! SUPPORT. Sys2Proof/Laws/KeptStore.lean: what each operation of Machine/Store.lean keeps (Kept, Laws/Kept.lean). -/
set_option Elab.async false
namespace Sys2Proof.Machine

theorem State.choose_kept {w : Wr} {r s : State} {sect : Nat} {c : Option Nat} (h : Kept w r s) :
    Kept w r (State.choose s sect c) := by
  unfold State.choose
  split
  · exact State.wr_kept (State.wr_kept (State.setBit_kept (State.setBit_kept h)))
  · exact State.wr_kept (State.wr_kept (State.setBit_kept (State.setBit_kept h)))

theorem State.keepKeys_kept {w : Wr} {r s : State} (w_boot : w.boot = true) (h : Kept w r s) :
    Kept w r (State.keepKeys s) := by
  unfold State.keepKeys
  lift_lets -underBinder
  intro x0 x1; clear_value x0 x1
  exact Kept.upd h (boot := .inl w_boot)

theorem State.loadSections_kept {w : Wr} {r s : State} (w_boot : w.boot = true) (h : Kept w r s) :
    Kept w r (State.loadSections s) := by
  unfold State.loadSections
  lift_lets -underBinder
  intro x0
  have h0 : Kept w r x0 := State.setReg_kept (State.keepKeys_kept w_boot h)
  clear_value x0
  intro x1
  have h1 : Kept w r x1 := State.devReg_kept (State.devWr_kept h0)
  clear_value x1
  intro x2
  have h2 : Kept w r x2 := Kept.ite_ h0
    (State.forEach_kept h1 (fun _ _ h3 => State.devWr_kept (State.devReg_kept h3)))
  clear_value x2
  intro x4
  have h4 : Kept w r x4 := State.devWr_kept (State.devWr_kept h2)
  clear_value x4
  intro x5
  have h5 : Kept w r x5 := Kept.ite_ h2
    (State.devReg_kept h4)
  clear_value x5
  exact Kept.ite_ h5
    (State.forEach_kept h5 (fun _ _ h6 => State.devWr_kept (State.devWr_kept h6)))

theorem State.startBringUp_kept {w : Wr} {r s : State} (w_links : w.links = true) (w_cuff : w.cuff = true) (w_route : w.route = true) (w_flt : w.flt = true) (w_pwr : w.pwr = true) (w_boot : w.boot = true) (w_same : w.same = true) (h : Kept w r s) :
    Kept w r (State.startBringUp s) := by
  unfold State.startBringUp
  lift_lets -underBinder
  intro x0 x1; clear_value x0 x1
  exact State.bringUp_kept w_links w_cuff w_route w_flt w_pwr w_boot w_same (State.wr_kept h)

end Sys2Proof.Machine
end

