-- ==== Sys2Proof/Laws/KeptBoot.lean ====
section
/-! SUPPORT. Sys2Proof/Laws/KeptBoot.lean: what each operation of Machine/Boot.lean keeps (Kept, Laws/Kept.lean). -/
set_option Elab.async false
namespace Sys2Proof.Machine

theorem State.stopBoot_kept {w : Wr} {r s : State} {cause : Nat} (h : Kept w r s) :
    Kept w r (State.stopBoot s cause) := by
  unfold State.stopBoot
  exact State.updFaultN_kept (State.wr_kept h)

theorem execAonPowerGood_kept {w : Wr} {r : State} {pll : Bool} {s : State} (w_links : w.links = true) (w_cuff : w.cuff = true) (w_route : w.route = true) (w_flt : w.flt = true) (w_pwr : w.pwr = true) (w_boot : w.boot = true) (w_same : w.same = true) (h : Kept w r s) :
    Answers w r (execAonPowerGood pll s) := by
  unfold execAonPowerGood
  exact Answers.ite_ (Answers.next h)
    (by
    lift_lets -underBinder
    intro x0
    have h0 : Kept w r x0 := State.startPhase_kept w_links w_cuff w_route w_flt w_pwr w_boot w_same h
    clear_value x0
    intro x1
    have h1 : Kept w r x1 := State.forEach_kept h0 (fun _ _ h2 => State.choose_kept h2)
    clear_value x1
    intro x3
    have h3 : Kept w r x3 := State.wr_kept (State.wr_kept h1)
    clear_value x3
    intro x4
    have h4 : Kept w r x4 := State.wr_kept h3
    clear_value x4
    intro x5
    have h5 : Kept w r x5 := State.endPhase_kept w_links w_cuff w_route w_flt w_pwr w_boot w_same (State.loadSections_kept w_boot h4)
    clear_value x5
    exact Answers.ite_ (Answers.next (State.stopBoot_kept h0))
      (Answers.ite_ (Answers.next (State.stopBoot_kept h4))
      (Answers.next (State.updFaultN_kept (Kept.ite_ (State.startBringUp_kept w_links w_cuff w_route w_flt w_pwr w_boot w_same h5)
      h5)))))

theorem execBootGo_kept {w : Wr} {r : State} {mode : Bool} {allow : Bool} {s : State} (w_same : w.same = true) (h : Kept w r s) :
    Answers w r (execBootGo mode allow s) := by
  unfold execBootGo
  lift_lets -underBinder
  intro x0
  have h0 : Kept w r x0 := State.drvWr_kept w_same (State.drvWr_kept w_same h)
  clear_value x0
  intro x1; clear_value x1
  exact Answers.ite_ (Answers.next (State.flag_kept w_same h0))
    (Answers.next (Kept.upd h0 (same := .inl w_same)))

theorem State.goDue_kept {w : Wr} {r s : State} (w_links : w.links = true) (w_cuff : w.cuff = true) (w_route : w.route = true) (w_flt : w.flt = true) (w_pwr : w.pwr = true) (w_boot : w.boot = true) (w_same : w.same = true) (h : Kept w r s) :
    Kept w r (State.goDue s) := by
  unfold State.goDue
  exact Kept.ite_ (State.updFaultN_kept (State.startBringUp_kept w_links w_cuff w_route w_flt w_pwr w_boot w_same h))
    h

theorem State.readyPhases_kept {w : Wr} {r s : State} (w_links : w.links = true) (w_cuff : w.cuff = true) (w_route : w.route = true) (w_flt : w.flt = true) (w_pwr : w.pwr = true) (w_boot : w.boot = true) (w_same : w.same = true) (h : Kept w r s) :
    Kept w r (State.readyPhases s) := by
  unfold State.readyPhases
  lift_lets -underBinder
  intro x0; clear_value x0
  exact State.forEach_kept h (fun _ _ h1 => Kept.ite_ h1
      (State.startPhase_kept w_links w_cuff w_route w_flt w_pwr w_boot w_same h1))

theorem State.domainsDone_kept {w : Wr} {r s : State} (w_links : w.links = true) (w_cuff : w.cuff = true) (w_route : w.route = true) (w_flt : w.flt = true) (w_pwr : w.pwr = true) (w_boot : w.boot = true) (w_same : w.same = true) (h : Kept w r s) :
    Kept w r (State.domainsDone s) := by
  unfold State.domainsDone
  exact Kept.ite_ h
    (by
    lift_lets -underBinder
    intro x0
    have h0 : Kept w r x0 := State.readyPhases_kept w_links w_cuff w_route w_flt w_pwr w_boot w_same h
    clear_value x0
    intro x1
    have h1 : Kept w r x1 := State.endPhase_kept w_links w_cuff w_route w_flt w_pwr w_boot w_same h0
    clear_value x1
    intro x2; clear_value x2
    exact Kept.ite_ (Kept.upd h1 (boot := .inl w_boot))
      h0)

theorem execDomainPowerGood_kept {w : Wr} {r s : State} (w_links : w.links = true) (w_cuff : w.cuff = true) (w_route : w.route = true) (w_flt : w.flt = true) (w_pwr : w.pwr = true) (w_boot : w.boot = true) (w_same : w.same = true) (h : Kept w r s) :
    Answers w r (execDomainPowerGood s) := by
  unfold execDomainPowerGood
  split
  · exact Answers.next (State.domainsDone_kept w_links w_cuff w_route w_flt w_pwr w_boot w_same h)
  · exact Answers.ite_ (Answers.next h)
        (by
        lift_lets -underBinder
        intro x0
        have h0 : Kept w r x0 := State.forEach_kept h (fun _ _ h1 => State.setBit_kept h1)
        clear_value x0
        intro x2
        have h2 : Kept w r x2 := State.supplyCause_kept h0
        clear_value x2
        intro x3; clear_value x3
        intro x4
        have h4 : Kept w r x4 := State.domainsDone_kept w_links w_cuff w_route w_flt w_pwr w_boot w_same (Kept.upd h2 (boot := .inl w_boot))
        clear_value x4
        exact Answers.next (State.powerNext_kept w_boot h4))
  · exact Answers.next h

theorem execDomainPowerTimeout_kept {w : Wr} {r s : State} (w_boot : w.boot = true) (h : Kept w r s) :
    Answers w r (execDomainPowerTimeout s) := by
  unfold execDomainPowerTimeout
  split
  · exact Answers.ite_ (Answers.next h)
        (by
        lift_lets -underBinder
        intro x0 x1; clear_value x0 x1
        intro x2
        have h2 : Kept w r x2 := Kept.upd h (boot := .inl w_boot)
        clear_value x2
        exact Answers.next (Kept.ite_ (State.stopBoot_kept h2)
          h2))
  · exact Answers.next h

theorem execBistDone_kept {w : Wr} {r s : State} {failed : List Nat} (w_sram : w.sram = true) (w_links : w.links = true) (w_cuff : w.cuff = true) (w_route : w.route = true) (w_flt : w.flt = true) (w_pwr : w.pwr = true) (w_boot : w.boot = true) (w_same : w.same = true) (h : Kept w r s) :
    Answers w r (execBistDone failed s) := by
  unfold execBistDone
  refine Answers.ite_ (Answers.next h) ?_
  lift_lets -underBinder
  intro x0
  have h0 : Kept w r x0 := State.forEach_kept h fun _ _ h1 => State.setReg_kept h1
  clear_value x0
  exact Answers.next (State.endPhase_kept w_links w_cuff w_route w_flt w_pwr w_boot w_same (Kept.updSram h0 w_sram fun _ => rfl))

theorem execHbmTrainingDone_kept {w : Wr} {r : State} {failed : BitVec 8} {s : State} (w_links : w.links = true) (w_cuff : w.cuff = true) (w_route : w.route = true) (w_flt : w.flt = true) (w_pwr : w.pwr = true) (w_mem : w.mem = true) (w_boot : w.boot = true) (w_same : w.same = true) (h : Kept w r s) :
    Answers w r (execHbmTrainingDone failed s) := by
  unfold execHbmTrainingDone
  exact Answers.ite_ (Answers.next h)
    (by
    lift_lets -underBinder
    intro x0
    have h0 : Kept w r x0 := State.forEach_kept h (fun _ _ h1 => Kept.ite_ h1
        (by
        lift_lets -underBinder
        intro x2
        have h2 : Kept w r x2 := State.wr_kept h1
        clear_value x2
        intro x3; clear_value x3
        exact Kept.ite_ h2
          (Kept.upd h2 (mem := .inl w_mem))))
    clear_value x0
    exact Answers.next (State.endPhase_kept w_links w_cuff w_route w_flt w_pwr w_boot w_same h0))

theorem State.linerFromNvm_kept {w : Wr} {r s : State} (h : Kept w r s) :
    Kept w r (State.linerFromNvm s) := by
  unfold State.linerFromNvm
  exact State.forEach_kept h (fun _ _ h0 => State.setLinerBad_kept h0)

theorem execLinerBuild_kept {w : Wr} {r s : State} (w_links : w.links = true) (w_cuff : w.cuff = true) (w_route : w.route = true) (w_flt : w.flt = true) (w_pwr : w.pwr = true) (w_palm : w.palm = true) (w_boot : w.boot = true) (w_same : w.same = true) (h : Kept w r s) :
    Answers w r (execLinerBuild s) := by
  unfold execLinerBuild
  exact Answers.ite_ (Answers.next h)
    (by
    lift_lets -underBinder
    intro x0
    have h0 : Kept w r x0 := Kept.ite_ h
      (State.forEach_kept (State.linerFromNvm_kept h) (fun _ _ h1 => State.markBad_kept h1))
    clear_value x0
    intro x2
    have h2 : KeptP w r x2 := State.loadLiner_kept w_palm h0
    clear_value x2
    exact Answers.next (Kept.ite_ h2
      (State.endPhase_kept w_links w_cuff w_route w_flt w_pwr w_boot w_same h2)))

theorem execDiscoveryEval_kept {w : Wr} {r : State} {l : Fin 24} {s : State} (w_links : w.links = true) (w_cuff : w.cuff = true) (w_route : w.route = true) (w_flt : w.flt = true) (w_pwr : w.pwr = true) (w_same : w.same = true) (h : Kept w r s) :
    Answers w r (execDiscoveryEval l s) := by
  unfold execDiscoveryEval
  exact Answers.next (State.discover_kept w_links w_cuff w_route w_flt w_pwr w_same h)

theorem execDiscoveryEnd_kept {w : Wr} {r s : State} (w_links : w.links = true) (w_cuff : w.cuff = true) (w_route : w.route = true) (w_flt : w.flt = true) (w_pwr : w.pwr = true) (w_boot : w.boot = true) (w_same : w.same = true) (h : Kept w r s) :
    Answers w r (execDiscoveryEnd s) := by
  unfold execDiscoveryEnd
  lift_lets -underBinder
  intro x0 x1; clear_value x0 x1
  intro x2
  have h2 : Kept w r x2 := State.endPhase_kept w_links w_cuff w_route w_flt w_pwr w_boot w_same h
  clear_value x2
  exact Answers.ite_ (Answers.next h)
    (Answers.next (State.forEach_kept h2 (fun _ _ h3 => State.evalLink_kept w_links w_cuff w_route w_flt w_pwr w_same h3)))

theorem execReadinessReport_kept {w : Wr} {r s : State} (w_links : w.links = true) (w_cuff : w.cuff = true) (w_route : w.route = true) (w_flt : w.flt = true) (w_pwr : w.pwr = true) (w_boot : w.boot = true) (w_same : w.same = true) (h : Kept w r s) :
    Answers w r (execReadinessReport s) := by
  unfold execReadinessReport
  exact Answers.ite_ (Answers.next h)
    (by
    lift_lets -underBinder
    intro x0 x1; clear_value x0 x1
    intro x2
    have h2 : Kept w r x2 := State.wr_kept (State.wr_kept h)
    clear_value x2
    intro x3
    have h3 : Kept w r x3 := Kept.ite_ h2
      (State.wr_kept h2)
    clear_value x3
    intro x4; clear_value x4
    exact Answers.next (State.updFaultN_kept (State.endPhase_kept w_links w_cuff w_route w_flt w_pwr w_boot w_same (Kept.upd h3 (boot := .inl w_boot)))))

theorem execRediscover_kept {w : Wr} {r : State} {mode : Bool} {allow : Bool} {s : State} (w_links : w.links = true) (w_cuff : w.cuff = true) (w_route : w.route = true) (w_flt : w.flt = true) (w_pwr : w.pwr = true) (w_boot : w.boot = true) (w_same : w.same = true) (h : Kept w r s) :
    Answers w r (execRediscover mode allow s) := by
  unfold execRediscover
  lift_lets -underBinder
  intro x0
  have h0 : Kept w r x0 := State.drvWr_kept w_same (State.drvWr_kept w_same h)
  clear_value x0
  exact Answers.ite_ (Answers.next (State.flag_kept w_same h0))
    (Answers.next (State.startPhase_kept w_links w_cuff w_route w_flt w_pwr w_boot w_same h0))

end Sys2Proof.Machine
end

