-- ==== Sys2Proof/Laws/KeptChunks.lean ====
section
/-! SUPPORT. Sys2Proof/Laws/KeptChunks.lean: what each operation of Machine/Chunks.lean keeps (Kept, Laws/Kept.lean). -/
set_option Elab.async false
namespace Sys2Proof.Machine

theorem State.ldrQueue_kept {w : Wr} {r s : State} {vc : Nat} {dest : Nat} {hdr : Nat} {data : Nat} (w_ldrs : w.ldrs = true) (h : Kept w r s) :
    Kept w r (State.ldrQueue s vc dest hdr data) := by
  unfold State.ldrQueue
  lift_lets -underBinder
  intro x0 x1 x2; clear_value x0 x1 x2
  exact Kept.upd h (ldrs := .inl w_ldrs)

theorem State.ldrPump_kept {w : Wr} {r s : State} (w_route : w.route = true) (w_ldrs : w.ldrs = true) (w_freeCtr : w.freeCtr = true) (h : Kept w r s) :
    Kept w r (State.ldrPump s) := by
  unfold State.ldrPump
  lift_lets -underBinder
  intro x0 x1; clear_value x0 x1
  intro x2
  have h2 : Kept w r x2 := Kept.upd h (ldrs := .inl w_ldrs)
  clear_value x2
  exact State.forEach_kept h2 (fun _ _ h3 => State.stamp_kept w_route w_freeCtr h3)

theorem State.ldrSendTo_kept {w : Wr} {r s : State} {ms : List Nat} {vc : Nat} {hdr : Nat} {data : Nat} (w_ldrs : w.ldrs = true) (h : Kept w r s) :
    Kept w r (State.ldrSendTo s ms vc hdr data) := by
  unfold State.ldrSendTo
  exact State.forEach_kept h (fun _ _ h0 => State.ldrQueue_kept w_ldrs h0)

theorem State.sendChunk_kept {w : Wr} {r s : State} {ms : List Nat} {round : Nat} {relay : Nat} {c : Nat} (w_ldrs : w.ldrs = true) (h : Kept w r s) :
    Kept w r (State.sendChunk s ms round relay c) := by
  unfold State.sendChunk
  lift_lets -underBinder
  intro x0 x1 x2; clear_value x0 x1 x2
  exact State.forEach_kept h (fun _ _ h3 => State.ldrSendTo_kept w_ldrs h3)

theorem State.hbmChunk_kept {w : Wr} {r s : State} {a : Nat} {x : Nat} (w_hbm : w.hbm = true) (w_mem : w.mem = true) (h : Kept w r s) :
    Kept w r (State.hbmChunk s a x) := by
  unfold State.hbmChunk
  exact State.hbmWriteCap_kept w_hbm w_mem h

theorem State.putChunk_kept {w : Wr} {r s : State} {c : Nat} {x : Nat} (w_hbm : w.hbm = true) (w_mem : w.mem = true) (w_ldrs : w.ldrs = true) (h : Kept w r s) :
    Kept w r (State.putChunk s c x) := by
  unfold State.putChunk
  split
  · exact State.hbmChunk_kept w_hbm w_mem h
  · exact by
        lift_lets -underBinder
        intro x0
        have h0 : Kept w r x0 := by
          unfold x0
          split
          · exact State.hbmChunk_kept w_hbm w_mem h
          · exact h
        clear_value x0
        intro x1; clear_value x1
        exact Kept.upd h0 (ldrs := .inl w_ldrs)

theorem State.placeKept_kept {w : Wr} {r s : State} (w_hbm : w.hbm = true) (w_mem : w.mem = true) (w_ldrs : w.ldrs = true) (h : Kept w r s) :
    Kept w r (State.placeKept s) := by
  unfold State.placeKept
  lift_lets -underBinder
  intro x0 x1; clear_value x0 x1
  intro x2
  have h2 : Kept w r x2 := Kept.upd h (ldrs := .inl w_ldrs)
  clear_value x2
  exact State.forEach_kept h2 (fun _ _ h3 => State.putChunk_kept w_hbm w_mem w_ldrs h3)

theorem State.checkComplete_kept {w : Wr} {r s : State} (h : Kept w r s) :
    Kept w r (State.checkComplete s) := by
  unfold State.checkComplete
  lift_lets -underBinder
  intro x0
  have h0 : Kept w r x0 := State.showLoad_kept h
  clear_value x0
  exact Kept.ite_ (State.wr_kept h0)
    h0

theorem State.takeChunk_kept {w : Wr} {r s : State} {c : Nat} {x : Nat} {crc : Nat} (w_hbm : w.hbm = true) (w_mem : w.mem = true) (w_ldrs : w.ldrs = true) (h : Kept w r s) :
    Kept w r (State.takeChunk s c x crc) := by
  unfold State.takeChunk
  exact Kept.ite_ (State.count_kept h)
    (Kept.ite_ (State.count_kept h)
    (Kept.ite_ h
    (by
    lift_lets -underBinder
    intro x0; clear_value x0
    intro x1
    have h1 : Kept w r x1 := State.count_kept (State.putChunk_kept w_hbm w_mem w_ldrs h)
    clear_value x1
    intro x2; clear_value x2
    intro x3
    have h3 : Kept w r x3 := Kept.upd h1 (ldrs := .inl w_ldrs)
    clear_value x3
    exact State.checkComplete_kept (Kept.ite_ (State.placeKept_kept w_hbm w_mem w_ldrs h3)
      h3))))

theorem State.addPart_kept {w : Wr} {r s : State} {c : Nat} {crc : Nat} {p : Nat} {x : Nat} (w_ldrs : w.ldrs = true) (h : Kept w r s) :
    Kept w r (State.addPart s c crc p x) := by
  unfold State.addPart
  split
  · exact by
        lift_lets -underBinder
        intro x0 x1; clear_value x0 x1
        exact Kept.upd h (ldrs := .inl w_ldrs)
  · exact by
        lift_lets -underBinder
        intro x2 x3; clear_value x2 x3
        intro x4
        have h4 : Kept w r x4 := State.count_kept h
        clear_value x4
        exact Kept.ite_ (Kept.upd h (ldrs := .inl w_ldrs))
          (Kept.upd h4 (ldrs := .inl w_ldrs))

theorem State.finishChunk_kept {w : Wr} {r s : State} {c : Nat} (w_hbm : w.hbm = true) (w_mem : w.mem = true) (w_ldrs : w.ldrs = true) (h : Kept w r s) :
    Kept w r (State.finishChunk s c) := by
  unfold State.finishChunk
  split
  · exact h
  · exact by
        lift_lets -underBinder
        intro x0; clear_value x0
        intro x1
        have h1 : Kept w r x1 := Kept.upd h (ldrs := .inl w_ldrs)
        clear_value x1
        exact State.takeChunk_kept w_hbm w_mem w_ldrs h1

theorem State.seeRound_kept {w : Wr} {r s : State} {r0 : Nat} (w_same : w.same = true) (h : Kept w r s) :
    Kept w r (State.seeRound s r0) := by
  unfold State.seeRound
  exact State.raise_kept w_same h

theorem State.takePart_kept {w : Wr} {r s : State} {f : Flit} (w_hbm : w.hbm = true) (w_mem : w.mem = true) (w_ldrs : w.ldrs = true) (w_same : w.same = true) (h : Kept w r s) :
    Kept w r (State.takePart s f) := by
  unfold State.takePart
  lift_lets -underBinder
  intro x0 x1 x2; clear_value x0 x1 x2
  intro x3
  have h3 : Kept w r x3 := Kept.ite_ (State.ldrSendTo_kept w_ldrs h)
    h
  clear_value x3
  intro x4 x5; clear_value x4 x5
  exact Kept.ite_ (State.count_kept h)
    (Kept.ite_ (State.count_kept h3)
    (Kept.ite_ h3
    (State.finishChunk_kept w_hbm w_mem w_ldrs (State.addPart_kept w_ldrs (State.seeRound_kept w_same h3)))))

theorem execChunkPart_kept {w : Wr} {r s : State} (w_hbm : w.hbm = true) (w_cuff : w.cuff = true) (w_route : w.route = true) (w_flt : w.flt = true) (w_pwr : w.pwr = true) (w_mem : w.mem = true) (w_ldrs : w.ldrs = true) (w_freeCtr : w.freeCtr = true) (w_same : w.same = true) (h : Kept w r s) :
    Answers w r (execChunkPart s) := by
  unfold execChunkPart
  split
  · exact Answers.next (State.niLost_kept w_cuff w_route w_flt w_pwr w_mem w_same h)
  · rename_i heq; have h0 : (Kept w r) _ := of_ (KeptOP w r) (State.niTake_kept w_cuff w_route w_flt w_pwr w_mem w_same h) heq; exact Answers.next (State.ldrPump_kept w_route w_ldrs w_freeCtr (State.takePart_kept w_hbm w_mem w_ldrs w_same h0))

theorem execChunkSubmit_kept {w : Wr} {r : State} {chunk : Fin 16777216} {crc : BitVec 32} {s : State} (w_hbm : w.hbm = true) (w_mem : w.mem = true) (w_ldrs : w.ldrs = true) (w_same : w.same = true) (h : Kept w r s) :
    Answers w r (execChunkSubmit chunk crc s) := by
  unfold execChunkSubmit
  exact Answers.ite_ (Answers.next (State.ldrRefuse_kept w_same h))
    (Answers.next (State.takeChunk_kept w_hbm w_mem w_ldrs h))

theorem State.settle_kept {w : Wr} {r s : State} (w_ldrs : w.ldrs = true) (h : Kept w r s) :
    Kept w r (State.settle s) := by
  unfold State.settle
  exact Kept.upd h (ldrs := .inl w_ldrs)

theorem State.sendAll_kept {w : Wr} {r s : State} {round : Nat} (w_ldrs : w.ldrs = true) (h : Kept w r s) :
    Kept w r (State.sendAll s round) := by
  unfold State.sendAll
  exact State.forEach_kept h (fun _ _ h0 => State.sendChunk_kept w_ldrs h0)

theorem execBcast_kept {w : Wr} {r s : State} (w_route : w.route = true) (w_ldrs : w.ldrs = true) (w_freeCtr : w.freeCtr = true) (w_same : w.same = true) (h : Kept w r s) :
    Answers w r (execBcast s) := by
  unfold execBcast
  exact Answers.ite_ (Answers.next (State.ldrRefuse_kept w_same h))
    (by
    lift_lets -underBinder
    intro x0
    have h0 : Kept w r x0 := State.wr_kept (State.wr_kept (State.wr_kept h))
    clear_value x0
    intro x1
    have h1 : Kept w r x1 := State.wr_kept h0
    clear_value x1
    exact Answers.next (State.ldrPump_kept w_route w_ldrs w_freeCtr (State.settle_kept w_ldrs (State.sendAll_kept w_ldrs h1))))

theorem execBcastSettleEnd_kept {w : Wr} {r s : State} (w_route : w.route = true) (w_ldrs : w.ldrs = true) (w_freeCtr : w.freeCtr = true) (h : Kept w r s) :
    Answers w r (execBcastSettleEnd s) := by
  unfold execBcastSettleEnd
  exact Answers.ite_ (Answers.next h)
    (by
    lift_lets -underBinder
    intro x0 x1; clear_value x0 x1
    intro x2
    have h2 : Kept w r x2 := State.wr_kept (State.ldrSendTo_kept w_ldrs h)
    clear_value x2
    intro x3; clear_value x3
    exact Answers.next (State.ldrPump_kept w_route w_ldrs w_freeCtr (Kept.upd h2 (ldrs := .inl w_ldrs))))

theorem State.bcastDone_kept {w : Wr} {r s : State} (w_ldrs : w.ldrs = true) (h : Kept w r s) :
    Kept w r (State.bcastDone s) := by
  unfold State.bcastDone
  lift_lets -underBinder
  intro x0; clear_value x0
  intro x1
  have h1 : Kept w r x1 := State.forEach_kept h (fun _ _ h2 => State.setReg_kept h2)
  clear_value x1
  intro x3
  have h3 : Kept w r x3 := State.wr_kept (State.wr_kept h1)
  clear_value x3
  intro x4; clear_value x4
  exact Kept.upd h3 (ldrs := .inl w_ldrs)

theorem State.loadIncomplete_kept {w : Wr} {r s : State} {cause : Nat} {sub : Nat} {a : Nat} {b : Nat} (w_cuff : w.cuff = true) (w_route : w.route = true) (w_flt : w.flt = true) (w_pwr : w.pwr = true) (w_same : w.same = true) (h : Kept w r s) :
    Kept w r (State.loadIncomplete s cause sub a b) := by
  unfold State.loadIncomplete
  exact State.fault_kept w_cuff w_route w_flt w_pwr w_same h

theorem execReportWaitEnd_kept {w : Wr} {r s : State} (w_cuff : w.cuff = true) (w_route : w.route = true) (w_flt : w.flt = true) (w_pwr : w.pwr = true) (w_ldrs : w.ldrs = true) (w_freeCtr : w.freeCtr = true) (w_same : w.same = true) (h : Kept w r s) :
    Answers w r (execReportWaitEnd s) := by
  unfold execReportWaitEnd
  exact Answers.ite_ (Answers.next h)
    (by
    lift_lets -underBinder
    intro x0 x1 x2 x3 x4 x5; clear_value x0 x1 x2 x3 x4 x5
    intro x6
    have h6 : Kept w r x6 := State.wr_kept h
    clear_value x6
    intro x7
    have h7 : Kept w r x7 := Kept.ite_ (State.count_kept (State.sendAll_kept w_ldrs h6))
      (State.forEach_kept h6 (fun _ _ h8 => State.count_kept (State.forEach_kept h8 (fun _ _ h9 => State.sendChunk_kept w_ldrs h9))))
    clear_value x7
    exact Answers.ite_ (Answers.next (State.bcastDone_kept w_ldrs h))
      (Answers.ite_ (Answers.next (State.loadIncomplete_kept w_cuff w_route w_flt w_pwr w_same (State.bcastDone_kept w_ldrs h)))
      (Answers.next (State.ldrPump_kept w_route w_ldrs w_freeCtr (State.settle_kept w_ldrs h7)))))

theorem State.sendReport_kept {w : Wr} {r s : State} {r0 : Nat} {rs : List (Nat × Nat)} (w_ldrs : w.ldrs = true) (h : Kept w r s) :
    Kept w r (State.sendReport s r0 rs) := by
  unfold State.sendReport
  lift_lets -underBinder
  intro x0; clear_value x0
  exact State.forEach_kept h (fun _ _ h1 => by
      lift_lets -underBinder
      intro x2; clear_value x2
      exact State.ldrQueue_kept w_ldrs h1)

theorem execRoundEnd_kept {w : Wr} {r s : State} (w_cuff : w.cuff = true) (w_route : w.route = true) (w_flt : w.flt = true) (w_pwr : w.pwr = true) (w_mem : w.mem = true) (w_ldrs : w.ldrs = true) (w_freeCtr : w.freeCtr = true) (w_same : w.same = true) (h : Kept w r s) :
    Answers w r (execRoundEnd s) := by
  unfold execRoundEnd
  split
  · exact Answers.next (State.niLost_kept w_cuff w_route w_flt w_pwr w_mem w_same h)
  · rename_i heq; have h0 : (Kept w r) _ := of_ (KeptOP w r) (State.niTake_kept w_cuff w_route w_flt w_pwr w_mem w_same h) heq; exact by
        lift_lets -underBinder
        intro x1 x2; clear_value x1 x2
        intro x3
        have h3 : Kept w r x3 := State.ldrSendTo_kept w_ldrs h0
        clear_value x3
        intro x4
        have h4 : Kept w r x4 := State.sendReport_kept w_ldrs (State.seeRound_kept w_same h3)
        clear_value x4
        intro x5
        have h5 : Kept w r x5 := Kept.ite_ (State.loadIncomplete_kept w_cuff w_route w_flt w_pwr w_same (State.wr_kept h4))
          h4
        clear_value x5
        exact Answers.ite_ (Answers.next (State.ldrPump_kept w_route w_ldrs w_freeCtr h3))
          (Answers.next (State.ldrPump_kept w_route w_ldrs w_freeCtr h5))

theorem execReport_kept {w : Wr} {r s : State} (w_cuff : w.cuff = true) (w_route : w.route = true) (w_flt : w.flt = true) (w_pwr : w.pwr = true) (w_mem : w.mem = true) (w_ldrs : w.ldrs = true) (w_same : w.same = true) (h : Kept w r s) :
    Answers w r (execReport s) := by
  unfold execReport
  split
  · exact Answers.next (State.niLost_kept w_cuff w_route w_flt w_pwr w_mem w_same h)
  · rename_i heq; have h0 : (Kept w r) _ := of_ (KeptOP w r) (State.niTake_kept w_cuff w_route w_flt w_pwr w_mem w_same h) heq; exact by
        lift_lets -underBinder
        intro x1 x2 x3 x4 x5 x6; clear_value x1 x2 x3 x4 x5 x6
        exact Answers.ite_ (Answers.next h0)
          (Answers.next (State.wr_kept (Kept.upd h0 (ldrs := .inl w_ldrs))))

theorem State.fwTake_kept {w : Wr} {r s : State} {r0 : Nat} {i : Nat} (w_ldrs : w.ldrs = true) (h : Kept w r s) :
    Kept w r (State.fwTake s r0 i) := by
  unfold State.fwTake
  lift_lets -underBinder
  intro x0 x1 x2 x3 x4; clear_value x0 x1 x2 x3 x4
  exact Kept.ite_ h
    (Kept.upd h (ldrs := .inl w_ldrs))

theorem State.fwCollect_kept {w : Wr} {r s : State} (w_links : w.links = true) (w_cuff : w.cuff = true) (w_route : w.route = true) (w_flt : w.flt = true) (w_pwr : w.pwr = true) (w_ldrs : w.ldrs = true) (w_boot : w.boot = true) (w_same : w.same = true) (h : Kept w r s) :
    Kept w r (State.fwCollect s) := by
  unfold State.fwCollect
  lift_lets -underBinder
  intro x0; clear_value x0
  intro x1
  have h1 : Kept w r x1 := State.wr_kept (State.wr_kept (State.wr_kept h))
  clear_value x1
  intro x2; clear_value x2
  intro x3
  have h3 : Kept w r x3 := Kept.upd h1 (ldrs := .inl w_ldrs)
  clear_value x3
  exact Kept.ite_ (State.endPhase_kept w_links w_cuff w_route w_flt w_pwr w_boot w_same h3)
    (State.showWaits_kept w_boot h3)

theorem execFwStart_kept {w : Wr} {r s : State} (w_links : w.links = true) (w_cuff : w.cuff = true) (w_route : w.route = true) (w_flt : w.flt = true) (w_pwr : w.pwr = true) (w_ldrs : w.ldrs = true) (w_boot : w.boot = true) (w_same : w.same = true) (h : Kept w r s) :
    Answers w r (execFwStart s) := by
  unfold execFwStart
  exact Answers.ite_ (Answers.next (State.ldrRefuse_kept w_same h))
    (by
    lift_lets -underBinder
    intro x0
    have h0 : Kept w r x0 := State.wr_kept (State.wr_kept h)
    clear_value x0
    intro x1 x2; clear_value x1 x2
    intro x3
    have h3 : Kept w r x3 := Kept.upd h0 (ldrs := .inl w_ldrs)
    clear_value x3
    exact Answers.next (Kept.ite_ (State.fwCollect_kept w_links w_cuff w_route w_flt w_pwr w_ldrs w_boot w_same h3)
      (State.showWaits_kept w_boot h3)))

theorem execFwChunkSend_kept {w : Wr} {r : State} {lost : List Nat} {s : State} (w_links : w.links = true) (w_cuff : w.cuff = true) (w_route : w.route = true) (w_flt : w.flt = true) (w_pwr : w.pwr = true) (w_ldrs : w.ldrs = true) (w_boot : w.boot = true) (w_same : w.same = true) (h : Kept w r s) :
    Answers w r (execFwChunkSend lost s) := by
  unfold execFwChunkSend
  split
  · exact Answers.next h
  · exact Answers.ite_ (Answers.next h)
        (by
        split
        · exact Answers.next (State.fwCollect_kept w_links w_cuff w_route w_flt w_pwr w_ldrs w_boot w_same h)
        · exact by
              lift_lets -underBinder
              intro x0
              have h0 : Kept w r x0 := State.forEach_kept h (fun _ _ h1 => State.fwTake_kept w_ldrs h1)
              clear_value x0
              intro x2; clear_value x2
              intro x3
              have h3 : Kept w r x3 := Kept.upd h0 (ldrs := .inl w_ldrs)
              clear_value x3
              exact Answers.next (Kept.ite_ (State.fwCollect_kept w_links w_cuff w_route w_flt w_pwr w_ldrs w_boot w_same h3)
                h3))

theorem State.fwGiveUp_kept {w : Wr} {r s : State} (w_links : w.links = true) (w_cuff : w.cuff = true) (w_route : w.route = true) (w_flt : w.flt = true) (w_pwr : w.pwr = true) (w_palm : w.palm = true) (w_boot : w.boot = true) (w_bon : w.bon = true) (w_same : w.same = true) (h : Kept w r s) :
    Kept w r (State.fwGiveUp s) := by
  unfold State.fwGiveUp
  lift_lets -underBinder
  intro x0; clear_value x0
  intro x1
  have h1 : Kept w r x1 := State.forEach_kept h (fun _ _ h2 => by
      lift_lets -underBinder
      intro x3; clear_value x3
      exact State.loadIncomplete_kept w_cuff w_route w_flt w_pwr w_same h2)
  clear_value x1
  intro x4; clear_value x4
  intro x5
  have h5 : Kept w r x5 := State.forEach_kept h1 (fun _ _ h6 => State.markBad_kept (State.fence_kept h6))
  clear_value x5
  intro x7
  have h7 : Kept w r x7 := Kept.ite_ h5
    (State.loadLiner_kept w_palm h5)
  clear_value x7
  intro x8; clear_value x8
  intro x9
  have h9 : Kept w r x9 := Kept.ite_ (Kept.upd h7 (bon := .inl w_bon))
    h7
  clear_value x9
  exact State.endPhase_kept w_links w_cuff w_route w_flt w_pwr w_boot w_same h9

theorem execFwRepair_kept {w : Wr} {r : State} {lost : List (Nat × Nat)} {s : State} (w_links : w.links = true) (w_cuff : w.cuff = true) (w_route : w.route = true) (w_flt : w.flt = true) (w_pwr : w.pwr = true) (w_palm : w.palm = true) (w_ldrs : w.ldrs = true) (w_boot : w.boot = true) (w_bon : w.bon = true) (w_same : w.same = true) (h : Kept w r s) :
    Answers w r (execFwRepair lost s) := by
  unfold execFwRepair
  lift_lets -underBinder
  intro x0; clear_value x0
  intro x1
  have h1 : Kept w r x1 := State.forEach_kept h (fun _ _ h2 => State.forEach_kept h2 (fun _ _ h3 => State.fwTake_kept w_ldrs h3))
  clear_value x1
  intro x4
  have h4 : Kept w r x4 := State.fwCollect_kept w_links w_cuff w_route w_flt w_pwr w_ldrs w_boot w_same (State.wr_kept h1)
  clear_value x4
  exact Answers.ite_ (Answers.next (State.ldrRefuse_kept w_same h))
    (Answers.next (Kept.ite_ (State.fwGiveUp_kept w_links w_cuff w_route w_flt w_pwr w_palm w_boot w_bon w_same h4)
    h4))

end Sys2Proof.Machine
end

