-- ==== Sys2Proof/Laws/KeptBonnet.lean ====
section
/-! SUPPORT. Sys2Proof/Laws/KeptBonnet.lean: what each operation of Machine/Bonnet.lean keeps (Kept, Laws/Kept.lean). -/
set_option Elab.async false
namespace Sys2Proof.Machine

theorem State.showBon_kept {w : Wr} {r s : State} (h : Kept w r s) :
    Kept w r (State.showBon s) := by
  unfold State.showBon
  exact Kept.ite_ h
    (State.wr_kept (State.wr_kept h))

theorem State.setSession_kept {w : Wr} {r s : State} {i : Nat} {e : Nat} (w_bar2 : w.bar2 = true) (h : Kept w r s) :
    Kept w r (State.setSession s i e) := by
  unfold State.setSession
  exact State.forEach_kept h (fun _ _ h0 => State.setTab_kept w_bar2 h0)

theorem State.brpSend_kept {w : Wr} {r s : State} {sender : Nat} {d : Dgram} (w_bar2 : w.bar2 = true) (h : Kept w r s) :
    Kept w r (State.brpSend s sender d) := by
  unfold State.brpSend
  lift_lets -underBinder
  intro x0 x1 x2 x3 x4; clear_value x0 x1 x2 x3 x4
  exact Kept.ite_ h
    (State.emit_kept (State.setSession_kept w_bar2 h))

theorem State.nak_kept {w : Wr} {r s : State} {sender : Nat} {sess : Nat} {id : Nat} {reason : Nat} (w_bar2 : w.bar2 = true) (h : Kept w r s) :
    Kept w r (State.nak s sender sess id reason) := by
  unfold State.nak
  exact State.brpSend_kept w_bar2 (State.count_kept h)

theorem State.stranger_kept {w : Wr} {r s : State} (h : Kept w r s) :
    Kept w r (State.stranger s) := by
  unfold State.stranger
  exact State.count_kept h

theorem State.chargeSource_kept {w : Wr} {r s : State} {src : Nat} (w_bon : w.bon = true) (h : Kept w r s) :
    KeptO w r (State.chargeSource s src) := by
  unfold State.chargeSource
  lift_lets -underBinder
  intro x0; clear_value x0
  exact KeptO.map (fun _ => Kept.upd h (bon := .inl w_bon))

theorem State.chargeSession_kept {w : Wr} {r s : State} {i : Nat} (w_bon : w.bon = true) (h : Kept w r s) :
    KeptO w r (State.chargeSession s i) := by
  unfold State.chargeSession
  lift_lets -underBinder
  intro x0; clear_value x0
  exact KeptO.map (fun _ => Kept.upd h (bon := .inl w_bon))

theorem State.acceptCounter_kept {w : Wr} {r s : State} {i : Nat} {c : Nat} (w_bar2 : w.bar2 = true) (w_bon : w.bon = true) (h : Kept w r s) :
    Kept w r (State.acceptCounter s i c) := by
  unfold State.acceptCounter
  lift_lets -underBinder
  intro x0 x1 x2; clear_value x0 x1 x2
  intro x3
  have h3 : ∀ y1 y2, (Kept w r) y1 → (Kept w r) (x3 y1 y2) := fun _ _ h4 => Kept.upd h4 (bon := .inl w_bon)
  clear_value x3
  exact Kept.ite_ (h3 _ _ (State.setSession_kept w_bar2 h))
    (h3 _ _ h)

theorem State.checkBrp_kept {w : Wr} {r s : State} {v6 : Bool} {src : Nat} {sport : Nat} {x : List Byte} (w_bar2 : w.bar2 = true) (w_bon : w.bon = true) (h : Kept w r s) :
    KeptArr w r (State.checkBrp s v6 src sport x) := by
  unfold State.checkBrp
  lift_lets -underBinder
  intro x0 x1; clear_value x0 x1
  exact by
    split
    · exact KeptArr.dropped_ (State.stranger_kept h)
    · exact KeptArr.ite_ (KeptArr.dropped_ (State.stranger_kept h))
          (by
          lift_lets -underBinder
          intro x2 x3; clear_value x2 x3
          intro x4
          have h4 : Kept w r x4 := State.acceptCounter_kept w_bar2 w_bon h
          clear_value x4
          exact KeptArr.ite_ (KeptArr.dropped_ (State.count_kept h))
            (KeptArr.ite_ (KeptArr.dropped_ (State.count_kept h))
            (by
            split
            · exact KeptArr.dropped_ (State.count_kept h4)
            · rename_i heq; have h5 : (Kept w r) _ := of_ (KeptO w r) (State.chargeSession_kept w_bon h4) heq; exact KeptArr.dgram_ h5)))

theorem State.checkFrame_kept {w : Wr} {r s : State} {f : EthFrame} (w_bar2 : w.bar2 = true) (w_cuff : w.cuff = true) (w_route : w.route = true) (w_flt : w.flt = true) (w_pwr : w.pwr = true) (w_mem : w.mem = true) (w_bon : w.bon = true) (w_same : w.same = true) (h : Kept w r s) :
    KeptArr w r (State.checkFrame s f) := by
  unfold State.checkFrame
  lift_lets -underBinder
  intro x0; clear_value x0
  intro x1
  have h1 : Kept w r x1 := State.count_kept h
  clear_value x1
  intro x2
  have h2 : KeptP w r x2 := State.guardWords_kept w_cuff w_route w_flt w_pwr w_mem w_same h1
  clear_value x2
  intro x3
  have h3 : Kept w r x3 := State.dropUpsets_kept w_mem h2
  clear_value x3
  exact KeptArr.ite_ (KeptArr.dropped_ h3)
    (KeptArr.ite_ (KeptArr.dropped_ (State.count_kept h3))
    (KeptArr.ite_ (KeptArr.dropped_ (State.stranger_kept h3))
    (by
    split
    · exact KeptArr.ite_ (KeptArr.neighbour_ h3)
          (KeptArr.dropped_ (State.stranger_kept h3))
    · exact KeptArr.ite_ (KeptArr.neighbour_ h3)
          (KeptArr.dropped_ (State.stranger_kept h3))
    · exact KeptArr.ptp_ h3
    · exact KeptArr.dropped_ (State.stranger_kept h3)
    · exact KeptArr.ite_ (KeptArr.dropped_ (State.stranger_kept h3))
          (by
          split
          · exact KeptArr.dropped_ (State.count_kept h3)
          · rename_i heq; have h4 : (Kept w r) _ := of_ (KeptO w r) (State.chargeSource_kept w_bon h3) heq; exact State.checkBrp_kept w_bar2 w_bon h4))))

theorem State.forwardPart_kept {w : Wr} {r s : State} {home : Nat} {x : List Byte} {i : Nat} (w_cuff : w.cuff = true) (w_route : w.route = true) (w_flt : w.flt = true) (w_pwr : w.pwr = true) (w_mem : w.mem = true) (w_freeCtr : w.freeCtr = true) (w_same : w.same = true) (h : Kept w r s) :
    Kept w r (State.forwardPart s home x i) := by
  unfold State.forwardPart
  lift_lets -underBinder
  intro x0; clear_value x0
  exact State.inject_kept w_cuff w_route w_flt w_pwr w_mem w_freeCtr w_same h

theorem State.forwardDgram_kept {w : Wr} {r s : State} {d : Dgram} (w_cuff : w.cuff = true) (w_route : w.route = true) (w_flt : w.flt = true) (w_pwr : w.pwr = true) (w_mem : w.mem = true) (w_freeCtr : w.freeCtr = true) (w_same : w.same = true) (h : Kept w r s) :
    Kept w r (State.forwardDgram s d) := by
  unfold State.forwardDgram
  lift_lets -underBinder
  intro x0 x1; clear_value x0 x1
  exact State.count_kept (State.forEach_kept h (fun _ _ h2 => State.forwardPart_kept w_cuff w_route w_flt w_pwr w_mem w_freeCtr w_same h2))

theorem execFrameDropped_kept {w : Wr} {r : State} {f : EthFrame} {s : State} (w_bar2 : w.bar2 = true) (w_cuff : w.cuff = true) (w_route : w.route = true) (w_flt : w.flt = true) (w_pwr : w.pwr = true) (w_mem : w.mem = true) (w_bon : w.bon = true) (w_freeCtr : w.freeCtr = true) (w_same : w.same = true) (h : Kept w r s) :
    Answers w r (execFrameDropped f s) := by
  unfold execFrameDropped
  exact Answers.ite_ (Answers.next h)
    (by
    split
    · rename_i heq; have h0 : (Kept w r) _ := of_ (KeptArr w r) (State.checkFrame_kept w_bar2 w_cuff w_route w_flt w_pwr w_mem w_bon w_same h) heq; exact Answers.next h0
    · rename_i heq; have h1 : (Kept w r) _ := of_ (KeptArr w r) (State.checkFrame_kept w_bar2 w_cuff w_route w_flt w_pwr w_mem w_bon w_same h) heq; exact Answers.next (Kept.ite_ (State.stranger_kept h1)
          (Kept.ite_ (State.forwardDgram_kept w_cuff w_route w_flt w_pwr w_mem w_freeCtr w_same h1)
          h))
    · exact Answers.next h)

theorem State.answer_kept {w : Wr} {r s : State} {p : Nat} (w_bon : w.bon = true) (h : Kept w r s) :
    Kept w r (State.answer s p) := by
  unfold State.answer
  lift_lets -underBinder
  intro x0 x1 x2 x3; clear_value x0 x1 x2 x3
  intro x4
  have h4 : Kept w r x4 := Kept.upd h (bon := .inl w_bon)
  clear_value x4
  exact Kept.ite_ (State.stranger_kept h)
    (State.emit_kept (State.count_kept h4))

theorem execArpNdRequest_kept {w : Wr} {r : State} {f : EthFrame} {s : State} (w_bar2 : w.bar2 = true) (w_cuff : w.cuff = true) (w_route : w.route = true) (w_flt : w.flt = true) (w_pwr : w.pwr = true) (w_mem : w.mem = true) (w_bon : w.bon = true) (w_same : w.same = true) (h : Kept w r s) :
    Answers w r (execArpNdRequest f s) := by
  unfold execArpNdRequest
  exact Answers.ite_ (Answers.next h)
    (by
    split
    · rename_i heq; have h0 : (Kept w r) _ := of_ (KeptArr w r) (State.checkFrame_kept w_bar2 w_cuff w_route w_flt w_pwr w_mem w_bon w_same h) heq; exact Answers.next (State.answer_kept w_bon h0)
    · exact Answers.next h)

theorem State.setReq_kept {w : Wr} {r s : State} {r0 : Req} (w_bon : w.bon = true) (h : Kept w r s) :
    Kept w r (State.setReq s r0) := by
  unfold State.setReq
  exact Kept.upd h (bon := .inl w_bon)

theorem State.freePage_kept {w : Wr} {r s : State} {p : Nat} (w_bar2 : w.bar2 = true) (h : Kept w r s) :
    Kept w r (State.freePage s p) := by
  unfold State.freePage
  exact Kept.ite_ (State.wr_kept (State.setTab_kept w_bar2 h))
    h

theorem State.holdPage_kept {w : Wr} {r s : State} {slot : Nat} {sess : Nat} {i : Nat} {p : Nat} (w_bar2 : w.bar2 = true) (w_same : w.same = true) (h : Kept w r s) :
    Kept w r (State.holdPage s slot sess i p) := by
  unfold State.holdPage
  lift_lets -underBinder
  intro x0; clear_value x0
  intro x1
  have h1 : Kept w r x1 := State.setTab_kept w_bar2 h
  clear_value x1
  intro x2; clear_value x2
  exact Kept.ite_ h
    (Kept.ite_ (State.lower_kept w_same (State.wr_kept h1))
    h1)

theorem State.holdPages_kept {w : Wr} {r s : State} {slot sess i : Nat} {ps : List Nat} (w_bar2 : w.bar2 = true) (w_same : w.same = true) (h : Kept w r s) :
    Kept w r (s.holdPages slot sess i ps) := by
  induction ps generalizing s i with
  | nil => exact h
  | cons p ps ih => exact ih (State.holdPage_kept w_bar2 w_same h)

theorem State.dropReq_kept {w : Wr} {r s : State} {r0 : Req} (w_bar2 : w.bar2 = true) (w_bon : w.bon = true) (h : Kept w r s) :
    Kept w r (State.dropReq s r0) := by
  unfold State.dropReq
  lift_lets -underBinder
  intro x0; clear_value x0
  intro x1
  have h1 : Kept w r x1 := Kept.upd h (bon := .inl w_bon)
  clear_value x1
  exact State.forEach_kept h1 (fun _ _ h2 => State.freePage_kept w_bar2 h2)

theorem State.sendAck_kept {w : Wr} {r s : State} {slot : Nat} (w_bar2 : w.bar2 = true) (h : Kept w r s) :
    Kept w r (State.sendAck s slot) := by
  unfold State.sendAck
  split
  · exact Kept.ite_ (State.brpSend_kept w_bar2 h)
        h
  · exact h

theorem State.sendAcks_kept {w : Wr} {r s : State} (w_bar2 : w.bar2 = true) (h : Kept w r s) :
    Kept w r (State.sendAcks s) := by
  unfold State.sendAcks
  exact State.forEach_kept h (fun _ _ h0 => State.sendAck_kept w_bar2 h0)

theorem State.takeFrag_kept {w : Wr} {r s : State} {r0 : Req} {d : Dgram} (w_bon : w.bon = true) (w_same : w.same = true) (h : Kept w r s) :
    Kept w r (State.takeFrag s r0 d) := by
  unfold State.takeFrag
  lift_lets -underBinder
  intro x0 x1; clear_value x0 x1
  intro x2
  have h2 : Kept w r x2 := State.setReq_kept w_bon h
  clear_value x2
  intro x3; clear_value x3
  exact Kept.ite_ (Kept.upd h2 (same := .inl w_same))
    h2

theorem State.moreFrag_kept {w : Wr} {r s : State} {r0 : Req} {d : Dgram} (w_bar2 : w.bar2 = true) (w_bon : w.bon = true) (w_same : w.same = true) (h : Kept w r s) :
    Kept w r (State.moreFrag s r0 d) := by
  unfold State.moreFrag
  lift_lets -underBinder
  intro x0 x1; clear_value x0 x1
  exact Kept.ite_ (State.nak_kept w_bar2 (State.dropReq_kept w_bar2 w_bon h))
    (Kept.ite_ (State.count_kept h)
    (Kept.ite_ (State.nak_kept w_bar2 (State.dropReq_kept w_bar2 w_bon h))
    (Kept.ite_ (State.nak_kept w_bar2 (State.dropReq_kept w_bar2 w_bon h))
    (State.takeFrag_kept w_bon w_same h))))

theorem State.claim_kept {w : Wr} {r s : State} {d : Dgram} (w_bar2 : w.bar2 = true) (w_bon : w.bon = true) (w_same : w.same = true) (h : Kept w r s) :
    Kept w r (State.claim s d) := by
  unfold State.claim
  lift_lets -underBinder
  intro x0 x1 x2 x3; clear_value x0 x1 x2 x3
  intro x4
  have h4 : Kept w r x4 := Kept.upd h (bon := .inl w_bon)
  clear_value x4
  exact State.takeFrag_kept w_bon w_same (State.holdPages_kept w_bar2 w_same h4)

theorem State.takeOver_kept {w : Wr} {r s : State} {d : Dgram} (w_bar2 : w.bar2 = true) (w_bon : w.bon = true) (w_same : w.same = true) (h : Kept w r s) :
    KeptO w r (State.takeOver s d) := by
  unfold State.takeOver
  exact KeptO.ite_ (KeptO.none)
    (by
    split
    · exact KeptO.none
    · exact by
          lift_lets -underBinder
          intro x0
          have h0 : Kept w r x0 := State.dropReq_kept w_bar2 w_bon h
          clear_value x0
          intro x1; clear_value x1
          intro x2
          have h2 : Kept w r x2 := Kept.upd h0 (same := .inl w_same)
          clear_value x2
          exact KeptO.ite_ (KeptO.none)
            (KeptO.some (State.claim_kept w_bar2 w_bon w_same (State.nak_kept w_bar2 h2))))

theorem State.takeRequest_kept {w : Wr} {r s : State} {d : Dgram} (w_bar2 : w.bar2 = true) (w_bon : w.bon = true) (w_same : w.same = true) (h : Kept w r s) :
    Kept w r (State.takeRequest s d) := by
  unfold State.takeRequest
  split
  · exact Kept.ite_ (State.stranger_kept h)
        (State.moreFrag_kept w_bar2 w_bon w_same h)
  · exact by
        lift_lets -underBinder
        intro x0 x1; clear_value x0 x1
        intro x2
        have h2 : Kept w r x2 := Kept.upd h (bon := .inl w_bon)
        clear_value x2
        exact Kept.ite_ (State.stranger_kept h)
          (by
          split
          · exact by
                split
                · rename_i heq; have h3 : (Kept w r) _ := of_ (KeptO w r) (State.takeOver_kept w_bar2 w_bon w_same h2) heq; exact h3
                · exact State.nak_kept w_bar2 h2
          · exact Kept.ite_ (State.nak_kept w_bar2 h2)
                (State.claim_kept w_bar2 w_bon w_same h2))

theorem State.takeCancel_kept {w : Wr} {r s : State} {d : Dgram} (w_bar2 : w.bar2 = true) (w_bon : w.bon = true) (h : Kept w r s) :
    Kept w r (State.takeCancel s d) := by
  unfold State.takeCancel
  split
  · exact State.stranger_kept h
  · exact Kept.ite_ (State.stranger_kept h)
        (Kept.ite_ (State.setReq_kept w_bon h)
        (State.nak_kept w_bar2 (State.dropReq_kept w_bar2 w_bon h)))

theorem State.sendTok_kept {w : Wr} {r s : State} {t : Tok} (w_bar2 : w.bar2 = true) (h : Kept w r s) :
    Kept w r (State.sendTok s t) := by
  unfold State.sendTok
  exact Kept.ite_ h
    (by
    lift_lets -underBinder
    intro x0
    have h0 : Kept w r x0 := State.count_kept (State.brpSend_kept w_bar2 h)
    clear_value x0
    exact Kept.ite_ (State.count_kept h0)
      h0)

theorem State.takeResend_kept {w : Wr} {r s : State} {d : Dgram} (w_bar2 : w.bar2 = true) (w_bon : w.bon = true) (h : Kept w r s) :
    Kept w r (State.takeResend s d) := by
  unfold State.takeResend
  lift_lets -underBinder
  intro x0 x1; clear_value x0 x1
  exact Kept.ite_ (Kept.ite_ (State.forEach_kept h (fun _ _ h2 => State.sendTok_kept w_bar2 h2))
    (Kept.upd h (bon := .inl w_bon)))
    (Kept.ite_ h
    (State.nak_kept w_bar2 h))

theorem State.bulkEnd_kept {w : Wr} {r s : State} {cause : Nat} (h : Kept w r s) :
    Kept w r (State.bulkEnd s cause) := by
  unfold State.bulkEnd
  exact State.wr_kept (State.wr_kept h)

theorem State.bulkPump_kept {w : Wr} {r s : State} {n : Nat} (w_bar2 : w.bar2 = true) (w_hbm : w.hbm = true) (w_cuff : w.cuff = true) (w_route : w.route = true) (w_flt : w.flt = true) (w_pwr : w.pwr = true) (w_mem : w.mem = true) (w_bon : w.bon = true) (w_freeCtr : w.freeCtr = true) (w_same : w.same = true) (h : Kept w r s) :
    Kept w r (s.bulkPump n) := by
  induction n generalizing s with
  | zero => exact h
  | succ n ih =>
    have h1 := fun q a b => State.hbmReadN_kept w_hbm w_cuff w_route w_flt w_pwr w_mem w_freeCtr w_same (q := q) (w0 := a) (n := b) h
    unfold State.bulkPump
    exact Kept.ite_ h (Kept.ite_ (State.bulkEnd_kept (h1 _ _ _))
      (ih (Kept.upd (State.brpSend_kept w_bar2 (h1 _ _ _)) (bon := .inl w_bon))))

theorem State.bulkGo_kept {w : Wr} {r s : State} (w_bar2 : w.bar2 = true) (w_hbm : w.hbm = true) (w_cuff : w.cuff = true) (w_route : w.route = true) (w_flt : w.flt = true) (w_pwr : w.pwr = true) (w_mem : w.mem = true) (w_bon : w.bon = true) (w_freeCtr : w.freeCtr = true) (w_same : w.same = true) (h : Kept w r s) :
    Kept w r (State.bulkGo s) := by
  unfold State.bulkGo
  exact Kept.ite_ (State.bulkPump_kept w_bar2 w_hbm w_cuff w_route w_flt w_pwr w_mem w_bon w_freeCtr w_same h)
    h

theorem State.takeBulkAck_kept {w : Wr} {r s : State} {d : Dgram} (w_bar2 : w.bar2 = true) (w_hbm : w.hbm = true) (w_cuff : w.cuff = true) (w_route : w.route = true) (w_flt : w.flt = true) (w_pwr : w.pwr = true) (w_mem : w.mem = true) (w_bon : w.bon = true) (w_freeCtr : w.freeCtr = true) (w_same : w.same = true) (h : Kept w r s) :
    Kept w r (State.takeBulkAck s d) := by
  unfold State.takeBulkAck
  lift_lets -underBinder
  intro x0 x1; clear_value x0 x1
  intro x2
  have h2 : Kept w r x2 := State.wr_kept h
  clear_value x2
  intro x3; clear_value x3
  intro x4
  have h4 : Kept w r x4 := Kept.upd h2 (bon := .inl w_bon)
  clear_value x4
  exact Kept.ite_ h
    (Kept.ite_ (State.bulkEnd_kept h4)
    (State.bulkGo_kept w_bar2 w_hbm w_cuff w_route w_flt w_pwr w_mem w_bon w_freeCtr w_same h4))

theorem State.deliverBrp_kept {w : Wr} {r s : State} {f : EthFrame} {typ : Nat} {act : State → Dgram → State} (w_bar2 : w.bar2 = true) (w_cuff : w.cuff = true) (w_route : w.route = true) (w_flt : w.flt = true) (w_pwr : w.pwr = true) (w_mem : w.mem = true) (w_bon : w.bon = true) (w_freeCtr : w.freeCtr = true) (w_same : w.same = true) (h : Kept w r s) (hf : ∀ y1 y2, Kept w r y1 → Kept w r (act y1 y2)) :
    Kept w r (State.deliverBrp s f typ act) := by
  unfold State.deliverBrp
  exact Kept.ite_ h
    (by
    split
    · rename_i heq; have h0 : (Kept w r) _ := of_ (KeptArr w r) (State.checkFrame_kept w_bar2 w_cuff w_route w_flt w_pwr w_mem w_bon w_same h) heq; exact h0
    · rename_i heq; have h1 : (Kept w r) _ := of_ (KeptArr w r) (State.checkFrame_kept w_bar2 w_cuff w_route w_flt w_pwr w_mem w_bon w_same h) heq; exact Kept.ite_ h
          (Kept.ite_ (State.forwardDgram_kept w_cuff w_route w_flt w_pwr w_mem w_freeCtr w_same h1)
          (Kept.ite_ (hf _ _ h1)
          (State.stranger_kept h1)))
    · exact h)

theorem execRequest_kept {w : Wr} {r : State} {f : EthFrame} {s : State} (w_bar2 : w.bar2 = true) (w_cuff : w.cuff = true) (w_route : w.route = true) (w_flt : w.flt = true) (w_pwr : w.pwr = true) (w_mem : w.mem = true) (w_bon : w.bon = true) (w_freeCtr : w.freeCtr = true) (w_same : w.same = true) (h : Kept w r s) :
    Answers w r (execRequest f s) := by
  unfold execRequest
  exact Answers.next (State.deliverBrp_kept w_bar2 w_cuff w_route w_flt w_pwr w_mem w_bon w_freeCtr w_same h (fun _ _ h0 => State.takeRequest_kept w_bar2 w_bon w_same h0))

theorem execCancel_kept {w : Wr} {r : State} {f : EthFrame} {s : State} (w_bar2 : w.bar2 = true) (w_cuff : w.cuff = true) (w_route : w.route = true) (w_flt : w.flt = true) (w_pwr : w.pwr = true) (w_mem : w.mem = true) (w_bon : w.bon = true) (w_freeCtr : w.freeCtr = true) (w_same : w.same = true) (h : Kept w r s) :
    Answers w r (execCancel f s) := by
  unfold execCancel
  exact Answers.next (State.deliverBrp_kept w_bar2 w_cuff w_route w_flt w_pwr w_mem w_bon w_freeCtr w_same h (fun _ _ h0 => State.takeCancel_kept w_bar2 w_bon h0))

theorem execResend_kept {w : Wr} {r : State} {f : EthFrame} {s : State} (w_bar2 : w.bar2 = true) (w_cuff : w.cuff = true) (w_route : w.route = true) (w_flt : w.flt = true) (w_pwr : w.pwr = true) (w_mem : w.mem = true) (w_bon : w.bon = true) (w_freeCtr : w.freeCtr = true) (w_same : w.same = true) (h : Kept w r s) :
    Answers w r (execResend f s) := by
  unfold execResend
  exact Answers.next (State.deliverBrp_kept w_bar2 w_cuff w_route w_flt w_pwr w_mem w_bon w_freeCtr w_same h (fun _ _ h0 => State.takeResend_kept w_bar2 w_bon h0))

theorem execBulkAck_kept {w : Wr} {r : State} {f : EthFrame} {s : State} (w_bar2 : w.bar2 = true) (w_hbm : w.hbm = true) (w_cuff : w.cuff = true) (w_route : w.route = true) (w_flt : w.flt = true) (w_pwr : w.pwr = true) (w_mem : w.mem = true) (w_bon : w.bon = true) (w_freeCtr : w.freeCtr = true) (w_same : w.same = true) (h : Kept w r s) :
    Answers w r (execBulkAck f s) := by
  unfold execBulkAck
  exact Answers.next (State.deliverBrp_kept w_bar2 w_cuff w_route w_flt w_pwr w_mem w_bon w_freeCtr w_same h (fun _ _ h0 => State.takeBulkAck_kept w_bar2 w_hbm w_cuff w_route w_flt w_pwr w_mem w_bon w_freeCtr w_same h0))

theorem State.takeParts_kept {w : Wr} {r s : State} {x : List Byte} {n : Nat} (w_cuff : w.cuff = true) (w_route : w.route = true) (w_flt : w.flt = true) (w_pwr : w.pwr = true) (w_mem : w.mem = true) (w_same : w.same = true) (h : Kept w r s) :
    KeptOP w r (s.takeParts x n) := by
  induction n with
  | zero => exact h
  | succ n ih =>
    unfold State.takeParts
    split
    · exact KeptOP.none
    · rename_i heq
      have h0 := of_ (KeptOP w r) ih heq
      split
      · exact KeptOP.none
      · rename_i heq
        exact KeptOP.some (of_ (KeptOP w r) (State.niRead_kept w_cuff w_route w_flt w_pwr w_mem w_same h0) heq)

theorem State.takeForwarded_kept {w : Wr} {r s : State} {x : List Byte} (w_cuff : w.cuff = true) (w_route : w.route = true) (w_flt : w.flt = true) (w_pwr : w.pwr = true) (w_mem : w.mem = true) (w_same : w.same = true) (h : Kept w r s) :
    KeptP w r (State.takeForwarded s x) := by
  unfold State.takeForwarded
  exact KeptP.ite_ h
    (by
    split
    · rename_i heq; have h0 : (KeptP w r) _ := of_ (KeptOP w r) (State.takeParts_kept w_cuff w_route w_flt w_pwr w_mem w_same h) heq; exact h0
    · exact h)

theorem execForwardedDatagram_kept {w : Wr} {r : State} {sess : Fin 4096} {data : List Byte} {s : State} (w_bar2 : w.bar2 = true) (w_hbm : w.hbm = true) (w_cuff : w.cuff = true) (w_route : w.route = true) (w_flt : w.flt = true) (w_pwr : w.pwr = true) (w_mem : w.mem = true) (w_bon : w.bon = true) (w_freeCtr : w.freeCtr = true) (w_same : w.same = true) (h : Kept w r s) :
    Answers w r (execForwardedDatagram sess data s) := by
  unfold execForwardedDatagram
  exact Answers.ite_ (Answers.next h)
    (by
    lift_lets -underBinder
    intro x0
    have h0 : KeptP w r x0 := State.takeForwarded_kept w_cuff w_route w_flt w_pwr w_mem w_same h
    clear_value x0
    intro x1
    have h1 : Kept w r x1 := h0
    clear_value x1
    intro x2 x3 x4; clear_value x2 x3 x4
    exact Answers.ite_ (Answers.next h1)
      (Answers.ite_ (Answers.next (State.stranger_kept h1))
      (by
      split
      · exact Answers.next (State.takeRequest_kept w_bar2 w_bon w_same h1)
      · exact Answers.next (State.takeResend_kept w_bar2 w_bon h1)
      · exact Answers.next (State.takeCancel_kept w_bar2 w_bon h1)
      · exact Answers.next (State.takeBulkAck_kept w_bar2 w_hbm w_cuff w_route w_flt w_pwr w_mem w_bon w_freeCtr w_same h1))))

theorem execAsmTimeout_kept {w : Wr} {r : State} {slot : Fin 256} {s : State} (w_bar2 : w.bar2 = true) (w_bon : w.bon = true) (h : Kept w r s) :
    Answers w r (execAsmTimeout slot s) := by
  unfold execAsmTimeout
  split
  · exact Answers.ite_ (Answers.next h)
        (Answers.next (State.nak_kept w_bar2 (State.count_kept (State.dropReq_kept w_bar2 w_bon h))))
  · exact Answers.next h

end Sys2Proof.Machine
end

