-- ==== Sys2Proof/Laws/KeptServe.lean ====
section
/-! SUPPORT. Sys2Proof/Laws/KeptServe.lean: what each operation of Machine/Serve.lean keeps (Kept, Laws/Kept.lean). -/
set_option Elab.async false
namespace Sys2Proof.Machine

theorem execWindowClose_kept {w : Wr} {r s : State} (w_bon : w.bon = true) (h : Kept w r s) :
    Answers w r (execWindowClose s) := by
  unfold execWindowClose
  split
  · exact Answers.next h
  · exact Answers.ite_ (Answers.next h)
        (by
        lift_lets -underBinder
        intro x0
        have h0 : Kept w r x0 := State.wr_kept (State.wr_kept h)
        clear_value x0
        intro x1; clear_value x1
        intro x2
        have h2 : Kept w r x2 := Kept.upd h0 (bon := .inl w_bon)
        clear_value x2
        intro x3 x4; clear_value x3 x4
        intro x5
        have h5 : Kept w r x5 := State.count_kept (State.wr_kept (State.wr_kept h2))
        clear_value x5
        intro x6; clear_value x6
        exact Answers.ite_ (Answers.next h2)
          (Answers.next (Kept.upd h5 (bon := .inl w_bon))))

theorem execWindowRecordDone_kept {w : Wr} {r s : State} (w_bar2 : w.bar2 = true) (w_hbm : w.hbm = true) (w_mem : w.mem = true) (w_bon : w.bon = true) (h : Kept w r s) :
    Answers w r (execWindowRecordDone s) := by
  unfold execWindowRecordDone
  split
  · exact Answers.next h
  · exact Answers.ite_ (Answers.next h)
        (by
        lift_lets -underBinder
        intro x0 x1 x2; clear_value x0 x1 x2
        intro x3
        have h3 : Kept w r x3 := State.hbmWriteCap_kept w_hbm w_mem h
        clear_value x3
        intro x4; clear_value x4
        intro x5
        have h5 : Kept w r x5 := Kept.upd h3 (bon := .inl w_bon)
        clear_value x5
        exact Answers.next (Kept.ite_ (State.wr_kept (State.forEach_kept h5 (fun _ _ h6 => State.dropReq_kept w_bar2 w_bon h6)))
          h5))

theorem State.mirrorPages_kept {w : Wr} {r s : State} {ws : List RWord} {i : Nat} (w_bar2 : w.bar2 = true) (w_same : w.same = true) (h : Kept w r s) :
    Kept w r (State.mirrorPages s ws i) := by
  unfold State.mirrorPages
  lift_lets -underBinder
  intro x0 x1 x2 x3; clear_value x0 x1 x2 x3
  exact by
    split
    · exact h
    · exact by
          lift_lets -underBinder
          intro x4; clear_value x4
          exact Kept.ite_ (State.holdPages_kept w_bar2 w_same h)
            (Kept.ite_ (State.forEach_kept h (fun _ _ h5 => State.freePage_kept w_bar2 h5))
            h)

theorem State.mirrorSlot_kept {w : Wr} {r s : State} {ws : List RWord} {i : Nat} (w_bon : w.bon = true) (h : Kept w r s) :
    Kept w r (State.mirrorSlot s ws i) := by
  unfold State.mirrorSlot
  lift_lets -underBinder
  intro x0 x1 x2 x3 x4; clear_value x0 x1 x2 x3 x4
  exact Kept.upd h (bon := .inl w_bon)

theorem execMirrorRead_kept {w : Wr} {r s : State} (w_bar2 : w.bar2 = true) (w_hbm : w.hbm = true) (w_cuff : w.cuff = true) (w_route : w.route = true) (w_flt : w.flt = true) (w_pwr : w.pwr = true) (w_mem : w.mem = true) (w_bon : w.bon = true) (w_freeCtr : w.freeCtr = true) (w_same : w.same = true) (h : Kept w r s) :
    Answers w r (execMirrorRead s) := by
  unfold execMirrorRead
  split
  · exact Answers.next h
  · exact Answers.ite_ (Answers.next h)
        (by
        lift_lets -underBinder
        intro x0
        have h0 : KeptP w r x0 := State.hbmReadN_kept w_hbm w_cuff w_route w_flt w_pwr w_mem w_freeCtr w_same h
        clear_value x0
        intro x1
        have h1 : Kept w r x1 := h0
        clear_value x1
        intro x2; clear_value x2
        intro x3
        have h3 : Kept w r x3 := Kept.upd h1 (bon := .inl w_bon)
        clear_value x3
        intro x4; clear_value x4
        intro x5
        have h5 : Kept w r x5 := Kept.ite_ h3
          (State.forEach_kept h3 (fun _ _ h6 => State.mirrorPages_kept w_bar2 w_same h6))
        clear_value x5
        exact Answers.next (Kept.ite_ (State.forEach_kept h5 (fun _ _ h7 => State.mirrorSlot_kept w_bon h7))
          h5))

theorem execRecordDeadlineCheck_kept {w : Wr} {r s : State} (w_cuff : w.cuff = true) (w_route : w.route = true) (w_flt : w.flt = true) (w_pwr : w.pwr = true) (w_ldrs : w.ldrs = true) (w_same : w.same = true) (h : Kept w r s) :
    Answers w r (execRecordDeadlineCheck s) := by
  unfold execRecordDeadlineCheck
  lift_lets -underBinder
  intro x0 x1 x2 x3; clear_value x0 x1 x2 x3
  intro x4
  have h4 : Kept w r x4 := Kept.upd h (ldrs := .inl w_ldrs)
  clear_value x4
  exact Answers.ite_ (Answers.next h)
    (Answers.ite_ (Answers.next h4)
    (Answers.next (State.refuseAt_kept w_cuff w_route w_flt w_pwr w_ldrs w_same h4)))

theorem State.cancelSlot_kept {w : Wr} {r s : State} {i : Nat} (w_bon : w.bon = true) (h : Kept w r s) :
    Kept w r (State.cancelSlot s i) := by
  unfold State.cancelSlot
  split
  · exact Kept.ite_ (State.setReq_kept w_bon h)
        h
  · exact h

theorem State.tokensOut_kept {w : Wr} {r s : State} {t : Tok} (w_bar2 : w.bar2 = true) (w_bon : w.bon = true) (h : Kept w r s) :
    Kept w r (State.tokensOut s t) := by
  unfold State.tokensOut
  exact Kept.ite_ h
    (Kept.ite_ (by
    lift_lets -underBinder
    intro x0
    have h0 : Kept w r x0 := State.sendTok_kept w_bar2 h
    clear_value x0
    intro x1; clear_value x1
    exact Kept.upd h0 (bon := .inl w_bon))
    (Kept.upd h (bon := .inl w_bon)))

theorem State.slotOutput_kept {w : Wr} {r s : State} {w0 : Nat} {ws : List RWord} {i : Nat} (w_bar2 : w.bar2 = true) (w_bon : w.bon = true) (h : Kept w r s) :
    Kept w r (State.slotOutput s w0 ws i) := by
  unfold State.slotOutput
  lift_lets -underBinder
  intro x0 x1; clear_value x0 x1
  exact Kept.ite_ h
    (by
    split
    · exact State.cancelSlot_kept w_bon (State.nak_kept w_bar2 h)
    · exact by
          lift_lets -underBinder
          intro x2 x3; clear_value x2 x3
          exact Kept.ite_ h
            (by
            split
            · exact State.cancelSlot_kept w_bon (State.nak_kept w_bar2 h)
            · exact by
                  lift_lets -underBinder
                  intro x4 x5 x6 x7; clear_value x4 x5 x6 x7
                  intro x8
                  have h8 : Kept w r x8 := Kept.upd h (bon := .inl w_bon)
                  clear_value x8
                  intro x9
                  have h9 : Kept w r x9 := State.tokensOut_kept w_bar2 w_bon h8
                  clear_value x9
                  exact Kept.ite_ h9
                    (Kept.ite_ (State.cancelSlot_kept w_bon h9)
                    (State.emit_kept h9))))

theorem State.slotEnd_kept {w : Wr} {r s : State} {ws : List RWord} {i : Nat} (w_bon : w.bon = true) (h : Kept w r s) :
    Kept w r (State.slotEnd s ws i) := by
  unfold State.slotEnd
  split
  · exact by
        lift_lets -underBinder
        intro x0 x1; clear_value x0 x1
        exact Kept.ite_ h
          (Kept.ite_ (State.setReq_kept w_bon h)
          (State.setReq_kept w_bon h))
  · exact h

theorem execTokenOutput_kept {w : Wr} {r s : State} (w_bar2 : w.bar2 = true) (w_hbm : w.hbm = true) (w_cuff : w.cuff = true) (w_route : w.route = true) (w_flt : w.flt = true) (w_pwr : w.pwr = true) (w_mem : w.mem = true) (w_bon : w.bon = true) (w_freeCtr : w.freeCtr = true) (w_same : w.same = true) (h : Kept w r s) :
    Answers w r (execTokenOutput s) := by
  unfold execTokenOutput
  split
  · exact Answers.next h
  · exact Answers.ite_ (Answers.next h)
        (by
        lift_lets -underBinder
        intro x0; clear_value x0
        intro x1
        have h1 : KeptP w r x1 := State.hbmReadN_kept w_hbm w_cuff w_route w_flt w_pwr w_mem w_freeCtr w_same h
        clear_value x1
        intro x2 x3 x4; clear_value x2 x3 x4
        intro x5
        have h5 : Kept w r x5 := h1
        clear_value x5
        intro x6; clear_value x6
        intro x7
        have h7 : Kept w r x7 := Kept.upd h5 (bon := .inl w_bon)
        clear_value x7
        intro x8; clear_value x8
        intro x9
        have h9 : Kept w r x9 := Kept.ite_ (State.forEach_kept h7 (fun _ _ h10 => State.slotOutput_kept w_bar2 w_bon h10))
          h7
        clear_value x9
        exact Answers.next (Kept.ite_ (State.forEach_kept h9 (fun _ _ h11 => State.slotEnd_kept w_bon h11))
          h9))

theorem execSessionTableWrite_kept {w : Wr} {r : State} {sess : Fin 4096} {w0 : Fin 8} {v : Word} {s : State} (w_bar2 : w.bar2 = true) (w_same : w.same = true) (h : Kept w r s) :
    Answers w r (execSessionTableWrite sess w0 v s) := by
  unfold execSessionTableWrite
  lift_lets -underBinder
  intro x0; clear_value x0
  exact Answers.next (State.bar2Write_kept w_same h (fun _ h1 => Kept.ite_ (State.flag_kept w_same h1)
      (State.setTab_kept w_bar2 h1)))

theorem State.clearKeys_kept {w : Wr} {r s : State} (h : Kept w r s) :
    Kept w r (State.clearKeys s) := by
  unfold State.clearKeys
  exact State.forEach_kept h (fun _ _ h0 => State.setReg_kept h0)

theorem execSessionOpen_kept {w : Wr} {r : State} {sess : Fin 4096} {s : State} (w_bar2 : w.bar2 = true) (w_bon : w.bon = true) (w_same : w.same = true) (h : Kept w r s) :
    Answers w r (execSessionOpen sess s) := by
  unfold execSessionOpen
  exact Answers.next (State.busWrite_kept w_same h (fun _ h0 => by
      lift_lets -underBinder
      intro x1; clear_value x1
      intro x2
      have h2 : Kept w r x2 := State.wr_kept h0
      clear_value x2
      intro x3 x4 x5; clear_value x3 x4 x5
      intro x6
      have h6 : Kept w r x6 := State.wr_kept (State.clearKeys_kept h2)
      clear_value x6
      intro x7
      have h7 : Kept w r x7 := State.setSession_kept w_bar2 h6
      clear_value x7
      intro x8; clear_value x8
      exact Kept.ite_ (State.flag_kept w_same (State.clearKeys_kept h2))
        (Kept.ite_ (State.wr_kept h6)
        (Kept.ite_ h6
        (Kept.upd h7 (bon := .inl w_bon))))))

theorem State.closeSession_kept {w : Wr} {r s : State} {i : Nat} (w_bar2 : w.bar2 = true) (w_bon : w.bon = true) (h : Kept w r s) :
    Kept w r (State.closeSession s i) := by
  unfold State.closeSession
  lift_lets -underBinder
  intro x0; clear_value x0
  intro x1
  have h1 : Kept w r x1 := State.setSession_kept w_bar2 h
  clear_value x1
  intro x2; clear_value x2
  intro x3
  have h3 : Kept w r x3 := Kept.upd h1 (bon := .inl w_bon)
  clear_value x3
  intro x4
  have h4 : Kept w r x4 := State.forEach_kept h3 (fun _ _ h5 => Kept.ite_ (State.cancelSlot_kept w_bon h5)
      (State.dropReq_kept w_bar2 w_bon h5))
  clear_value x4
  exact Kept.ite_ (State.bulkEnd_kept h4)
    h4

theorem execSessionClose_kept {w : Wr} {r : State} {sess : Fin 4096} {s : State} (w_bar2 : w.bar2 = true) (w_bon : w.bon = true) (w_same : w.same = true) (h : Kept w r s) :
    Answers w r (execSessionClose sess s) := by
  unfold execSessionClose
  exact Answers.next (State.busWrite_kept w_same h (fun _ h0 => by
      lift_lets -underBinder
      intro x1
      have h1 : Kept w r x1 := State.wr_kept h0
      clear_value x1
      exact Kept.ite_ (State.wr_kept (State.closeSession_kept w_bar2 w_bon h1))
        (State.flag_kept w_same h1)))

theorem execBulkStart_kept {w : Wr} {r : State} {sess : Fin 4096} {rate : Fin 65536} {s : State} (w_bar2 : w.bar2 = true) (w_hbm : w.hbm = true) (w_cuff : w.cuff = true) (w_route : w.route = true) (w_flt : w.flt = true) (w_pwr : w.pwr = true) (w_mem : w.mem = true) (w_bon : w.bon = true) (w_freeCtr : w.freeCtr = true) (w_same : w.same = true) (h : Kept w r s) :
    Answers w r (execBulkStart sess rate s) := by
  unfold execBulkStart
  exact Answers.next (State.busWrite_kept w_same h (fun _ h0 => by
      lift_lets -underBinder
      intro x1
      have h1 : Kept w r x1 := State.wr_kept (State.wr_kept h0)
      clear_value x1
      intro x2; clear_value x2
      intro x3
      have h3 : Kept w r x3 := State.wr_kept (State.wr_kept (State.wr_kept h1))
      clear_value x3
      intro x4; clear_value x4
      intro x5
      have h5 : Kept w r x5 := Kept.upd h3 (bon := .inl w_bon)
      clear_value x5
      exact Kept.ite_ h1
        (Kept.ite_ (State.bulkEnd_kept h5)
        (Kept.ite_ (State.bulkEnd_kept h5)
        (State.bulkGo_kept w_bar2 w_hbm w_cuff w_route w_flt w_pwr w_mem w_bon w_freeCtr w_same h5)))))

theorem execBulkAbort_kept {w : Wr} {r s : State} (w_same : w.same = true) (h : Kept w r s) :
    Answers w r (execBulkAbort s) := by
  unfold execBulkAbort
  exact Answers.next (State.busWrite_kept w_same h (fun _ h0 => Kept.ite_ (State.bulkEnd_kept h0)
      h0))

theorem execBulkTimeout_kept {w : Wr} {r s : State} (w_bar2 : w.bar2 = true) (w_hbm : w.hbm = true) (w_cuff : w.cuff = true) (w_route : w.route = true) (w_flt : w.flt = true) (w_pwr : w.pwr = true) (w_mem : w.mem = true) (w_bon : w.bon = true) (w_freeCtr : w.freeCtr = true) (w_same : w.same = true) (h : Kept w r s) :
    Answers w r (execBulkTimeout s) := by
  unfold execBulkTimeout
  lift_lets -underBinder
  intro x0 x1 x2; clear_value x0 x1 x2
  exact Answers.ite_ (Answers.next h)
    (Answers.ite_ (Answers.next (State.bulkEnd_kept h))
    (Answers.next (State.bulkGo_kept w_bar2 w_hbm w_cuff w_route w_flt w_pwr w_mem w_bon w_freeCtr w_same (Kept.upd h (bon := .inl w_bon)))))

theorem execEthPortUp_kept {w : Wr} {r : State} {p : Fin 2} {s : State} (w_bar2 : w.bar2 = true) (w_hbm : w.hbm = true) (w_cuff : w.cuff = true) (w_route : w.route = true) (w_flt : w.flt = true) (w_pwr : w.pwr = true) (w_mem : w.mem = true) (w_bon : w.bon = true) (w_freeCtr : w.freeCtr = true) (w_same : w.same = true) (h : Kept w r s) :
    Answers w r (execEthPortUp p s) := by
  unfold execEthPortUp
  exact Answers.ite_ (Answers.next h)
    (by
    lift_lets -underBinder
    intro x0
    have h0 : Kept w r x0 := State.setBit_kept h
    clear_value x0
    intro x1 x2 x3; clear_value x1 x2 x3
    intro x4
    have h4 : Kept w r x4 := Kept.upd h0 (bon := .inl w_bon)
    clear_value x4
    exact Answers.next (State.bulkGo_kept w_bar2 w_hbm w_cuff w_route w_flt w_pwr w_mem w_bon w_freeCtr w_same (State.forEach_kept h4 (fun _ _ h5 => State.tokensOut_kept w_bar2 w_bon h5))))

theorem State.bonLost_kept {w : Wr} {r s : State} {queue : Nat} {i : Nat} (w_bar2 : w.bar2 = true) (w_bon : w.bon = true) (h : Kept w r s) :
    Kept w r (State.bonLost s queue i) := by
  unfold State.bonLost
  split
  · exact by
        split
        · exact Kept.ite_ (State.nak_kept w_bar2 (State.dropReq_kept w_bar2 w_bon h))
              h
        · exact h
  · exact Kept.ite_ (State.closeSession_kept w_bar2 w_bon h)
        h
  · exact by
        lift_lets -underBinder
        intro x0 x1; clear_value x0 x1
        intro x2
        have h2 : Kept w r x2 := State.setTab_kept w_bar2 h
        clear_value x2
        exact Kept.ite_ (State.wr_kept h2)
          (Kept.ite_ h2
          (by
          split
          · exact Kept.ite_ (State.setReq_kept w_bon h2)
                (State.nak_kept w_bar2 (State.dropReq_kept w_bar2 w_bon h2))
          · exact h2))

theorem State.bonErrors_kept {w : Wr} {r s : State} (w_bar2 : w.bar2 = true) (w_cuff : w.cuff = true) (w_route : w.route = true) (w_flt : w.flt = true) (w_pwr : w.pwr = true) (w_mem : w.mem = true) (w_bon : w.bon = true) (w_same : w.same = true) (h : Kept w r s) :
    Kept w r (State.bonErrors s) := by
  unfold State.bonErrors
  exact Kept.ite_ h
    (State.forEach_kept h (fun _ _ h0 => by
      lift_lets -underBinder
      intro x1
      have h1 : KeptP w r x1 := State.guardWords_kept w_cuff w_route w_flt w_pwr w_mem w_same h0
      clear_value x1
      intro x2
      have h2 : Kept w r x2 := State.dropUpsets_kept w_mem h1
      clear_value x2
      exact Kept.ite_ (State.bonLost_kept w_bar2 w_bon h2)
        h2))

theorem State.endServing_kept {w : Wr} {r s : State} (w_bar2 : w.bar2 = true) (w_bon : w.bon = true) (h : Kept w r s) :
    Kept w r (State.endServing s) := by
  unfold State.endServing
  lift_lets -underBinder
  intro x0; clear_value x0
  intro x1
  have h1 : Kept w r x1 := State.forEach_kept h (fun _ _ h2 => State.nak_kept w_bar2 (State.dropReq_kept w_bar2 w_bon h2))
  clear_value x1
  intro x3
  have h3 : Kept w r x3 := State.forEach_kept h1 (fun _ _ h4 => State.freePage_kept w_bar2 h4)
  clear_value x3
  intro x5; clear_value x5
  exact Kept.upd h3 (bon := .inl w_bon)

theorem State.bonLook_kept {w : Wr} {r s : State} (w_bar2 : w.bar2 = true) (w_bon : w.bon = true) (h : Kept w r s) :
    Kept w r (State.bonLook s) := by
  unfold State.bonLook
  lift_lets -underBinder
  intro x0; clear_value x0
  intro x1
  have h1 : Kept w r x1 := Kept.ite_ (State.endServing_kept w_bar2 w_bon h)
    (Kept.upd h (bon := .inl w_bon))
  clear_value x1
  exact State.showBon_kept h1

end Sys2Proof.Machine
end

