-- ==== Sys2Proof/Laws/KeptPtp.lean ====
section
/-! SUPPORT. Sys2Proof/Laws/KeptPtp.lean: what each operation of Machine/Ptp.lean keeps (Kept, Laws/Kept.lean). -/
set_option Elab.async false
namespace Sys2Proof.Machine

theorem State.setD_kept {w : Wr} {r s : State} {d : Int} (w_time : w.time = true) (h : Kept w r s) :
    Kept w r (State.setD s d) := by
  unfold State.setD
  lift_lets -underBinder
  intro x0
  have h0 : Kept w r x0 := State.wr_kept h
  clear_value x0
  intro x1; clear_value x1
  exact Kept.upd h0 (time := .inl w_time)

theorem State.outInvalid_kept {w : Wr} {r s : State} (w_time : w.time = true) (h : Kept w r s) :
    Kept w r (State.outInvalid s) := by
  unfold State.outInvalid
  exact State.wr_kept (State.wr_kept (State.setD_kept w_time h))

theorem State.takeSource_kept {w : Wr} {r s : State} {on : Nat} {out : Nat} (w_cuff : w.cuff = true) (w_route : w.route = true) (w_flt : w.flt = true) (w_time : w.time = true) (w_pwr : w.pwr = true) (w_same : w.same = true) (h : Kept w r s) :
    Kept w r (State.takeSource s on out) := by
  unfold State.takeSource
  split
  · exact h
  · exact by
        lift_lets -underBinder
        intro x0; clear_value x0
        exact Kept.ite_ (State.ptpLoss_kept w_cuff w_route w_flt w_pwr w_same (State.outInvalid_kept w_time h))
          (State.wr_kept (State.wr_kept (State.setD_kept w_time h)))

theorem State.outFollow_kept {w : Wr} {r s : State} (w_cuff : w.cuff = true) (w_route : w.route = true) (w_flt : w.flt = true) (w_time : w.time = true) (w_pwr : w.pwr = true) (w_same : w.same = true) (h : Kept w r s) :
    Kept w r (State.outFollow s) := by
  unfold State.outFollow
  exact Kept.ite_ (Kept.ite_ h
    (State.outInvalid_kept w_time h))
    (Kept.ite_ (Kept.ite_ (State.wr_kept (State.wr_kept (State.setD_kept w_time h)))
    h)
    (Kept.ite_ (State.outHoldover_kept w_cuff w_route w_flt w_time w_pwr w_same h)
    (Kept.ite_ h
    (State.takeSource_kept w_cuff w_route w_flt w_time w_pwr w_same h))))

theorem State.leftLocked_kept {w : Wr} {r s : State} {d : Nat} {report : Bool} (w_cuff : w.cuff = true) (w_route : w.route = true) (w_flt : w.flt = true) (w_time : w.time = true) (w_pwr : w.pwr = true) (w_same : w.same = true) (h : Kept w r s) :
    Kept w r (State.leftLocked s d report) := by
  unfold State.leftLocked
  lift_lets -underBinder
  intro x0
  have h0 : Kept w r x0 := State.count_kept h
  clear_value x0
  intro x1
  have h1 : Kept w r x1 := Kept.ite_ (State.ptpLoss_kept w_cuff w_route w_flt w_pwr w_same h0)
    h0
  clear_value x1
  intro x2; clear_value x2
  exact State.outFollow_kept w_cuff w_route w_flt w_time w_pwr w_same (Kept.ite_ (State.devWr_kept h1)
    h1)

theorem State.domsListen_kept {w : Wr} {r s : State} {ds : List Nat} (w_cuff : w.cuff = true) (w_route : w.route = true) (w_flt : w.flt = true) (w_time : w.time = true) (w_pwr : w.pwr = true) (w_same : w.same = true) (h : Kept w r s) :
    Kept w r (State.domsListen s ds) := by
  unfold State.domsListen
  lift_lets -underBinder
  intro x0; clear_value x0
  intro x1
  have h1 : Kept w r x1 := State.forEach_kept h (fun _ _ h2 => State.setDom_kept w_time (State.setReg_kept (State.wr_kept h2)))
  clear_value x1
  exact State.forEach_kept h1 (fun _ _ h3 => State.leftLocked_kept w_cuff w_route w_flt w_time w_pwr w_same h3)

theorem State.domListen_kept {w : Wr} {r s : State} {d : Nat} (w_cuff : w.cuff = true) (w_route : w.route = true) (w_flt : w.flt = true) (w_time : w.time = true) (w_pwr : w.pwr = true) (w_same : w.same = true) (h : Kept w r s) :
    Kept w r (State.domListen s d) := by
  unfold State.domListen
  exact State.domsListen_kept w_cuff w_route w_flt w_time w_pwr w_same h

theorem State.domFollow_kept {w : Wr} {r s : State} {d : Nat} {m : Master} (w_cuff : w.cuff = true) (w_route : w.route = true) (w_flt : w.flt = true) (w_time : w.time = true) (w_pwr : w.pwr = true) (w_same : w.same = true) (h : Kept w r s) :
    Kept w r (State.domFollow s d m) := by
  unfold State.domFollow
  lift_lets -underBinder
  intro x0; clear_value x0
  intro x1
  have h1 : Kept w r x1 := State.wr_kept (State.wr_kept h)
  clear_value x1
  intro x2
  have h2 : Kept w r x2 := State.wrb_kept (State.wr_kept h1)
  clear_value x2
  intro x3; clear_value x3
  intro x4
  have h4 : Kept w r x4 := State.setDom_kept w_time h2
  clear_value x4
  exact Kept.ite_ (State.leftLocked_kept w_cuff w_route w_flt w_time w_pwr w_same h4)
    h4

theorem State.domSelect_kept {w : Wr} {r s : State} {d : Nat} (w_cuff : w.cuff = true) (w_route : w.route = true) (w_flt : w.flt = true) (w_time : w.time = true) (w_pwr : w.pwr = true) (w_same : w.same = true) (h : Kept w r s) :
    Kept w r (State.domSelect s d) := by
  unfold State.domSelect
  split
  · exact h
  · exact Kept.ite_ h
        (State.domFollow_kept w_cuff w_route w_flt w_time w_pwr w_same h)

theorem State.domServo_kept {w : Wr} {r s : State} {d : Nat} (w_time : w.time = true) (w_freeCtr : w.freeCtr = true) (h : Kept w r s) :
    Kept w r (State.domServo s d) := by
  unfold State.domServo
  lift_lets -underBinder
  intro x0; clear_value x0
  intro x1
  have h1 : Kept w r x1 := by
    unfold x1
    split
    · exact State.setDom_kept w_time h
    · exact h
  clear_value x1
  intro x2
  have h2 : Kept w r x2 := State.tickFree_kept w_freeCtr h1
  clear_value x2
  intro x3; clear_value x3
  exact Kept.ite_ (State.tickFree_kept w_freeCtr (Kept.upd h2 (time := .inl w_time)))
    h2

theorem State.exchange_kept {w : Wr} {r s : State} {d : Nat} {t1 : Nat} {t2 : Nat} {corr : Int} {path : Int} (w_cuff : w.cuff = true) (w_route : w.route = true) (w_flt : w.flt = true) (w_time : w.time = true) (w_pwr : w.pwr = true) (w_freeCtr : w.freeCtr = true) (w_same : w.same = true) (h : Kept w r s) :
    Kept w r (State.exchange s d t1 t2 corr path) := by
  unfold State.exchange
  lift_lets -underBinder
  intro x0 x1; clear_value x0 x1
  intro x2
  have h2 : Kept w r x2 := State.wr_kept h
  clear_value x2
  intro x3 x4 x5; clear_value x3 x4 x5
  intro x6
  have h6 : Kept w r x6 := State.wr_kept (State.setDom_kept w_time h2)
  clear_value x6
  intro x7
  have h7 : Kept w r x7 := State.domServo_kept w_time w_freeCtr h6
  clear_value x7
  intro x8; clear_value x8
  exact Kept.ite_ (State.wr_kept (State.tickFree_kept w_freeCtr (State.setDom_kept w_time h2)))
    (Kept.ite_ (State.outFollow_kept w_cuff w_route w_flt w_time w_pwr w_same (State.wr_kept h7))
    (Kept.ite_ (State.leftLocked_kept w_cuff w_route w_flt w_time w_pwr w_same (State.setDom_kept w_time (State.wr_kept h7)))
    h7))

theorem State.syncDone_kept {w : Wr} {r s : State} {d : Nat} {t1 : Nat} {t2 : Nat} {corr : Int} (w_cuff : w.cuff = true) (w_route : w.route = true) (w_flt : w.flt = true) (w_time : w.time = true) (w_pwr : w.pwr = true) (w_freeCtr : w.freeCtr = true) (w_same : w.same = true) (h : Kept w r s) :
    Kept w r (State.syncDone s d t1 t2 corr) := by
  unfold State.syncDone
  lift_lets -underBinder
  intro x0; clear_value x0
  intro x1
  have h1 : Kept w r x1 := State.setDom_kept w_time h
  clear_value x1
  exact by
    split
    · exact Kept.ite_ (State.exchange_kept w_cuff w_route w_flt w_time w_pwr w_freeCtr w_same h1)
          h1
    · exact h1

theorem State.ptpTake_kept {w : Wr} {r s : State} {m : PtpMsg} {ok : Nat → Bool} (w_time : w.time = true) (h : Kept w r s) :
    KeptP w r (State.ptpTake s m ok) := by
  unfold State.ptpTake
  lift_lets -underBinder
  intro x0
  have h0 : Kept w r x0 := State.count_kept h
  clear_value x0
  intro x1 x2 x3 x4 x5; clear_value x1 x2 x3 x4 x5
  exact KeptP.ite_ (State.count_kept h0)
    (State.count_kept (Kept.upd h0 (time := .inl w_time)))

theorem State.ptpArrive_kept {w : Wr} {r s : State} {m : PtpMsg} {k : Nat} {act : State → Nat → State} (w_time : w.time = true) (h : Kept w r s) (hf : ∀ y1 y2, Kept w r y1 → Kept w r (act y1 y2)) :
    Kept w r (State.ptpArrive s m k act) := by
  unfold State.ptpArrive
  exact Kept.ite_ h
    (by
    lift_lets -underBinder
    intro x0
    have h0 : KeptP w r x0 := State.ptpTake_kept w_time h
    clear_value x0
    exact State.forEach_kept h0 (fun _ _ h1 => hf _ _ h1))

theorem State.disqualify_kept {w : Wr} {r s : State} {d : Nat} {source : Nat} (w_cuff : w.cuff = true) (w_route : w.route = true) (w_flt : w.flt = true) (w_time : w.time = true) (w_pwr : w.pwr = true) (w_same : w.same = true) (h : Kept w r s) :
    Kept w r (State.disqualify s d source) := by
  unfold State.disqualify
  exact State.domListen_kept w_cuff w_route w_flt w_time w_pwr w_same (State.setDom_kept w_time h)

theorem execSync_kept {w : Wr} {r : State} {m : PtpMsg} {s : State} (w_cuff : w.cuff = true) (w_route : w.route = true) (w_flt : w.flt = true) (w_time : w.time = true) (w_pwr : w.pwr = true) (w_freeCtr : w.freeCtr = true) (w_same : w.same = true) (h : Kept w r s) :
    Answers w r (execSync m s) := by
  unfold execSync
  exact Answers.next (State.ptpArrive_kept w_time h (fun _ _ h0 => by
      lift_lets -underBinder
      intro x1 x2; clear_value x1 x2
      intro x3
      have h3 : Kept w r x3 := State.setDom_kept w_time h0
      clear_value x3
      intro x4; clear_value x4
      exact Kept.ite_ (State.disqualify_kept w_cuff w_route w_flt w_time w_pwr w_same h0)
        (Kept.ite_ (State.setDom_kept w_time h3)
        (State.syncDone_kept w_cuff w_route w_flt w_time w_pwr w_freeCtr w_same h3))))

theorem execFollowUp_kept {w : Wr} {r : State} {m : PtpMsg} {s : State} (w_cuff : w.cuff = true) (w_route : w.route = true) (w_flt : w.flt = true) (w_time : w.time = true) (w_pwr : w.pwr = true) (w_freeCtr : w.freeCtr = true) (w_same : w.same = true) (h : Kept w r s) :
    Answers w r (execFollowUp m s) := by
  unfold execFollowUp
  exact Answers.next (State.ptpArrive_kept w_time h (fun _ _ h0 => by
      split
      · exact Kept.ite_ (State.syncDone_kept w_cuff w_route w_flt w_time w_pwr w_freeCtr w_same h0)
            h0
      · exact h0))

theorem execDelayResp_kept {w : Wr} {r : State} {m : PtpMsg} {s : State} (w_cuff : w.cuff = true) (w_route : w.route = true) (w_flt : w.flt = true) (w_time : w.time = true) (w_pwr : w.pwr = true) (w_freeCtr : w.freeCtr = true) (w_same : w.same = true) (h : Kept w r s) :
    Answers w r (execDelayResp m s) := by
  unfold execDelayResp
  exact Answers.next (State.ptpArrive_kept w_time h (fun _ _ h0 => by
      lift_lets -underBinder
      intro x1; clear_value x1
      exact by
        split
        · exact Kept.ite_ h0
              (by
              lift_lets -underBinder
              intro x2 x3; clear_value x2 x3
              exact State.exchange_kept w_cuff w_route w_flt w_time w_pwr w_freeCtr w_same (State.setDom_kept w_time h0))
        · exact h0))

theorem State.peerPath_kept {w : Wr} {r s : State} {d : Nat} {t1 : Nat} {t2 : Nat} {t3 : Nat} {t4 : Nat} {corr : Int} (w_time : w.time = true) (h : Kept w r s) :
    Kept w r (State.peerPath s d t1 t2 t3 t4 corr) := by
  unfold State.peerPath
  lift_lets -underBinder
  intro x0 x1; clear_value x0 x1
  exact State.wr_kept (State.setDom_kept w_time h)

theorem execPdelayReq_kept {w : Wr} {r : State} {m : PtpMsg} {sent : Nat} {s : State} (w_time : w.time = true) (h : Kept w r s) :
    Answers w r (execPdelayReq m sent s) := by
  unfold execPdelayReq
  exact Answers.ite_ (Answers.next h)
    (by
    lift_lets -underBinder
    intro x0
    have h0 : KeptP w r x0 := State.ptpTake_kept w_time h
    clear_value x0
    exact by
      split
      · exact Answers.next h0
      · exact by
            lift_lets -underBinder
            intro x1
            have h1 : Kept w r x1 := h0
            clear_value x1
            intro x2 x3; clear_value x2 x3
            exact Answers.ite_ (Answers.next (State.emit_kept (State.count_kept h1)))
              (Answers.next (State.emit_kept (State.emit_kept (State.count_kept h1)))))

theorem execPdelayResp_kept {w : Wr} {r : State} {m : PtpMsg} {s : State} (w_time : w.time = true) (h : Kept w r s) :
    Answers w r (execPdelayResp m s) := by
  unfold execPdelayResp
  exact Answers.next (State.ptpArrive_kept w_time h (fun _ _ h0 => by
      split
      · exact by
            lift_lets -underBinder
            intro x1 x2; clear_value x1 x2
            exact Kept.ite_ h0
              (Kept.ite_ (State.setDom_kept w_time h0)
              (State.peerPath_kept w_time h0))
      · exact h0))

theorem execPdelayRespFollowUp_kept {w : Wr} {r : State} {m : PtpMsg} {s : State} (w_time : w.time = true) (h : Kept w r s) :
    Answers w r (execPdelayRespFollowUp m s) := by
  unfold execPdelayRespFollowUp
  exact Answers.next (State.ptpArrive_kept w_time h (fun _ _ h0 => by
      split
      · exact Kept.ite_ h0
            (State.peerPath_kept w_time h0)
      · exact h0))

theorem execAnnounce_kept {w : Wr} {r : State} {m : PtpMsg} {s : State} (w_cuff : w.cuff = true) (w_route : w.route = true) (w_flt : w.flt = true) (w_time : w.time = true) (w_pwr : w.pwr = true) (w_same : w.same = true) (h : Kept w r s) :
    Answers w r (execAnnounce m s) := by
  unfold execAnnounce
  exact Answers.next (State.ptpArrive_kept w_time h (fun _ _ h0 => by
      lift_lets -underBinder
      intro x1; clear_value x1
      intro x2
      have h2 : Kept w r x2 := State.setDom_kept w_time h0
      clear_value x2
      intro x3
      have h3 : Kept w r x3 := Kept.ite_ (State.wrb_kept (State.wr_kept h2))
        h2
      clear_value x3
      exact State.domSelect_kept w_cuff w_route w_flt w_time w_pwr w_same h3))

theorem execPtpFrameDrop_kept {w : Wr} {r : State} {m : PtpMsg} {s : State} (w_time : w.time = true) (h : Kept w r s) :
    Answers w r (execPtpFrameDrop m s) := by
  unfold execPtpFrameDrop
  exact Answers.ite_ (Answers.next h)
    (by
    lift_lets -underBinder
    intro x0
    have h0 : KeptP w r x0 := State.ptpTake_kept w_time h
    clear_value x0
    exact Answers.ite_ (Answers.next h0)
      (Answers.next h))

theorem State.writeDomCfg_kept {w : Wr} {r s : State} {d : Nat} {v : Word} (h : Kept w r s) :
    Kept w r (State.writeDomCfg s d v) := by
  unfold State.writeDomCfg
  lift_lets -underBinder
  intro x0 x1; clear_value x0 x1
  exact State.setReg_kept h

theorem execDomainEnable_kept {w : Wr} {r : State} {d : Fin 2} {v : Word} {s : State} (w_time : w.time = true) (h : Kept w r s) :
    Answers w r (execDomainEnable d v s) := by
  unfold execDomainEnable
  exact Answers.ite_ (Answers.next h)
    (by
    lift_lets -underBinder
    intro x0; clear_value x0
    intro x1
    have h1 : Kept w r x1 := State.writeDomCfg_kept h
    clear_value x1
    exact Answers.ite_ (Answers.next h1)
      (Answers.next (State.setDom_kept w_time (State.wr_kept h1))))

theorem execDomainDisable_kept {w : Wr} {r : State} {d : Fin 2} {v : Word} {s : State} (w_cuff : w.cuff = true) (w_route : w.route = true) (w_flt : w.flt = true) (w_time : w.time = true) (w_pwr : w.pwr = true) (w_same : w.same = true) (h : Kept w r s) :
    Answers w r (execDomainDisable d v s) := by
  unfold execDomainDisable
  exact Answers.ite_ (Answers.next h)
    (by
    lift_lets -underBinder
    intro x0; clear_value x0
    intro x1
    have h1 : Kept w r x1 := State.setReg_kept (State.wr_kept (State.writeDomCfg_kept h))
    clear_value x1
    exact Answers.next (State.setDom_kept w_time (Kept.ite_ (State.leftLocked_kept w_cuff w_route w_flt w_time w_pwr w_same h1)
      h1)))

theorem execSyncTimeout_kept {w : Wr} {r : State} {d : Fin 2} {s : State} (w_cuff : w.cuff = true) (w_route : w.route = true) (w_flt : w.flt = true) (w_time : w.time = true) (w_pwr : w.pwr = true) (w_same : w.same = true) (h : Kept w r s) :
    Answers w r (execSyncTimeout d s) := by
  unfold execSyncTimeout
  exact Answers.ite_ (Answers.next h)
    (Answers.next (State.domListen_kept w_cuff w_route w_flt w_time w_pwr w_same h))

theorem execAnnounceTimeout_kept {w : Wr} {r : State} {d : Fin 2} {s : State} (w_cuff : w.cuff = true) (w_route : w.route = true) (w_flt : w.flt = true) (w_time : w.time = true) (w_pwr : w.pwr = true) (w_same : w.same = true) (h : Kept w r s) :
    Answers w r (execAnnounceTimeout d s) := by
  unfold execAnnounceTimeout
  split
  · exact Answers.ite_ (Answers.next h)
        (Answers.next (State.domListen_kept w_cuff w_route w_flt w_time w_pwr w_same (State.setDom_kept w_time h)))
  · exact Answers.next h

theorem execPortDown_kept {w : Wr} {r : State} {p : Fin 2} {s : State} (w_cuff : w.cuff = true) (w_route : w.route = true) (w_flt : w.flt = true) (w_time : w.time = true) (w_pwr : w.pwr = true) (w_same : w.same = true) (h : Kept w r s) :
    Answers w r (execPortDown p s) := by
  unfold execPortDown
  lift_lets -underBinder
  intro x0
  have h0 : Kept w r x0 := Kept.ite_ (State.setBit_kept h)
    h
  clear_value x0
  exact Answers.next (State.domsListen_kept w_cuff w_route w_flt w_time w_pwr w_same h0)

theorem execDelayReq_kept {w : Wr} {r : State} {d : Fin 2} {sent : Nat} {s : State} (w_time : w.time = true) (h : Kept w r s) :
    Answers w r (execDelayReq d sent s) := by
  unfold execDelayReq
  lift_lets -underBinder
  intro x0 x1 x2 x3; clear_value x0 x1 x2 x3
  intro x4
  have h4 : Kept w r x4 := State.count_kept (State.setDom_kept w_time h)
  clear_value x4
  intro x5; clear_value x5
  exact Answers.ite_ (Answers.next h)
    (Answers.next (State.emit_kept h4))

end Sys2Proof.Machine
end

