-- ==== Sys2Proof/Laws/KeptOutTime.lean ====
section
/-! SUPPORT. Sys2Proof/Laws/KeptOutTime.lean: what each operation of Machine/OutTime.lean keeps (Kept, Laws/Kept.lean). -/
set_option Elab.async false
namespace Sys2Proof.Machine

theorem execOutputReset_kept {w : Wr} {r s : State} (w_time : w.time = true) (h : Kept w r s) :
    Answers w r (execOutputReset s) := by
  unfold execOutputReset
  exact Answers.next (State.outInvalid_kept w_time h)

theorem execOutputSelect_kept {w : Wr} {r : State} {sel : Bool} {s : State} (w_cuff : w.cuff = true) (w_route : w.route = true) (w_flt : w.flt = true) (w_time : w.time = true) (w_pwr : w.pwr = true) (w_same : w.same = true) (h : Kept w r s) :
    Answers w r (execOutputSelect sel s) := by
  unfold execOutputSelect
  exact Answers.next (State.outFollow_kept w_cuff w_route w_flt w_time w_pwr w_same (State.drvWr_kept w_same h))

theorem execTimeCapture_kept {w : Wr} {r s : State} (h : Kept w r s) :
    Answers w r (execTimeCapture s) := by
  unfold execTimeCapture
  lift_lets -underBinder
  intro x0
  have h0 : Kept w r x0 := State.setReg_kept h
  clear_value x0
  intro x1
  have h1 : Kept w r x1 := State.setReg_kept h0
  clear_value x1
  intro x2
  have h2 : Kept w r x2 := State.setReg_kept h1
  clear_value x2
  intro x3
  have h3 : Kept w r x3 := State.setReg_kept h2
  clear_value x3
  exact Answers.next (State.setReg_kept h3)

theorem State.bridgeSample_kept {w : Wr} {r s : State} (w_time : w.time = true) (h : Kept w r s) :
    Kept w r (State.bridgeSample s) := by
  unfold State.bridgeSample
  lift_lets -underBinder
  intro x0 x1; clear_value x0 x1
  exact Kept.ite_ h
    (Kept.upd h (time := .inl w_time))

theorem execBridgeSample_kept {w : Wr} {r s : State} (w_time : w.time = true) (h : Kept w r s) :
    Answers w r (execBridgeSample s) := by
  unfold execBridgeSample
  exact Answers.next (State.bridgeSample_kept w_time h)

theorem State.bridgeTo_kept {w : Wr} {r s : State} {word : Nat} (w_route : w.route = true) (w_freeCtr : w.freeCtr = true) (h : Kept w r s) :
    Kept w r (State.bridgeTo s word) := by
  unfold State.bridgeTo
  exact State.forEach_kept h (fun _ _ h0 => State.stamp_kept w_route w_freeCtr h0)

theorem execBridgeSend_kept {w : Wr} {r s : State} (w_route : w.route = true) (w_time : w.time = true) (w_freeCtr : w.freeCtr = true) (h : Kept w r s) :
    Answers w r (execBridgeSend s) := by
  unfold execBridgeSend
  exact Answers.ite_ (Answers.next h)
    (by
    lift_lets -underBinder
    intro x0
    have h0 : Kept w r x0 := State.bridgeSample_kept w_time h
    clear_value x0
    intro x1 x2; clear_value x1 x2
    exact Answers.next (State.bridgeTo_kept w_route w_freeCtr (Kept.upd h0 (time := .inl w_time))))

theorem State.takeBridge_kept {w : Wr} {r s : State} {w0 : Nat} (w_cuff : w.cuff = true) (w_route : w.route = true) (w_flt : w.flt = true) (w_time : w.time = true) (w_pwr : w.pwr = true) (w_same : w.same = true) (h : Kept w r s) :
    Kept w r (State.takeBridge s w0) := by
  unfold State.takeBridge
  lift_lets -underBinder
  intro x0 x1; clear_value x0 x1
  intro x2
  have h2 : Kept w r x2 := State.wr_kept (State.wr_kept h)
  clear_value x2
  intro x3
  have h3 : Kept w r x3 := State.wr_kept (State.wr_kept (State.wr_kept h2))
  clear_value x3
  intro x4; clear_value x4
  intro x5
  have h5 : Kept w r x5 := Kept.upd h3 (time := .inl w_time)
  clear_value x5
  exact Kept.ite_ (State.takeSource_kept w_cuff w_route w_flt w_time w_pwr w_same h5)
    (State.outFollow_kept w_cuff w_route w_flt w_time w_pwr w_same h5)

theorem execBridgeMessage_kept {w : Wr} {r s : State} (w_cuff : w.cuff = true) (w_route : w.route = true) (w_flt : w.flt = true) (w_time : w.time = true) (w_pwr : w.pwr = true) (w_mem : w.mem = true) (w_freeCtr : w.freeCtr = true) (w_same : w.same = true) (h : Kept w r s) :
    Answers w r (execBridgeMessage s) := by
  unfold execBridgeMessage
  split
  · exact Answers.next (State.niLost_kept w_cuff w_route w_flt w_pwr w_mem w_same h)
  · rename_i heq; have h0 : (Kept w r) _ := of_ (KeptOP w r) (State.niTake_kept w_cuff w_route w_flt w_pwr w_mem w_same h) heq; exact by
        lift_lets -underBinder
        intro x1
        have h1 : Kept w r x1 := State.bridgeSample_kept w_time h0
        clear_value x1
        intro x2; clear_value x2
        intro x3
        have h3 : Kept w r x3 := State.takeBridge_kept w_cuff w_route w_flt w_time w_pwr w_same (State.count_kept h1)
        clear_value x3
        exact Answers.ite_ (Answers.next (State.count_kept h1))
          (Answers.next (Kept.ite_ (State.bridgeTo_kept w_route w_freeCtr h3)
          h3))

theorem execBridgeStale_kept {w : Wr} {r s : State} (w_cuff : w.cuff = true) (w_route : w.route = true) (w_flt : w.flt = true) (w_time : w.time = true) (w_pwr : w.pwr = true) (w_same : w.same = true) (h : Kept w r s) :
    Answers w r (execBridgeStale s) := by
  unfold execBridgeStale
  exact Answers.ite_ (Answers.next h)
    (by
    lift_lets -underBinder
    intro x0; clear_value x0
    intro x1
    have h1 : Kept w r x1 := Kept.upd h (time := .inl w_time)
    clear_value x1
    exact Answers.next (State.outFollow_kept w_cuff w_route w_flt w_time w_pwr w_same (Kept.ite_ (State.ptpLoss_kept w_cuff w_route w_flt w_pwr w_same h1)
      h1)))

theorem State.setTp_kept {w : Wr} {r s : State} {i : Nat} {x : TpSt} (w_time : w.time = true) (h : Kept w r s) :
    Kept w r (State.setTp s i x) := by
  unfold State.setTp
  exact Kept.upd h (time := .inl w_time)

theorem State.tpStart_kept {w : Wr} {r s : State} {i : Nat} (w_time : w.time = true) (w_same : w.same = true) (h : Kept w r s) :
    Kept w r (State.tpStart s i) := by
  unfold State.tpStart
  lift_lets -underBinder
  intro x0 x1; clear_value x0 x1
  exact Kept.ite_ (State.wr_kept h)
    (Kept.ite_ (State.flag_kept w_same (State.wr_kept h))
    (State.setTp_kept w_time (State.flag_kept w_same (State.wr_kept h))))

theorem State.writeTpCtrl_kept {w : Wr} {r s : State} {i : Nat} {v : Word} (h : Kept w r s) :
    Kept w r (State.writeTpCtrl s i v) := by
  unfold State.writeTpCtrl
  exact State.setReg_kept h

theorem execTpArm_kept {w : Wr} {r : State} {i : Fin 4} {v : Word} {s : State} (w_time : w.time = true) (w_same : w.same = true) (h : Kept w r s) :
    Answers w r (execTpArm i v s) := by
  unfold execTpArm
  exact Answers.ite_ (Answers.next h)
    (by
    lift_lets -underBinder
    intro x0; clear_value x0
    intro x1
    have h1 : Kept w r x1 := State.writeTpCtrl_kept h
    clear_value x1
    intro x2 x3; clear_value x2 x3
    intro x4
    have h4 : Kept w r x4 := State.setTp_kept w_time (State.wr_kept (State.wr_kept h1))
    clear_value x4
    exact Answers.ite_ (Answers.next (State.flag_kept w_same h1))
      (Answers.ite_ (Answers.next (State.tpStart_kept w_time w_same h4))
      (Answers.next (State.wr_kept (State.wr_kept h4)))))

theorem execTpStop_kept {w : Wr} {r : State} {i : Fin 4} {s : State} (h : Kept w r s) :
    Answers w r (execTpStop i s) := by
  unfold execTpStop
  exact Answers.next (State.wr_kept (State.wr_kept h))

theorem State.tpCount_kept {w : Wr} {r s : State} {i : Nat} (h : Kept w r s) :
    Kept w r (State.tpCount s i) := by
  unfold State.tpCount
  lift_lets -underBinder
  intro x0; clear_value x0
  exact Kept.ite_ (State.wr_kept h)
    h

theorem execTpEdge_kept {w : Wr} {r : State} {i : Fin 4} {s : State} (w_time : w.time = true) (h : Kept w r s) :
    Answers w r (execTpEdge i s) := by
  unfold execTpEdge
  lift_lets -underBinder
  intro x0 x1 x2; clear_value x0 x1 x2
  intro x3
  have h3 : Kept w r x3 := State.wr_kept h
  clear_value x3
  exact Answers.ite_ (Answers.next h)
    (Answers.next (State.tpCount_kept (State.setTp_kept w_time h3)))

theorem execTpPulseEnd_kept {w : Wr} {r : State} {i : Fin 4} {s : State} (w_time : w.time = true) (h : Kept w r s) :
    Answers w r (execTpPulseEnd i s) := by
  unfold execTpPulseEnd
  split
  · exact Answers.ite_ (Answers.next h)
        (Answers.next (State.setTp_kept w_time h))
  · exact Answers.next h

theorem State.tpMiss_kept {w : Wr} {r s : State} {i : Nat} (w_time : w.time = true) (w_same : w.same = true) (h : Kept w r s) :
    Kept w r (State.tpMiss s i) := by
  unfold State.tpMiss
  lift_lets -underBinder
  intro x0 x1 x2 x3; clear_value x0 x1 x2 x3
  exact Kept.ite_ h
    (State.tpCount_kept (State.setTp_kept w_time (State.count_kept (State.flag_kept w_same h))))

theorem execTpBaseStep_kept {w : Wr} {r : State} {i : Fin 4} {s : State} (w_time : w.time = true) (w_same : w.same = true) (h : Kept w r s) :
    Answers w r (execTpBaseStep i s) := by
  unfold execTpBaseStep
  exact Answers.ite_ (Answers.next h)
    (Answers.ite_ (Answers.next (State.wr_kept h))
    (by
    lift_lets -underBinder
    intro x0 x1; clear_value x0 x1
    intro x2
    have h2 : Kept w r x2 := State.setTp_kept w_time (State.wr_kept h)
    clear_value x2
    exact Answers.next (Kept.ite_ (State.tpStart_kept w_time w_same h2)
      (State.tpMiss_kept w_time w_same h2))))

end Sys2Proof.Machine
end

