-- ==== Sys2Proof/Laws/KeptReset.lean ====
section
/-! SUPPORT. Sys2Proof/Laws/KeptReset.lean: what each operation of Machine/Reset.lean keeps (Kept, Laws/Kept.lean). -/
set_option Elab.async false
namespace Sys2Proof.Machine

theorem State.refuseGo_kept {w : Wr} {r s : State} {go : Bool} (w_same : w.same = true) (h : Kept w r s) :
    Kept w r (State.refuseGo s go) := by
  unfold State.refuseGo
  lift_lets -underBinder
  intro x0
  have h0 : Kept w r x0 := Kept.ite_ (State.flag_kept w_same h)
    h
  clear_value x0
  intro x1; clear_value x1
  exact Kept.upd h0 (same := .inl w_same)

theorem State.resetBy_kept {w : Wr} {r s : State} {k : Nat} {act : State → State} (w_boot : w.boot = true) (w_same : w.same = true) (h : Kept w r s) (hf : ∀ y1, Kept w r y1 → Kept w r (act y1)) :
    Kept w r (State.resetBy s k act) := by
  unfold State.resetBy
  lift_lets -underBinder
  intro x0
  have h0 : Kept w r x0 := State.wr_kept h
  clear_value x0
  intro x1 x2; clear_value x1 x2
  intro x3
  have h3 : Kept w r x3 := Kept.upd h0 (boot := .inl w_boot)
  clear_value x3
  exact Kept.ite_ (State.flag_kept w_same h0)
    (State.updFaultN_kept (State.refuseGo_kept w_same (State.wr_kept (State.wr_kept (hf _ h3)))))

theorem State.reloadLiner_kept {w : Wr} {r s : State} (w_palm : w.palm = true) (h : Kept w r s) :
    Kept w r (State.reloadLiner s) := by
  unfold State.reloadLiner
  lift_lets -underBinder
  intro x0; clear_value x0
  intro x1
  have h1 : Kept w r x1 := Kept.ite_ h
    (State.wr_kept h)
  clear_value x1
  intro x2
  have h2 : Kept w r x2 := State.wr_kept h1
  clear_value x2
  intro x3; clear_value x3
  exact Kept.upd h2 (palm := .inl w_palm)

theorem State.clearPalm_kept {w : Wr} {r s : State} (w_sram : w.sram = true) (w_rgn : w.rgn = true) (w_flt : w.flt = true) (w_mem : w.mem = true) (w_palm : w.palm = true) (w_ldrs : w.ldrs = true) (h : Kept w r s) :
    Kept w r (State.clearPalm s) := by
  unfold State.clearPalm
  lift_lets -underBinder
  intro x0
  have h0 : Kept w r x0 := State.supplyCause_kept (State.forEach_kept h (fun _ _ h1 => State.loseRegion_kept w_sram w_rgn w_flt w_mem w_palm w_ldrs h1))
  clear_value x0
  intro x2; clear_value x2
  intro x3
  have h3 : Kept w r x3 := Kept.upd h0 (palm := .inl w_palm)
  clear_value x3
  intro x4
  have h4 : Kept w r x4 := State.wr_kept (State.wr_kept h3)
  clear_value x4
  exact State.palmHalt_kept (State.wr_kept (State.wr_kept h4))

theorem execPalmReset_kept {w : Wr} {r s : State} (w_sram : w.sram = true) (w_rgn : w.rgn = true) (w_flt : w.flt = true) (w_mem : w.mem = true) (w_palm : w.palm = true) (w_ldrs : w.ldrs = true) (w_boot : w.boot = true) (w_same : w.same = true) (h : Kept w r s) :
    Answers w r (execPalmReset s) := by
  unfold execPalmReset
  exact Answers.next (State.resetBy_kept w_boot w_same h (fun _ h0 => by
      lift_lets -underBinder
      intro x1
      have h1 : Kept w r x1 := State.reloadLiner_kept w_palm (State.clearPalm_kept w_sram w_rgn w_flt w_mem w_palm w_ldrs h0)
      clear_value x1
      intro x2; clear_value x2
      exact Kept.upd h1 (boot := .inl w_boot)))

theorem State.portsStop_kept {w : Wr} {r s : State} (w_cuff : w.cuff = true) (w_route : w.route = true) (w_flt : w.flt = true) (w_time : w.time = true) (w_pwr : w.pwr = true) (w_same : w.same = true) (h : Kept w r s) :
    Kept w r (State.portsStop s) := by
  unfold State.portsStop
  exact State.domsListen_kept w_cuff w_route w_flt w_time w_pwr w_same h

theorem execServiceReset_kept {w : Wr} {r s : State} (w_bar2 : w.bar2 = true) (w_rgn : w.rgn = true) (w_cuff : w.cuff = true) (w_route : w.route = true) (w_flt : w.flt = true) (w_time : w.time = true) (w_pwr : w.pwr = true) (w_mem : w.mem = true) (w_ldrs : w.ldrs = true) (w_boot : w.boot = true) (w_bon : w.bon = true) (w_same : w.same = true) (h : Kept w r s) :
    Answers w r (execServiceReset s) := by
  unfold execServiceReset
  exact Answers.next (State.resetBy_kept w_boot w_same h (fun _ h0 => State.portsStop_kept w_cuff w_route w_flt w_time w_pwr w_same (State.loseBonnet_kept w_bar2 w_rgn w_flt w_mem w_ldrs w_bon h0)))

theorem execCuffReset_kept {w : Wr} {r s : State} (w_bar2 : w.bar2 = true) (w_links : w.links = true) (w_cuff : w.cuff = true) (w_route : w.route = true) (w_flt : w.flt = true) (w_pwr : w.pwr = true) (w_mem : w.mem = true) (w_palm : w.palm = true) (w_boot : w.boot = true) (w_same : w.same = true) (h : Kept w r s) :
    Answers w r (execCuffReset s) := by
  unfold execCuffReset
  exact Answers.next (State.resetBy_kept w_boot w_same h (fun _ h0 => by
      lift_lets -underBinder
      intro x1
      have h1 : Kept w r x1 := State.loseCuff_kept w_bar2 w_links w_cuff w_route w_flt w_mem w_palm h0
      clear_value x1
      intro x2; clear_value x2
      intro x3
      have h3 : Kept w r x3 := State.startPhase_kept w_links w_cuff w_route w_flt w_pwr w_boot w_same h1
      clear_value x3
      exact Kept.ite_ h1
        (Kept.ite_ h3
        (State.startPhase_kept w_links w_cuff w_route w_flt w_pwr w_boot w_same (State.stopPhase_kept w_boot h3)))))

theorem State.loseModule_kept {w : Wr} {r s : State} (w_bar2 : w.bar2 = true) (w_sram : w.sram = true) (w_rgn : w.rgn = true) (w_links : w.links = true) (w_cuff : w.cuff = true) (w_route : w.route = true) (w_flt : w.flt = true) (w_time : w.time = true) (w_pwr : w.pwr = true) (w_mem : w.mem = true) (w_palm : w.palm = true) (w_ldrs : w.ldrs = true) (w_bon : w.bon = true) (w_same : w.same = true) (h : Kept w r s) :
    Kept w r (State.loseModule s) := by
  unfold State.loseModule
  lift_lets -underBinder
  intro x0; clear_value x0
  intro x1
  have h1 : Kept w r x1 := State.forEach_kept (State.clearPalm_kept w_sram w_rgn w_flt w_mem w_palm w_ldrs (State.loseBonnet_kept w_bar2 w_rgn w_flt w_mem w_ldrs w_bon (State.loseCuff_kept w_bar2 w_links w_cuff w_route w_flt w_mem w_palm h))) (fun _ _ h2 => State.loseStackCtl_kept w_flt w_mem h2)
  clear_value x1
  intro x3
  have h3 : Kept w r x3 := State.clearRegs_kept w_flt h1
  clear_value x3
  intro x4
  have h4 : Kept w r x4 := Kept.upd h3 (palm := .inl w_palm)
  clear_value x4
  intro x5
  have h5 : Kept w r x5 := State.wr_kept (State.wr_kept h4)
  clear_value x5
  intro x6
  have h6 : Kept w r x6 := State.wr_kept (Kept.ite_ (State.clearLoad_kept w_ldrs h5)
    h5)
  clear_value x6
  intro x7
  have h7 : Kept w r x7 := State.wr_kept (State.wr_kept h6)
  clear_value x7
  intro x8; clear_value x8
  exact State.portsStop_kept w_cuff w_route w_flt w_time w_pwr w_same (Kept.upd h7 (pwr := .inl w_pwr))

theorem execModuleWarmReset_kept {w : Wr} {r s : State} (w_bar2 : w.bar2 = true) (w_sram : w.sram = true) (w_rgn : w.rgn = true) (w_links : w.links = true) (w_cuff : w.cuff = true) (w_route : w.route = true) (w_flt : w.flt = true) (w_time : w.time = true) (w_pwr : w.pwr = true) (w_mem : w.mem = true) (w_palm : w.palm = true) (w_ldrs : w.ldrs = true) (w_boot : w.boot = true) (w_bon : w.bon = true) (w_same : w.same = true) (h : Kept w r s) :
    Answers w r (execModuleWarmReset s) := by
  unfold execModuleWarmReset
  exact Answers.next (State.resetBy_kept w_boot w_same h (fun _ h0 => by
      lift_lets -underBinder
      intro x1
      have h1 : Kept w r x1 := State.loseModule_kept w_bar2 w_sram w_rgn w_links w_cuff w_route w_flt w_time w_pwr w_mem w_palm w_ldrs w_bon w_same h0
      clear_value x1
      intro x2; clear_value x2
      intro x3
      have h3 : Kept w r x3 := Kept.ite_ (State.wr_kept h1)
        h1
      clear_value x3
      intro x4 x5; clear_value x4 x5
      intro x6
      have h6 : Kept w r x6 := Kept.upd h3 (boot := .inl w_boot)
      clear_value x6
      intro x7
      have h7 : Kept w r x7 := Kept.ite_ (State.devWr_kept h6)
        h6
      clear_value x7
      intro x8
      have h8 : Kept w r x8 := State.showWaits_kept w_boot (State.showPhase_kept (State.wr_kept h7))
      clear_value x8
      exact Kept.ite_ (State.startBringUp_kept w_links w_cuff w_route w_flt w_pwr w_boot w_same h8)
        h8))

theorem State.powerOn_kept {w : Wr} {r s : State} {src : Nat} (w_bar2 : w.bar2 = true) (w_hbm : w.hbm = true) (w_sram : w.sram = true) (w_crown : w.crown = true) (w_rgn : w.rgn = true) (w_links : w.links = true) (w_cuff : w.cuff = true) (w_route : w.route = true) (w_flt : w.flt = true) (w_time : w.time = true) (w_pwr : w.pwr = true) (w_mem : w.mem = true) (w_palm : w.palm = true) (w_ldrs : w.ldrs = true) (w_boot : w.boot = true) (w_nvm : w.nvm = true) (w_bon : w.bon = true) (w_same : w.same = true) (h : Kept w r s) :
    Kept w r (s.powerOn src) := by
  unfold State.powerOn
  exact State.updFaultN_kept (State.wr_kept
    { pending := h.pending, cyc := h.cyc, egress := h.egress, regsWf := fun _ => rfl, bar2Wf := fun _ => rfl,
      hbmWf := fun _ => rfl, sramWf := fun _ => rfl, nvmWf := h.nvmWf, bar2 := .inl w_bar2, hbm := .inl w_hbm,
      sram := .inl w_sram, crown := .inl w_crown, rgn := .inl w_rgn, links := .inl w_links, cuff := .inl w_cuff,
      route := .inl w_route, flt := .inl w_flt, time := .inl w_time, pwr := .inl w_pwr, mem := .inl w_mem,
      palm := .inl w_palm, ldrs := .inl w_ldrs, boot := .inl w_boot, nvm := .inl w_nvm, bon := .inl w_bon,
      freeCtr := h.freeCtr, same := .inl w_same, flash := h.flash })

theorem execPowerOnReset_kept {w : Wr} {r s : State} (w_bar2 : w.bar2 = true) (w_hbm : w.hbm = true) (w_sram : w.sram = true) (w_crown : w.crown = true) (w_rgn : w.rgn = true) (w_links : w.links = true) (w_cuff : w.cuff = true) (w_route : w.route = true) (w_flt : w.flt = true) (w_time : w.time = true) (w_pwr : w.pwr = true) (w_mem : w.mem = true) (w_palm : w.palm = true) (w_ldrs : w.ldrs = true) (w_boot : w.boot = true) (w_nvm : w.nvm = true) (w_bon : w.bon = true) (w_same : w.same = true) (h : Kept w r s) :
    Answers w r (execPowerOnReset s) := by
  unfold execPowerOnReset
  exact Answers.next (State.resetBy_kept w_boot w_same h (fun _ h0 => State.powerOn_kept w_bar2 w_hbm w_sram w_crown w_rgn w_links w_cuff w_route w_flt w_time w_pwr w_mem w_palm w_ldrs w_boot w_nvm w_bon w_same h0))

theorem execPerst_kept {w : Wr} {r s : State} (w_flt : w.flt = true) (h : Kept w r s) :
    Answers w r (execPerst s) := by
  unfold execPerst
  exact Answers.next (Kept.upd h (flt := .inl w_flt))

end Sys2Proof.Machine
end

