-- ==== Sys2Proof/Laws/KeptPower.lean ====
section
/-! SUPPORT. Sys2Proof/Laws/KeptPower.lean: what each operation of Machine/Power.lean keeps (Kept, Laws/Kept.lean). -/
set_option Elab.async false
namespace Sys2Proof.Machine

theorem State.aonLost_kept {w : Wr} {r s : State} {closed : Bool} {tripped : Bool} {src : Nat} (w_bar2 : w.bar2 = true) (w_hbm : w.hbm = true) (w_sram : w.sram = true) (w_crown : w.crown = true) (w_rgn : w.rgn = true) (w_links : w.links = true) (w_cuff : w.cuff = true) (w_route : w.route = true) (w_flt : w.flt = true) (w_time : w.time = true) (w_pwr : w.pwr = true) (w_mem : w.mem = true) (w_palm : w.palm = true) (w_ldrs : w.ldrs = true) (w_boot : w.boot = true) (w_nvm : w.nvm = true) (w_bon : w.bon = true) (w_same : w.same = true) (h : Kept w r s) :
    Kept w r (State.aonLost s closed tripped src) := by
  unfold State.aonLost
  lift_lets -underBinder
  intro x0
  have h0 : Kept w r x0 := State.powerOn_kept w_bar2 w_hbm w_sram w_crown w_rgn w_links w_cuff w_route w_flt w_time w_pwr w_mem w_palm w_ldrs w_boot w_nvm w_bon w_same h
  clear_value x0
  intro x1; clear_value x1
  intro x2
  have h2 : Kept w r x2 := Kept.upd h0 (pwr := .inl w_pwr)
  clear_value x2
  exact State.updFaultN_kept (State.wr_kept (State.wr_kept h2))

theorem execInArmBreak_kept {w : Wr} {r s : State} (w_bar2 : w.bar2 = true) (w_hbm : w.hbm = true) (w_sram : w.sram = true) (w_crown : w.crown = true) (w_rgn : w.rgn = true) (w_links : w.links = true) (w_cuff : w.cuff = true) (w_route : w.route = true) (w_flt : w.flt = true) (w_time : w.time = true) (w_pwr : w.pwr = true) (w_mem : w.mem = true) (w_palm : w.palm = true) (w_ldrs : w.ldrs = true) (w_boot : w.boot = true) (w_nvm : w.nvm = true) (w_bon : w.bon = true) (w_same : w.same = true) (h : Kept w r s) :
    Answers w r (execInArmBreak s) := by
  unfold execInArmBreak
  lift_lets -underBinder
  intro x0
  have h0 : Kept w r x0 := State.wr_kept h
  clear_value x0
  intro x1; clear_value x1
  exact Answers.ite_ (Answers.next (State.aonLost_kept w_bar2 w_hbm w_sram w_crown w_rgn w_links w_cuff w_route w_flt w_time w_pwr w_mem w_palm w_ldrs w_boot w_nvm w_bon w_same h0))
    (Answers.next (Kept.upd h0 (pwr := .inl w_pwr)))

theorem execInputStart_kept {w : Wr} {r s : State} (w_pwr : w.pwr = true) (h : Kept w r s) :
    Answers w r (execInputStart s) := by
  unfold execInputStart
  exact Answers.ite_ (Answers.next h)
    (by
    lift_lets -underBinder
    intro x0
    have h0 : Kept w r x0 := State.wr_kept (State.wr_kept h)
    clear_value x0
    intro x1; clear_value x1
    exact Answers.next (Kept.upd h0 (pwr := .inl w_pwr)))

theorem execPrechargeDone_kept {w : Wr} {r s : State} (w_bar2 : w.bar2 = true) (w_hbm : w.hbm = true) (w_sram : w.sram = true) (w_crown : w.crown = true) (w_rgn : w.rgn = true) (w_links : w.links = true) (w_cuff : w.cuff = true) (w_route : w.route = true) (w_flt : w.flt = true) (w_time : w.time = true) (w_pwr : w.pwr = true) (w_mem : w.mem = true) (w_palm : w.palm = true) (w_ldrs : w.ldrs = true) (w_boot : w.boot = true) (w_nvm : w.nvm = true) (w_bon : w.bon = true) (w_same : w.same = true) (h : Kept w r s) :
    Answers w r (execPrechargeDone s) := by
  unfold execPrechargeDone
  split
  · exact Answers.ite_ (Answers.next (State.powerOn_kept w_bar2 w_hbm w_sram w_crown w_rgn w_links w_cuff w_route w_flt w_time w_pwr w_mem w_palm w_ldrs w_boot w_nvm w_bon w_same h))
        (Answers.next h)
  · exact Answers.next h

theorem execPrechargeTimeout_kept {w : Wr} {r s : State} (w_pwr : w.pwr = true) (h : Kept w r s) :
    Answers w r (execPrechargeTimeout s) := by
  unfold execPrechargeTimeout
  split
  · exact Answers.ite_ (Answers.next (State.updFaultN_kept (Kept.upd h (pwr := .inl w_pwr))))
        (Answers.next h)
  · exact Answers.next h

theorem execSupplyWarn_kept {w : Wr} {r : State} {voltage : Fin 65536} {s : State} (w_rgn : w.rgn = true) (w_cuff : w.cuff = true) (w_route : w.route = true) (w_flt : w.flt = true) (w_pwr : w.pwr = true) (w_same : w.same = true) (h : Kept w r s) :
    Answers w r (execSupplyWarn voltage s) := by
  unfold execSupplyWarn
  exact Answers.ite_ (Answers.next h)
    (by
    lift_lets -underBinder
    intro x0
    have h0 : Kept w r x0 := State.fault_kept w_cuff w_route w_flt w_pwr w_same (State.count_kept h)
    clear_value x0
    intro x1
    have h1 : Kept w r x1 := State.wr_kept (State.wr_kept h0)
    clear_value x1
    intro x2; clear_value x2
    intro x3
    have h3 : Kept w r x3 := Kept.upd h1 (pwr := .inl w_pwr)
    clear_value x3
    exact Answers.next (State.forEach_kept h3 (fun _ _ h4 => State.stepIfSlower_kept w_rgn (State.wr_kept h4))))

theorem execSupplyWarnClear_kept {w : Wr} {r s : State} (w_rgn : w.rgn = true) (w_pwr : w.pwr = true) (h : Kept w r s) :
    Answers w r (execSupplyWarnClear s) := by
  unfold execSupplyWarnClear
  exact Answers.ite_ (Answers.next h)
    (by
    lift_lets -underBinder
    intro x0
    have h0 : Kept w r x0 := State.wr_kept h
    clear_value x0
    intro x1; clear_value x1
    intro x2
    have h2 : Kept w r x2 := Kept.upd h0 (pwr := .inl w_pwr)
    clear_value x2
    exact Answers.next (State.forEach_kept h2 (fun _ _ h3 => State.setRg_kept w_rgn (State.wr_kept h3))))

theorem execBudgetRecoveryStep_kept {w : Wr} {r s : State} (w_pwr : w.pwr = true) (h : Kept w r s) :
    Answers w r (execBudgetRecoveryStep s) := by
  unfold execBudgetRecoveryStep
  split
  · exact Answers.ite_ (Answers.next h)
        (by
        lift_lets -underBinder
        intro x0 x1; clear_value x0 x1
        intro x2
        have h2 : Kept w r x2 := State.wr_kept h
        clear_value x2
        intro x3
        have h3 : Kept w r x3 := State.wr_kept h2
        clear_value x3
        intro x4; clear_value x4
        exact Answers.ite_ (Answers.next (Kept.upd h3 (pwr := .inl w_pwr)))
          (Answers.next (Kept.upd h2 (pwr := .inl w_pwr))))
  · exact Answers.next h

theorem execPowerFail_kept {w : Wr} {r s : State} (w_bar2 : w.bar2 = true) (w_hbm : w.hbm = true) (w_sram : w.sram = true) (w_crown : w.crown = true) (w_rgn : w.rgn = true) (w_links : w.links = true) (w_cuff : w.cuff = true) (w_route : w.route = true) (w_flt : w.flt = true) (w_time : w.time = true) (w_pwr : w.pwr = true) (w_mem : w.mem = true) (w_palm : w.palm = true) (w_ldrs : w.ldrs = true) (w_boot : w.boot = true) (w_nvm : w.nvm = true) (w_bon : w.bon = true) (w_same : w.same = true) (h : Kept w r s) :
    Answers w r (execPowerFail s) := by
  unfold execPowerFail
  exact Answers.ite_ (Answers.next (State.aonLost_kept w_bar2 w_hbm w_sram w_crown w_rgn w_links w_cuff w_route w_flt w_time w_pwr w_mem w_palm w_ldrs w_boot w_nvm w_bon w_same h))
    (Answers.next h)

theorem execOvervoltage_kept {w : Wr} {r s : State} (w_bar2 : w.bar2 = true) (w_hbm : w.hbm = true) (w_sram : w.sram = true) (w_crown : w.crown = true) (w_rgn : w.rgn = true) (w_links : w.links = true) (w_cuff : w.cuff = true) (w_route : w.route = true) (w_flt : w.flt = true) (w_time : w.time = true) (w_pwr : w.pwr = true) (w_mem : w.mem = true) (w_palm : w.palm = true) (w_ldrs : w.ldrs = true) (w_boot : w.boot = true) (w_nvm : w.nvm = true) (w_bon : w.bon = true) (w_same : w.same = true) (h : Kept w r s) :
    Answers w r (execOvervoltage s) := by
  unfold execOvervoltage
  exact Answers.ite_ (Answers.next (State.aonLost_kept w_bar2 w_hbm w_sram w_crown w_rgn w_links w_cuff w_route w_flt w_time w_pwr w_mem w_palm w_ldrs w_boot w_nvm w_bon w_same h))
    (Answers.next h)

theorem execOvercurrent_kept {w : Wr} {r s : State} (w_bar2 : w.bar2 = true) (w_hbm : w.hbm = true) (w_sram : w.sram = true) (w_crown : w.crown = true) (w_rgn : w.rgn = true) (w_links : w.links = true) (w_cuff : w.cuff = true) (w_route : w.route = true) (w_flt : w.flt = true) (w_time : w.time = true) (w_pwr : w.pwr = true) (w_mem : w.mem = true) (w_palm : w.palm = true) (w_ldrs : w.ldrs = true) (w_boot : w.boot = true) (w_nvm : w.nvm = true) (w_bon : w.bon = true) (w_same : w.same = true) (h : Kept w r s) :
    Answers w r (execOvercurrent s) := by
  unfold execOvercurrent
  exact Answers.ite_ (Answers.next (State.aonLost_kept w_bar2 w_hbm w_sram w_crown w_rgn w_links w_cuff w_route w_flt w_time w_pwr w_mem w_palm w_ldrs w_boot w_nvm w_bon w_same h))
    (Answers.next h)

theorem State.beginShutdown_kept {w : Wr} {r s : State} (w_pwr : w.pwr = true) (w_boot : w.boot = true) (h : Kept w r s) :
    Kept w r (State.beginShutdown s) := by
  unfold State.beginShutdown
  exact Kept.upd h (pwr := .inl w_pwr) (boot := .inl w_boot)

theorem execPwrEnLow_kept {w : Wr} {r s : State} (w_pwr : w.pwr = true) (w_boot : w.boot = true) (h : Kept w r s) :
    Answers w r (execPwrEnLow s) := by
  unfold execPwrEnLow
  lift_lets -underBinder
  intro x0
  have h0 : Kept w r x0 := State.wr_kept h
  clear_value x0
  intro x1; clear_value x1
  exact Answers.ite_ (Answers.next (Kept.upd h0 (pwr := .inl w_pwr)))
    (Answers.ite_ (Answers.next (Kept.upd h0 (pwr := .inl w_pwr)))
    (by
    split
    · exact Answers.next h0
    · exact Answers.next (State.beginShutdown_kept w_pwr w_boot h0)))

theorem execDomainShutdown_kept {w : Wr} {r s : State} (w_bar2 : w.bar2 = true) (w_hbm : w.hbm = true) (w_sram : w.sram = true) (w_crown : w.crown = true) (w_rgn : w.rgn = true) (w_links : w.links = true) (w_cuff : w.cuff = true) (w_route : w.route = true) (w_flt : w.flt = true) (w_time : w.time = true) (w_pwr : w.pwr = true) (w_mem : w.mem = true) (w_palm : w.palm = true) (w_ldrs : w.ldrs = true) (w_boot : w.boot = true) (w_nvm : w.nvm = true) (w_bon : w.bon = true) (w_same : w.same = true) (h : Kept w r s) :
    Answers w r (execDomainShutdown s) := by
  unfold execDomainShutdown
  lift_lets -underBinder
  intro x0
  have h0 : Kept w r x0 := Kept.ite_ (State.beginShutdown_kept w_pwr w_boot h)
    h
  clear_value x0
  exact by
    split
    · exact Answers.next h0
    · exact Answers.ite_ (Answers.next h0)
          (by
          lift_lets -underBinder
          intro x1
          have h1 : Kept w r x1 := Kept.ite_ (State.wr_kept h0)
            h0
          clear_value x1
          intro x2
          have h2 : Kept w r x2 := State.forEach_kept h1 (fun _ _ h3 => State.groupOff_kept w_bar2 w_hbm w_sram w_rgn w_links w_cuff w_route w_flt w_mem w_palm w_ldrs w_bon h3)
          clear_value x2
          intro x4; clear_value x4
          exact Answers.ite_ (Answers.next (Kept.upd h2 (pwr := .inl w_pwr)))
            (Answers.ite_ (Answers.next (Kept.upd h2 (pwr := .inl w_pwr)))
            (Answers.next (State.aonLost_kept w_bar2 w_hbm w_sram w_crown w_rgn w_links w_cuff w_route w_flt w_time w_pwr w_mem w_palm w_ldrs w_boot w_nvm w_bon w_same h2))))

theorem State.regain_kept {w : Wr} {r s : State} {freed : Nat → Bool} (w_boot : w.boot = true) (h : Kept w r s) :
    Kept w r (State.regain s freed) := by
  unfold State.regain
  lift_lets -underBinder
  intro x0 x1 x2; clear_value x0 x1 x2
  exact Kept.ite_ h
    (State.powerNext_kept w_boot (Kept.upd h (boot := .inl w_boot)))

theorem State.pwrCtrl_kept {w : Wr} {r s : State} {palm : Bool} {stack : Nat} (w_bar2 : w.bar2 = true) (w_hbm : w.hbm = true) (w_sram : w.sram = true) (w_rgn : w.rgn = true) (w_links : w.links = true) (w_cuff : w.cuff = true) (w_route : w.route = true) (w_flt : w.flt = true) (w_mem : w.mem = true) (w_palm : w.palm = true) (w_ldrs : w.ldrs = true) (w_boot : w.boot = true) (w_bon : w.bon = true) (w_same : w.same = true) (h : Kept w r s) :
    Kept w r (State.pwrCtrl s palm stack) := by
  unfold State.pwrCtrl
  exact Kept.ite_ (State.flag_kept w_same (State.flag_kept w_same h))
    (by
    lift_lets -underBinder
    intro x0; clear_value x0
    intro x1
    have h1 : Kept w r x1 := State.wr_kept (State.wrb_kept h)
    clear_value x1
    intro x2
    have h2 : Kept w r x2 := State.forEach_kept h1 (fun _ _ h3 => State.domainOff_kept w_bar2 w_hbm w_sram w_rgn w_links w_cuff w_route w_flt w_mem w_palm w_ldrs w_bon h3)
    clear_value x2
    exact State.regain_kept w_boot h2)

theorem execPalmOff_kept {w : Wr} {r : State} {off : Bool} {mask : BitVec 8} {s : State} (w_bar2 : w.bar2 = true) (w_hbm : w.hbm = true) (w_sram : w.sram = true) (w_rgn : w.rgn = true) (w_links : w.links = true) (w_cuff : w.cuff = true) (w_route : w.route = true) (w_flt : w.flt = true) (w_mem : w.mem = true) (w_palm : w.palm = true) (w_ldrs : w.ldrs = true) (w_boot : w.boot = true) (w_bon : w.bon = true) (w_same : w.same = true) (h : Kept w r s) :
    Answers w r (execPalmOff off mask s) := by
  unfold execPalmOff
  exact Answers.next (State.busWrite_kept w_same h (fun _ h0 => State.pwrCtrl_kept w_bar2 w_hbm w_sram w_rgn w_links w_cuff w_route w_flt w_mem w_palm w_ldrs w_boot w_bon w_same h0))

theorem execStackOff_kept {w : Wr} {r : State} {mask : BitVec 8} {palm : Bool} {s : State} (w_bar2 : w.bar2 = true) (w_hbm : w.hbm = true) (w_sram : w.sram = true) (w_rgn : w.rgn = true) (w_links : w.links = true) (w_cuff : w.cuff = true) (w_route : w.route = true) (w_flt : w.flt = true) (w_mem : w.mem = true) (w_palm : w.palm = true) (w_ldrs : w.ldrs = true) (w_boot : w.boot = true) (w_bon : w.bon = true) (w_same : w.same = true) (h : Kept w r s) :
    Answers w r (execStackOff mask palm s) := by
  unfold execStackOff
  exact Answers.next (State.busWrite_kept w_same h (fun _ h0 => State.pwrCtrl_kept w_bar2 w_hbm w_sram w_rgn w_links w_cuff w_route w_flt w_mem w_palm w_ldrs w_boot w_bon w_same h0))

theorem execCoolOkHigh_kept {w : Wr} {r s : State} (w_boot : w.boot = true) (h : Kept w r s) :
    Answers w r (execCoolOkHigh s) := by
  unfold execCoolOkHigh
  exact Answers.ite_ (Answers.next h)
    (Answers.next (State.powerNext_kept w_boot (State.wr_kept (State.wr_kept h))))

theorem State.holdPalmGroup_kept {w : Wr} {r s : State} (w_boot : w.boot = true) (h : Kept w r s) :
    Kept w r (State.holdPalmGroup s) := by
  unfold State.holdPalmGroup
  split
  · exact Kept.ite_ (Kept.upd h (boot := .inl w_boot))
        h
  · exact h

theorem execCoolOkLow_kept {w : Wr} {r s : State} (w_cuff : w.cuff = true) (w_route : w.route = true) (w_flt : w.flt = true) (w_pwr : w.pwr = true) (w_boot : w.boot = true) (w_same : w.same = true) (h : Kept w r s) :
    Answers w r (execCoolOkLow s) := by
  unfold execCoolOkLow
  exact Answers.ite_ (Answers.next h)
    (by
    lift_lets -underBinder
    intro x0; clear_value x0
    intro x1
    have h1 : Kept w r x1 := State.showWaits_kept w_boot (State.holdPalmGroup_kept w_boot (State.wr_kept (State.wr_kept h)))
    clear_value x1
    exact Answers.ite_ (Answers.next (State.fault_kept w_cuff w_route w_flt w_pwr w_same h1))
      (Answers.next h1))

theorem execCoolOkGlitch_kept {w : Wr} {r s : State} (h : Kept w r s) :
    Answers w r (execCoolOkGlitch s) := by
  unfold execCoolOkGlitch
  exact Answers.ite_ (Answers.next (State.count_kept h))
    (Answers.next h)

theorem State.thermal_kept {w : Wr} {r s : State} {cause : Nat} {temp : Int} {f : FaultArgs} (w_cuff : w.cuff = true) (w_route : w.route = true) (w_flt : w.flt = true) (w_pwr : w.pwr = true) (w_same : w.same = true) (h : Kept w r s) :
    Kept w r (State.thermal s cause temp f) := by
  unfold State.thermal
  exact State.count_kept (State.fault_kept w_cuff w_route w_flt w_pwr w_same h)

theorem State.limits_kept {w : Wr} {r s : State} {src : Nat} {temp : Int} {lim1 : Int} {lim2 : Int} {cause : Nat} {f : FaultArgs} (w_cuff : w.cuff = true) (w_route : w.route = true) (w_flt : w.flt = true) (w_pwr : w.pwr = true) (w_same : w.same = true) (h : Kept w r s) :
    Kept w r (State.limits s src temp lim1 lim2 cause f) := by
  unfold State.limits
  lift_lets -underBinder
  intro x0; clear_value x0
  intro x1
  have h1 : Kept w r x1 := Kept.ite_ (State.thermal_kept w_cuff w_route w_flt w_pwr w_same (Kept.upd h (pwr := .inl w_pwr)))
    (Kept.ite_ (Kept.upd h (pwr := .inl w_pwr))
    h)
  clear_value x1
  intro x2; clear_value x2
  exact Kept.ite_ (State.thermal_kept w_cuff w_route w_flt w_pwr w_same (Kept.upd h1 (pwr := .inl w_pwr)))
    h1

theorem State.tempMark_kept {w : Wr} {r s : State} {temp : Fld} {hwm : Fld} {x : Int} (h : Kept w r s) :
    Kept w r (State.tempMark s temp hwm x) := by
  unfold State.tempMark
  lift_lets -underBinder
  intro x0
  have h0 : Kept w r x0 := State.wr_kept h
  clear_value x0
  exact Kept.ite_ (State.wr_kept h0)
    h0

theorem State.regionTemp_kept {w : Wr} {r s : State} {g : Nat} {x : Int} (w_rgn : w.rgn = true) (w_cuff : w.cuff = true) (w_route : w.route = true) (w_flt : w.flt = true) (w_pwr : w.pwr = true) (w_same : w.same = true) (h : Kept w r s) :
    Kept w r (State.regionTemp s g x) := by
  unfold State.regionTemp
  lift_lets -underBinder
  intro x0
  have h0 : Kept w r x0 := State.limits_kept w_cuff w_route w_flt w_pwr w_same (State.tempMark_kept h)
  clear_value x0
  intro x1; clear_value x1
  exact Kept.ite_ h0
    (Kept.ite_ (Kept.ite_ h0
    (State.thermStep_kept w_rgn (State.setRg_kept w_rgn h0)))
    (Kept.ite_ (State.setRg_kept w_rgn h0)
    (State.setRg_kept w_rgn h0)))

theorem State.dieTemp_kept {w : Wr} {r s : State} {i : Nat} {x : Int} (w_cuff : w.cuff = true) (w_route : w.route = true) (w_flt : w.flt = true) (w_pwr : w.pwr = true) (w_same : w.same = true) (h : Kept w r s) :
    Kept w r (State.dieTemp s i x) := by
  unfold State.dieTemp
  exact State.limits_kept w_cuff w_route w_flt w_pwr w_same (State.wr_kept h)

theorem State.engineTemp_kept {w : Wr} {r s : State} {e : Nat} {x : Int} (w_cuff : w.cuff = true) (w_route : w.route = true) (w_flt : w.flt = true) (w_pwr : w.pwr = true) (w_same : w.same = true) (h : Kept w r s) :
    Kept w r (State.engineTemp s e x) := by
  unfold State.engineTemp
  exact State.limits_kept w_cuff w_route w_flt w_pwr w_same (State.tempMark_kept h)

theorem State.stackTemp_kept {w : Wr} {r s : State} {k : Nat} {x : Int} (w_cuff : w.cuff = true) (w_route : w.route = true) (w_flt : w.flt = true) (w_pwr : w.pwr = true) (w_same : w.same = true) (h : Kept w r s) :
    Kept w r (State.stackTemp s k x) := by
  unfold State.stackTemp
  exact Kept.ite_ h
    (by
    lift_lets -underBinder
    intro x0
    have h0 : Kept w r x0 := State.limits_kept w_cuff w_route w_flt w_pwr w_same (State.wr_kept h)
    clear_value x0
    intro x1; clear_value x1
    exact Kept.ite_ (State.retrainDue_kept h0)
      h0)

theorem execSensorSample_kept {w : Wr} {r : State} {x : Sensors} {s : State} (w_rgn : w.rgn = true) (w_cuff : w.cuff = true) (w_route : w.route = true) (w_flt : w.flt = true) (w_pwr : w.pwr = true) (w_same : w.same = true) (h : Kept w r s) :
    Answers w r (execSensorSample x s) := by
  unfold execSensorSample
  exact Answers.ite_ (Answers.next h)
    (by
    lift_lets -underBinder
    intro x0; clear_value x0
    intro x1
    have h1 : Kept w r x1 := State.wr_kept (State.wr_kept h)
    clear_value x1
    intro x2
    have h2 : Kept w r x2 := State.wr_kept (State.wr_kept (State.wr_kept h1))
    clear_value x2
    intro x3
    have h3 : Kept w r x3 := State.raise_kept w_same (State.raise_kept w_same h2)
    clear_value x3
    intro x4
    have h4 : Kept w r x4 := State.lower_kept w_same h3
    clear_value x4
    intro x5
    have h5 : Kept w r x5 := State.forEach_kept h4 (fun _ _ h6 => State.regionTemp_kept w_rgn w_cuff w_route w_flt w_pwr w_same h6)
    clear_value x5
    intro x7
    have h7 : Kept w r x7 := State.forEach_kept h5 (fun _ _ h8 => State.dieTemp_kept w_cuff w_route w_flt w_pwr w_same h8)
    clear_value x7
    intro x9
    have h9 : Kept w r x9 := State.forEach_kept h7 (fun _ _ h10 => State.engineTemp_kept w_cuff w_route w_flt w_pwr w_same h10)
    clear_value x9
    intro x11
    have h11 : Kept w r x11 := State.forEach_kept h9 (fun _ _ h12 => State.stackTemp_kept w_cuff w_route w_flt w_pwr w_same h12)
    clear_value x11
    intro x13 x14; clear_value x13 x14
    exact Answers.next (State.tempMark_kept (State.wr_kept h11)))

end Sys2Proof.Machine
end

