-- ==== Sys2Proof/Laws/KeptTelemetry.lean ====
section
/-! SUPPORT. Sys2Proof/Laws/KeptTelemetry.lean: what each operation of Machine/Telemetry.lean keeps (Kept, Laws/Kept.lean). -/
set_option Elab.async false
namespace Sys2Proof.Machine

theorem State.alarmAct_kept {w : Wr} {r s : State} (w_cuff : w.cuff = true) (w_flt : w.flt = true) (h : Kept w r s) :
    Kept w r (State.alarmAct s) := by
  unfold State.alarmAct
  split
  · exact State.endScheduled_kept w_cuff h
  · exact Kept.upd h (flt := .inl w_flt)
  · exact h

theorem State.alarmCapture_kept {w : Wr} {r s : State} {origin : Nat} {oseq : Nat} {rec : Nat} (h : Kept w r s) :
    Kept w r (State.alarmCapture s origin oseq rec) := by
  unfold State.alarmCapture
  exact Kept.ite_ h
    (State.wr_kept (State.wr_kept (State.wr_kept (State.wr_kept (State.wr_kept h)))))

theorem State.takeAlarmPacket_kept {w : Wr} {r s : State} {link : Nat} {f : Flit} (w_cuff : w.cuff = true) (w_route : w.route = true) (w_flt : w.flt = true) (h : Kept w r s) :
    Kept w r (State.takeAlarmPacket s link f) := by
  unfold State.takeAlarmPacket
  lift_lets -underBinder
  intro x0 x1 x2; clear_value x0 x1 x2
  intro x3
  have h3 : Kept w r x3 := State.alarmCapture_kept (State.count_kept (State.alarmAct_kept w_cuff w_flt (State.holdKey_kept w_flt h)))
  clear_value x3
  intro x4; clear_value x4
  intro x5
  have h5 : Kept w r x5 := Kept.upd h3 (flt := .inl w_flt)
  clear_value x5
  exact Kept.ite_ (State.dropLast_kept (State.count_kept h))
    (Kept.ite_ (State.count_kept h)
    (Kept.ite_ h3
    (State.sendAlarm_kept w_route h5)))

theorem execAlarmReceived_kept {w : Wr} {r s : State} (w_cuff : w.cuff = true) (w_route : w.route = true) (w_flt : w.flt = true) (w_pwr : w.pwr = true) (w_mem : w.mem = true) (w_same : w.same = true) (h : Kept w r s) :
    Answers w r (execAlarmReceived s) := by
  unfold execAlarmReceived
  split
  · rename_i heq; have h0 : (Kept w r) _ := of_ (KeptOP w r) (State.niTake_kept w_cuff w_route w_flt w_pwr w_mem w_same h) heq; exact Answers.next (State.updFaultN_kept (State.takeAlarmPacket_kept w_cuff w_route w_flt h0))
  · exact Answers.next (State.niLost_kept w_cuff w_route w_flt w_pwr w_mem w_same h)

theorem execFltHeadWrite_kept {w : Wr} {r : State} {idx : Fin 2048} {s : State} (w_same : w.same = true) (h : Kept w r s) :
    Answers w r (execFltHeadWrite idx s) := by
  unfold execFltHeadWrite
  exact Answers.next (State.busWrite_kept w_same h (fun _ h0 => by
      lift_lets -underBinder
      intro x1 x2 x3 x4; clear_value x1 x2 x3 x4
      intro x5
      have h5 : Kept w r x5 := State.wr_kept (State.wr_kept h0)
      clear_value x5
      intro x6; clear_value x6
      exact Kept.ite_ (State.flag_kept w_same h0)
        (Kept.upd h5 (same := .inl w_same))))

theorem execFaultMaxClr_kept {w : Wr} {r s : State} (w_same : w.same = true) (h : Kept w r s) :
    Answers w r (execFaultMaxClr s) := by
  unfold execFaultMaxClr
  exact Answers.next (State.busWrite_kept w_same h (fun _ h0 => State.updFaultN_kept (State.wr_kept (State.wr_kept h0))))

theorem State.snapshot_kept {w : Wr} {r s : State}  (h : Kept w r s) :
    Kept w r s.snapshot := by
  unfold State.snapshot
  lift_lets -underBinder
  intro x0 x1 x2; clear_value x0 x1 x2
  intro x3
  have h3 : Kept w r x3 := by
    unfold x3
    exact Kept.updRegs h fun g => SMap.wf_clear _ _ _ g
  clear_value x3
  intro x4; clear_value x4
  intro x5
  have h5 : Kept w r x5 := Kept.ite_ h3 (State.forEach_kept h3 fun _ _ h1 => State.setReg_kept h1)
  clear_value x5
  exact State.wr_kept h5

theorem State.orderSnap_kept {w : Wr} {r s : State} (w_same : w.same = true) (h : Kept w r s) :
    Kept w r (State.orderSnap s) := by
  unfold State.orderSnap
  lift_lets -underBinder
  intro x0
  have h0 : Kept w r x0 := State.wr_kept h
  clear_value x0
  intro x1; clear_value x1
  exact Kept.upd h0 (same := .inl w_same)

theorem execSnapshot_kept {w : Wr} {r : State} {block : Fin 256} {inst : Fin 256} {s : State} (w_same : w.same = true) (h : Kept w r s) :
    Answers w r (execSnapshot block inst s) := by
  unfold execSnapshot
  exact Answers.next (State.busWrite_kept w_same h (fun _ h0 => State.orderSnap_kept w_same (State.wr_kept (State.wr_kept h0))))

theorem State.telKeep_kept {w : Wr} {r s : State} {p : Nat} {payload : Nat} (h : Kept w r s) :
    Kept w r (State.telKeep s p payload) := by
  unfold State.telKeep
  exact State.forEach_kept h (fun _ _ h0 => State.setReg_kept h0)

theorem State.telSend_kept {w : Wr} {r s : State} {p : Nat} {hdr : Nat} {data : Nat} (w_cuff : w.cuff = true) (w_route : w.route = true) (w_flt : w.flt = true) (w_pwr : w.pwr = true) (w_mem : w.mem = true) (w_freeCtr : w.freeCtr = true) (w_same : w.same = true) (h : Kept w r s) :
    Kept w r (State.telSend s p hdr data) := by
  unfold State.telSend
  lift_lets -underBinder
  intro x0 x1 x2; clear_value x0 x1 x2
  exact State.inject_kept w_cuff w_route w_flt w_pwr w_mem w_freeCtr w_same (State.telKeep_kept h)

theorem State.telReport_kept {w : Wr} {r s : State} (w_cuff : w.cuff = true) (w_route : w.route = true) (w_flt : w.flt = true) (w_pwr : w.pwr = true) (w_mem : w.mem = true) (w_freeCtr : w.freeCtr = true) (w_same : w.same = true) (h : Kept w r s) :
    Kept w r (State.telReport s) := by
  unfold State.telReport
  lift_lets -underBinder
  intro x0 x1 x2 x3 x4; clear_value x0 x1 x2 x3 x4
  intro x5
  have h5 : Kept w r x5 := State.forEach_kept h (fun _ _ h6 => State.telSend_kept w_cuff w_route w_flt w_pwr w_mem w_freeCtr w_same h6)
  clear_value x5
  intro x7; clear_value x7
  intro x8
  have h8 : Kept w r x8 := Kept.upd h5 (flt := .inl w_flt)
  clear_value x8
  intro x9
  have h9 : Kept w r x9 := State.wr_kept h8
  clear_value x9
  exact Kept.ite_ (State.wr_kept (State.count_kept h9))
    h9

theorem State.telDrop_kept {w : Wr} {r s : State} (w_flt : w.flt = true) (h : Kept w r s) :
    Kept w r (State.telDrop s) := by
  unfold State.telDrop
  exact Kept.ite_ (State.wr_kept (State.count_kept (Kept.upd h (flt := .inl w_flt))))
    h

theorem execTelemetryReport_kept {w : Wr} {r s : State} (w_cuff : w.cuff = true) (w_route : w.route = true) (w_flt : w.flt = true) (w_pwr : w.pwr = true) (w_mem : w.mem = true) (w_freeCtr : w.freeCtr = true) (w_same : w.same = true) (h : Kept w r s) :
    Answers w r (execTelemetryReport s) := by
  unfold execTelemetryReport
  exact Answers.next (Kept.ite_ (State.telReport_kept w_cuff w_route w_flt w_pwr w_mem w_freeCtr w_same (State.telDrop_kept w_flt h))
    h)

theorem State.sinkTake_kept {w : Wr} {r s : State} {link : Nat} {f : Flit} (w_hbm : w.hbm = true) (w_mem : w.mem = true) (h : Kept w r s) :
    Kept w r (State.sinkTake s link f) := by
  unfold State.sinkTake
  lift_lets -underBinder
  intro x0 x1 x2; clear_value x0 x1 x2
  intro x3
  have h3 : Kept w r x3 := State.hbmWriteCap_kept w_hbm w_mem h
  clear_value x3
  exact Kept.ite_ (State.dropFull_kept h)
    (Kept.ite_ (State.count_kept h)
    (State.wr_kept (State.count_kept h3)))

theorem execTelemetrySink_kept {w : Wr} {r s : State} (w_hbm : w.hbm = true) (w_cuff : w.cuff = true) (w_route : w.route = true) (w_flt : w.flt = true) (w_pwr : w.pwr = true) (w_mem : w.mem = true) (w_same : w.same = true) (h : Kept w r s) :
    Answers w r (execTelemetrySink s) := by
  unfold execTelemetrySink
  split
  · rename_i heq; have h0 : (Kept w r) _ := of_ (KeptOP w r) (State.niTake_kept w_cuff w_route w_flt w_pwr w_mem w_same h) heq; exact Answers.next (State.sinkTake_kept w_hbm w_mem h0)
  · exact Answers.next (State.niLost_kept w_cuff w_route w_flt w_pwr w_mem w_same h)

end Sys2Proof.Machine
end

