-- ==== Sys2Proof/Laws/KeptAccess.lean ====
section
/-! SUPPORT. Sys2Proof/Laws/KeptAccess.lean: what each operation of Machine/Access.lean keeps (Kept, Laws/Kept.lean). -/
set_option Elab.async false
namespace Sys2Proof.Machine

theorem State.badRequest_kept {w : Wr} {r s : State} {bar2 : Bool} {write : Bool} {o : Nat} (w_same : w.same = true) (h : Kept w r s) :
    Kept w r (State.badRequest s bar2 write o) := by
  unfold State.badRequest
  exact State.accErr_kept w_same (State.emit_kept h)

theorem execBarAccessError_kept {w : Wr} {r : State} {bar2 : Bool} {write : Bool} {o : Nat} {s : State} (w_same : w.same = true) (h : Kept w r s) :
    Answers w r (execBarAccessError bar2 write o s) := by
  unfold execBarAccessError
  exact Answers.next (Kept.ite_ (State.badRequest_kept w_same h)
    h)

theorem State.msixFlush_kept {w : Wr} {r s : State} (w_flt : w.flt = true) (h : Kept w r s) :
    Kept w r (State.msixFlush s) := by
  unfold State.msixFlush
  exact Kept.ite_ (State.msixDue_kept w_flt (Kept.upd h (flt := .inl w_flt)))
    h

theorem execMsixUnmask_kept {w : Wr} {r : State} {enable : Bool} {s : State} (w_flt : w.flt = true) (h : Kept w r s) :
    Answers w r (execMsixUnmask enable s) := by
  unfold execMsixUnmask
  exact Answers.ite_ (Answers.next h)
    (Answers.next (State.msixFlush_kept w_flt (Kept.upd h (flt := .inl w_flt))))

theorem State.msixWrite_kept {w : Wr} {r s : State} {w0 : Nat} {m : Nat} {v : Word} (w_flt : w.flt = true) (h : Kept w r s) :
    Kept w r (State.msixWrite s w0 m v) := by
  unfold State.msixWrite
  lift_lets -underBinder
  intro x0 x1; clear_value x0 x1
  exact Kept.ite_ (Kept.upd h (flt := .inl w_flt))
    (State.msixFlush_kept w_flt (Kept.upd h (flt := .inl w_flt)))

theorem State.afterWrite_kept {w : Wr} {r s : State} {r0 : Reg.Info} {a : Nat} {v : Word} (w_bar2 : w.bar2 = true) (w_links : w.links = true) (w_cuff : w.cuff = true) (w_route : w.route = true) (w_flt : w.flt = true) (w_time : w.time = true) (w_pwr : w.pwr = true) (w_mem : w.mem = true) (w_bon : w.bon = true) (w_same : w.same = true) (h : Kept w r s) :
    Kept w r (State.afterWrite s r0 a v) := by
  unfold State.afterWrite
  exact Kept.ite_ (State.outFollow_kept w_cuff w_route w_flt w_time w_pwr w_same h)
    (Kept.ite_ (State.updFaultN_kept h)
    (Kept.ite_ (State.forEach_kept h (fun _ _ h0 => State.updMitten_kept w_links w_cuff w_route w_flt w_pwr w_same h0))
    (Kept.ite_ (State.bonLook_kept w_bar2 w_bon h)
    (Kept.ite_ (Kept.ite_ (State.wr_kept h)
    h)
    (Kept.ite_ (by
    lift_lets -underBinder
    intro x1; clear_value x1
    exact State.hbmCtrl_kept w_mem w_same h)
    (Kept.ite_ (by
    lift_lets -underBinder
    intro x2; clear_value x2
    exact State.setLinerBad_kept (State.setLinerBad_kept h))
    h))))))

theorem State.plainWrite_kept {w : Wr} {r s : State} {r0 : Reg.Info} {a : Nat} {m : Nat} {v : Word} (w_bar2 : w.bar2 = true) (w_links : w.links = true) (w_cuff : w.cuff = true) (w_route : w.route = true) (w_flt : w.flt = true) (w_time : w.time = true) (w_pwr : w.pwr = true) (w_mem : w.mem = true) (w_bon : w.bon = true) (w_same : w.same = true) (h : Kept w r s) :
    Kept w r (State.plainWrite s r0 a m v) := by
  unfold State.plainWrite
  lift_lets -underBinder
  intro x0 x1 x2; clear_value x0 x1 x2
  intro x3
  have h3 : Kept w r x3 := Kept.ite_ (State.flag_kept w_same h)
    h
  clear_value x3
  intro x4
  have h4 : Kept w r x4 := by
    unfold x4
    split
    · exact State.flag_kept w_same h3
    · exact h3
  clear_value x4
  intro x5 x6 x7 x8; clear_value x5 x6 x7 x8
  intro x9
  have h9 : Kept w r x9 := Kept.upd h4 (same := .inl w_same)
  clear_value x9
  intro x10
  have h10 : Kept w r x10 := Kept.ite_ (State.setD_kept w_time h9)
    h9
  clear_value x10
  exact State.afterWrite_kept w_bar2 w_links w_cuff w_route w_flt w_time w_pwr w_mem w_bon w_same (State.setReg_kept h10)

theorem State.bar0Write_kept {w : Wr} {r s : State} {o : Nat} {m : Nat} {v : Word} (w_bar2 : w.bar2 = true) (w_links : w.links = true) (w_cuff : w.cuff = true) (w_route : w.route = true) (w_flt : w.flt = true) (w_time : w.time = true) (w_pwr : w.pwr = true) (w_mem : w.mem = true) (w_bon : w.bon = true) (w_same : w.same = true) (h : Kept w r s) :
    Kept w r (State.bar0Write s o m v) := by
  unfold State.bar0Write
  lift_lets -underBinder
  intro x0; clear_value x0
  exact Kept.ite_ (State.msixWrite_kept w_flt h)
    (by
    split
    · exact h
    · exact Kept.ite_ (State.plainWrite_kept w_bar2 w_links w_cuff w_route w_flt w_time w_pwr w_mem w_bon w_same h)
          (State.accErr_kept w_same h))

theorem State.bar2Plain_kept {w : Wr} {r s : State} {o : Nat} {v : Word} (w_bar2 : w.bar2 = true) (w_same : w.same = true) (h : Kept w r s) :
    Kept w r (State.bar2Plain s o v) := by
  unfold State.bar2Plain
  exact Kept.ite_ (State.accErr_kept w_same h)
    (Kept.ite_ (State.setTab_kept w_bar2 h)
    h)

theorem execRegisterWrite_kept {w : Wr} {r : State} {bar2 : Bool} {o : Nat} {half : Option Bool} {v : Word} {s : State} (w_bar2 : w.bar2 = true) (w_links : w.links = true) (w_cuff : w.cuff = true) (w_route : w.route = true) (w_flt : w.flt = true) (w_time : w.time = true) (w_pwr : w.pwr = true) (w_mem : w.mem = true) (w_bon : w.bon = true) (w_same : w.same = true) (h : Kept w r s) :
    Answers w r (execRegisterWrite bar2 o half v s) := by
  unfold execRegisterWrite
  exact Answers.ite_ (Answers.next h)
    (Answers.ite_ (Answers.next (State.badRequest_kept w_same h))
    (Answers.ite_ (Answers.next (State.bar2Plain_kept w_bar2 w_same h))
    (Answers.next (State.bar0Write_kept w_bar2 w_links w_cuff w_route w_flt w_time w_pwr w_mem w_bon w_same h))))

theorem State.clearCounter_kept {w : Wr} {r s : State} {a : Nat} (w_flt : w.flt = true) (w_same : w.same = true) (h : Kept w r s) :
    Kept w r (State.clearCounter s a) := by
  unfold State.clearCounter
  lift_lets -underBinder
  intro x0
  have h0 : Kept w r x0 := State.setReg_kept h
  clear_value x0
  intro x1 x2; clear_value x1 x2
  exact Kept.upd h0 (flt := .inl w_flt) (same := .inl w_same)

theorem execCounterClear_kept {w : Wr} {r s : State} {o : Nat} (w_flt : w.flt = true) (w_same : w.same = true) (h : Kept w r s) :
    Answers w r (execCounterClear o s) := by
  unfold execCounterClear
  generalize Reg.find (bar0Addr o) = x
  cases x with
  | none => exact Answers.next h
  | some x => exact Answers.next (Kept.ite_ (State.busWrite_kept w_same h fun _ h0 => State.clearCounter_kept w_flt w_same h0) h)

theorem State.clearMarks_kept {w : Wr} {r s : State} {r0 : Reg.Info} {a : Nat} (h : Kept w r s) :
    Kept w r (State.clearMarks s r0 a) := by
  unfold State.clearMarks
  exact State.forEach_kept h (fun _ _ h0 => State.clearMark_kept h0)

theorem execHwmClear_kept {w : Wr} {r s : State} {o : Nat} (w_same : w.same = true) (h : Kept w r s) :
    Answers w r (execHwmClear o s) := by
  unfold execHwmClear
  generalize Reg.find (bar0Addr o) = x
  cases x with
  | none => exact Answers.next h
  | some x => exact Answers.next (State.busWrite_kept w_same h fun _ h0 => State.clearMarks_kept h0)

theorem execSmbusBlockWrite_kept {w : Wr} {r : State} {o : BitVec 32} {s : State} (w_pwr : w.pwr = true) (h : Kept w r s) :
    Answers w r (execSmbusBlockWrite o s) := by
  unfold execSmbusBlockWrite
  exact Answers.next (Kept.ite_ (Kept.upd h (pwr := .inl w_pwr))
    h)

theorem execSmbusBlockRead_kept {w : Wr} {r s : State} (h : Kept w r s) :
    Answers w r (execSmbusBlockRead s) := by
  unfold execSmbusBlockRead
  lift_lets -underBinder
  intro x0 x1; clear_value x0 x1
  exact Answers.next (Kept.ite_ (State.emit_kept h)
    h)

theorem State.mgmtTake_kept {w : Wr} {r s : State} {kind : Flit → Bool} (w_cuff : w.cuff = true) (w_route : w.route = true) (w_flt : w.flt = true) (w_pwr : w.pwr = true) (w_mem : w.mem = true) (w_same : w.same = true) (h : Kept w r s) :
    KeptOP w r (State.mgmtTake s kind) := by
  unfold State.mgmtTake
  split
  · rename_i heq; have h0 : (KeptP w r) _ := of_ (KeptOP w r) (State.niTake_kept w_cuff w_route w_flt w_pwr w_mem w_same h) heq; exact KeptOP.ite_ (KeptOP.some h0)
        (KeptOP.none)
  · exact KeptOP.none

theorem State.respond_kept {w : Wr} {r s : State} {f : Flit} {status : Nat} {data : Nat} (w_cuff : w.cuff = true) (w_route : w.route = true) (w_flt : w.flt = true) (w_pwr : w.pwr = true) (w_mem : w.mem = true) (w_freeCtr : w.freeCtr = true) (w_same : w.same = true) (h : Kept w r s) :
    Kept w r (State.respond s f status data) := by
  unfold State.respond
  lift_lets -underBinder
  intro x0; clear_value x0
  exact State.inject_kept w_cuff w_route w_flt w_pwr w_mem w_freeCtr w_same h

theorem State.mgRefuse_kept {w : Wr} {r s : State} {f : Flit} {status : Nat} (w_cuff : w.cuff = true) (w_route : w.route = true) (w_flt : w.flt = true) (w_pwr : w.pwr = true) (w_mem : w.mem = true) (w_freeCtr : w.freeCtr = true) (w_same : w.same = true) (h : Kept w r s) :
    Kept w r (State.mgRefuse s f status) := by
  unfold State.mgRefuse
  exact State.respond_kept w_cuff w_route w_flt w_pwr w_mem w_freeCtr w_same (State.count_kept h)

theorem State.mgRead_kept {w : Wr} {r s : State} {f : Flit} (w_cuff : w.cuff = true) (w_route : w.route = true) (w_flt : w.flt = true) (w_pwr : w.pwr = true) (w_mem : w.mem = true) (w_freeCtr : w.freeCtr = true) (w_same : w.same = true) (h : Kept w r s) :
    Kept w r (State.mgRead s f) := by
  unfold State.mgRead
  lift_lets -underBinder
  intro x0 x1; clear_value x0 x1
  intro x2
  have h2 : Kept w r x2 := by
    unfold x2
    split
    · exact State.accErr_kept w_same h
    · exact h
  clear_value x2
  exact State.respond_kept w_cuff w_route w_flt w_pwr w_mem w_freeCtr w_same (State.count_kept h2)

theorem execMgmtRead_kept {w : Wr} {r s : State} (w_cuff : w.cuff = true) (w_route : w.route = true) (w_flt : w.flt = true) (w_pwr : w.pwr = true) (w_mem : w.mem = true) (w_freeCtr : w.freeCtr = true) (w_same : w.same = true) (h : Kept w r s) :
    Answers w r (execMgmtRead s) := by
  unfold execMgmtRead
  split
  · exact Answers.next (State.niLost_kept w_cuff w_route w_flt w_pwr w_mem w_same h)
  · rename_i heq; have h0 : (Kept w r) _ := of_ (KeptOP w r) (State.mgmtTake_kept w_cuff w_route w_flt w_pwr w_mem w_same h) heq; exact Answers.next (Kept.ite_ (State.mgRefuse_kept w_cuff w_route w_flt w_pwr w_mem w_freeCtr w_same h0)
        (State.mgRead_kept w_cuff w_route w_flt w_pwr w_mem w_freeCtr w_same h0))

theorem State.markMgmt_kept {w : Wr} {r s : State} {k : Nat} {x : Nat} (w_same : w.same = true) (h : Kept w r s) :
    Kept w r (State.markMgmt s k x) := by
  unfold State.markMgmt
  exact Kept.upd h (same := .inl w_same)

theorem State.mgRw_kept {w : Wr} {r s : State} {bar2 : Bool} {o : Nat} {v : Word} (w_bar2 : w.bar2 = true) (w_links : w.links = true) (w_cuff : w.cuff = true) (w_route : w.route = true) (w_flt : w.flt = true) (w_time : w.time = true) (w_pwr : w.pwr = true) (w_mem : w.mem = true) (w_bon : w.bon = true) (w_same : w.same = true) (h : Kept w r s) :
    Kept w r (State.mgRw s bar2 o v) := by
  unfold State.mgRw
  exact Kept.ite_ (State.markMgmt_kept w_same (State.routeWrite_kept w_bar2 w_mem w_same h))
    (by
    split
    · exact State.markMgmt_kept w_same (State.plainWrite_kept w_bar2 w_links w_cuff w_route w_flt w_time w_pwr w_mem w_bon w_same h)
    · exact h)

theorem State.mgAct_kept {w : Wr} {r s : State} {bar2 : Bool} {o : Nat} {v : Word} (w_same : w.same = true) (h : Kept w r s) :
    Kept w r (State.mgAct s bar2 o v) := by
  unfold State.mgAct
  exact Kept.ite_ h
    (Kept.ite_ (by
    lift_lets -underBinder
    intro x0; clear_value x0
    intro x1
    have h1 : Kept w r x1 := Kept.ite_ (State.wr_kept h)
      h
    clear_value x1
    exact Kept.ite_ (State.epochArm_kept w_same h1)
      h1)
    (Kept.ite_ (State.orderSnap_kept w_same h)
    h))

theorem State.mgWrite_kept {w : Wr} {r s : State} {f : Flit} (w_bar2 : w.bar2 = true) (w_links : w.links = true) (w_cuff : w.cuff = true) (w_route : w.route = true) (w_flt : w.flt = true) (w_time : w.time = true) (w_pwr : w.pwr = true) (w_mem : w.mem = true) (w_bon : w.bon = true) (w_freeCtr : w.freeCtr = true) (w_same : w.same = true) (h : Kept w r s) :
    Kept w r (State.mgWrite s f) := by
  unfold State.mgWrite
  lift_lets -underBinder
  intro x0; clear_value x0
  intro x1
  have h1 : Kept w r x1 := State.forEach_kept h (fun _ _ h2 => State.mgRw_kept w_bar2 w_links w_cuff w_route w_flt w_time w_pwr w_mem w_bon w_same h2)
  clear_value x1
  intro x3
  have h3 : Kept w r x3 := State.forEach_kept h1 (fun _ _ h4 => State.mgAct_kept w_same h4)
  clear_value x3
  exact State.respond_kept w_cuff w_route w_flt w_pwr w_mem w_freeCtr w_same (State.count_kept h3)

theorem State.mgViolation_kept {w : Wr} {r s : State} {link : Nat} {f : Flit} (w_links : w.links = true) (w_cuff : w.cuff = true) (w_route : w.route = true) (w_flt : w.flt = true) (w_pwr : w.pwr = true) (w_same : w.same = true) (h : Kept w r s) :
    Kept w r (State.mgViolation s link f) := by
  unfold State.mgViolation
  exact Kept.ite_ (State.mittenViol_kept w_links w_cuff w_route w_flt w_pwr w_same h)
    (State.fault_kept w_cuff w_route w_flt w_pwr w_same h)

theorem State.mgWriteRefused_kept {w : Wr} {r s : State} {link : Nat} {f : Flit} {status : Nat} (w_links : w.links = true) (w_cuff : w.cuff = true) (w_route : w.route = true) (w_flt : w.flt = true) (w_pwr : w.pwr = true) (w_mem : w.mem = true) (w_freeCtr : w.freeCtr = true) (w_same : w.same = true) (h : Kept w r s) :
    Kept w r (State.mgWriteRefused s link f status) := by
  unfold State.mgWriteRefused
  lift_lets -underBinder
  intro x0
  have h0 : Kept w r x0 := by
    unfold x0
    split
    · exact State.mgViolation_kept w_links w_cuff w_route w_flt w_pwr w_same (State.accErr_kept w_same h)
    · exact by
          split
          · exact Kept.ite_ (State.accErr_kept w_same h)
                h
          · exact h
  clear_value x0
  exact State.mgRefuse_kept w_cuff w_route w_flt w_pwr w_mem w_freeCtr w_same h0

theorem execMgmtWrite_kept {w : Wr} {r s : State} (w_bar2 : w.bar2 = true) (w_links : w.links = true) (w_cuff : w.cuff = true) (w_route : w.route = true) (w_flt : w.flt = true) (w_time : w.time = true) (w_pwr : w.pwr = true) (w_mem : w.mem = true) (w_bon : w.bon = true) (w_freeCtr : w.freeCtr = true) (w_same : w.same = true) (h : Kept w r s) :
    Answers w r (execMgmtWrite s) := by
  unfold execMgmtWrite
  split
  · exact Answers.next (State.niLost_kept w_cuff w_route w_flt w_pwr w_mem w_same h)
  · rename_i heq; have h0 : (Kept w r) _ := of_ (KeptOP w r) (State.mgmtTake_kept w_cuff w_route w_flt w_pwr w_mem w_same h) heq; exact Answers.ite_ (Answers.next (State.mgWriteRefused_kept w_links w_cuff w_route w_flt w_pwr w_mem w_freeCtr w_same h0))
        (Answers.next (State.mgWrite_kept w_bar2 w_links w_cuff w_route w_flt w_time w_pwr w_mem w_bon w_freeCtr w_same h0))

theorem execMgmtDiscard_kept {w : Wr} {r s : State} (w_links : w.links = true) (w_cuff : w.cuff = true) (w_route : w.route = true) (w_flt : w.flt = true) (w_pwr : w.pwr = true) (w_mem : w.mem = true) (w_same : w.same = true) (h : Kept w r s) :
    Answers w r (execMgmtDiscard s) := by
  unfold execMgmtDiscard
  split
  · exact Answers.next (State.niLost_kept w_cuff w_route w_flt w_pwr w_mem w_same h)
  · rename_i heq; have h0 : (Kept w r) _ := of_ (KeptOP w r) (State.mgmtTake_kept w_cuff w_route w_flt w_pwr w_mem w_same h) heq; exact by
        lift_lets -underBinder
        intro x1
        have h1 : Kept w r x1 := State.count_kept h0
        clear_value x1
        exact Answers.next (Kept.ite_ (State.mgViolation_kept w_links w_cuff w_route w_flt w_pwr w_same h1)
          h1)

end Sys2Proof.Machine
end

