-- ==== Sys2Proof/Laws/KeptLink.lean ====
section
/-! SUPPORT. Sys2Proof/Laws/KeptLink.lean: what each operation of Machine/Link.lean keeps (Kept, Laws/Kept.lean). -/
set_option Elab.async false
namespace Sys2Proof.Machine

theorem State.declare_kept {w : Wr} {r s : State} {x : Nat} (w_links : w.links = true) (w_cuff : w.cuff = true) (w_route : w.route = true) (w_flt : w.flt = true) (w_pwr : w.pwr = true) (w_mem : w.mem = true) (w_same : w.same = true) (h : Kept w r s) :
    Kept w r (State.declare s x) := by
  unfold State.declare
  split
  · exact State.failover_kept w_links w_cuff w_route w_flt w_pwr w_mem w_same h
  · exact h

theorem State.declareMember_kept {w : Wr} {r s : State} {l : Nat} {m : Nat} (w_links : w.links = true) (w_cuff : w.cuff = true) (w_route : w.route = true) (w_flt : w.flt = true) (w_pwr : w.pwr = true) (w_mem : w.mem = true) (w_same : w.same = true) (h : Kept w r s) :
    Kept w r (State.declareMember s l m) := by
  unfold State.declareMember
  split
  · exact State.declare_kept w_links w_cuff w_route w_flt w_pwr w_mem w_same h
  · exact h

theorem State.acceptSeq_kept {w : Wr} {r s : State} {l : Nat} {c : Nat} (w_links : w.links = true) (h : Kept w r s) :
    Kept w r (State.acceptSeq s l c) := by
  unfold State.acceptSeq
  lift_lets -underBinder
  intro x0; clear_value x0
  exact State.setCls_kept w_links (State.wr_kept h)

theorem State.rejectSeq_kept {w : Wr} {r s : State} {l : Nat} {c : Nat} {f : Flit} (w_links : w.links = true) (h : Kept w r s) :
    Kept w r (State.rejectSeq s l c f) := by
  unfold State.rejectSeq
  exact Kept.ite_ (Kept.ite_ (State.openNak_kept w_links h)
    h)
    (State.count_kept h)

theorem State.carriedBy_kept {w : Wr} {r s : State} {l : Nat} {f : Flit} (w_links : w.links = true) (w_cuff : w.cuff = true) (w_route : w.route = true) (w_flt : w.flt = true) (w_pwr : w.pwr = true) (w_mem : w.mem = true) (w_same : w.same = true) (h : Kept w r s) :
    Kept w r (State.carriedBy s l f) := by
  unfold State.carriedBy
  exact Kept.ite_ (State.declareMember_kept w_links w_cuff w_route w_flt w_pwr w_mem w_same h)
    h

theorem State.rxSched_kept {w : Wr} {r s : State} {l : Nat} {f : Flit} (w_links : w.links = true) (w_cuff : w.cuff = true) (w_route : w.route = true) (w_flt : w.flt = true) (w_pwr : w.pwr = true) (w_mem : w.mem = true) (w_same : w.same = true) (h : Kept w r s) :
    Kept w r (State.rxSched s l f) := by
  unfold State.rxSched
  exact Kept.ite_ (State.rejectSeq_kept w_links h)
    (by
    lift_lets -underBinder
    intro x0
    have h0 : Kept w r x0 := State.carriedBy_kept w_links w_cuff w_route w_flt w_pwr w_mem w_same (State.acceptSeq_kept w_links h)
    clear_value x0
    intro x1; clear_value x1
    exact Kept.ite_ (State.count_kept h0)
      (State.setLk_kept w_links h0))

theorem State.rxLoose_kept {w : Wr} {r s : State} {l : Nat} {f : Flit} (w_links : w.links = true) (w_cuff : w.cuff = true) (w_route : w.route = true) (w_flt : w.flt = true) (w_pwr : w.pwr = true) (w_mem : w.mem = true) (w_freeCtr : w.freeCtr = true) (w_same : w.same = true) (h : Kept w r s) :
    Kept w r (State.rxLoose s l f) := by
  unfold State.rxLoose
  exact Kept.ite_ (State.rejectSeq_kept w_links h)
    (Kept.ite_ (State.count_kept (State.carriedBy_kept w_links w_cuff w_route w_flt w_pwr w_mem w_same (State.acceptSeq_kept w_links h)))
    (by
    lift_lets -underBinder
    intro x0
    have h0 : KeptP w r x0 := State.offer_kept w_links w_cuff w_route w_flt w_pwr w_freeCtr w_same h
    clear_value x0
    exact Kept.ite_ (State.retryWait_kept w_route w_freeCtr (State.carriedBy_kept w_links w_cuff w_route w_flt w_pwr w_mem w_same (State.acceptSeq_kept w_links h0)))
      (State.count_kept h0)))

theorem State.slotErrored_kept {w : Wr} {r s : State} {l : Nat} {depart : Nat} {codewords : List Nat} (w_links : w.links = true) (h : Kept w r s) :
    Kept w r (State.slotErrored s l depart codewords) := by
  unfold State.slotErrored
  lift_lets -underBinder
  intro x0
  have h0 : Kept w r x0 := State.count_kept (State.count_kept h)
  clear_value x0
  intro x1; clear_value x1
  intro x2
  have h2 : Kept w r x2 := Kept.ite_ h0
    (State.openNak_kept w_links h0)
  clear_value x2
  exact Kept.ite_ h2
    (State.openNak_kept w_links h2)

theorem State.takeSlot_kept {w : Wr} {r s : State} {l : Nat} {x : Nat} (w_links : w.links = true) (w_cuff : w.cuff = true) (w_route : w.route = true) (w_flt : w.flt = true) (w_pwr : w.pwr = true) (w_mem : w.mem = true) (w_freeCtr : w.freeCtr = true) (w_same : w.same = true) (h : Kept w r s) :
    Kept w r (State.takeSlot s l x) := by
  unfold State.takeSlot
  exact Kept.ite_ h
    (Kept.ite_ (State.slotErrored_kept w_links h)
    (by
    split
    · exact State.rxSched_kept w_links w_cuff w_route w_flt w_pwr w_mem w_same h
    · exact State.rxLoose_kept w_links w_cuff w_route w_flt w_pwr w_mem w_freeCtr w_same h
    · exact h))

theorem execScheduledFlitRx_kept {w : Wr} {r : State} {l : Fin 24} {slot : BitVec 3200} {s : State} (w_links : w.links = true) (w_cuff : w.cuff = true) (w_route : w.route = true) (w_flt : w.flt = true) (w_pwr : w.pwr = true) (w_mem : w.mem = true) (w_freeCtr : w.freeCtr = true) (w_same : w.same = true) (h : Kept w r s) :
    Answers w r (execScheduledFlitRx l slot s) := by
  unfold execScheduledFlitRx
  exact Answers.next (State.takeSlot_kept w_links w_cuff w_route w_flt w_pwr w_mem w_freeCtr w_same h)

theorem execLooseFlitRx_kept {w : Wr} {r : State} {l : Fin 24} {slot : BitVec 3200} {s : State} (w_links : w.links = true) (w_cuff : w.cuff = true) (w_route : w.route = true) (w_flt : w.flt = true) (w_pwr : w.pwr = true) (w_mem : w.mem = true) (w_freeCtr : w.freeCtr = true) (w_same : w.same = true) (h : Kept w r s) :
    Answers w r (execLooseFlitRx l slot s) := by
  unfold execLooseFlitRx
  exact Answers.next (State.takeSlot_kept w_links w_cuff w_route w_flt w_pwr w_mem w_freeCtr w_same h)

theorem execNullFlitRx_kept {w : Wr} {r : State} {l : Fin 24} {slot : BitVec 3200} {s : State} (w_links : w.links = true) (w_cuff : w.cuff = true) (w_route : w.route = true) (w_flt : w.flt = true) (w_pwr : w.pwr = true) (w_mem : w.mem = true) (w_freeCtr : w.freeCtr = true) (w_same : w.same = true) (h : Kept w r s) :
    Answers w r (execNullFlitRx l slot s) := by
  unfold execNullFlitRx
  exact Answers.next (State.takeSlot_kept w_links w_cuff w_route w_flt w_pwr w_mem w_freeCtr w_same h)

theorem execErroredSlot_kept {w : Wr} {r : State} {l : Fin 24} {depart : Nat} {codewords : List Nat} {s : State} (w_links : w.links = true) (h : Kept w r s) :
    Answers w r (execErroredSlot l depart codewords s) := by
  unfold execErroredSlot
  exact Answers.next (Kept.ite_ h
    (State.slotErrored_kept w_links h))

theorem State.takeNak_kept {w : Wr} {r s : State} {l : Nat} {c : Nat} {ack : Nat} {nnum : Nat} (w_links : w.links = true) (h : Kept w r s) :
    Kept w r (State.takeNak s l c ack nnum) := by
  unfold State.takeNak
  lift_lets -underBinder
  intro x0; clear_value x0
  intro x1
  have h1 : Kept w r x1 := State.count_kept (State.setCls_kept w_links h)
  clear_value x1
  exact Kept.ite_ h
    (by
    split
    · exact by
          lift_lets -underBinder
          intro x2; clear_value x2
          exact State.setCls_kept w_links h1
    · exact h1)

theorem State.seamReport_kept {w : Wr} {r s : State} {l : Nat} {idx : Nat} (w_links : w.links = true) (h : Kept w r s) :
    Kept w r (State.seamReport s l idx) := by
  unfold State.seamReport
  lift_lets -underBinder
  intro x0 x1; clear_value x0 x1
  exact State.wr_kept (State.wr_kept (State.setLk_kept w_links h))

theorem State.applyLcw_kept {w : Wr} {r s : State} {l : Nat} {w0 : Nat} (w_links : w.links = true) (w_cuff : w.cuff = true) (w_route : w.route = true) (w_flt : w.flt = true) (w_pwr : w.pwr = true) (w_mem : w.mem = true) (w_same : w.same = true) (h : Kept w r s) :
    Kept w r (State.applyLcw s l w0) := by
  unfold State.applyLcw
  lift_lets -underBinder
  intro x0; clear_value x0
  intro x1
  have h1 : Kept w r x1 := State.setLk_kept w_links h
  clear_value x1
  intro x2
  have h2 : Kept w r x2 := State.wr_kept h1
  clear_value x2
  intro x3
  have h3 : Kept w r x3 := State.applyAck_kept w_links (State.applyAck_kept w_links h2)
  clear_value x3
  intro x4
  have h4 : Kept w r x4 := Kept.ite_ (State.takeNak_kept w_links h3)
    h3
  clear_value x4
  intro x5
  have h5 : Kept w r x5 := Kept.ite_ (State.takeNak_kept w_links h4)
    h4
  clear_value x5
  intro x6
  have h6 : Kept w r x6 := Kept.ite_ (State.seamReport_kept w_links h5)
    h5
  clear_value x6
  intro x7
  have h7 : Kept w r x7 := Kept.ite_ (State.declare_kept w_links w_cuff w_route w_flt w_pwr w_mem w_same h6)
    h6
  clear_value x7
  exact Kept.ite_ (State.declareMember_kept w_links w_cuff w_route w_flt w_pwr w_mem w_same h7)
    h7

theorem execLcwReceived_kept {w : Wr} {r : State} {l : Fin 24} {w0 : Nat} {errored : Bool} {s : State} (w_links : w.links = true) (w_cuff : w.cuff = true) (w_route : w.route = true) (w_flt : w.flt = true) (w_pwr : w.pwr = true) (w_mem : w.mem = true) (w_same : w.same = true) (h : Kept w r s) :
    Answers w r (execLcwReceived l w0 errored s) := by
  unfold execLcwReceived
  exact Answers.ite_ (Answers.next h)
    (Answers.ite_ (Answers.next (State.count_kept h))
    (Answers.next (State.applyLcw_kept w_links w_cuff w_route w_flt w_pwr w_mem w_same h)))

theorem execIdent_kept {w : Wr} {r : State} {l : Fin 24} {serial : Word} {link : Fin 32} {seat : Fin 4096} {mitten : Fin 4096} {s : State} (w_links : w.links = true) (w_cuff : w.cuff = true) (w_route : w.route = true) (w_flt : w.flt = true) (w_pwr : w.pwr = true) (w_same : w.same = true) (h : Kept w r s) :
    Answers w r (execIdent l serial link seat mitten s) := by
  unfold execIdent
  exact Answers.ite_ (Answers.next h)
    (by
    lift_lets -underBinder
    intro x0; clear_value x0
    intro x1
    have h1 : Kept w r x1 := State.setLk_kept w_links h
    clear_value x1
    exact Answers.next (State.discover_kept w_links w_cuff w_route w_flt w_pwr w_same (State.wr_kept h1)))

theorem State.takeCredit_kept {w : Wr} {r s : State} {l : Nat} {v : Nat} {n : Nat} (w_links : w.links = true) (h : Kept w r s) :
    Kept w r (State.takeCredit s l v n) := by
  unfold State.takeCredit
  lift_lets -underBinder
  intro x0 x1; clear_value x0 x1
  exact State.wr_kept (State.setLk_kept w_links h)

theorem execCredit_kept {w : Wr} {r : State} {l : Fin 24} {counts : List Nat} {s : State} (w_links : w.links = true) (h : Kept w r s) :
    Answers w r (execCredit l counts s) := by
  unfold execCredit
  exact Answers.ite_ (Answers.next h)
    (Answers.next (State.forEach_kept h (fun _ _ h0 => State.takeCredit_kept w_links h0)))

theorem State.followTrain_kept {w : Wr} {r s : State} {l : Nat} {code : Nat} {cause : Nat} (w_links : w.links = true) (w_cuff : w.cuff = true) (w_route : w.route = true) (w_flt : w.flt = true) (w_pwr : w.pwr = true) (w_mem : w.mem = true) (w_same : w.same = true) (h : Kept w r s) :
    Kept w r (State.followTrain s l code cause) := by
  unfold State.followTrain
  lift_lets -underBinder
  intro x0; clear_value x0
  intro x1
  have h1 : Kept w r x1 := State.setLk_kept w_links h
  clear_value x1
  exact by
    split
    · exact State.failover_kept w_links w_cuff w_route w_flt w_pwr w_mem w_same h1
    · exact by
          split
          · exact State.leaveUp_kept w_links w_cuff w_route w_flt w_pwr w_same h1
          · exact by
                lift_lets -underBinder
                intro x2
                have h2 : Kept w r x2 := State.leaveUp_kept w_links w_cuff w_route w_flt w_pwr w_same h1
                clear_value x2
                intro x3; clear_value x3
                exact State.setLk_kept w_links h2
          · exact State.leaveUp_kept w_links w_cuff w_route w_flt w_pwr w_same h1

theorem State.trainRequest_kept {w : Wr} {r s : State} {l : Nat} {code : Nat} {serial : Nat} {link : Nat} (w_links : w.links = true) (h : Kept w r s) :
    Kept w r (State.trainRequest s l code serial link) := by
  unfold State.trainRequest
  exact Kept.ite_ h
    (by
    lift_lets -underBinder
    intro x0
    have h0 : ∀ y1, (Kept w r) y1 → (Kept w r) (x0 y1) := fun _ h1 => State.setLk_kept w_links h1
    clear_value x0
    intro x2
    have h2 : Kept w r x2 := State.count_kept h
    clear_value x2
    exact Kept.ite_ (Kept.ite_ h2
      (h0 _ h2))
      (h0 _ h))

theorem execReqQuick_kept {w : Wr} {r : State} {l : Fin 24} {serial : Word} {link : Fin 32} {width : Fin 16} {group : Fin 8} {s : State} (w_links : w.links = true) (h : Kept w r s) :
    Answers w r (execReqQuick l serial link width group s) := by
  unfold execReqQuick
  exact Answers.next (State.trainRequest_kept w_links (State.setLk_kept w_links h))

theorem execReqFull_kept {w : Wr} {r : State} {l : Fin 24} {serial : Word} {link : Fin 32} {width : Fin 16} {group : Fin 8} {s : State} (w_links : w.links = true) (h : Kept w r s) :
    Answers w r (execReqFull l serial link width group s) := by
  unfold execReqFull
  exact Answers.next (State.trainRequest_kept w_links (State.setLk_kept w_links h))

theorem execReqWidth_kept {w : Wr} {r : State} {l : Fin 24} {serial : Word} {link : Fin 32} {width : Fin 16} {group : Fin 8} {s : State} (w_links : w.links = true) (h : Kept w r s) :
    Answers w r (execReqWidth l serial link width group s) := by
  unfold execReqWidth
  exact Answers.next (State.trainRequest_kept w_links (State.setLk_kept w_links h))

theorem execTrainAccept_kept {w : Wr} {r : State} {l : Fin 24} {s : State} (w_links : w.links = true) (w_cuff : w.cuff = true) (w_route : w.route = true) (w_flt : w.flt = true) (w_pwr : w.pwr = true) (w_mem : w.mem = true) (w_same : w.same = true) (h : Kept w r s) :
    Answers w r (execTrainAccept l s) := by
  unfold execTrainAccept
  exact Answers.ite_ (Answers.next h)
    (by
    split
    · exact Answers.next (State.followTrain_kept w_links w_cuff w_route w_flt w_pwr w_mem w_same h)
    · exact Answers.next h)

theorem execTrainRequestTimeout_kept {w : Wr} {r : State} {l : Fin 24} {s : State} (w_links : w.links = true) (w_cuff : w.cuff = true) (w_route : w.route = true) (w_flt : w.flt = true) (w_pwr : w.pwr = true) (w_mem : w.mem = true) (w_same : w.same = true) (h : Kept w r s) :
    Answers w r (execTrainRequestTimeout l s) := by
  unfold execTrainRequestTimeout
  split
  · exact Answers.ite_ (Answers.next h)
        (Answers.ite_ (Answers.next (State.setLk_kept w_links h))
        (Answers.next (State.dropLink_kept w_links w_cuff w_route w_flt w_pwr w_mem w_same h)))
  · exact Answers.next h

theorem execLcwTransmit_kept {w : Wr} {r : State} {l : Fin 24} {s : State} (w_crown : w.crown = true) (w_links : w.links = true) (w_cuff : w.cuff = true) (w_route : w.route = true) (w_flt : w.flt = true) (w_pwr : w.pwr = true) (w_mem : w.mem = true) (w_same : w.same = true) (h : Kept w r s) :
    Answers w r (execLcwTransmit l s) := by
  unfold execLcwTransmit
  exact Answers.ite_ (Answers.next h)
    (by
    split
    · exact Answers.next (State.sendRsp_kept w_crown w_links h)
    · exact by
          split
          · exact Answers.ite_ (by
                split
                · exact Answers.next (State.followTrain_kept w_links w_cuff w_route w_flt w_pwr w_mem w_same (State.sendTrain_kept w_links h))
                · exact Answers.next (State.sendTrain_kept w_links h))
                (by
                lift_lets -underBinder
                intro x0; clear_value x0
                intro x1
                have h1 : Kept w r x1 := State.sendTrain_kept w_links h
                clear_value x1
                intro x2; clear_value x2
                exact Answers.next (State.setLk_kept w_links h1))
          · exact Answers.next (State.sendLater_kept w_crown w_links h))

theorem State.oppRefused_kept {w : Wr} {r s : State} {l : Nat} {n : Nat} (w_links : w.links = true) (h : Kept w r s) :
    Kept w r (State.oppRefused s l n) := by
  unfold State.oppRefused
  exact Kept.ite_ (State.setLk_kept w_links h)
    h

theorem execReplayStart_kept {w : Wr} {r : State} {l : Fin 24} {c : Fin 2} {s : State} (w_links : w.links = true) (w_cuff : w.cuff = true) (w_route : w.route = true) (w_flt : w.flt = true) (w_pwr : w.pwr = true) (w_mem : w.mem = true) (w_same : w.same = true) (h : Kept w r s) :
    Answers w r (execReplayStart l c s) := by
  unfold execReplayStart
  lift_lets -underBinder
  intro x0; clear_value x0
  exact by
    split
    · exact by
          lift_lets -underBinder
          intro x1
          have h1 : Kept w r x1 := State.setCls_kept w_links h
          clear_value x1
          intro x2
          have h2 : Kept w r x2 := Kept.ite_ (State.oppRefused_kept w_links h1)
            h1
          clear_value x2
          exact Answers.next (Kept.ite_ (State.startReplay_kept w_links w_cuff w_route w_flt w_pwr w_mem w_same h2)
            h2)
    · exact Answers.next h

theorem execReplayTimer_kept {w : Wr} {r : State} {l : Fin 24} {c : Fin 2} {s : State} (w_links : w.links = true) (w_cuff : w.cuff = true) (w_route : w.route = true) (w_flt : w.flt = true) (w_pwr : w.pwr = true) (w_mem : w.mem = true) (w_same : w.same = true) (h : Kept w r s) :
    Answers w r (execReplayTimer l c s) := by
  unfold execReplayTimer
  split
  · exact Answers.ite_ (Answers.next h)
        (by
        lift_lets -underBinder
        intro x0
        have h0 : Kept w r x0 := Kept.ite_ (State.oppRefused_kept w_links h)
          h
        clear_value x0
        exact Answers.next (State.startReplay_kept w_links w_cuff w_route w_flt w_pwr w_mem w_same h0))
  · exact Answers.next h

theorem execLinkEnable_kept {w : Wr} {r : State} {l : Fin 24} {s : State} (w_links : w.links = true) (w_same : w.same = true) (h : Kept w r s) :
    Answers w r (execLinkEnable l s) := by
  unfold execLinkEnable
  exact Answers.next (State.busWrite_kept w_same h (fun _ h0 => Kept.ite_ h0
      (by
      lift_lets -underBinder
      intro x1
      have h1 : Kept w r x1 := State.wr_kept (State.wr_kept (State.drvWr_kept w_same h0))
      clear_value x1
      intro x2; clear_value x2
      exact State.setTraining_kept w_links (State.setLk_kept w_links h1))))

theorem execLinkDisable_kept {w : Wr} {r : State} {l : Fin 24} {s : State} (w_links : w.links = true) (w_cuff : w.cuff = true) (w_route : w.route = true) (w_flt : w.flt = true) (w_pwr : w.pwr = true) (w_same : w.same = true) (h : Kept w r s) :
    Answers w r (execLinkDisable l s) := by
  unfold execLinkDisable
  exact Answers.next (State.busWrite_kept w_same h (fun _ h0 => by
      lift_lets -underBinder
      intro x1 x2 x3; clear_value x1 x2 x3
      intro x4
      have h4 : Kept w r x4 := State.setLk_kept w_links (State.drvWr_kept w_same h0)
      clear_value x4
      exact State.discover_kept w_links w_cuff w_route w_flt w_pwr w_same (State.wr_kept (State.setTraining_kept w_links h4))))

theorem execLinkRetrain_kept {w : Wr} {r : State} {l : Fin 24} {s : State} (w_links : w.links = true) (w_same : w.same = true) (h : Kept w r s) :
    Answers w r (execLinkRetrain l s) := by
  unfold execLinkRetrain
  exact Answers.next (State.busWrite_kept w_same h (fun _ h0 => Kept.ite_ (State.setLk_kept w_links h0)
      h0))

theorem execSignalDetect_kept {w : Wr} {r : State} {l : Fin 24} {s : State} (w_links : w.links = true) (h : Kept w r s) :
    Answers w r (execSignalDetect l s) := by
  unfold execSignalDetect
  exact Answers.ite_ (Answers.next h)
    (Answers.next (State.setTraining_kept w_links (State.setLk_kept w_links h)))

theorem State.propose_kept {w : Wr} {r s : State} {l : Nat} (w_links : w.links = true) (h : Kept w r s) :
    Kept w r (State.propose s l) := by
  unfold State.propose
  lift_lets -underBinder
  intro x0 x1 x2; clear_value x0 x1 x2
  exact State.setLk_kept w_links h

theorem execEqualizeDone_kept {w : Wr} {r : State} {l : Fin 24} {lock : BitVec 8} {symbols : List Nat} {s : State} (w_links : w.links = true) (h : Kept w r s) :
    Answers w r (execEqualizeDone l lock symbols s) := by
  unfold execEqualizeDone
  exact Answers.ite_ (Answers.next h)
    (by
    lift_lets -underBinder
    intro x0 x1; clear_value x0 x1
    exact Answers.next (State.setTraining_kept w_links (State.propose_kept w_links (State.wr_kept h))))

theorem State.takeFresh_kept {w : Wr} {r s : State} {l : Nat} (w_links : w.links = true) (h : Kept w r s) :
    Kept w r (State.takeFresh s l) := by
  unfold State.takeFresh
  lift_lets -underBinder
  intro x0; clear_value x0
  intro x1
  have h1 : Kept w r x1 := State.freshStart_kept w_links h
  clear_value x1
  intro x2; clear_value x2
  exact State.setLk_kept w_links h1

theorem State.trainFailed_kept {w : Wr} {r s : State} {l : Nat} (w_links : w.links = true) (w_cuff : w.cuff = true) (w_route : w.route = true) (w_flt : w.flt = true) (w_pwr : w.pwr = true) (w_same : w.same = true) (h : Kept w r s) :
    Kept w r (State.trainFailed s l) := by
  unfold State.trainFailed
  lift_lets -underBinder
  intro x0
  have h0 : Kept w r x0 := State.wr_kept h
  clear_value x0
  exact State.linkLost_kept w_links w_cuff w_route w_flt w_pwr w_same (State.setTraining_kept w_links h0)

theorem State.negotiated_kept {w : Wr} {r s : State} {l : Nat} {p : PeerFields} (w_links : w.links = true) (w_cuff : w.cuff = true) (w_route : w.route = true) (w_flt : w.flt = true) (w_pwr : w.pwr = true) (w_same : w.same = true) (h : Kept w r s) :
    Kept w r (State.negotiated s l p) := by
  unfold State.negotiated
  lift_lets -underBinder
  intro x0 x1; clear_value x0 x1
  intro x2
  have h2 : Kept w r x2 := State.setLk_kept w_links h
  clear_value x2
  intro x3
  have h3 : Kept w r x3 := State.wrb_kept h2
  clear_value x3
  exact Kept.ite_ (Kept.ite_ (State.trainFailed_kept w_links w_cuff w_route w_flt w_pwr w_same h3)
    h3)
    (State.setTraining_kept w_links (Kept.ite_ (State.takeFresh_kept w_links h3)
    h3))

theorem execNegotiateDone_kept {w : Wr} {r : State} {l : Fin 24} {frame : BitVec 192} {s : State} (w_links : w.links = true) (w_cuff : w.cuff = true) (w_route : w.route = true) (w_flt : w.flt = true) (w_pwr : w.pwr = true) (w_same : w.same = true) (h : Kept w r s) :
    Answers w r (execNegotiateDone l frame s) := by
  unfold execNegotiateDone
  exact Answers.ite_ (Answers.next h)
    (Answers.next (State.negotiated_kept w_links w_cuff w_route w_flt w_pwr w_same h))

theorem execAlignDone_kept {w : Wr} {r : State} {l : Fin 24} {group : Fin 8} {markers : List (BitVec 64)} {s : State} (w_links : w.links = true) (h : Kept w r s) :
    Answers w r (execAlignDone l group markers s) := by
  unfold execAlignDone
  lift_lets -underBinder
  intro x0 x1 x2; clear_value x0 x1 x2
  intro x3
  have h3 : Kept w r x3 := State.setLk_kept w_links h
  clear_value x3
  exact Answers.ite_ (Answers.next h)
    (Answers.next (State.wr_kept (State.setTraining_kept w_links h3)))

theorem State.resumeClass_kept {w : Wr} {r s : State} {l : Nat} {c : Nat} {exp : Nat} (w_links : w.links = true) (h : Kept w r s) :
    Kept w r (State.resumeClass s l c exp) := by
  unfold State.resumeClass
  lift_lets -underBinder
  intro x0 x1 x2; clear_value x0 x1 x2
  exact Kept.ite_ (State.resendFrom_kept w_links h)
    (State.setCls_kept w_links h)

theorem State.laneDegrade_kept {w : Wr} {r s : State} {l : Nat} {prev : Nat} {w0 : Nat} (w_cuff : w.cuff = true) (w_route : w.route = true) (w_flt : w.flt = true) (w_pwr : w.pwr = true) (w_same : w.same = true) (h : Kept w r s) :
    Kept w r (State.laneDegrade s l prev w0) := by
  unfold State.laneDegrade
  lift_lets -underBinder
  intro x0; clear_value x0
  exact Kept.ite_ (State.fault_kept w_cuff w_route w_flt w_pwr w_same h)
    h

theorem execMeasureDone_kept {w : Wr} {r : State} {l : Fin 24} {flightOut : Fin 4096} {flightBack : Fin 4096} {s : State} (w_links : w.links = true) (w_cuff : w.cuff = true) (w_route : w.route = true) (w_flt : w.flt = true) (w_pwr : w.pwr = true) (w_same : w.same = true) (h : Kept w r s) :
    Answers w r (execMeasureDone l flightOut flightBack s) := by
  unfold execMeasureDone
  exact Answers.ite_ (Answers.next h)
    (by
    lift_lets -underBinder
    intro x0 x1 x2; clear_value x0 x1 x2
    intro x3
    have h3 : Kept w r x3 := State.wr_kept h
    clear_value x3
    intro x4
    have h4 : Kept w r x4 := State.wr_kept (State.setTraining_kept w_links h3)
    clear_value x4
    intro x5
    have h5 : Kept w r x5 := State.wr_kept (State.wr_kept h4)
    clear_value x5
    intro x6
    have h6 : Kept w r x6 := State.wr_kept h5
    clear_value x6
    intro x7; clear_value x7
    intro x8
    have h8 : Kept w r x8 := State.setLk_kept w_links h6
    clear_value x8
    intro x9
    have h9 : Kept w r x9 := State.discover_kept w_links w_cuff w_route w_flt w_pwr w_same (State.updFit_kept h8)
    clear_value x9
    intro x10
    have h10 : Kept w r x10 := Kept.ite_ h9
      (State.resumeClass_kept w_links (State.resumeClass_kept w_links h9))
    clear_value x10
    exact Answers.next (State.laneDegrade_kept w_cuff w_route w_flt w_pwr w_same h10))

theorem execTrainingTimeout_kept {w : Wr} {r : State} {l : Fin 24} {s : State} (w_links : w.links = true) (w_cuff : w.cuff = true) (w_route : w.route = true) (w_flt : w.flt = true) (w_pwr : w.pwr = true) (w_same : w.same = true) (h : Kept w r s) :
    Answers w r (execTrainingTimeout l s) := by
  unfold execTrainingTimeout
  lift_lets -underBinder
  intro x0; clear_value x0
  exact by
    split
    · exact Answers.ite_ (Answers.next h)
          (Answers.ite_ (Answers.next (State.trainFailed_kept w_links w_cuff w_route w_flt w_pwr w_same h))
          (Answers.next (State.setTraining_kept w_links (State.setLk_kept w_links h))))
    · exact Answers.next h

theorem execFailedWaitEnd_kept {w : Wr} {r : State} {l : Fin 24} {s : State} (w_links : w.links = true) (h : Kept w r s) :
    Answers w r (execFailedWaitEnd l s) := by
  unfold execFailedWaitEnd
  exact Answers.ite_ (Answers.next h)
    (Answers.next (State.setTraining_kept w_links (State.setLk_kept w_links h)))

theorem execRxLockLost_kept {w : Wr} {r : State} {l : Fin 24} {s : State} (w_links : w.links = true) (w_cuff : w.cuff = true) (w_route : w.route = true) (w_flt : w.flt = true) (w_pwr : w.pwr = true) (w_mem : w.mem = true) (w_same : w.same = true) (h : Kept w r s) :
    Answers w r (execRxLockLost l s) := by
  unfold execRxLockLost
  exact Answers.ite_ (Answers.next h)
    (Answers.next (State.dropLink_kept w_links w_cuff w_route w_flt w_pwr w_mem w_same (State.wr_kept h)))

theorem execTrainingFrameRx_kept {w : Wr} {r : State} {l : Fin 24} {s : State} (w_links : w.links = true) (w_cuff : w.cuff = true) (w_route : w.route = true) (w_flt : w.flt = true) (w_pwr : w.pwr = true) (w_mem : w.mem = true) (w_same : w.same = true) (h : Kept w r s) :
    Answers w r (execTrainingFrameRx l s) := by
  unfold execTrainingFrameRx
  exact Answers.ite_ (Answers.next h)
    (Answers.next (State.dropLink_kept w_links w_cuff w_route w_flt w_pwr w_mem w_same h))

theorem execLaneError_kept {w : Wr} {r : State} {l : Fin 24} {lane : Fin 8} {lostLock : Bool} {symbols : Nat} {s : State} (w_links : w.links = true) (w_cuff : w.cuff = true) (w_route : w.route = true) (w_flt : w.flt = true) (w_pwr : w.pwr = true) (w_mem : w.mem = true) (w_same : w.same = true) (h : Kept w r s) :
    Answers w r (execLaneError l lane lostLock symbols s) := by
  unfold execLaneError
  lift_lets -underBinder
  intro x0
  have h0 : Kept w r x0 := State.count_kept h
  clear_value x0
  intro x1
  have h1 : Kept w r x1 := State.propose_kept w_links (State.wr_kept h0)
  clear_value x1
  exact Answers.ite_ (Answers.next h0)
    (by
    split
    · exact Answers.next (State.failover_kept w_links w_cuff w_route w_flt w_pwr w_mem w_same h1)
    · exact Answers.next (State.setLk_kept w_links h1))

theorem execMemberAckTimeout_kept {w : Wr} {r : State} {l : Fin 24} {s : State} (w_links : w.links = true) (w_cuff : w.cuff = true) (w_route : w.route = true) (w_flt : w.flt = true) (w_pwr : w.pwr = true) (w_mem : w.mem = true) (w_same : w.same = true) (h : Kept w r s) :
    Answers w r (execMemberAckTimeout l s) := by
  unfold execMemberAckTimeout
  lift_lets -underBinder
  intro x0; clear_value x0
  exact Answers.ite_ (Answers.next (State.declare_kept w_links w_cuff w_route w_flt w_pwr w_mem w_same h))
    (Answers.next h)

theorem execRxDownPeriodEnd_kept {w : Wr} {r : State} {l : Fin 24} {s : State} (w_links : w.links = true) (w_cuff : w.cuff = true) (w_route : w.route = true) (w_flt : w.flt = true) (w_pwr : w.pwr = true) (w_same : w.same = true) (h : Kept w r s) :
    Answers w r (execRxDownPeriodEnd l s) := by
  unfold execRxDownPeriodEnd
  split
  · exact Answers.ite_ (Answers.next h)
        (by
        lift_lets -underBinder
        intro x0; clear_value x0
        intro x1
        have h1 : Kept w r x1 := State.setLk_kept w_links h
        clear_value x1
        exact Answers.next (Kept.ite_ (State.leaveUp_kept w_links w_cuff w_route w_flt w_pwr w_same h1)
          h1))
  · exact Answers.next h

end Sys2Proof.Machine
end

