-- ==== Sys2Proof/Laws/KeptNvm.lean ====
section
/-! SUPPORT. Sys2Proof/Laws/KeptNvm.lean: what each operation of Machine/Nvm.lean keeps (Kept, Laws/Kept.lean). -/
set_option Elab.async false
namespace Sys2Proof.Machine

theorem State.nvmResult_kept {w : Wr} {r s : State} {r0 : Nat} (h : Kept w r s) :
    Kept w r (State.nvmResult s r0) := by
  unfold State.nvmResult
  exact State.wr_kept h

theorem State.nvmStart_kept {w : Wr} {r s : State} {c : NvmCmd} {refuse : Option Nat} (w_nvm : w.nvm = true) (h : Kept w r s) :
    Kept w r (State.nvmStart s c refuse) := by
  unfold State.nvmStart
  split
  · exact State.nvmResult_kept h
  · exact State.nvmResult_kept h
  · exact by
        lift_lets -underBinder
        intro x0
        have h0 : Kept w r x0 := State.nvmResult_kept (State.wr_kept h)
        clear_value x0
        intro x1
        exact Kept.updNvm h0 h (nvm := .inl w_nvm)

theorem execNvmRead_kept {w : Wr} {r : State} {sect : Fin 16} {copy : Fin 2} {index : Fin 65536} {s : State} (w_nvm : w.nvm = true) (h : Kept w r s) :
    Answers w r (execNvmRead sect copy index s) := by
  unfold execNvmRead
  lift_lets -underBinder
  intro x0; clear_value x0
  exact Answers.next (State.nvmStart_kept w_nvm h)

theorem execNvmOpen_kept {w : Wr} {r : State} {sect : Fin 16} {length : BitVec 32} {s : State} (w_nvm : w.nvm = true) (h : Kept w r s) :
    Answers w r (execNvmOpen sect length s) := by
  unfold execNvmOpen
  lift_lets -underBinder
  intro x0; clear_value x0
  exact Answers.next (State.nvmStart_kept w_nvm h)

theorem execNvmWrite_kept {w : Wr} {r : State} {sect : Fin 16} {index : Fin 65536} {s : State} (w_nvm : w.nvm = true) (h : Kept w r s) :
    Answers w r (execNvmWrite sect index s) := by
  unfold execNvmWrite
  lift_lets -underBinder
  intro x0; clear_value x0
  exact Answers.next (State.nvmStart_kept w_nvm h)

theorem execNvmCommit_kept {w : Wr} {r : State} {sect : Fin 16} {s : State} (w_nvm : w.nvm = true) (h : Kept w r s) :
    Answers w r (execNvmCommit sect s) := by
  unfold execNvmCommit
  lift_lets -underBinder
  intro x0; clear_value x0
  exact Answers.next (State.nvmStart_kept w_nvm h)

theorem execNvmAbort_kept {w : Wr} {r : State} {sect : Fin 16} {s : State} (w_nvm : w.nvm = true) (h : Kept w r s) :
    Answers w r (execNvmAbort sect s) := by
  unfold execNvmAbort
  exact Answers.next (State.nvmStart_kept w_nvm h)

theorem execNvmAppend_kept {w : Wr} {r : State} {sect : Fin 16} {s : State} (w_nvm : w.nvm = true) (h : Kept w r s) :
    Answers w r (execNvmAppend sect s) := by
  unfold execNvmAppend
  lift_lets -underBinder
  intro x0; clear_value x0
  exact Answers.next (State.nvmStart_kept w_nvm h)

theorem execStoreLive_kept {w : Wr} {r : State} {sect : Fin 16} {s : State} (w_nvm : w.nvm = true) (h : Kept w r s) :
    Answers w r (execStoreLive sect s) := by
  unfold execStoreLive
  lift_lets -underBinder
  intro x0 x1 x2; clear_value x0 x1 x2
  exact Answers.next (State.nvmStart_kept w_nvm h)

theorem State.program_kept {w : Wr} {r s : State} {sector : Nat} {bs : List Byte} (w_nvm : w.nvm = true) (w_flash : w.flash = true) (w_same : w.same = true) (h : Kept w r s) :
    Kept w r (s.program sector bs) := by
  unfold State.program
  exact Kept.updFlash (State.raise_kept w_same h) w_flash (fun g => Memory.wf_writeBytes _ _ _ (SMap.wf_clear _ _ _ (h.nvmWf g)))
    (nvm := .inl w_nvm)

theorem State.closeCopy_kept {w : Wr} {r s : State} (w_nvm : w.nvm = true) (h : Kept w r s) :
    Kept w r (State.closeCopy s) := by
  unfold State.closeCopy
  lift_lets -underBinder
  intro x0
  have h0 : Kept w r x0 := State.wr_kept (State.wr_kept h)
  clear_value x0
  intro x1
  exact Kept.updNvm h0 h (nvm := .inl w_nvm)

theorem State.commitCopy_kept {w : Wr} {r s : State} {sect : Nat} {c : Nat} {len : Nat} {temps : List Int} {good : Bool} (w_boot : w.boot = true) (w_nvm : w.nvm = true) (w_flash : w.flash = true) (w_same : w.same = true) (h : Kept w r s) :
    Kept w r (State.commitCopy s sect c len temps good) := by
  unfold State.commitCopy
  lift_lets -underBinder
  intro x0; clear_value x0
  intro x1
  have h1 : Kept w r x1 := State.program_kept w_nvm w_flash w_same h
  clear_value x1
  intro x2 x3
  have h3 : Kept w r x3 := Kept.ite_ (Kept.upd h1 (nvm := .inl w_nvm))
    h1
  clear_value x3
  exact Kept.ite_ (State.nvmResult_kept h)
    (State.count_kept (State.keepKeys_kept w_boot (State.closeCopy_kept w_nvm (State.choose_kept h3))))

theorem State.logPut_kept {w : Wr} {r s : State} {slot n : Nat} (w_nvm : w.nvm = true) (w_flash : w.flash = true) (h : Kept w r s) :
    Kept w r (s.logPut slot n) := by
  unfold State.logPut
  exact Kept.updFlash h w_flash (by intro g; dsimp only; exact Memory.wf_writeBytes _ _ _ (h.nvmWf g)) (nvm := .inl w_nvm)

theorem State.nvmDo_kept {w : Wr} {r s : State} {c : NvmCmd} {good : Bool} (w_boot : w.boot = true) (w_nvm : w.nvm = true) (w_flash : w.flash = true) (w_same : w.same = true) (h : Kept w r s) :
    Kept w r (State.nvmDo s c good) := by
  unfold State.nvmDo
  split
  · exact by
        lift_lets -underBinder
        intro x0; clear_value x0
        exact State.forEach_kept h (fun _ _ h1 => State.setReg_kept h1)
  · exact by
        lift_lets -underBinder
        intro x2
        have h2 : Kept w r x2 := State.count_kept (State.wr_kept (State.wr_kept h))
        clear_value x2
        intro x3
        exact Kept.updNvm h2 h (nvm := .inl w_nvm)
  · exact by
        split
        · exact by
              lift_lets -underBinder
              intro x4
              have h4 : Kept w r x4 := State.program_kept w_nvm w_flash w_same h
              clear_value x4
              intro x5
              have h5 : Kept w r x5 := State.count_kept h4
              clear_value x5
              intro x6
              exact Kept.updNvm h5 h4 (nvm := .inl w_nvm)
        · exact h
  · exact by
        split
        · exact State.commitCopy_kept w_boot w_nvm w_flash w_same h
        · exact h
  · exact State.closeCopy_kept w_nvm h
  · exact by
        lift_lets -underBinder
        intro x7 x8; clear_value x7 x8
        intro x9
        have h9 : Kept w r x9 := Kept.ite_ (State.program_kept w_nvm w_flash w_same h)
          h
        clear_value x9
        intro x10; clear_value x10
        intro x11
        have h11 : Kept w r x11 := State.logPut_kept w_nvm w_flash h9
        clear_value x11
        exact State.count_kept (State.wr_kept (State.wr_kept h11))
  · exact by
        lift_lets -underBinder
        intro x12; clear_value x12
        intro x13
        have h13 : Kept w r x13 := State.forEach_kept h (fun _ _ h14 => State.program_kept w_nvm w_flash w_same h14)
        clear_value x13
        exact State.commitCopy_kept w_boot w_nvm w_flash w_same h13

theorem execNvmCommandDone_kept {w : Wr} {r : State} {good : Bool} {s : State} (w_boot : w.boot = true) (w_nvm : w.nvm = true) (w_flash : w.flash = true) (w_same : w.same = true) (h : Kept w r s) :
    Answers w r (execNvmCommandDone good s) := by
  unfold execNvmCommandDone
  split
  · exact Answers.next h
  · exact by
        lift_lets -underBinder
        intro x0
        have h0 : Kept w r x0 := State.nvmResult_kept (State.wr_kept h)
        clear_value x0
        intro x1 x2
        have h2 : Kept w r x2 := Kept.updNvm h0 h (nvm := .inl w_nvm)
        clear_value x2
        exact Answers.next (State.nvmDo_kept w_boot w_nvm w_flash w_same h2)

end Sys2Proof.Machine
end

