-- ==== Sys2Proof/Laws/KeptTick.lean ====
section
/-! SUPPORT. Sys2Proof/Laws/KeptTick.lean: what each operation of Machine/Tick.lean keeps (Kept, Laws/Kept.lean). -/
set_option Elab.async false
namespace Sys2Proof.Machine

theorem State.crownTick_kept {w : Wr} {r s : State} (h : Kept w r s) :
    Kept w r (State.crownTick s) := by
  unfold State.crownTick
  exact Kept.ite_ (State.wr_kept h)
    h

theorem State.monoTick_kept {w : Wr} {r s : State} (w_time : w.time = true) (h : Kept w r s) :
    Kept w r (State.monoTick s) := by
  unfold State.monoTick
  lift_lets -underBinder
  intro x0 x1 x2; clear_value x0 x1 x2
  exact Kept.upd h (time := .inl w_time)

theorem State.closeCycle_kept {w : Wr} {r s : State} (w_bar2 : w.bar2 = true) (w_links : w.links = true) (w_cuff : w.cuff = true) (w_route : w.route = true) (w_flt : w.flt = true) (w_pwr : w.pwr = true) (w_boot : w.boot = true) (w_same : w.same = true) (h : Kept w r s) :
    Kept w r (State.closeCycle s) := by
  unfold State.closeCycle
  lift_lets -underBinder
  intro x0
  have h0 : Kept w r x0 := State.sendAcks_kept w_bar2 (State.goDue_kept w_links w_cuff w_route w_flt w_pwr w_boot w_same h)
  clear_value x0
  exact Kept.ite_ (State.snapshot_kept h0)
    h0

theorem State.holdShow_kept {w : Wr} {r s : State} (h : Kept w r s) :
    Kept w r (State.holdShow s) := by
  unfold State.holdShow
  exact Kept.ite_ (State.wr_kept h)
    h

theorem State.linksTick_kept {w : Wr} {r s : State} (w_links : w.links = true) (w_cuff : w.cuff = true) (w_route : w.route = true) (w_flt : w.flt = true) (w_pwr : w.pwr = true) (w_mem : w.mem = true) (w_same : w.same = true) (h : Kept w r s) :
    Kept w r (State.linksTick s) := by
  unfold State.linksTick
  lift_lets -underBinder
  intro x0
  have h0 : Kept w r x0 := State.forEach_kept h (fun _ _ h1 => State.linkTick_kept w_links h1)
  clear_value x0
  exact Kept.ite_ (State.beginAll_kept w_links w_cuff w_route w_flt w_pwr w_mem w_same h0)
    h0

theorem State.palmCount_kept {w : Wr} {r s : State} (h : Kept w r s) :
    Kept w r (State.palmCount s) := by
  unfold State.palmCount
  split
  · exact State.count_kept h
  · exact h

theorem State.timeShow_kept {w : Wr} {r s : State} (h : Kept w r s) :
    Kept w r (State.timeShow s) := by
  unfold State.timeShow
  lift_lets -underBinder
  intro x0
  have h0 : Kept w r x0 := Kept.ite_ h
    (State.wr_kept h)
  clear_value x0
  exact Kept.ite_ (State.wr_kept h0)
    h0

end Sys2Proof.Machine
end

