-- ==== Sys2Proof/Laws/Resets.lean ====
section
/-! SUPPORT. Sys2Proof/Laws/Resets.lean: what a reset of a class does while no equal or wider one is in progress, and while one
is. -/
set_option Elab.async false
namespace Sys2Proof.Machine

/-- A reset with no equal or wider one in progress acts, and GEN_RESET_STATUS says which it was (R394, R396). -/
theorem State.resetBy_acts (s : State) (k : Nat) (act : State → State) (h : ∀ j ∈ s.boot.reset, j < k) :
    s.resetBy k act =
      ((((act { s.wr Reg.GEN_RESET_KIND k with boot := { s.boot with reset := none } }).wr Reg.GEN_RESET_STATUS_LAST k).wr
        Reg.GEN_RESET_STATUS_SOURCE 1).refuseGo s.same.go).updFaultN := by
  unfold State.resetBy
  have hb : (s.wr Reg.GEN_RESET_KIND k).boot = s.boot := rfl
  simp only [hb]
  rcases hr : s.boot.reset with _ | j
  · rw [if_neg (by simp)]; rfl
  · have hj : j < k := h j (by simp [hr])
    rw [if_neg (by simp [hj])]; rfl

/-- A reset while an equal or wider one is in progress is ignored with WR_REFUSED (R396). -/
theorem State.resetBy_refused (s : State) (k j : Nat) (act : State → State) (h : s.boot.reset = some j) (hk : k ≤ j) :
    s.resetBy k act = (s.wr Reg.GEN_RESET_KIND k).flag Reg.GEN_BOOT_STATUS_WR_REFUSED := by
  unfold State.resetBy
  have hb : (s.wr Reg.GEN_RESET_KIND k).boot = s.boot := rfl
  simp only [hb, h]
  rw [if_pos (by simp [hk])]

end Sys2Proof.Machine
end

