-- ==== Sys2Proof/Laws/With.lean ====
section
/-! SUPPORT. Sys2Proof/Laws/With.lean: reading a state put together from parts: a register reads as in the state the register
file came from, whatever the other parts are, and so for tables, links, regions and the input switch. -/
set_option Elab.async false
namespace Sys2Proof.Machine

variable {p : List Instr} {rs : SMap Word} {b2 : SMap Word} {hb : Memory} {sr : Memory} {cr : CrownSt} {rg : SMap RgnSt} {lk : SMap LinkSt} {cu : CuffSt} {ro : RouteSt} {fl : FltSt} {ti : TimeSt} {pw : PwrSt} {me : MemSt} {pa : PalmSt} {ld : LdrSt} {bo : BootSt} {nv : NvmSt} {bn : BonSt} {eg : List Emission} {cy : Nat} {fr : Nat} {sm : SameSt}

@[simp] theorem State.reg_mk (s : State) (k : Nat) :
    State.reg (State.mk p s.regs b2 hb sr cr rg lk cu ro fl ti pw me pa ld bo nv bn eg cy fr sm) k = s.reg k := (Eq.refl _).trans rfl
@[simp] theorem State.rd_mk (s : State) (f : Fld) :
    State.rd (State.mk p s.regs b2 hb sr cr rg lk cu ro fl ti pw me pa ld bo nv bn eg cy fr sm) f = s.rd f := (Eq.refl _).trans rfl
@[simp] theorem State.rdb_mk (s : State) (f : Fld) :
    State.rdb (State.mk p s.regs b2 hb sr cr rg lk cu ro fl ti pw me pa ld bo nv bn eg cy fr sm) f = s.rdb f := (Eq.refl _).trans rfl
@[simp] theorem State.now_mk (s : State)  :
    State.now (State.mk p s.regs b2 hb sr cr rg lk cu ro fl ti pw me pa ld bo nv bn eg cy fr sm) = s.now := (Eq.refl _).trans rfl
@[simp] theorem State.stitch_mk (s : State)  :
    State.stitch (State.mk p s.regs b2 hb sr cr rg lk cu ro fl ti pw me pa ld bo nv bn eg cy fr sm) = s.stitch := (Eq.refl _).trans rfl
@[simp] theorem State.ldr_mk (s : State)  :
    State.ldr (State.mk p s.regs b2 hb sr cr rg lk cu ro fl ti pw me pa ld bo nv bn eg cy fr sm) = s.ldr := (Eq.refl _).trans rfl
@[simp] theorem State.run_mk (s : State)  :
    State.run (State.mk p s.regs b2 hb sr cr rg lk cu ro fl ti pw me pa ld bo nv bn eg cy fr sm) = s.run := (Eq.refl _).trans rfl
@[simp] theorem State.isMaster_mk (s : State)  :
    State.isMaster (State.mk p s.regs b2 hb sr cr rg lk cu ro fl ti pw me pa ld bo nv bn eg cy fr sm) = s.isMaster := (Eq.refl _).trans rfl
@[simp] theorem State.crownRuns_mk (s : State)  :
    State.crownRuns (State.mk p s.regs b2 hb sr cr rg lk cu ro fl ti pw me pa ld bo nv bn eg cy fr sm) = s.crownRuns := (Eq.refl _).trans rfl
@[simp] theorem State.imageLoaded_mk (s : State)  :
    State.imageLoaded (State.mk p s.regs b2 hb sr cr rg lk cu ro fl ti pw me pa ld bo nv bn eg cy fr sm) = s.imageLoaded := (Eq.refl _).trans rfl
@[simp] theorem State.parentLink_mk (s : State)  :
    State.parentLink (State.mk p s.regs b2 hb sr cr rg lk cu ro fl ti pw me pa ld bo nv bn eg cy fr sm) = s.parentLink := (Eq.refl _).trans rfl
@[simp] theorem State.lstate_mk (s : State) (l : Nat) :
    State.lstate (State.mk p s.regs b2 hb sr cr rg lk cu ro fl ti pw me pa ld bo nv bn eg cy fr sm) l = s.lstate l := (Eq.refl _).trans rfl
@[simp] theorem State.isUp_mk (s : State) (l : Nat) :
    State.isUp (State.mk p s.regs b2 hb sr cr rg lk cu ro fl ti pw me pa ld bo nv bn eg cy fr sm) l = s.isUp l := (Eq.refl _).trans rfl
@[simp] theorem State.inMitten_mk (s : State) (l : Nat) :
    State.inMitten (State.mk p s.regs b2 hb sr cr rg lk cu ro fl ti pw me pa ld bo nv bn eg cy fr sm) l = s.inMitten l := (Eq.refl _).trans rfl
@[simp] theorem State.confirmed_mk (s : State) (l : Nat) :
    State.confirmed (State.mk p s.regs b2 hb sr cr rg lk cu ro fl ti pw me pa ld bo nv bn eg cy fr sm) l = s.confirmed l := (Eq.refl _).trans rfl
@[simp] theorem State.isLattice_mk (s : State) (l : Nat) :
    State.isLattice (State.mk p s.regs b2 hb sr cr rg lk cu ro fl ti pw me pa ld bo nv bn eg cy fr sm) l = s.isLattice l := (Eq.refl _).trans rfl
@[simp] theorem State.domOn_mk (s : State) (k : Nat) :
    State.domOn (State.mk p s.regs b2 hb sr cr rg lk cu ro fl ti pw me pa ld bo nv bn eg cy fr sm) k = s.domOn k := (Eq.refl _).trans rfl
@[simp] theorem State.powered_mk (s : State) (k : Nat) :
    State.powered (State.mk p s.regs b2 hb sr cr rg lk cu ro fl ti pw me pa ld bo nv bn eg cy fr sm) k = s.powered k := (Eq.refl _).trans rfl
@[simp] theorem State.tab_mk (s : State) (k : Nat) :
    State.tab (State.mk p rs s.bar2 hb sr cr rg lk cu ro fl ti pw me pa ld bo nv bn eg cy fr sm) k = s.tab k := (Eq.refl _).trans rfl
@[simp] theorem State.lk_mk (s : State) (k : Nat) :
    State.lk (State.mk p rs b2 hb sr cr rg s.links cu ro fl ti pw me pa ld bo nv bn eg cy fr sm) k = s.lk k := (Eq.refl _).trans rfl
@[simp] theorem State.rg_mk (s : State) (k : Nat) :
    State.rg (State.mk p rs b2 hb sr cr s.rgn lk cu ro fl ti pw me pa ld bo nv bn eg cy fr sm) k = s.rg k := (Eq.refl _).trans rfl
@[simp] theorem State.live_mk (s : State)  :
    State.live (State.mk p rs b2 hb sr cr rg lk cu ro fl ti s.pwr me pa ld bo nv bn eg cy fr sm) = s.live := (Eq.refl _).trans rfl

end Sys2Proof.Machine
end

