-- ==== Sys2Proof/WellFormed.lean ====
section
/-! DEFINITION. Sys2Proof/WellFormed.lean: the commands whose operands lie in the ranges the spec gives them. The model gives every
command a meaning, well formed or not; a command that is not well formed is one that nothing outside the module can send. -/
namespace Sys2Proof

/-- A beacon's fields fit their bits (R33). -/
def Beacon.wf (b : Beacon) : Bool :=
  decide (b.seq < 256) && decide (b.stampA < 2 ^ 28) && decide (b.stampB < 2 ^ 28) && decide (b.state < 4) && decide (b.hops < 32)
    && decide (b.masterId < 4096) && decide (b.holdDepth < 4) && decide (b.holdAge < 4096) && decide (b.highIndex < 4)
    && decide (b.highSlice < 65536)

/-- A word of a store has 36 bytes, and a store's item at most thirteen words (R277, R280). -/
def Upset.wf (u : Upset) : Bool :=
  decide (u.word < 13) && decide (u.mask < 2 ^ 288) &&
    (match u.store with
     | .sram | .sramCell => decide (u.inst < 4352) && decide (u.item < 12288)
     | .crossing => decide (u.inst < 16)
     | .leadQueue => decide (u.inst < 8) && decide (u.queue < 16) && decide (u.item < 2048)
     | .turn | .ni | .rank | .route | .bonnet => true
     | _ => decide (u.inst < 24))

/-- A rank has 16 bits and a seat 12 (R158, R159). -/
def Addr.wf : Addr → Bool
  | .rank r => decide (r < 65536)
  | .coord m => decide (m < 4096)
  | .management m => decide (m < 4096)

/-- Addresses and ports of a frame's body fit their bits (R327). -/
def EthBody.wf : EthBody → Bool
  | .arp _ t => decide (t < 2 ^ 32)
  | .nd _ t => decide (t < 2 ^ 128)
  | .ptp => true
  | .udp v6 src dst sport dport _ _ =>
    decide (src < (if v6 then 2 ^ 128 else 2 ^ 32)) && decide (dst < (if v6 then 2 ^ 128 else 2 ^ 32)) && decide (sport < 65536)
      && decide (dport < 65536)
  | .other => true

/-- A frame's addresses and VLAN fit their bits (R327). -/
def EthFrame.wf (f : EthFrame) : Bool :=
  decide (f.dmac < 2 ^ 48) && f.vlan.all (fun v => decide (v < 4096)) && f.body.wf

/-- A PTP message's fields fit their bits (R356). -/
def PtpMsg.wf (m : PtpMsg) : Bool :=
  decide (m.kind < 16) && decide (m.domain < 256) && decide (m.source < 2 ^ 80) && decide (m.seq < 65536)
    && decide (m.reqSource < 2 ^ 80) && decide (-128 ≤ m.log) && decide (m.log ≤ 127)

/-- Temperatures that a register shows (R440). -/
def temps8 (n : Nat) (l : List Int) : Bool := l.length == n && l.all fun t => decide (-128 ≤ t) && decide (t ≤ 127)

/-- One reading of every sensor (R429, R440). -/
def Sensors.wf (x : Sensors) : Bool :=
  temps8 16 x.rgn && temps8 7 x.die && temps8 6 x.oe && temps8 8 x.stack && temps8 2 [x.inlet, x.outlet]
    && decide (x.voltage < 65536) && decide (x.current < 65536) && decide (x.power < 65536) && decide (x.average < 65536)

/-- A command's operands lie in their ranges. -/
def Instr.wf : Instr → Bool
  | .registerWrite bar2 o half _ => decide (o < (if bar2 then 0x8000000 else 0x4000000)) && !(bar2 && half.isSome)
  | .counterClear o => decide (o < 0x4000000)
  | .hwmClear o => decide (o < 0x4000000)
  | .barAccessError bar2 _ o => decide (o < (if bar2 then 0x8000000 else 0x4000000))
  | .rootPllLock => true
  | .referenceLost => true
  | .referenceRestored => true
  | .crnEnSet _ _ => true
  | .crnEnClear _ _ => true
  | .beaconRequestTimer => true
  | .beaconReq _ b _ => b.wf
  | .beaconRsp _ b _ => b.wf
  | .beaconMiss _ => true
  | .crownLocked => true
  | .crownDrift => true
  | .parentLost => true
  | .altParentSwitch => true
  | .masterRelock => true
  | .holdLimitReached => true
  | .acqLimitReached => true
  | .monitorTimer => true
  | .droopDetected _ => true
  | .droopStepReturn _ => true
  | .thermalStepTimer _ => true
  | .dividerRestoreStep _ => true
  | .dividerStepResume _ => true
  | .rgnClkWrite _ target floor => decide (target < 32) && decide (floor < 32)
  | .estimateCorrection => true
  | .stitchSend _ => true
  | .landingStitch _ => true
  | .lateLanding _ => true
  | .unexpectedArrival _ => true
  | .deposit _ _ => true
  | .depositReady _ _ => true
  | .bankVerify => true
  | .verifyDone => true
  | .bankArm => true
  | .autoFillDone => true
  | .stitchTableWrite _ _ _ _ _ => true
  | .bankCfgWrite _ _ => true
  | .queueCfgWrite _ _ _ => true
  | .cufRunSet => true
  | .cufRunClear => true
  | .seamOpen _ => true
  | .seamCheck => true
  | .scheduledFlitRx _ _ => true
  | .looseFlitRx _ _ => true
  | .nullFlitRx _ _ => true
  | .erroredSlot _ _ cs => cs.all fun n => decide (n ≤ 544)
  | .lcwReceived _ w _ => decide (w < 2 ^ 192)
  | .ident _ _ _ _ _ => true
  | .credit _ counts => (counts.length == 8 && counts.all fun c => decide (c < 512))
  | .reqQuick _ _ _ _ _ => true
  | .reqFull _ _ _ _ _ => true
  | .reqWidth _ _ _ _ _ => true
  | .trainAccept _ => true
  | .trainRequestTimeout _ => true
  | .lcwTransmit _ => true
  | .replayStart _ _ => true
  | .replayTimer _ _ => true
  | .linkEnable _ => true
  | .linkDisable _ => true
  | .linkRetrain _ => true
  | .signalDetect _ => true
  | .equalizeDone _ _ symbols => symbols.length == 8
  | .negotiateDone _ _ => true
  | .alignDone _ _ markers => decide (markers.length ≤ 8)
  | .measureDone _ _ _ => true
  | .trainingTimeout _ => true
  | .failedWaitEnd _ => true
  | .rxLockLost _ => true
  | .trainingFrameRx _ => true
  | .laneError _ _ _ _ => true
  | .memberAckTimeout _ => true
  | .rxDownPeriodEnd _ => true
  | .looseInject _ addr _ _ _ _ _ data => addr.wf && decide (data < 2 ^ 2816)
  | .latticeAssign => true
  | .busyInject => true
  | .reservationTimeout _ => true
  | .oppSuppressEnd _ => true
  | .rankTableWrite _ _ => true
  | .routeTableWrite _ _ _ => true
  | .epochArm => true
  | .epochSwitch => true
  | .descriptorFetch => true
  | .matmul => true
  | .matmulAcc => true
  | .conv2d => true
  | .attend => true
  | .softmax => true
  | .norm => true
  | .elementOp => true
  | .reduce => true
  | .transpose => true
  | .gather => true
  | .scatterAdd => true
  | .topk => true
  | .dispatch => true
  | .combine => true
  | .convert => true
  | .copy => true
  | .seamWait => true
  | .stagingDone => true
  | .opComplete => true
  | .palmStop => true
  | .linerLoad => true
  | .linerLoadDone => true
  | .tileWatchdog _ _ => true
  | .hbmWriteBack w => decide (w < 2 ^ 34)
  | .scrubBurst _ upsets defects stores =>
    (upsets.all fun u => decide (u.1 < 36 * 2 ^ 31)) && (defects.all fun w => decide (w < 2 ^ 31)) && (stores.all Upset.wf)
  | .refresh _ _ => true
  | .periodicTraining _ _ _ => true
  | .hbmRetrainRequest _ _ _ _ => true
  | .hbmRetrainDone _ => true
  | .hbmRetrainTimeout _ => true
  | .hbmCapWrite _ _ _ => true
  | .loadOpen => true
  | .loadClose => true
  | .loadVerify => true
  | .loadVerifyDone => true
  | .admitLoad => true
  | .imageArm => true
  | .convertStartTime _ => true
  | .refuse => true
  | .imageStart _ => true
  | .chunkPart => true
  | .chunkSubmit _ _ => true
  | .bcast => true
  | .bcastSettleEnd => true
  | .reportWaitEnd => true
  | .roundEnd => true
  | .report => true
  | .fwStart => true
  | .fwChunkSend lost => (lost.all fun r => decide (r < 4376))
  | .fwRepair lost => (lost.all fun r => decide (r.1 < 4376))
  | .frameDropped f => f.wf
  | .arpNdRequest f => f.wf
  | .request f => f.wf
  | .cancel f => f.wf
  | .resend f => f.wf
  | .bulkAck f => f.wf
  | .forwardedDatagram _ data => decide (data.length ≤ 9216)
  | .asmTimeout _ => true
  | .windowClose => true
  | .windowRecordDone => true
  | .mirrorRead => true
  | .recordDeadlineCheck => true
  | .tokenOutput => true
  | .sessionTableWrite _ _ _ => true
  | .sessionOpen _ => true
  | .sessionClose _ => true
  | .bulkStart _ _ => true
  | .bulkAbort => true
  | .bulkTimeout => true
  | .ethPortUp _ => true
  | .sync m => m.wf
  | .followUp m => m.wf
  | .delayResp m => m.wf
  | .pdelayReq m _ => m.wf
  | .pdelayResp m => m.wf
  | .pdelayRespFollowUp m => m.wf
  | .announce m => m.wf
  | .ptpFrameDrop m => m.wf
  | .domainEnable _ _ => true
  | .domainDisable _ _ => true
  | .syncTimeout _ => true
  | .announceTimeout _ => true
  | .outputReset => true
  | .outputSelect _ => true
  | .timeCapture => true
  | .bridgeSample => true
  | .bridgeSend => true
  | .bridgeMessage => true
  | .bridgeStale => true
  | .tpArm _ _ => true
  | .tpStop _ => true
  | .tpEdge _ => true
  | .tpPulseEnd _ => true
  | .tpBaseStep _ => true
  | .aonPowerGood _ => true
  | .bootGo _ _ => true
  | .domainPowerGood => true
  | .domainPowerTimeout => true
  | .bistDone failed => (failed.all fun p => decide (p < 4352))
  | .hbmTrainingDone _ => true
  | .linerBuild => true
  | .discoveryEval _ => true
  | .discoveryEnd => true
  | .readinessReport => true
  | .rediscover _ _ => true
  | .nvmRead _ _ _ => true
  | .nvmOpen _ _ => true
  | .nvmWrite _ _ => true
  | .nvmCommit _ => true
  | .nvmAbort _ => true
  | .nvmAppend _ => true
  | .storeLive _ => true
  | .nvmCommandDone _ => true
  | .palmReset => true
  | .serviceReset => true
  | .cuffReset => true
  | .moduleWarmReset => true
  | .powerOnReset => true
  | .perst => true
  | .alarmReceived => true
  | .fltHeadWrite _ => true
  | .faultMaxClr => true
  | .snapshot _ _ => true
  | .telemetryReport => true
  | .telemetrySink => true
  | .inArmBreak => true
  | .inputStart => true
  | .prechargeDone => true
  | .prechargeTimeout => true
  | .supplyWarn _ => true
  | .supplyWarnClear => true
  | .budgetRecoveryStep => true
  | .powerFail => true
  | .overvoltage => true
  | .overcurrent => true
  | .pwrEnLow => true
  | .domainShutdown => true
  | .palmOff _ _ => true
  | .stackOff _ _ => true
  | .coolOkHigh => true
  | .coolOkLow => true
  | .sensorSample x => x.wf
  | .smbusBlockWrite _ => true
  | .smbusBlockRead => true
  | .mgmtRead => true
  | .mgmtWrite => true
  | .mgmtDiscard => true
  | .msixUnmask _ => true
  | .portDown _ => true
  | .coolOkGlitch => true
  | .delayReq _ _ => true

end Sys2Proof
end

