-- ==== Sys2Proof/Tests/Slice0.lean ====
section
/-! SUPPORT. Sys2Proof/Tests/Slice0.lean: the author's own tests: an ill-formed command for each check of WellFormed, one concrete state
and operands that meet the hypotheses of each clause of each statement, and small runs against the spec's worked examples. -/
namespace Sys2Proof.Tests
set_option Elab.async false
open Sys2Proof Sys2Proof.Machine

/-- A module with AON running and every power domain on. -/
def on : State := (State.reset.wr Reg.PWR_DOMAIN_ON 0x3FFFFFFF).wr Reg.PWR_DOMAIN_PGOOD 0x3FFFFFFF

/-- The same with some fields set. -/
def onWith (l : List (Fld × Nat)) : State := l.foldl (fun s p => s.wr p.1 p.2) on

def emptySensors : Sensors :=
  ⟨List.replicate 16 20, List.replicate 7 20, List.replicate 6 20, List.replicate 8 20, 20, 20, 3387, 0, 0, 0⟩
def noFrame : EthFrame := ⟨0, true, 64, 0, none, .other⟩
def noPtp : PtpMsg := ⟨0, 0, 0, 0, 0, false, 0, 0, 0, 0, 0, [], 0, false⟩

/-- One corrected byte of an upset's word. -/
def upsetOf (st : Store) (inst queue item word mask : Nat) : Upset := ⟨st, inst, queue, item, word, mask⟩

theorem smoke_upset : ([upsetOf .turn 0 0 0 13 1, upsetOf .turn 0 0 0 0 (2 ^ 288), upsetOf .sram 4352 0 0 0 1,
    upsetOf .sramCell 0 0 12288 0 1, upsetOf .crossing 16 0 0 0 1, upsetOf .leadQueue 8 0 0 0 1, upsetOf .leadQueue 0 16 0 0 1,
    upsetOf .leadQueue 0 0 2048 0 1, upsetOf .replay 24 0 0 0 1].all fun u => !(Instr.scrubBurst 0 [] [] [u]).wf) = true ∧
    (Instr.scrubBurst 7 [] [] [upsetOf .leadQueue 7 15 2047 12 1]).wf = true := by decide +kernel

theorem smoke_beacon : ([⟨256, 0, 0, 0, 0, 0, 0, 0, 0, 0⟩, ⟨0, 2 ^ 28, 0, 0, 0, 0, 0, 0, 0, 0⟩, ⟨0, 0, 2 ^ 28, 0, 0, 0, 0, 0, 0, 0⟩,
    ⟨0, 0, 0, 4, 0, 0, 0, 0, 0, 0⟩, ⟨0, 0, 0, 0, 32, 0, 0, 0, 0, 0⟩, ⟨0, 0, 0, 0, 0, 4096, 0, 0, 0, 0⟩,
    ⟨0, 0, 0, 0, 0, 0, 4, 0, 0, 0⟩, ⟨0, 0, 0, 0, 0, 0, 0, 4096, 0, 0⟩, ⟨0, 0, 0, 0, 0, 0, 0, 0, 4, 0⟩,
    ⟨0, 0, 0, 0, 0, 0, 0, 0, 0, 65536⟩].all fun b => !(Instr.beaconReq 0 b 0).wf && !(Instr.beaconRsp 0 b 0).wf) = true ∧
    (Instr.beaconReq 0 default 0).wf = true := by decide +kernel

theorem smoke_inject : ([.rank 65536, .coord 4096, .management 4096].all fun a =>
      !(Instr.looseInject 1 a 0 0 0 0 0 0).wf) = true ∧ (Instr.looseInject 1 (.rank 0) 0 0 0 0 0 (2 ^ 2816)).wf = false ∧
    (Instr.looseInject 1 (.rank 65535) 0 0 0 0 0 0).wf = true := by decide +kernel

theorem smoke_frame : ([{ noFrame with dmac := 2 ^ 48 }, { noFrame with vlan := some 4096 },
    { noFrame with body := .arp true (2 ^ 32) }, { noFrame with body := .nd true (2 ^ 128) },
    { noFrame with body := .udp false (2 ^ 32) 0 0 0 none [] }, { noFrame with body := .udp false 0 (2 ^ 32) 0 0 none [] },
    { noFrame with body := .udp true (2 ^ 128) 0 0 0 none [] }, { noFrame with body := .udp true 0 (2 ^ 128) 0 0 none [] },
    { noFrame with body := .udp false 0 0 65536 0 none [] }, { noFrame with body := .udp false 0 0 0 65536 none [] }].all fun f =>
      [Instr.frameDropped f, .arpNdRequest f, .request f, .cancel f, .resend f, .bulkAck f].all fun i => !i.wf) = true ∧
    (Instr.request noFrame).wf = true := by decide +kernel

theorem smoke_ptp : ([{ noPtp with kind := 16 }, { noPtp with domain := 256 }, { noPtp with source := 2 ^ 80 },
    { noPtp with seq := 65536 }, { noPtp with reqSource := 2 ^ 80 }, { noPtp with log := -129 }, { noPtp with log := 128 }].all fun m =>
      [Instr.sync m, .followUp m, .delayResp m, .pdelayReq m 0, .pdelayResp m, .pdelayRespFollowUp m, .announce m,
       .ptpFrameDrop m].all fun i => !i.wf) = true ∧ (Instr.sync noPtp).wf = true := by decide +kernel

theorem smoke_sensors : ([{ emptySensors with rgn := [] }, { emptySensors with die := [] }, { emptySensors with oe := [] },
    { emptySensors with stack := List.replicate 8 128 }, { emptySensors with inlet := -129 }, { emptySensors with outlet := 128 },
    { emptySensors with voltage := 65536 }, { emptySensors with current := 65536 }, { emptySensors with power := 65536 },
    { emptySensors with average := 65536 }].all fun x => !(Instr.sensorSample x).wf) = true ∧
    (Instr.sensorSample emptySensors).wf = true := by decide +kernel

theorem smoke_operands : ([.registerWrite false 0x4000000 none 0, .registerWrite true 0x8000000 none 0,
    .registerWrite true 0 (some true) 0, .counterClear 0x4000000, .hwmClear 0x4000000, .barAccessError false true 0x4000000,
    .barAccessError true true 0x8000000, .rgnClkWrite 0 32 0, .rgnClkWrite 0 0 32, .erroredSlot 0 0 [545],
    .lcwReceived 0 (2 ^ 192) false, .equalizeDone 0 0 [], .alignDone 0 0 (List.replicate 9 0), .credit 0 [0], .credit 0 [512, 0, 0, 0, 0, 0, 0, 0], .hbmWriteBack (2 ^ 34),
    .scrubBurst 0 [(36 * 2 ^ 31, 1)] [] [], .scrubBurst 0 [] [2 ^ 31] [], .fwChunkSend [4376], .fwRepair [(4376, 0)],
    .forwardedDatagram 0 (List.replicate 9217 0), .bistDone [4352]].all fun i => !Instr.wf i) = true ∧
    (Instr.registerWrite false 0x3FFFFF8 (some true) 0).wf = true := by decide +kernel

theorem witness_bad_request : on.live = true ∧ 5 < 2 ^ 27 ∧ on.rdb Reg.GEN_ACC_ERR_VALID = false ∧
    (onWith [(Reg.GEN_ACC_ERR_VALID, 1)]).rdb Reg.GEN_ACC_ERR_VALID = true := by decide +kernel

theorem witness_run_locks : (onWith [(Reg.CUF_CTRL_RUN, 1)]).live = true ∧ (onWith [(Reg.CUF_CTRL_RUN, 1)]).run = true ∧
    (onWith [(Reg.CUF_CTRL_RUN, 1)]).powered (Reg.RGN_CLK 15) = true ∧
    (onWith [(Reg.CUF_CTRL_RUN, 1)]).powered (Reg.HBM_CAP 7) = true ∧
    (onWith [(Reg.CUF_CTRL_RUN, 1)]).powered (Reg.LNK_RQ_CFG 23) = true ∧
    (onWith [(Reg.CUF_CTRL_RUN, 1)]).powered (Reg.LNK_SQ_CFG 0) = true := by decide +kernel

theorem witness_powered_down : driverWrite (.hbmCapWrite 7 0 0) = some (Reg.HBM_CAP 7) ∧
    ({ on with pwr := { on.pwr with closed := false } } : State).live = false ∧ State.reset.live = true ∧
    State.reset.powered (Reg.HBM_CAP 7) = false := by decide +kernel

theorem witness_register_write : on.live = true ∧ 0x100018 % 8 = 0 ∧
    (Reg.find (bar0Addr 0x100018)).isSome = true ∧ on.powered (bar0Addr 0x100018) = true ∧
    bar0Addr 0x100018 ∉ [Reg.TIME_CTRL, Reg.PWR_FAULTN, Reg.CUF_MITTEN, Reg.BON_CTRL, Reg.FLT_FIRST, Reg.CUF_STATUS, Reg.LDR_STATUS,
      Reg.BON_STATUS, Reg.PLM_STATUS] := by decide +kernel

/-- A driver's write to the access record in the cycle in which the device sets VALID, and one to a field that changes. -/
theorem witness_same_cycle : ((Reg.find (bar0Addr 0x10)).map fun r => (nbit r.w1c 63, nbit (storedBits r) 63)) = some (true, false) ∧
    SMap.get (fun _ => 0) on.same.mgmt (bar0Addr 0x10) = 0 ∧ nbit (SMap.get (fun _ => 0) on.same.flagged (bar0Addr 0x10)) 63 = false ∧
    nbit (SMap.get (fun _ => 0) (on.flag Reg.GEN_ACC_ERR_VALID).same.flagged (bar0Addr 0x10)) 63 = true ∧
    nbit (SMap.get (fun _ => 0) ({ on with same := { mgmt := [(Reg.RTE_EPOCH, 1)] } } : State).same.mgmt (bar0Addr 0x1000018)) 0 = true ∧
    ((on.bar0Write 0x128 (halfMask none) 1).reg Reg.GEN_PLAN_SEAT).getLsbD 0 ≠ (on.reg Reg.GEN_PLAN_SEAT).getLsbD 0 ∧
    nbit Reg.GEN_PLAN_SEAT_SEAT.bits 0 = true ∧ bar0Addr 0x128 = Reg.GEN_PLAN_SEAT_SEAT.addr := by decide +kernel

theorem witness_access : on.live = true ∧ (Reg.find (bar0Addr 0x100200)).map isCounter = some true := by decide +kernel

theorem witness_reference : (onWith [(Reg.CRN_STATUS_REF_OK, 1)]).rdb Reg.CRN_STATUS_REF_OK = true ∧
    on.rdb Reg.CRN_CTRL_EN = false ∧ (onWith [(Reg.CRN_CTRL_EN, 1)]).rdb Reg.CRN_CTRL_EN = true ∧
    ({ onWith [(Reg.CRN_CTRL_EN, 1), (Reg.CRN_CTRL_ROLE, 1), (Reg.CRN_STATUS_STATE, 3)] with
      crown := { on.crown with refSince := some 0 }, cyc := 65536 } : State).isMaster = true := by decide +kernel

/-- A child of link 0, which is UP with a confirmed neighbour. -/
def child : State :=
  onWith [(Reg.CRN_CTRL_EN, 1), (Reg.CRN_STATUS_RUNNING, 1), (Reg.CRN_STATUS_STATE, 2), (Reg.LNK_STATUS_STATE 0, 6),
    (Reg.LNK_DISC_RESULT 0, 1)]

theorem witness_beacon : child.rdb Reg.CRN_CTRL_EN = true ∧ child.isMaster = false ∧ child.beaconTime / 16 % 4096 = 0 ∧
    child.parentLink = 0 ∧ child.isUp child.parentLink = true ∧ child.confirmed child.parentLink = true ∧
    child.crownRuns = true ∧ child.crown.req = none ∧ child.now % 65536 = 0 := by decide +kernel

theorem witness_lock_state :
    (onWith [(Reg.CRN_STATUS_STATE, 1)]).isMaster = false ∧
    ((onWith [(Reg.CRN_STATUS_STATE, 3), (Reg.CRN_STATUS_REF_OK, 1)]).rd Reg.CRN_STATUS_STATE = 3 ∧
      (onWith [(Reg.CRN_STATUS_STATE, 3), (Reg.CRN_STATUS_REF_OK, 1)]).rdb Reg.CRN_STATUS_REF_OK = true) ∧
    child.rd Reg.CRN_STATUS_STATE = 2 ∧ child.now % 4096 = 0 ∧
    (onWith [(Reg.CRN_STATUS_STATE, 1), (Reg.CRN_HOLD_ACQ_LIMIT, 0)]).rd Reg.CRN_HOLD_ACQ_LIMIT ≤ on.crown.acqExch := by
  decide +kernel

/-- A child in holdover for its whole limit of 4,096 ct. -/
def held : State :=
  { onWith [(Reg.CRN_CTRL_EN, 1), (Reg.CRN_STATUS_RUNNING, 1), (Reg.CRN_STATUS_STATE, 3), (Reg.CRN_NOW_CROWN, 8192),
      (Reg.CRN_HOLD_HOLD_LIMIT, 1)] with crown := { on.crown with holdSince := some 0 } }

theorem witness_hold_limit : held.reportHold.rd Reg.CRN_STATUS_STATE = 3 ∧ held.reportHold.isMaster = false ∧
    held.reportHold.crown.limRaised = false ∧
    max 1 (held.reportHold.rd Reg.CRN_HOLD_HOLD_LIMIT) ≤ held.reportHold.rd Reg.CRN_STATUS_HOLD_AGE := by decide +kernel

/-- Region `g` of a module with everything on, its hidden clock state replaced. -/
def onRegion (g : Nat) (x : RgnSt) : State := on.setRg g x

theorem witness_region_clock :
    ((on.rg 16).stepUntil = none ∧ (on.rg 16).rest = false ∧ (on.rg 16).longNext = false ∧ (on.rg 16).stopDue = false) ∧
    mayStretch (on.rg 16).stretches (on.rg 16).cycle = true ∧ mayStretch [1] 7 = false ∧ mayStretch [1] 8 = true ∧
    (onWith [(Reg.RGN_CLK_N_NOW 15, 10)]).rd (Reg.RGN_CLK_N_NOW 15) < 20 ∧
    ((onRegion 15 { droopN := 11 }).rg 15).droopN ≠ 0 ∧
    (onWith [(Reg.RGN_CLK_N_TARGET 15, 9)]).rd (Reg.RGN_CLK_N_TARGET 15) + 1 < 11 ∧
    (({ onRegion 15 { droopN := 11, above := true, hot := true, thermN := 11 } with cyc := 100000 } : State).rg 15).droopAt + 100000 ≤ 100000 ∧
    ((onRegion 15 { above := true, thermN := 11 }).rg 15).above = true ∧ ((onRegion 16 { stepUntil := some 0 }).rg 16).stepUntil = some 0 ∧
    gradeMinN on ≤ 10 ∧ on.powered (Reg.RGN_CLK 15) = true ∧ child.crownRuns = true ∧ child.now % 64 = 0 := by decide +kernel

/-- Regions 0, 1 and 4 in an operation, with `n` words in the buffers that region 0 writes. -/
def crossing (n : Nat) : State :=
  ((on.setRg 0 { active := true, east := List.replicate n 2, south := List.replicate n 2 }).setRg 1 { active := true }).setRg 4
    { active := true }

theorem witness_crossing : ((crossing 7).rg 0).active = true ∧ (crossing 16).crossStall 0 = true ∧ (crossing 15).crossStall 0 = false ∧
    (crossing 0).crossStall 1 = true ∧ (crossing 1).crossStall 1 = false ∧ (crossing 1).feedsWest 1 = true ∧
    (crossing 0).crossStall 4 = true ∧ (crossing 1).crossStall 4 = false ∧ (crossing 1).feedsNorth 4 = true ∧
    (crossing 15).eatsEast 0 = true ∧ (crossing 15).eatsSouth 0 = true := by decide +kernel

/-- The same with link 0's hidden state replaced. -/
def onLink (l : List (Fld × Nat)) (x : LinkSt) : State := (onWith l).setLk 0 x

theorem witness_stitch :
    (on.lk 0).sendAt ≠ some on.stitch ∧ on.seamClear = true ∧
    ((onLink [] { begunAt := some 0, expecting := [(default : Expect)] }).beginStitch 0 0).lk 0 =
      { begunAt := some 0, expecting := [(default : Expect)] } ∧
    (onLink [(Reg.CRN_NOW_CROWN, 8)] { expecting := [⟨0, 0, 0, 3, 0, 0, 0, 0⟩] }).stitch = 4 ∧
    (onLink [(Reg.CRN_NOW_CROWN, 8)] { arrivals := [(0, {})] }).cuff.stopped = false ∧
    (onLink [(Reg.CUF_CTRL_RUN, 1), (Reg.CRN_NOW_CROWN, 2000)] { arrivals := [(0, {})] }).unpaired 0 1000 = some 0 ∧
    ({ on with palm := { on.palm with running := some default, outgoing := [(0, 3, 5, {})] } } : State).palm.running =
      some default := by decide +kernel

theorem witness_bank : on.live = true ∧ on.powered Reg.CUF_CTRL = true ∧ on.rdb Reg.CUF_CTRL_FILL_AUTO = false ∧
    on.rdb Reg.CUF_STATUS_VERIFY_BUSY = false ∧ on.rdb Reg.CUF_STATUS_ARMED = false ∧
    (onWith [(Reg.CUF_STATUS_VERIFY_OK, 1)]).rdb Reg.CUF_STATUS_VERIFY_OK = true ∧
    on.domOn (linkDomain 23) = true ∧ on.rd Reg.CUF_STATUS_ACTIVE_BANK ≠ 1 ∧ on.powered Reg.CUF_BANK_CFG = true ∧
    32768 % 32 = 0 ∧ on.powered (Reg.LNK_RQ_CFG 23) = true ∧ on.run = false ∧ capSum 0 ≤ 512 := by decide +kernel

/-- A running module at its opening seam's tick, with nothing else to do there. -/
def atSeam : State :=
  { onWith [(Reg.CUF_CTRL_RUN, 1), (Reg.LDR_STATUS_STATE, 8), (Reg.CUF_SEAM_SEGMENT, 1)] with
    cuff := { on.cuff with started := true, checkSeam := some (1, 0, 0) } }

theorem witness_seam : on.run = false ∧ atSeam.run = true ∧ atSeam.ldr = 8 ∧ atSeam.cuff.stopped = false ∧
    atSeam.cuff.ended = false ∧ atSeam.now = atSeam.rd Reg.CUF_SEAM_TICK_TICK ∧
    segLast (atSeam.segEntry (atSeam.rd Reg.CUF_SEAM_SEGMENT)) = false ∧ (atSeam.takeDeferred 2).cuff.stopped = false ∧
    atSeam.cuff.checkSeam = some (1, 0, atSeam.now) ∧ atSeam.segFetched 2 true = true := by decide +kernel

/-- The same at the seam that closes the last segment, whose entry stands in stack 0. -/
def atLastSeam : State := { atSeam.wr (Reg.HBM_STATUS_STATE 0) 1 with hbm := on.hbm.writeBytes 0 (encodeWord (leBytes 32 (2 ^ 90))) }

theorem witness_last_seam : atLastSeam.run = true ∧ atLastSeam.ldr = 8 ∧ segLast (atLastSeam.segEntry 1) = true ∧
    (atLastSeam.takeDeferred 2).cuff.stopped = false := by decide +kernel

/-- Link 0 UP at eight lanes. -/
def linkUp (x : LinkSt) : State := onLink [(Reg.LNK_STATUS_STATE 0, 6), (Reg.LNK_STATUS_WIDTH 0, 8)] x

/-- The 400 bytes of a flit. -/
def slotOf (f : Flit) : BitVec 3200 := BitVec.ofNat 3200 (flitBits f)

theorem witness_reception : (linkUp {}).isUp 0 = true ∧ (linkUp {}).mute 0 = false ∧ (linkUp {}).rd (rxExpectFld 0 0) = 0 ∧
    (linkUp {}).rd (rxExpectFld 0 1) = 0 ∧ movedRepeat ((linkUp {}).lk 0).carryExpL {} = false ∧
    ((linkUp {}).offer 0 0 { cls := 1, vc := 1 }).2 = true ∧
    isFar 23 = true ∧ (onWith [(Reg.LNK_STATUS_STATE 23, 6)]).isUp 23 = true := by decide +kernel

theorem witness_slots : ([{}, { cls := 1, vc := 1 }, { cls := 1, moved := true, carriedV := true }, nullFlit].all fun f =>
      slotOk (slotOf f).toNat && flitOf (slotOf f).toNat == f) = true ∧ slotOk 0 = false ∧
    (flitOf (slotOf { seq := 5 }).toNat).seq % 2 ^ 24 ≠ (linkUp {}).rd (rxExpectFld 0 0) ∧
    movedRepeat 1 { cls := 1, moved := true } = true := by decide +kernel

/-- Far link 16 UP with the buffer of VC 0 full. -/
def farFull : State := (onWith [(Reg.LNK_STATUS_STATE 16, 6)]).setLk 16 { vcBuf := [(0, List.replicate 256 {})] }

theorem witness_reception_refused : farFull.isUp 16 = true ∧ farFull.mute 16 = false ∧ farFull.rd (rxExpectFld 16 1) = 0 ∧
    movedRepeat (farFull.lk 16).carryExpL {} = false ∧ (farFull.offer 16 farFull.stitch { cls := 1 }).2 = false := by decide +kernel

theorem witness_link_exchange :
    (linkUp { trainReq := some (1, 4, 0) }).isUp 0 = true ∧ (linkUp { pendRsp := some (default, 0) }).lcwDue 0 = true ∧
    0 + 4 ≤ ((linkUp {}).wr Reg.CRN_STATUS_RUNNING 1 |>.wr Reg.CRN_NOW_CROWN 32).wireTick ∧
    ((linkUp {}).wr Reg.CRN_STATUS_RUNNING 1 |>.wr Reg.CRN_NOW_CROWN 32).lcwDue 0 = true ∧
    ((linkUp { pendTrain := some 1 }).lk 0).pendRsp = none ∧ ((linkUp { pendTrain := some 1 }).lk 0).trainReq = none ∧
    ((linkUp { pendTrain := some 4, follow := some 1 }).lcwShown 0).train = some 4 ∧
    (linkUp {}).identDue 0 = true ∧ (linkUp { identAt := some 0 }).identDue 0 = false ∧
    ((linkUp { s := { nakFrom := some (0, 0) } }).setCls 0 0 {}).isUp 0 = true ∧
    (((linkUp { l := { nakFrom := some (0, 0) } }).setCls 0 1 {}).oppRefused 0 0).isUp 0 = true ∧
    ((onLink [(Reg.LNK_STATUS_STATE 0, 6), (Reg.CRN_NOW_CROWN, 9000)]
      { l := { unacked := [{ flit := {}, last := 0 }] } }).mute 0 = false ∧
      0 + 2 * (onLink [(Reg.LNK_STATUS_STATE 0, 6), (Reg.CRN_NOW_CROWN, 9000)] {}).flight 0 + 34 ≤
        (onLink [(Reg.LNK_STATUS_STATE 0, 6), (Reg.CRN_NOW_CROWN, 9000)] {}).stitch) := by decide +kernel

/-- A training frame of a peer of one lane, and the marker of its lane 0. -/
def negotiateFrame : Nat := trainFrame 3 { (default : PeerFields) with width := 1 } 0 0
def oneLane : LinkSt := { peer := { width := 1 } }

theorem witness_negotiation : negotiateFrame < 2 ^ 192 ∧ lcwOk negotiateFrame = true ∧
    min (on.lk 0).propWidth (peerOf negotiateFrame).width ≠ 0 ∧
    markersOk (min oneLane.propWidth oneLane.peer.width) oneLane.peer.link [laneMarker 0 0 0] = true ∧ laneMarker 0 0 0 < 2 ^ 64 := by
  decide +kernel

theorem witness_training : on.live = true ∧ on.powered (Reg.LNK_CTRL 23) = true ∧ on.rdb (Reg.LNK_CTRL_EN 23) = false ∧
    (onWith [(Reg.LNK_STATUS_STATE 0, 1)]).lstate 0 = 1 ∧ (onWith [(Reg.LNK_STATUS_STATE 0, 2)]).lstate 0 = 2 ∧
    (onWith [(Reg.LNK_STATUS_STATE 0, 3)]).lstate 0 = 3 ∧ 
    (onWith [(Reg.LNK_STATUS_STATE 0, 4)]).lstate 0 = 4 ∧ (onWith [(Reg.LNK_STATUS_STATE 0, 5)]).lstate 0 = 5 ∧
    (onWith [(Reg.LNK_STATUS_STATE 0, 7)]).lstate 0 = 7 ∧ (trainLimit 2 true).isSome = true := by decide +kernel

theorem witness_link_loss : (linkUp {}).isUp 0 = true ∧ (linkUp {}).rd (Reg.LNK_STATUS_WIDTH 0) = 8 ∧
    (((linkUp {}).count (Reg.LNK_LANE_CORR_CNT 0 7) 1).isUp 0 = true) ∧
    ((onLink [(Reg.LNK_STATUS_STATE 0, 6), (Reg.CRN_NOW_CROWN, 9000)]
      { lcwAt := some 9000, s := { unacked := [{ flit := {}, last := 0 }] } }).ackLate 0 0 = true) ∧
    ((onLink [(Reg.LNK_STATUS_STATE 0, 6), (Reg.CRN_NOW_CROWN, 9000)] { lcwAt := some 9000 }).mute 0 = false) := by
  decide +kernel

/-- The crown has just reached the tick from which the route tables may be written. -/
def routed : State :=
  onWith [(Reg.CRN_STATUS_STATE, 2), (Reg.CRN_NOW_CROWN, 250016), (Reg.RTE_EPOCH_TICK_TICK, 251040), (Reg.RTE_CTRL_VC_EN, 255)]

theorem witness_loose : on.looseStitch on.stitch = true ∧ on.route.latAt ≠ some on.stitch ∧ routed.vcOn 3 = true ∧
    (on.lk 0).oppUntil ≤ on.stitch ∧ on.domOn 28 = true ∧ on.run = false ∧ routed.rd Reg.RTE_EPOCH_INJECT ≠ 1 ∧
    routed.routeFree = true ∧ routed.routeOk 4095 0 = true ∧ routed.rd Reg.CRN_STATUS_STATE ≠ 0 ∧ routed.powered Reg.RTE_EPOCH = true ∧
    routed.now + 1024 ≤ routed.rd Reg.RTE_EPOCH_TICK_TICK ∧
    (onWith [(Reg.RTE_EPOCH_ARMED, 1)]).now = (onWith [(Reg.RTE_EPOCH_ARMED, 1)]).rd Reg.RTE_EPOCH_TICK_TICK := by decide +kernel

/-- A smallest descriptor of each operation: formats A, B and OUT, IMM, FLAGS and DIM2; one row, one tile, load class 5. -/
def opShape : Nat → Nat × Nat × Nat × Nat × Nat × Nat
  | 0x01 => (1, 1, 0, 0, 0, 1)
  | 0x02 => (1, 1, 0, 0, 0, 1)
  | 0x03 => (1, 1, 0, 0x11100001, 2, 1)
  | 0x07 => (1, 0, 1, 0, 1, 1)
  | 0x04 => (1, 1, 1, 0, 0, 1)
  | 0x09 => (0, 0, 0, 0, 0, 1)
  | 0x0A => (0, 0, 0, 0, 0, 1)
  | 0x0C => (1, 0, 1, 1, 0, 1)
  | 0x0D => (1, 0, 1, 1, 0, 96)
  | 0x0E => (1, 0, 1, 1, 0, 96)
  | 0x10 => (0, 0, 0, 0, 0, 1)
  | 0x11 => (0, 0, 0, 0, 0, 1)
  | _ => (1, 0, 1, 0, 0, 1)

def smallDesc (o : Nat) : Desc :=
  have x := opShape o
  { bits := 2 ^ 219 * o + 2 ^ 211 * x.1 + 2 ^ 206 * x.2.1 + 2 ^ 201 * x.2.2.1 + 2 ^ 129 * 5 + 2 ^ 117 * 0xFFF + 2 ^ 105 * 0xFFF
      + 2 ^ 13 * x.2.2.2.1 + x.2.2.2.2.1,
    arg := some (2 ^ 114 * 64 + 2 ^ 56 + 2 ^ 40 + 2 ^ 24 * x.2.2.2.2.2), seg := some 1, opened := 0, lost := false }

/-- A running Palm with an operation at the head of its queue. -/
def palmReady (o : Nat) : State :=
  { onWith [(Reg.CRN_STATUS_RUNNING, 1), (Reg.CRN_NOW_CROWN, 4096), (Reg.PLM_SRAM_ALLOC_BANKS, 0xFFF)] with
    cuff := { on.cuff with started := true }, palm := { on.palm with queue := [smallDesc o], lastSeg := 1 } }

def launches (o : Nat) : Bool :=
  (palmReady o).rdb Reg.CRN_STATUS_RUNNING && !(palmReady o).rdb Reg.PLM_STATUS_HALTED &&
    !(palmReady o).rdb Reg.PLM_STATUS_RUNNING && (smallDesc o).field == 0 && (smallDesc o).op.opcode == o &&
    (smallDesc o).tick.any (fun t => t ≤ (palmReady o).now) && (palmReady o).stagedOk (smallDesc o).op &&
    decide ((palmReady o).tokenSum (smallDesc o).op ≤ (palmReady o).rd Reg.PLM_BUDGET_GRADE) &&
    ((palmReady o).classFail (smallDesc o).op).isNone && ((palmReady o).launchBounds (smallDesc o).op).isNone &&
    (palmReady o).seamClear && !(palmReady o).epochDue && (palmReady o).ldr != 10 && !(smallDesc o).lost &&
    decide ((palmReady o).tokenSum (smallDesc o).op ≤ (palmReady o).rd Reg.PLM_BUDGET_EFFECTIVE)

theorem witness_operations : (palmCommands.all fun p => launches p.2) = true := by decide +kernel

/-- A Palm whose operation waits for nothing more. -/
def palmBusy (o : Nat) : State := { palmReady o with palm := { on.palm with running := some (smallDesc o) } }

theorem witness_operation_results : (palmBusy 0x11).palmDrain.palm.running = some (smallDesc 0x11) ∧
    (palmBusy 0x11).palmDrain.palm.effect = false ∧ (palmBusy 0x11).palmDrain.palm.want = [] := by decide +kernel

/-- A module RUNNING an image of one segment, whose op stream of one descriptor stands in stack 0. -/
def imageRuns : State :=
  { onWith [(Reg.LDR_STATUS_STATE, 8), (Reg.HBM_STATUS_STATE 0, 1), (Reg.CUF_CTRL_RUN, 1)] with
    cuff := { on.cuff with started := true },
    ldrs := { on.ldrs with held :=
      [(0, 2 ^ 160 + 2 ^ 192 * 2),
       (1, (1 + 2 ^ 16 * 0xFFFF + 2 ^ 64 * 2) + 2 ^ 1024 * (0x11 + 2 ^ 16 * 0xFFFF + 2 ^ 64 * 3 + 2 ^ 128 * 32)), (2, 2 ^ 64)] } }

theorem witness_palm_control : imageRuns.segments = 1 ∧ imageRuns.ldr = 8 ∧ imageRuns.palm.queue.length < 8 ∧
    imageRuns.palm.nextFetch < imageRuns.fetchEnd ∧ imageRuns.placeOf 0x11 / 32 + imageRuns.palm.nextFetch = 0 ∧
    imageRuns.stackUp 0 = true ∧ (imageRuns.wr (Reg.HBM_STATUS_STATE 0) 3).stackUp 0 = false ∧
    on.powered Reg.PLM_CTRL = true ∧ on.rdb Reg.PLM_STATUS_LINER_BUSY = false ∧ on.linerMappable = true ∧
    on.fenced (on.physOf 4095) = false ∧ (smallDesc 5).op.tiles.contains 0 = true := by decide +kernel

/-- Word 0 of stack 0 holds `d`; the image's argument section of one word lies in stack `k`. -/
def opStream (d : List Byte) (k : Nat) : State :=
  { imageRuns with
    hbm := on.hbm.writeBytes 0 (encodeWord d),
    ldrs := { on.ldrs with held :=
      [(0, 2 ^ 160 + 2 ^ 192 * 3),
       (1, (1 + 2 ^ 16 * 0xFFFF + 2 ^ 64 * 2) + 2 ^ 1024 * (0x11 + 2 ^ 16 * 0xFFFF + 2 ^ 64 * 3 + 2 ^ 128 * 32)
         + 2 ^ 2048 * (0x12 + 2 ^ 16 * 0xFFFF + 2 ^ 64 * 4 + 2 ^ 128 * 32 + 2 ^ 192 * (k * 32 * stackWords))), (2, 2 ^ 64)] } }

theorem witness_descriptor_words : ((opStream poisonBytes 0).hbmReadN 13 0 1).2.headD (some 0) = none ∧
    ((opStream (leBytes 32 (2 ^ 219)) 0).hbmReadN 13 0 1).2.headD none = some (2 ^ 219) ∧ nbits (2 ^ 219) 223 219 ≠ 0x11 ∧
    nbits (2 ^ 219) 68 45 < (opStream [] 7).lengthOf 0x12 / 32 ∧ (opStream [] 0).placeOf 0x12 / 32 = 0 ∧
    (opStream [] 7).stackUp ((opStream [] 7).placeOf 0x12 / 32 / stackWords) = false ∧
    (imageRuns.lengthOf 0x12) / 32 ≤ nbits (2 ^ 219) 68 45 := by decide +kernel

theorem witness_defect : ({ on with mem := { on.mem with sramDefect := [12288 * on.physOf 4095] } } : State).mem.sramDefect =
    [12288 * on.physOf 4095] ∧ 12288 * on.physOf 4095 / 12288 = on.physOf 4095 := by decide +kernel

theorem witness_op_complete : ∃ d : Desc,
    ((palmBusy 0x11).palmTry.spillSend (palmBusy 0x11).palmTry.palm.spill).palm.running = some d ∧
    ((palmBusy 0x11).palmTry.spillSend (palmBusy 0x11).palmTry.palm.spill).opFinished d = true :=
  ⟨smallDesc 0x11, by decide +kernel⟩

/-- Stack 7 UP with word `w` stored with one check byte wrong. -/
def oneByteOff : State :=
  { onWith [(Reg.HBM_STATUS_STATE 7, 1), (Reg.HBM_CTRL_SCRUB_EN 7, 1)] with
    hbm := on.hbm.writeBytes (36 * (7 * stackWords)) ((encodeWord (leBytes 32 1)).set 33 0x37),
    mem := { on.mem with writeBack := [7 * stackWords] } }

theorem witness_hbm : oneByteOff.stackUp 7 = true ∧ (oneByteOff.upset 7 [] []).scrubDue 7 = true ∧
    decodeWord ((oneByteOff.capUse 7 1 (burstWords (7 * stackWords) 1)).hbmStored (7 * stackWords)) =
      .corrected 33 (encodeWord (leBytes 32 1)) ∧
    decodeWord (oneByteOff.hbmStored (7 * stackWords)) = .corrected 33 (encodeWord (leBytes 32 1)) ∧
    (oneByteOff.upset 7 [] []).rdb (Reg.HBM_CTRL_SCRUB_EN 7) = true ∧ (oneByteOff.upset 7 [] []).stackUp 7 = true ∧
    on.powered (Reg.HBM_CTRL 7) = true ∧ (onWith [(Reg.HBM_STATUS_STATE 7, 2)]).rd (Reg.HBM_STATUS_STATE 7) = 2 ∧
    on.cyc ≤ 0 + retrainLimit 0 ∧ on.powered (Reg.HBM_CAP 7) = true ∧ on.run = false := by decide +kernel

/-- An ADMITTED image that starts at tick 1,088. -/
def admitted : State :=
  { imageRuns with regs := (onWith [(Reg.LDR_STATUS_STATE, 6), (Reg.CRN_STATUS_RUNNING, 1), (Reg.CUF_CTRL_RUN, 1),
      (Reg.LDR_START_TICK_TICK, 1088), (Reg.LDR_START_SEG_SEGMENT, 1), (Reg.PLM_STATUS_LINER_OK, 1),
      (Reg.CUF_STATUS_ARMED, 1)]).regs }

theorem witness_load : on.ldr = 0 ∧ on.run = false ∧ (onWith [(Reg.LDR_STATUS_STATE, 3)]).ldr = 3 ∧
    (onWith [(Reg.LDR_STATUS_STATE, 4)]).ldr = 4 ∧ (onWith [(Reg.LDR_STATUS_STATE, 5)]).ldr = 5 ∧ on.imgKind ≠ 1 ∧
    admitted.ldr = 6 ∧ admitted.rdb Reg.CRN_STATUS_RUNNING = true ∧ admitted.rd Reg.LDR_START_TICK_TICK % 64 = 0 ∧
    admitted.rdb Reg.CUF_CTRL_FILL_AUTO = false ∧ admitted.now + 1024 ≤ admitted.rd Reg.LDR_START_TICK_TICK ∧
    admitted.run = true ∧ admitted.rdb Reg.PLM_STATUS_LINER_OK = true ∧ 1 ≤ admitted.segments ∧
    admitted.rdb Reg.CUF_STATUS_ARMED = true := by decide +kernel

/-- Domain A locked beside a running crown, with one sample of both. -/
def sampled : State :=
  { onWith [(Reg.TIME_STATUS_DOM_A, 3), (Reg.CRN_STATUS_RUNNING, 1)] with
    time := { on.time with samples := [⟨0, 0, some 0, none, none⟩] } }

theorem witness_convert : sampled.ldr ≠ 7 ∧ sampled.domLocked 0 = true ∧
    (sampled.toCrown 0 (65536 * sampled.rd Reg.LDR_START_PTP_TIME)).isSome = true := by decide +kernel

theorem witness_start : (onWith [(Reg.LDR_STATUS_STATE, 7), (Reg.CRN_STATUS_STATE, 2)]).now =
      (onWith [(Reg.LDR_STATUS_STATE, 7), (Reg.CRN_STATUS_STATE, 2)]).rd Reg.LDR_START_TICK_TICK ∧
    (onWith [(Reg.LDR_STATUS_STATE, 7), (Reg.CRN_STATUS_STATE, 2)]).startLocked = true ∧ on.flt.alarmPend = false := by
  decide +kernel

/-- A packet of DST_Q `q`, endpoint header `h` and data `x` waits in the receive queue of VC `v`. -/
def waiting (s : State) (v : Nat) (f : Flit) : State := s.setNi v [(0, f)]

def packet (vc q h x : Nat) : Flit := { cls := 1, vc := vc, payload := routeWord 0 0 0 0 q 0 0 0 0 h + 2 ^ 256 * x }

/-- A source whose whole image is its header and table chunk. -/
def source : State :=
  { onWith [(Reg.LDR_STATUS_STATE, 3), (Reg.LDR_BCAST_CFG_ROLE, 2)] with
    ldrs := { on.ldrs with held := [(0, 2 ^ 128 * 2 + 2 ^ 160)], got := [(0, true), (1, true)] } }

theorem witness_chunks : ((waiting on 6 (packet 6 0 0 0)).niTake 6 fun _ => true).isSome = true ∧
    (onWith [(Reg.LDR_STATUS_STATE, 1)]).ldr = 1 ∧ source.isSource = true ∧ 3 ≤ source.ldr ∧ source.ldr ≠ 11 ∧
    source.rdb Reg.LDR_BCAST_STATUS_BUSY = false ∧ source.loadComplete = true ∧
    source.rd Reg.LDR_BCAST_STATUS_ROUND < 8 ∧ (0 : Nat) < (onWith [(Reg.LDR_BCAST_CFG_EXPECT, 1)]).rd Reg.LDR_BCAST_CFG_EXPECT ∧
    on.rd Reg.LDR_BCAST_CFG_EXPECT ≤ 0 := by decide +kernel

theorem witness_rounds :
    ((waiting source 1 (packet 1 0 (2 ^ 136) 0)).niTake 1 (isLdrMsg 1)).isSome = true ∧
    ((((waiting source 1 (packet 1 0 (2 ^ 136) 0)).niTake 1 (isLdrMsg 1)).map fun x =>
      ((x.1.ldrSendTo x.1.children 1 (rwHdr x.2.2) 0).ldr, nbits (rwHdr x.2.2) 135 104, nbits (rwHdr x.2.2) 103 100)) =
        some (3, 0, 0)) ∧
    ((waiting source 1 (packet 1 0 (2 * 2 ^ 136) 0)).niTake 1 (isLdrMsg 2)).isSome = true := by decide +kernel

/-- A VERIFIED firmware image of one chunk for the tiles. -/
def firmware : State :=
  { onWith [(Reg.LDR_STATUS_STATE, 5)] with ldrs := { on.ldrs with held := [(0, 2 ^ 216 + 2 ^ 160 + 2 ^ 192), (1, 0x100 + 2 ^ 16 * 0xFFFF + 2 ^ 64 * 2 + 2 ^ 96)], fwNext := some 0 }, cyc := 256 }

theorem witness_firmware : firmware.ldr = 5 ∧ firmware.imgKind = 1 ∧ firmware.rdb Reg.LDR_FW_STATUS_BUSY = false ∧
    firmware.rd Reg.LDR_FW_STATUS_REPAIRS < 8 ∧ (firmware.fwItem 0).isSome = true ∧ firmware.ldrs.fwLast + 256 ≤ firmware.cyc := by decide +kernel

/-- A Bonnet with firmware in every core, both ports up, and an open session 0 of SESSION_ID 7 whose HOME is this seat. -/
def bonnet (kind home : Nat) : State :=
  have s := onWith [(Reg.BON_CTRL_SVC_EN, 1), (Reg.BON_CTRL_PORT_EN, 3), (Reg.BON_STATUS_PORT_UP, 3), (Reg.BON_PORT_MAC_MAC 0, 0x20000000001),
    (Reg.BON_PORT_IP4_EN 0, 1), (Reg.BON_PORT_IP4_ADDR 0, 0x0A000001), (Reg.BON_INTAKE_CFG_UDP_PORT, 4791),
    (Reg.BON_SRC_LIMIT_BURST, 16)]
  { s.setSession 0 (2 ^ 510 + 2 ^ 508 * kind + 2 ^ 490 * 5000 + 2 ^ 362 * 0x0A000002 + 2 ^ 330 * 7 + 2 ^ 286 * home + 2 ^ 262 * 16
      + 2 ^ 134) with
    ldrs := { on.ldrs with fw := (List.range 24).map fun i => (4352 + i, 2 ^ 256) },
    bon := { on.bon with declared := true, decl := 3 } }

/-- A datagram of session 0 with client COUNTER 1, sealed with the session's key 0. -/
def sealed (typ : Nat) : EthFrame :=
  have h := brpHeader { sess := 0, typ := typ, id := 9 } 7 1
  { port := 0, good := true, len := 120, dmac := 0x20000000001, vlan := none,
    body := .udp false 0x0A000002 0x0A000001 5000 4791 (some true) (h ++ beBytes 16 (gcmTag (aesKeys 0) 1 h [])) }

/-- What a frame becomes: its datagram's type, 100 a neighbour's, 200 dropped. -/
def becomes (s : State) (f : EthFrame) : Nat :=
  match s.checkFrame f with
  | .dropped _ => 200
  | .neighbour _ => 100
  | .ptp _ => 300
  | .dgram t d => if t.takes d then d.typ else 150

theorem witness_datagrams : (bonnet 0 0).hears (sealed 1) = true ∧ becomes (bonnet 0 0) (sealed 1) = 1 ∧
    becomes (bonnet 0 0) (sealed 6) = 6 ∧ becomes (bonnet 0 0) (sealed 5) = 5 ∧ becomes (bonnet 1 0) (sealed 8) = 8 ∧
    becomes (bonnet 0 0) (sealed 8) = 150 ∧ becomes (bonnet 0 5) (sealed 8) = 8 ∧
    becomes (bonnet 0 0) { sealed 1 with good := false } = 200 ∧
    becomes (bonnet 0 0) { sealed 1 with body := .arp true 0x0A000001 } = 100 := by decide +kernel

/-- A forwarded RESEND for session 0, in the receive queue of VC 5. -/
def forwarded : List Byte := brpHeader { sess := 0, typ := 5 } 7 0

theorem witness_forwarded : (bonnet 0 0).bonUp = true ∧
    ((waiting (bonnet 0 0) 5 (packet 5 0xF5 0 (ofLeBytes forwarded))).takeForwarded forwarded).2 = true ∧
    seState ((bonnet 0 0).session 0) = 1 ∧ seId ((bonnet 0 0).session 0) = ofBeBytes ((forwarded.drop 4).take 4) ∧
    (bonnet 0 0).takes { sess := 0, typ := 5 } = true := by decide +kernel

/-- A request in slot 255 whose assembly timer has run out. -/
def stale : State :=
  { bonnet 0 0 with cyc := 2 ^ 40, bon := { (bonnet 0 0).bon with reqs := [{ (default : Req) with slot := 255 }] } }

theorem witness_asm_timeout : (stale.reqAt 255).map (fun r => (r.complete, decide (r.timer + stale.rd Reg.BON_INTAKE_CFG_ASM_TIMEOUT ≤ stale.cyc))) =
    some (false, true) ∧ stale.closeDue = false ∧ stale.bonUp = true := by decide +kernel

/-- A serving seat of one slot with windows of 4,096 ct, at the close of window 0. -/
def serving : State :=
  have d := 3 + 2 ^ 16 + 2 ^ 32 * 4096 + 2 ^ (8 * 0x30) * 0 + 2 ^ (8 * 0x38) * 65536
  { (bonnet 0 0).wr Reg.LDR_STATUS_STATE 8 with
    hbm := [], bon := { (bonnet 0 0).bon with decl := d }, ldrs := { (bonnet 0 0).ldrs with decl := d, declared := true } }

theorem witness_windows : serving.windowAt 0 = some 0 ∧ serving.bon.nextWin ≤ 0 ∧
    ({ serving.wr Reg.BON_WINDOW_INDEX 0 with bon := { serving.bon with nextWin := 1 } } : State).role 0 = true ∧
    (serving.wr (Reg.HBM_STATUS_STATE 0) 1).rangeUp (bufferAt (serving.svc 0x30 8) serving.recordBytes 0) serving.recordBytes = true ∧
    serving.windowAt (serving.svc 0x18 4) = some 0 ∧ serving.role 1 = true ∧ serving.windowAt (serving.svc 0x1C 4) = some 0 ∧
    serving.ldrs.declared = true ∧ nbit (field serving.ldrs.decl 0 1) 0 = true ∧ field serving.ldrs.decl 0x04 4 ≠ 0 ∧
    serving.now = serving.ldrs.start + field serving.ldrs.decl 0x08 8 + field serving.ldrs.decl 0x10 4 := by decide +kernel

theorem witness_sessions : on.domOn 29 = true ∧ on.sessOpen 4095 = false ∧ on.powered Reg.BON_SESS_CMD = true ∧
    (bonnet 1 0).bonUp = true ∧ (bonnet 1 0).openResult (2 ^ 508) = 1 ∧ (bonnet 1 0).sessOpen 0 = true ∧
    on.powered Reg.BON_BULK_CTRL = true ∧ (bonnet 1 0).bulkRuns = false ∧ seKind ((bonnet 1 0).session 0) = 1 ∧
    ((bonnet 1 0).wr Reg.BON_BULK_LEN_LEN 1).bulkLen ≠ 0 ∧ (onWith [(Reg.BON_BULK_STATUS_STATE, 1)]).bulkRuns = true ∧
    nbit ((bonnet 1 0).rd Reg.BON_CTRL_PORT_EN) 1 = true := by decide +kernel

/-- Domain A follows port identity 77 on port 0, with an outstanding path request and a Sync complete. -/
def follower (delay : Bool) : State :=
  { bonnet 0 0 with
    regs := ((((bonnet 0 0).wr (Reg.TIME_DOM_CFG_EN 0) 1).wr Reg.TIME_STATUS_DOM_A 2).wrb (Reg.TIME_DOM_CFG_DELAY 0) delay).regs,
    time := { on.time with domA := { masters := [⟨77, [1], 0, false, 0, 0, some 0⟩], req := some (5, 0), sync := some (0, 0, 0),
                                     peer := some (5, 0, 0, 0), pend := some (5, 0, 0) } } }

def ptpMsg (kind : Nat) : PtpMsg :=
  ⟨0, kind, 0, 77, 5, false, 0, 0, 0, 0x20000000001, 0, [1], 0, false⟩

/-- The domains that take a message. -/
def takenBy (s : State) (m : PtpMsg) : List Nat := (s.ptpTake m (s.ptpOk m)).2

theorem witness_ptp_taken : (bonnet 0 0).portUp 0 = true ∧
    ([0, 8, 9].all fun k => takenBy (follower false) (ptpMsg k) == [0]) = true ∧
    ([2, 3, 10, 11].all fun k => takenBy (follower true) (ptpMsg k) == [0]) = true ∧
    takenBy (follower false) (ptpMsg 2) = [] := by decide +kernel

/-- What a taken message finds: it is for this port, and the SEQs it waits for. -/
def ptpFinds (delay : Bool) (k : Nat) : Bool :=
  have u := ((follower delay).ptpTake (ptpMsg k) ((follower delay).ptpOk (ptpMsg k))).1
  u.toMe (ptpMsg k) && (u.dom 0).req.isSome && (u.dom 0).req.all (fun q => q.1 == 5) && (u.dom 0).peer.any (fun q => q.1 == 5) &&
    (u.dom 0).sync.isSome && (u.dom 0).pend.any (fun q => q == (5, 0, 0)) && u.rdb (Reg.TIME_DOM_CFG_DELAY 0) == delay

theorem witness_ptp_finds : ptpFinds false 8 = true ∧ ptpFinds false 9 = true ∧ ptpFinds true 3 = true ∧
    ptpFinds true 10 = true := by decide +kernel

theorem witness_ptp_domain : fget 1 0 0 = 1 ∧ fget 0 0 0 = 0 ∧ (follower false).domState 0 = 2 ∧
    ((follower false).dom 0).syncAt + 4 * interval ((follower false).dom 0).logSync = 4000000000 ∧
    (({ follower false with cyc := 4000000000 } : State).dom 0).syncAt + 4 * interval 0 ≤ 4000000000 ∧
    (((follower false).dom 0).masters.find? fun m => (follower false).domFollows 0 m.source).isSome = true ∧
    (follower false).portUp ((follower false).domPort 0) = true ∧
    (follower true).rdb (Reg.TIME_DOM_CFG_DELAY 0) = true := by decide +kernel

/-- A bridge message of the crown's tick 2^20. -/
def bridgeMsg (state : Nat) : Flit := packet 1 0xF0 0 (2 ^ 192 * 2 ^ 20 + 2 ^ 80 * 3 + 2 ^ 64 + 2 ^ 50 * state)

theorem witness_bridge :
    (onWith [(Reg.TIME_CTRL_BRIDGE_TX, 1), (Reg.CRN_STATUS_RUNNING, 1)]).now % 2 ^ 20 = 0 ∧
    (((waiting on 1 (bridgeMsg 1)).niTake 1 (fun f => rwDstQ f == 0xF0)).map fun x => x.1.bridgeOk (rwData x.2.2 % 2 ^ 256)) =
      some true ∧
    (((waiting on 1 (bridgeMsg 0)).niTake 1 (fun f => rwDstQ f == 0xF0)).map fun x => x.1.bridgeOk (rwData x.2.2 % 2 ^ 256)) =
      some false ∧
    ({ on.wr Reg.CRN_NOW_CROWN (2 ^ 24) with time := { on.time with bridge := some (0, 0) } } : State).bridgeFresh = false := by
  decide +kernel

/-- Generator 0 on the crown, armed for START 0. -/
def pulsing : State :=
  { onWith [(Reg.CRN_STATUS_RUNNING, 1), (Reg.TIME_TP_STATUS_ARMED 0, 1)] with time := { on.time with tp := [(0, { pulse := some 0 })] } }

theorem witness_pulses : fget 1 0 0 = 1 ∧ (pulsing.writeTpCtrl 0 1).rd (Reg.TIME_TP_CTRL_BASE 0) ≤ 4 ∧
    (pulsing.writeTpCtrl 0 1).rd (Reg.TIME_TP_PERIOD_PERIOD 0) = 0 ∧
    ((pulsing.wr (Reg.TIME_TP_PERIOD_PERIOD 0) 2).tpWidth 0 < (pulsing.wr (Reg.TIME_TP_PERIOD_PERIOD 0) 2).rd (Reg.TIME_TP_PERIOD_PERIOD 0)) ∧
    pulsing.tpValid 0 = true ∧ on.tpValid 0 = false ∧ pulsing.rdb (Reg.TIME_TP_STATUS_ARMED 0) = true ∧
    pulsing.rdb (Reg.TIME_TP_STATUS_WAIT_BASE 0) = false ∧ pulsing.rd (Reg.TIME_TP_CTRL_BASE 0) = 0 ∧
    (pulsing.rd (Reg.TIME_TP_START_START 0) : Int) + (pulsing.tp 0).edge * pulsing.rd (Reg.TIME_TP_PERIOD_PERIOD 0) <
      pulsing.tpDue 0 (pulsing.now + 1) ∧
    (pulsing.tp 0).pulse = some 0 := by decide +kernel

/-- A management request: MSG, COUNT, offset in BAR0. -/
def mgmtPkt (msg n o : Nat) (mitten : Nat) : Flit :=
  { packet 1 0xF2 (2 ^ 136 * msg + 2 ^ 129 * n + 2 ^ 102 * o) 0 with mitten := mitten }

/-- The offset of RTE_EPOCH in BAR0. -/
def atEpoch : Nat := 0x1000018

/-- What a management packet meets: its shape's STATUS, whether a target is off, whether all are writable. -/
def mgmtMeets (s : State) (f : Flit) : Option (Nat × Bool × Bool) :=
  ((waiting s 1 f).niTake 1 isMgmt).map fun x =>
    (mgShape x.2.2, ((mgTargets x.2.2).find? (x.1.mgOff x.2.2)).isSome, (mgTargets x.2.2).all (mgWritable x.2.2))

theorem witness_management : bar0Addr atEpoch = Reg.RTE_EPOCH ∧
    mgmtMeets on (mgmtPkt 0x20 1 atEpoch 0) = some (0, false, true) ∧
    mgmtMeets on (mgmtPkt 0x21 1 atEpoch 0) = some (0, false, true) ∧
    mgmtMeets on (mgmtPkt 0x21 0 atEpoch 0) = some (4, false, true) ∧
    mgmtMeets on (mgmtPkt 0x21 1 (atEpoch + 1) 0) = some (2, false, false) ∧
    mgmtMeets State.reset (mgmtPkt 0x21 1 atEpoch 0) = some (0, true, true) ∧
    mgmtMeets on (mgmtPkt 0x21 1 (atEpoch - 0x18) 0) = some (0, false, false) ∧
    (((waiting on 1 (mgmtPkt 0x21 1 atEpoch 3)).niTake 1 isMgmt).map fun x => x.2.2.mitten) = some 3 := by decide +kernel

/-- A module in a running phase. -/
def inPhase (k : Nat) : State := { on with boot := { on.boot with running := [k], ended := [1] } }

theorem witness_bring_up : State.reset.pwr.aonHeld = false ∧ State.reset.pwr.closed = true ∧ State.reset.boot.running = [] ∧
    State.reset.boot.ended = [] ∧ (inPhase 3).rd Reg.GEN_BOOT_STATUS_PHASE = 0 ∧ (inPhase 3).boot.ended.contains 1 = true ∧
    ([3, 4, 6, 8, 9].all fun k => (inPhase k).boot.running.contains k) = true ∧
    (inPhase 6).rdb Reg.PLM_STATUS_LINER_BUSY = false ∧ on.boot.groups = [] ∧ on.run = false ∧
    (allLinks.all fun l => on.rd (Reg.LNK_PLAN_EXPECT l) != 1 || on.rd (Reg.LNK_DISC_RESULT l) != 7) = true ∧
    on.domOn 16 = true ∧ State.reset.domOn 16 = false := by decide +kernel

theorem witness_domain_power : ({ on with boot := { on.boot with groups := [0], groupAt := some 0 } } : State).boot.groups = 0 :: [] ∧
    ({ on with boot := { on.boot with groups := [0], groupAt := some 0 }, cyc := 10000000 } : State).boot.groupAt = some 0 := by
  decide +kernel

theorem witness_nvm : 1 ≤ (2 : Fin 16).val ∧ (4096 : BitVec 32).toNat ≤ nvmRoom 2 ∧
    ({ on with nvm := { on.nvm with opened := some (2, 0, 1, [1]) } } : State).openOf 2 = some (2, 0, 1, [1]) ∧
    allWritten (2, 0, 1, [1]) = true ∧ allWritten (2, 0, 1, []) = false ∧ 1 < (nvmBase 2 0).2 ∧ on.nvm.opened = none ∧
    ({ on with nvm := { on.nvm with running := some default } } : State).nvm.running = some default := by decide +kernel

theorem witness_reset : on.boot.reset = none ∧ (∀ j ∈ on.boot.reset, j < 2) := by decide +kernel

theorem witness_telemetry :
    ((waiting on 0 (packet 0 0xF3 0 0)).niTake 0 (fun f => rwDstQ f == 0xF3)).isSome = true ∧
    ((waiting on 7 (packet 7 0xF1 0 0)).niTake 7 (fun f => rwDstQ f == 0xF1)).isSome = true ∧ on.live = true ∧
    on.powered Reg.FLT_HEAD = true ∧ ((5 : Nat) + 2048 - on.rd Reg.FLT_HEAD_IDX) % 2048 ≤
      ((on.wr Reg.FLT_TAIL_IDX 5).rd Reg.FLT_TAIL_IDX + 2048 - on.rd Reg.FLT_HEAD_IDX) % 2048 ∧
    (onWith [(Reg.FLT_TEL_CFG_EN, 1), (Reg.CRN_STATUS_RUNNING, 1), (Reg.FLT_TEL_CFG_PERIOD, 12)]).telDue = true := by decide +kernel

/-- A module with the input switch open. -/
def unpowered : State := { State.reset with pwr := { State.reset.pwr with closed := false } }

/-- Its budget halved by an input warning that has cleared. -/
def recovering : State :=
  { onWith [(Reg.PWR_STATUS_INPUT, 2), (Reg.PLM_BUDGET_EFFECTIVE, 104)] with pwr := { on.pwr with recoverAt := some 0 } }

theorem witness_supply : on.pwr.closed = true ∧ unpowered.pwr.closed = false ∧ unpowered.pwr.charge = none ∧
    unpowered.pwr.retryAt ≤ unpowered.cyc ∧ unpowered.tripEnded = true ∧
    (0 : Nat) + 200000000 ≤ ({ unpowered with cyc := 200000000, pwr := { unpowered.pwr with charge := some 0 } } : State).cyc ∧
    on.live = true ∧ on.rd Reg.PWR_STATUS_INPUT ≠ 1 ∧ (onWith [(Reg.PWR_STATUS_INPUT, 1)]).rd Reg.PWR_STATUS_INPUT = 1 ∧
    recovering.pwr.recoverAt = some 0 ∧ on.pwr.aonHeld = false ∧ on.pwr.shut = none ∧ on.shutDue = false ∧
    (onWith [(Reg.PWR_STATUS_COOL_FILT, 1)]).rdb Reg.PWR_STATUS_COOL_FILT = true ∧
    ({ on with pwr := { on.pwr with shut := some (3, 0) } } : State).shutDue = false := by decide +kernel

theorem witness_step : State.reset.canonical = true ∧ step State.reset = .next State.reset.tick ∧
    ({ on with pending := [.perst] } : State).pending = [.perst] := ⟨by decide +kernel, rfl, rfl⟩

theorem witness_frame : exec .perst on = .next { on with flt := { on.flt with
    msixAddr := 0, msixData := 0, msixMasked := true, msixPending := false, msixEnable := false } } := rfl

theorem witness_word_code : (List.replicate 32 (0 : Byte)).length = 32 ∧ (35 : Nat) < 36 ∧
    (encodeWord (List.replicate 32 0))[35]? ≠ some 1 ∧ (encodeWord (List.replicate 32 0))[0]? ≠ some 1 := by decide +kernel

theorem witness_hbm_write : 7 * stackWords / stackWords < 8 ∧ oneByteOff.stackUp (7 * stackWords / stackWords) = true ∧
    leBytes 32 5 ≠ poisonBytes ∧ 7 * stackWords ∉ oneByteOff.mem.hard := by decide +kernel

theorem witness_replay : seHigh ((bonnet 0 0).session 0) < 2 ^ 64 ∧ (bonnet 0 0).replayOk 0 0 1 = true ∧
    (bonnet 0 0).replayOk 0 0 0 = false ∧ ((bonnet 0 0).acceptCounter 0 1).replayOk 0 0 1 = false ∧
    ((bonnet 0 0).acceptCounter 0 1).replayOk 0 0 2 = true ∧
    seHigh ((bonnet 0 0).session 0) < 2 + 1024 ∧ seHigh (((bonnet 0 0).acceptCounter 0 1).session 0) < 2 + 1024 := by decide +kernel

/-- A datagram of session 0 with a tag that does not verify: its findings. -/
def badTag (x : List Byte) : Bool :=
  (bonnet 0 0).findSession (ofBeBytes ((x.drop 4).take 4)) 0x0A000002 5000 false == some 0 &&
    gcmTag (aesKeys 0) (ofBeBytes ((x.drop 8).take 12)) (x.take 40) ((x.drop 40).take (ofBeBytes ((x.drop 36).take 4))) !=
      ofBeBytes ((x.drop (40 + ofBeBytes ((x.drop 36).take 4))).take 16)

theorem witness_bad_tag : badTag (brpHeader { sess := 0, typ := 1, id := 9 } 7 1 ++ List.replicate 16 0) = true ∧
    SMap.get (fun _ => 0) (bonnet 0 0).bon.keys 0 = 0 := by decide +kernel

theorem witness_addresses : (Reg.find (Reg.LNK_LAG 2)).isSome = true ∧ Reg.find (bar0Addr 0x7FFFF8) = none ∧
    0x7FFFF8 % 8 = 0 := by decide +kernel

theorem witness_run_lock : ((Reg.find (bar0Addr 0x1000000)).map fun r => (r.rwRun0, r.rwRun0 &&& halfMask none)) = some (511, 511) ∧
    (onWith [(Reg.CUF_CTRL_RUN, 1)]).powered (bar0Addr 0x1000000) = true ∧
    SMap.get (fun _ => 0) (onWith [(Reg.CUF_CTRL_RUN, 1)]).same.mgmt (bar0Addr 0x1000000) = 0 := by decide +kernel

/-- A state after its next recovery step. -/
def recoverNext (s : State) : State :=
  match execBudgetRecoveryStep { s with cyc := max s.cyc (s.pwr.recoverAt.getD 0) } with
  | .next t => t
  | _ => s

/-- The recovery of `recovering`, step by step. -/
def recovery : Nat → State
  | 0 => recovering
  | n + 1 => recoverNext (recovery n)

theorem recovery_step (s : State) :
    exec .budgetRecoveryStep { s with cyc := max s.cyc (s.pwr.recoverAt.getD 0) } = .next (recoverNext s) := by
  show execBudgetRecoveryStep _ = _
  unfold recoverNext
  generalize ({ s with cyc := max s.cyc (s.pwr.recoverAt.getD 0) } : State) = u
  unfold execBudgetRecoveryStep
  cases u.pwr.recoverAt with
  | none => rfl
  | some t =>
    by_cases h1 : u.cyc < t
    · simp [h1]
    · by_cases h2 : min (u.rd Reg.PLM_BUDGET_GRADE) (u.rd Reg.PLM_BUDGET_EFFECTIVE + (u.rd Reg.PLM_BUDGET_GRADE + 19) / 20) =
          u.rd Reg.PLM_BUDGET_GRADE
      · simp only [h1, h2, if_true, if_false]
      · simp only [h1, h2, if_false]

theorem witness_recovery : (recovery 0).rd Reg.PLM_BUDGET_EFFECTIVE = (recovery 0).rd Reg.PLM_BUDGET_GRADE / 2 ∧
    (recovery 0).pwr.recoverAt.isSome = true ∧ 0 < (recovery 0).rd Reg.PLM_BUDGET_GRADE ∧
    ∀ i, exec .budgetRecoveryStep { recovery i with cyc := max (recovery i).cyc ((recovery i).pwr.recoverAt.getD 0) } =
      .next (recovery (i + 1)) :=
  ⟨by decide +kernel, by decide +kernel, by decide +kernel, fun i => recovery_step (recovery i)⟩

/-- A module whose fault queue is full. -/
def queueFull : State := onWith [(Reg.FLT_TAIL_IDX, 1024)]

theorem witness_fault_queue :
    (on.rd Reg.FLT_TAIL_IDX + 2048 - on.rd Reg.FLT_HEAD_IDX) % 2048 < 1024 ∧
    (queueFull.rd Reg.FLT_TAIL_IDX + 2048 - queueFull.rd Reg.FLT_HEAD_IDX) % 2048 = 1024 ∧
    faultClass queueFull { block := 1, code := 0x0601 } ≤ 2 ∧ 3 ≤ faultClass queueFull { block := 1, code := 0x0503 } ∧
    fget (queueFull.reg (Reg.FLT_QUEUE (8 * ((1024 + 2047 - 0) % 1024)))) 23 16 ≤ 1 ∧ queueFull.rdb Reg.FLT_FIRST_VALID = false ∧
    (queueFull.wr Reg.FLT_FIRST_VALID 1).rdb Reg.FLT_FIRST_VALID = true := by decide +kernel

/-- A module whose queue holds one record, of class DEGRADED, made in this cycle. -/
def oneRecord : State := on.fault { block := 1, code := 0x0601 }

/-- R405: a graver record of the same cycle goes before the one that is there, which keeps its words and takes the next SEQ. -/
theorem witness_fault_order : oneRecord.behind (recordRank { block := 1, code := 0x0503 } 5) = 1 ∧
    oneRecord.behind (recordRank { block := 1, code := 0x0602 } 0) = 0 ∧
    oneRecord.same.recs.length ≤ (oneRecord.rd Reg.FLT_TAIL_IDX + 2048 - oneRecord.rd Reg.FLT_HEAD_IDX) % 2048 ∧
    oneRecord.same.recs.Pairwise (fun x y => x ≤ y) ∧
    recordRank { block := 1, code := 0x0503 } 5 < recordRank { block := 1, code := 0x0601 } 2 := by decide +kernel

theorem test_records_of_one_cycle :
    ((oneRecord.fault { block := 1, code := 0x0503 }).same.recs.length,
      [0, 1].map fun i => (fget ((oneRecord.fault { block := 1, code := 0x0503 }).reg (Reg.FLT_QUEUE (8 * i))) 15 0,
        fget ((oneRecord.fault { block := 1, code := 0x0503 }).reg (Reg.FLT_QUEUE (8 * i))) 63 32)) =
      (2, [(0x0503, 0), (0x0601, 1)]) := by decide +kernel

/-- R408: a counter cleared while an event of the same cycle has been counted keeps that event. -/
theorem witness_counter_clear :
    (on.count Reg.FLT_RECORD_CNT 1).countedNow Reg.FLT_RECORD_CNT = 1 ∧ (on.tick).countedNow Reg.FLT_RECORD_CNT = 0 ∧
    fget (SMap.get Reg.resetVal on.tick.same.start Reg.FLT_RECORD_CNT) 47 0 ≤ fget (on.tick.reg Reg.FLT_RECORD_CNT) 47 0 ∧
    on.tick.live = true := by decide +kernel

theorem witness_fault_class : faultClass on { block := 1, code := 0x0102, cause := 3 } = 1 ∧ faultClass on { block := 1, code := 0x0601 } = 2 ∧
    faultClass on { block := 1, code := 0x0301 } = 3 ∧ faultClass on { block := 1, code := 0x0202 } = 4 ∧ faultClass on { block := 1, code := 0x0503 } = 5 := by
  decide +kernel

/-- A scheduled flit with every field at its largest. -/
def fullFlit : Flit :=
  { mitten := 4095, origSeq := 4095, payload := 2 ^ 3072 - 1, seq := 2 ^ 24 - 1, carried := 7, fmt := 31, tag := 65535, void := true,
    poison := true, resent := true, moved := true, carriedV := true }

theorem witness_wire : ([fullFlit, { cls := 1, vc := 7, epoch := 1, dest := 4095, age := 255, lat := true }, nullFlit].all fun f =>
      decide (flitBits f < 2 ^ 3200) && slotOk (flitBits f) && flitOf (flitBits f) == f) = true ∧
    (3199 : Nat) < 3200 ∧ slotOk (flitBits {} ^^^ 2 ^ 3199) = false ∧ slotOk (flitBits {} ^^^ 2 ^ 0) = false ∧
    (7 : Nat) < 8 ∧ (31 : Nat) < 32 ∧ markerOk (laneMarker 7 31 (2 ^ 40 - 1)) = true := by decide +kernel

theorem witness_stretches : (on.rg 0).stretches.Pairwise (fun x y => y + 8 ≤ x) ∧ (on.rg 0).stretches.length ≤ 51 ∧
    ∃ t, exec (.droopDetected 0) on = .next t := by
  refine ⟨by decide +kernel, by decide +kernel, ?_⟩
  show ∃ t, execDroopDetected 0 on = .next t
  unfold execDroopDetected
  have h : (on.rg (0 : Fin 17).val).stepUntil = none := by decide +kernel
  have r : (on.rg (0 : Fin 17).val).rest = false := by decide +kernel
  have n : (on.rg (0 : Fin 17).val).longNext = false := by decide +kernel
  have h' : mayStretch (on.rg (0 : Fin 17).val).stretches (on.rg (0 : Fin 17).val).cycle = true := by decide +kernel
  simp only [h, r, n, h', if_true]
  exact ⟨_, rfl⟩

theorem witness_route_word : (packet 0 0x15 7 9).payload = routeWord 0 0 0 0 0x15 0 0 0 0 7 + 2 ^ 256 * 9 := rfl

theorem witness_formats : ([1, 2, 3, 4, 5, 6, 7, 8].all fun k => (floatFmt k).any fun ff => !(ff.decode 1).isNan) = true ∧
    (decodeElem 1 0x3F800000).isNan = false ∧ [1, 2].Perm [2, 1] := by decide +kernel

/-- R442, worked example of chapter 18: LNK_LAG of N2 stands at offset 0x0092_0480, RTE_EPOCH at 0x0100_0018. -/
theorem test_bar0_offsets : Reg.LNK_LAG 2 = 0x1120480 ∧ bar0Addr 0x0920480 = 0x1120480 ∧ bar0Addr 0x1000018 = Reg.RTE_EPOCH := by
  decide +kernel

/-- R422, the dip of segment 44: EFFECTIVE is 115 after the first recovery step, 148 after the fourth, 208 after the tenth. -/
theorem test_dip_recovery : (recovery 1).rd Reg.PLM_BUDGET_EFFECTIVE = 115 ∧ (recovery 4).rd Reg.PLM_BUDGET_EFFECTIVE = 148 ∧
    (recovery 9).rd Reg.PLM_BUDGET_EFFECTIVE = 203 ∧ (recovery 10).rd Reg.PLM_BUDGET_EFFECTIVE = 208 ∧
    (recovery 10).rd Reg.PWR_STATUS_INPUT = 0 := by decide +kernel

/-- R237, the worked example of chapter 9: 0xC053_3333 in every format, rounded to nearest even and toward zero. -/
theorem test_one_value_every_format :
    ([(0x03, 0xC053, 0xC053), (0x02, 0xC29A, 0xC299), (0x04, 0xC5, 0xC5), (0x05, 0xC3, 0xC2), (0x06, 0x33, 0x32),
      (0x07, 0x35, 0x35), (0x08, 0xD, 0xD), (0x09, 0xFD, 0xFD), (0x0A, 0xD, 0xD),
      (0x0B, 0xFFFFFFFFFFF2CCCD, 0xFFFFFFFFFFF2CCCD)].all fun t =>
        (encodeElem t.1 0 0 (decodeElem 1 0xC0533333)).bits == t.2.1 &&
        (encodeElem t.1 1 0 (decodeElem 1 0xC0533333)).bits == t.2.2) = true := by decide +kernel

/-- R240, the same example: under SR to E4M3 an element whose r is 7,936 becomes 0xC6, one whose r is 40,000 0xC5. -/
theorem test_stochastic : (encodeElem 4 2 7936 (decodeElem 1 0xC0533333)).bits = 0xC6 ∧
    (encodeElem 4 2 40000 (decodeElem 1 0xC0533333)).bits = 0xC5 := by decide +kernel

/-- R239, the same example: as the largest of its block the value's scale in E4M3 is 0x78. -/
theorem test_block_scale : blockScale 4 [decodeElem 1 0xC0533333, decodeElem 1 0x3A03126F] = 0x78 := by decide +kernel

/-- R234, one cancellation: in FP32, 200,704 + 2^-18 rounds to 200,704. -/
theorem test_cancellation : (addF32 0x48440000 0x36800000).bits = 0x48440000 ∧ cmbElem 1 0x0B [0xC40000000, 1, 2 ^ 64 - 0xC40000000] =
    cmbElem 1 0x0B [1] := by decide +kernel

/-- R277 and R278, the word whose only non-zero data byte is byte 31: its check bytes, and byte c1 read as 0x37. -/
theorem test_word_code : checkBytes (List.replicate 31 0 ++ [1]) = [0x0F, 0x36, 0x78, 0x40] ∧
    decodeWord ((encodeWord (List.replicate 31 0 ++ [1])).set 33 0x37) =
      .corrected 33 (encodeWord (List.replicate 31 0 ++ [1])) := by decide +kernel

/-- R204 and R221, logical tile 2,408 stands in physical tile 2,558; once SKIP of entry 165 is 8 it stands in 2,559, and with
BAD bit 8 set register 82 reads SKIP 16 and SKIP 8 with BAD 0x100. -/
theorem test_bad_tile : on.physOf 2408 = 2558 ∧ (on.setReg (Reg.PLM_LINER_FORCE 82) 0x0010010000200000).physOf 2408 = 2559 ∧
    (on.setLinerBad 165 (2 ^ 8)).reg (Reg.PLM_LINER_RAM 82) = 0x0010010000200000 := by decide +kernel

/-- R68, the three-hop transfer: the tags of its departures at positions 3,000, 4,028 and 4,127 of segment 42. -/
theorem test_tags : stitchTag 42 3000 5 = 0x0938 ∧ stitchTag 42 4028 6 = 0x0CBC ∧ stitchTag 42 4127 7 = 0x139F ∧
    stitchTag 43 3000 5 = 0x8938 := by decide +kernel

/-- R127, R130 and R125: the CRCs of the nine bytes "123456789", as their standards give them. -/
theorem test_crcs : crc32 [0x31, 0x32, 0x33, 0x34, 0x35, 0x36, 0x37, 0x38, 0x39] = 0xCBF43926 ∧
    crc16 0x313233343536373839 72 0xFFFF = 0x29B1 ∧ crc8 0x313233343536373839 72 0 = 0xF4 := by decide +kernel

/-- R453: a WRITE of COUNT 2 at RTE_EPOCH names RTE_EPOCH and RTE_EPOCH_TICK. -/
theorem test_management_targets : mgMsg (mgmtPkt 0x21 2 atEpoch 0) = 0x21 ∧ mgCount (mgmtPkt 0x21 2 atEpoch 0) = 2 ∧
    mgOffset (mgmtPkt 0x21 2 atEpoch 0) = atEpoch ∧ mgTargets (mgmtPkt 0x21 2 atEpoch 0) = [atEpoch, atEpoch + 8] := by
  decide +kernel

/-- R69, R73 and R74, the same example: the send entry of 0x052 on N0 and the land entry of 0x053 on S0. -/
theorem test_entries : entKind 0x2060800000000091 = 2 ∧ entStream 0x2060800000000091 = 6 ∧ entFmt 0x2060800000000091 = 1 ∧
    operandIn 0x2060800000000091 0 = 17 ∧ operandAge 0x2060800000000091 0 = 4 ∧ entKind 0x306080000000001A = 3 ∧
    landReads 0x306080000000001A = 1 ∧ landQueue 0x306080000000001A = some 2 ∧ sendQueue 0x1050800000000003 = some 3 := by
  decide +kernel

end Sys2Proof.Tests
end

section
/-! PROOFS. The replay window (R332). One notion carries the argument: the counters a session's window shows as taken
(`counterSeen`). A counter is accepted when it lies in the window and is not taken (`State.replayOk_iff`), and accepting `c` takes
`c` and no other counter that is still in the window (`State.counterSeen_acceptCounter`). -/
namespace Sys2Proof.Machine

/-! ### Bits and fields of numbers -/

theorem nbit_eq_testBit (x i : Nat) : nbit x i = x.testBit i := by
  rw [Nat.testBit_eq_decide_div_mod_eq]; rfl

/-- Adding a power of two whose bit is clear sets that bit and no other. -/
theorem testBit_add_two_pow_of_clear {m k : Nat} (hk : m.testBit k = false) (j : Nat) :
    (m + 2 ^ k).testBit j = (decide (j = k) || m.testBit j) := by
  have hlow : m % 2 ^ (k + 1) < 2 ^ k := by
    have hbit : m / 2 ^ k % 2 = 0 := by simpa [Nat.testBit_eq_decide_div_mod_eq] using hk
    rw [Nat.mod_pow_succ, hbit, Nat.mul_zero, Nat.add_zero]
    exact Nat.mod_lt _ (Nat.two_pow_pos k)
  have hm : m = 2 ^ (k + 1) * (m / 2 ^ (k + 1)) + m % 2 ^ (k + 1) := (Nat.div_add_mod m _).symm
  rcases Nat.lt_trichotomy j k with hj | rfl | hj
  · rw [Nat.add_comm, Nat.testBit_two_pow_add_gt hj]; simp [Nat.ne_of_lt hj]
  · rw [Nat.add_comm, Nat.testBit_two_pow_add_eq, hk]; simp
  · have hsum : m + 2 ^ k = 2 ^ (k + 1) * (m / 2 ^ (k + 1)) + (m % 2 ^ (k + 1) + 2 ^ k) := by omega
    have hj' : ¬ j < k + 1 := by omega
    have hne : j ≠ k := by omega
    have hsucc : 2 ^ (k + 1) = 2 ^ k + 2 ^ k := by rw [Nat.pow_succ, Nat.mul_two]
    rw [hsum, Nat.testBit_two_pow_mul_add _ (show _ < 2 ^ (k + 1) by omega), if_neg hj']
    conv_rhs => rw [hm, Nat.testBit_two_pow_mul_add _ (show _ < 2 ^ (k + 1) by omega), if_neg hj']
    simp [hne]

/-- A field below bit `n` is the field of the number cut to `n` bits. -/
theorem nbits_mod_two_pow (x : Nat) {hi lo n : Nat} (h : hi < n) :
    nbits (x % 2 ^ n) hi lo = nbits x hi lo := by
  refine Nat.eq_of_testBit_eq fun j => ?_
  simp only [nbits, Nat.testBit_mod_two_pow, Nat.testBit_div_two_pow]
  by_cases hj : j < hi + 1 - lo
  · have : j + lo < n := by omega
    simp [this]
  · simp [hj]

/-- A field that was replaced reads as what it was replaced with. -/
theorem nbits_nset_same (x hi lo v : Nat) : nbits (nset x hi lo v) hi lo = v % 2 ^ (hi + 1 - lo) := by
  unfold nset nbits
  generalize hi + 1 - lo = n
  have hx : 2 ^ lo * (2 ^ n * (x / 2 ^ lo / 2 ^ n)) + 2 ^ lo * (x / 2 ^ lo % 2 ^ n) + x % 2 ^ lo = x := by
    rw [← Nat.mul_add, Nat.div_add_mod, Nat.div_add_mod]
  have hset : x - 2 ^ lo * (x / 2 ^ lo % 2 ^ n) + 2 ^ lo * (v % 2 ^ n) =
      2 ^ lo * (2 ^ n * (x / 2 ^ lo / 2 ^ n) + v % 2 ^ n) + x % 2 ^ lo := by
    rw [Nat.mul_add]; omega
  rw [hset, Nat.mul_add_div (Nat.two_pow_pos lo), Nat.div_eq_of_lt (Nat.mod_lt x (Nat.two_pow_pos lo)), Nat.add_zero,
    Nat.mul_add_mod, Nat.mod_mod]

/-- The words of a number, put together again, are the number cut to those words. -/
theorem foldr_words (e n k : Nat) :
    (List.range' k n).foldr (fun w a => e / 2 ^ (64 * w) % 2 ^ 64 + 2 ^ 64 * a) 0 = e / 2 ^ (64 * k) % 2 ^ (64 * n) := by
  induction n generalizing k with
  | zero => simp [Nat.mod_one]
  | succ n ih =>
    have hk : e / 2 ^ (64 * (k + 1)) = e / 2 ^ (64 * k) / 2 ^ 64 := by
      rw [Nat.div_div_eq_div_mul, ← Nat.pow_add]; rfl
    have hn : 2 ^ (64 * (n + 1)) = 2 ^ 64 * 2 ^ (64 * n) := by rw [← Nat.pow_add, Nat.mul_succ, Nat.add_comm]
    rw [List.range'_succ, List.foldr_cons, ih, hk, hn, Nat.mod_mul]

/-! ### A session entry after it is stored -/

theorem State.tab_forEach_setTab (s : State) (b : Nat) (v : Nat → Word) (l : List Nat) {w : Nat} (hw : w ∈ l) :
    (s.forEach l fun s w => s.setTab (b + 8 * w) (v w)).tab (b + 8 * w) = v w := by
  induction l using List.reverseRecOn with
  | nil => simp at hw
  | append_singleton l x ih =>
    rw [State.forEach, List.foldl_append, List.foldl_cons, List.foldl_nil, State.tab_setTab]
    split
    · next h => rw [show w = x by omega]
    · next h =>
      have hl : w ∈ l := by
        rcases List.mem_append.mp hw with hl | hx
        · exact hl
        · exact absurd (by rw [List.mem_singleton.mp hx]) h
      exact ih hl

theorem State.session_setSession_same (s : State) (i e : Nat) : (s.setSession i e).session i = e % 2 ^ 512 := by
  have hword : ∀ w ∈ List.range 8, ∀ a : Nat,
      ((s.setSession i e).tab (0x4000000 + 64 * i + 8 * w)).toNat + 2 ^ 64 * a = e / 2 ^ (64 * w) % 2 ^ 64 + 2 ^ 64 * a := by
    intro w hw a
    rw [State.setSession, State.tab_forEach_setTab s (0x4000000 + 64 * i) (fun w => BitVec.ofNat 64 (e / 2 ^ (64 * w))) _ hw,
      BitVec.toNat_ofNat]
  rw [State.session, List.foldr_ext _ _ _ hword, List.range_eq_range', foldr_words]
  simp only [Nat.mul_zero, Nat.pow_zero, Nat.div_one, Nat.reduceMul]

theorem State.session_congr {s t : State} (h : ∀ k, s.tab k = t.tab k) (i : Nat) : s.session i = t.session i := by
  simp only [State.session, h]

/-! ### The replay window -/

/-- The bitmap of session `i`'s replay window: bit j stands for COUNTER H − 1 − j (R332). -/
def State.replayMap (s : State) (i : Nat) : Nat := SMap.get (fun _ => 0) s.bon.bitmap i

/-- COUNTER `c` is taken in a window of highest COUNTER `h` and bitmap `m`: it is H itself or its bit is set. -/
def counterSeen (h m c : Nat) : Prop := c = h ∨ c < h ∧ m.testBit (h - 1 - c) = true

/-- What the replay window accepts: a COUNTER of the client, not 0, in the window and not taken (R332). -/
theorem State.replayOk_iff (s : State) (i sender c : Nat) :
    s.replayOk i sender c = true ↔
      sender = 0 ∧ c ≠ 0 ∧ seHigh (s.session i) < c + 1024 ∧ ¬ counterSeen (seHigh (s.session i)) (s.replayMap i) c := by
  simp only [State.replayOk, counterSeen, State.replayMap, nbit_eq_testBit, Bool.and_eq_true, Bool.or_eq_true, beq_iff_eq, bne_iff_ne,
    decide_eq_true_eq, Bool.not_eq_true', ← Bool.not_eq_true]
  rcases Nat.lt_trichotomy c (seHigh (s.session i)) with hc | hc | hc
  · simp [hc, Nat.ne_of_lt hc, Nat.not_lt_of_lt hc, and_assoc]
  · simp [hc]
  · have hin : seHigh (s.session i) < c + 1024 := by omega
    simp [hc, hin, Nat.ne_of_gt hc, Nat.not_lt_of_lt hc]

/-- Accepting a COUNTER above H: it becomes H, and the bitmap moves up with the old H as its new bit. -/
theorem State.acceptCounter_above (s : State) {i c : Nat} (hc : seHigh (s.session i) < c) (hlt : c < 2 ^ 64) :
    seHigh ((s.acceptCounter i c).session i) = c ∧
    (s.acceptCounter i c).replayMap i =
      (if 1024 ≤ c - seHigh (s.session i) then 0
        else 2 ^ (c - seHigh (s.session i)) * s.replayMap i +
          (if seHigh (s.session i) = 0 then 0 else 2 ^ (c - seHigh (s.session i) - 1))) % 2 ^ 1024 := by
  have hset : seHigh ((s.setSession i (nset (s.session i) 261 198 c)).session i) = c := by
    rw [State.session_setSession_same, seHigh, nbits_mod_two_pow _ (by omega), nbits_nset_same, Nat.mod_eq_of_lt hlt]
  simp only [State.acceptCounter, if_pos hc]
  exact ⟨hset, SMap.get_set_same ..⟩

/-- Accepting a COUNTER below H: H stays, and the counter's bit is added to the bitmap. -/
theorem State.acceptCounter_below (s : State) {i c : Nat} (hc : c ≤ seHigh (s.session i)) :
    seHigh ((s.acceptCounter i c).session i) = seHigh (s.session i) ∧
    (s.acceptCounter i c).replayMap i = s.replayMap i + 2 ^ (seHigh (s.session i) - 1 - c) := by
  simp only [State.acceptCounter, if_neg (Nat.not_lt.mpr hc)]
  exact ⟨rfl, SMap.get_set_same ..⟩

theorem State.seHigh_acceptCounter (s : State) (i : Nat) {c : Nat} (hlt : c < 2 ^ 64) :
    seHigh ((s.acceptCounter i c).session i) = max (seHigh (s.session i)) c := by
  rcases Nat.lt_or_ge (seHigh (s.session i)) c with hc | hc
  · rw [(s.acceptCounter_above hc hlt).1, Nat.max_eq_right hc.le]
  · rw [(s.acceptCounter_below hc).1, Nat.max_eq_left hc]

/-- The bitmap moved up by `c - h` shows the counters in the new window as the old one did, and `c` besides. -/
theorem counterSeen_shift {h c m c' : Nat} (hc : h < c) (h0 : c' ≠ 0) (hin : c < c' + 1024) :
    counterSeen c ((if 1024 ≤ c - h then 0 else 2 ^ (c - h) * m + (if h = 0 then 0 else 2 ^ (c - h - 1))) % 2 ^ 1024) c' ↔
      c' = c ∨ counterSeen h m c' := by
  unfold counterSeen
  by_cases hfar : 1024 ≤ c - h
  · have hgt : h < c' := by omega
    rw [if_pos hfar, Nat.zero_mod]
    simp [Nat.ne_of_gt hgt, Nat.not_lt_of_lt hgt]
  · have hnew : (if h = 0 then 0 else 2 ^ (c - h - 1)) < 2 ^ (c - h) := by
      split
      · exact Nat.two_pow_pos _
      · exact Nat.pow_lt_pow_right (by omega) (by omega)
    have hidx : c - 1 - c' < 1024 := by omega
    rw [if_neg hfar, Nat.testBit_mod_two_pow, Nat.testBit_two_pow_mul_add _ hnew]
    rcases Nat.lt_trichotomy c' h with hlt | rfl | hgt
    · have hi : ¬ c - 1 - c' < c - h := by omega
      have hj : c - 1 - c' - (c - h) = h - 1 - c' := by omega
      have hltc : c' < c := by omega
      simp [hi, hj, hidx, hlt, hltc, Nat.ne_of_lt hlt]
    · have hi : c - 1 - c' = c - c' - 1 := by omega
      have hj : c - c' - 1 < c - c' := by omega
      have hk : c - c' - 1 < 1024 := by omega
      simp [hi, hj, hk, h0, hc]
    · rcases Nat.lt_or_ge c' c with hcc | hcc
      · have hi : c - 1 - c' < c - h := by omega
        have hne : c - h - 1 ≠ c - 1 - c' := by omega
        have hbit : (if h = 0 then 0 else 2 ^ (c - h - 1)).testBit (c - 1 - c') = false := by
          split <;> simp [hne]
        simp [hi, hbit, Nat.ne_of_gt hgt, Nat.not_lt_of_lt hgt]
      · simp [Nat.not_lt.mpr hcc, Nat.ne_of_gt hgt, Nat.not_lt_of_lt hgt]

/-- The bitmap with the clear bit of `c` added shows `c` as taken, and every other counter as before. -/
theorem counterSeen_add_bit {h c m : Nat} (hc : c < h) (hclear : m.testBit (h - 1 - c) = false) (c' : Nat) :
    counterSeen h (m + 2 ^ (h - 1 - c)) c' ↔ c' = c ∨ counterSeen h m c' := by
  simp only [counterSeen, testBit_add_two_pow_of_clear hclear, Bool.or_eq_true, decide_eq_true_eq]
  have hidx : c' < h → (h - 1 - c' = h - 1 - c ↔ c' = c) := by omega
  constructor
  · rintro (heq | ⟨hlt, hbit | hbit⟩)
    · exact .inr (.inl heq)
    · exact .inl ((hidx hlt).mp hbit)
    · exact .inr (.inr ⟨hlt, hbit⟩)
  · rintro (rfl | heq | ⟨hlt, hbit⟩)
    · exact .inr ⟨hc, .inl rfl⟩
    · exact .inl heq
    · exact .inr ⟨hlt, .inr hbit⟩

/-- Accepting `c` takes `c`, and leaves every other counter that is still in the window taken or free as it was. -/
theorem State.counterSeen_acceptCounter (s : State) {i c c' : Nat} (hlt : c < 2 ^ 64) (hok : s.replayOk i 0 c = true) (h0 : c' ≠ 0)
    (hin : seHigh ((s.acceptCounter i c).session i) < c' + 1024) :
    counterSeen (seHigh ((s.acceptCounter i c).session i)) ((s.acceptCounter i c).replayMap i) c' ↔
      c' = c ∨ counterSeen (seHigh (s.session i)) (s.replayMap i) c' := by
  obtain ⟨-, -, -, hfree⟩ := (s.replayOk_iff i 0 c).mp hok
  rcases Nat.lt_or_ge (seHigh (s.session i)) c with hc | hc
  · obtain ⟨hhigh, hmap⟩ := s.acceptCounter_above hc hlt
    rw [hhigh] at hin
    rw [hhigh, hmap]
    exact counterSeen_shift hc h0 hin
  · obtain ⟨hhigh, hmap⟩ := s.acceptCounter_below hc
    have hne : c ≠ seHigh (s.session i) := fun h => hfree (.inl h)
    have hc' : c < seHigh (s.session i) := by omega
    have hclear : (s.replayMap i).testBit (seHigh (s.session i) - 1 - c) = false :=
      Bool.eq_false_iff.mpr fun h => hfree (.inr ⟨hc', h⟩)
    rw [hhigh, hmap]
    exact counterSeen_add_bit hc' hclear c'

theorem State.replayOk_acceptCounter_same (s : State) {i c : Nat} (hlt : c < 2 ^ 64) (hok : s.replayOk i 0 c = true) :
    (s.acceptCounter i c).replayOk i 0 c = false := by
  refine Bool.eq_false_iff.mpr fun hagain => ?_
  obtain ⟨-, h0, hin, hfree⟩ := (State.replayOk_iff _ i 0 c).mp hagain
  exact hfree ((s.counterSeen_acceptCounter hlt hok h0 hin).mpr (.inl rfl))

theorem State.replayOk_acceptCounter_ne (s : State) {i c c' : Nat} (hlt : c < 2 ^ 64) (hok : s.replayOk i 0 c = true) (hne : c' ≠ c)
    (hbefore : seHigh (s.session i) < c' + 1024) (hafter : seHigh ((s.acceptCounter i c).session i) < c' + 1024) :
    (s.acceptCounter i c).replayOk i 0 c' = s.replayOk i 0 c' := by
  rw [Bool.eq_iff_iff, State.replayOk_iff, State.replayOk_iff]
  by_cases h0 : c' = 0
  · simp [h0]
  · simp [s.counterSeen_acceptCounter hlt hok h0 hafter, hne, hbefore, hafter]

/-- A counter that is refused stays refused: the window only moves up, and nothing taken in it is freed. -/
theorem State.replayOk_acceptCounter_refused (s : State) {i c c' : Nat} (hlt : c < 2 ^ 64) (hok : s.replayOk i 0 c = true)
    (hrefused : s.replayOk i 0 c' = false) : (s.acceptCounter i c).replayOk i 0 c' = false := by
  refine Bool.eq_false_iff.mpr fun hagain => ?_
  obtain ⟨-, h0, hin, hfree⟩ := (State.replayOk_iff _ i 0 c').mp hagain
  have hbefore : seHigh (s.session i) < c' + 1024 :=
    (Nat.le_max_left _ c).trans_lt (s.seHigh_acceptCounter i hlt ▸ hin)
  have hfree' : ¬ counterSeen (seHigh (s.session i)) (s.replayMap i) c' := fun h =>
    hfree ((s.counterSeen_acceptCounter hlt hok h0 hin).mpr (.inr h))
  exact absurd ((s.replayOk_iff i 0 c').mpr ⟨rfl, h0, hbefore, hfree'⟩) (Bool.eq_false_iff.mp hrefused)

/-- A datagram of an open session whose tag does not verify is dropped with one event counted, by check 9 or earlier (R328). -/
theorem State.checkBrp_of_bad_tag (s : State) {v6 : Bool} {src sport i : Nat} {x : List Byte}
    (hs : s.findSession (ofBeBytes ((x.drop 4).take 4)) src sport v6 = some i)
    (htag : gcmTag (aesKeys (SMap.get (fun _ => 0) s.bon.keys i)) (ofBeBytes ((x.drop 8).take 12)) (x.take 40)
        ((x.drop 40).take (ofBeBytes ((x.drop 36).take 4))) ≠
      ofBeBytes ((x.drop (40 + ofBeBytes ((x.drop 36).take 4))).take 16)) :
    ∃ a, s.checkBrp v6 src sport x = .dropped (s.count a 1) := by
  simp only [State.checkBrp, hs, if_pos htag]
  split
  · exact ⟨Reg.BON_STRANGER_CNT, rfl⟩
  · exact ⟨Reg.BON_AUTH_FAIL_CNT, rfl⟩

/-- Settles O48: acceptance takes exactly the accepted counter out of the window, and a bad tag only counts an event. -/
theorem acceptedCountersAreNeverAcceptedAgain : Obligations.AcceptedCountersAreNeverAcceptedAgain := by
  unfold Obligations.AcceptedCountersAreNeverAcceptedAgain
  refine ⟨fun s i sender c hok => ?_, fun s i c h0 hc => ?_, fun s i c _ hlt _ hok => ?_,
    fun s v6 src sport i len x hs hlen htag => ?_⟩
  · obtain ⟨hsender, h0, hin, -⟩ := (s.replayOk_iff i sender c).mp hok
    exact ⟨hsender, h0, hin⟩
  · have hfree : ¬ counterSeen (seHigh (s.session i)) (s.replayMap i) c := by unfold counterSeen; omega
    exact (s.replayOk_iff i 0 c).mpr ⟨rfl, h0, by omega, hfree⟩
  · exact ⟨s.seHigh_acceptCounter i hlt, s.replayOk_acceptCounter_same hlt hok,
      fun c' _ hne hbefore hafter => s.replayOk_acceptCounter_ne hlt hok hne hbefore hafter,
      fun c' hrefused => s.replayOk_acceptCounter_refused hlt hok hrefused⟩
  · subst hlen
    obtain ⟨a, ha⟩ := s.checkBrp_of_bad_tag hs htag
    exact ⟨s.count a 1, ha, by rw [State.count_bon], fun j _ => State.session_congr (State.tab_count s a 1) j⟩

end Sys2Proof.Machine
end

section
/-! PROOFS. Event counters (R62, R408): what a counter reads after it counts, and what a clear leaves of it. -/
namespace Sys2Proof.Machine

/-- A word whose value lies below a one-bit field reads 0 there. -/
theorem fget_eq_zero_of_lt {x : Word} {hi lo : Nat} (h : x.toNat < 2 ^ lo) : fget x hi lo = 0 := by
  rw [fget, Nat.div_eq_of_lt h, Nat.zero_mod]

/-- COUNT of a counter that counts `n`: it stops at its maximum (R408). -/
theorem State.count_field_count (s : State) (a n : Nat) :
    fget ((s.count a n).reg a) 47 0 = min 0xFFFFFFFFFFFF (fget (s.reg a) 47 0 + n) := by
  rw [State.reg_count_same]
  split
  · next h => rw [Nat.min_eq_left h]; decide
  · next h =>
    rw [fget_fset_same _ _ _ _ (by decide) (by decide), Nat.mod_eq_of_lt (by omega), Nat.min_eq_right (by omega)]

/-- SAT of a counter that reaches its maximum (R408). -/
theorem State.count_sat (s : State) {a n : Nat} (h : 0xFFFFFFFFFFFF ≤ fget (s.reg a) 47 0 + n) :
    fget ((s.count a n).reg a) 63 63 = 1 := by
  rw [State.reg_count_same, if_pos h]; decide

/-- SAT stays as it was while a counter stays below its maximum. -/
theorem State.count_sat_below (s : State) {a n : Nat} (h : fget (s.reg a) 47 0 + n < 0xFFFFFFFFFFFF) :
    fget ((s.count a n).reg a) 63 63 = fget (s.reg a) 63 63 := by
  rw [State.reg_count_same, if_neg (Nat.not_le.mpr h)]
  exact fget_fset_above _ _ _ _ _ _ (by decide) (by decide) (by decide)

theorem State.countedNow_lt (s : State) (a : Nat) : s.countedNow a < 2 ^ 48 :=
  (Nat.sub_le _ _).trans_lt (fget_lt (s.reg a) 47 0)

/-- A clear leaves what the counter has counted in the cycle (R408). -/
theorem State.reg_clearCounter_same (s : State) (a : Nat) : (s.clearCounter a).reg a = BitVec.ofNat 64 (s.countedNow a) :=
  s.reg_setReg_same a _

theorem State.clearCounter_toNat (s : State) (a : Nat) : ((s.clearCounter a).reg a).toNat = s.countedNow a := by
  have h := s.countedNow_lt a
  rw [State.reg_clearCounter_same, BitVec.toNat_ofNat, Nat.mod_eq_of_lt (by omega)]

theorem State.clearCounter_count_field (s : State) (a : Nat) : fget ((s.clearCounter a).reg a) 47 0 = s.countedNow a := by
  rw [fget, State.clearCounter_toNat, Nat.pow_zero, Nat.div_one, Nat.mod_eq_of_lt (s.countedNow_lt a)]

theorem State.clearCounter_sat (s : State) (a : Nat) : fget ((s.clearCounter a).reg a) 63 63 = 0 :=
  fget_eq_zero_of_lt (by
    have h := s.countedNow_lt a
    rw [State.clearCounter_toNat]; omega)

/-- From a clear on, the cycle's count is the whole of the counter. -/
theorem State.countedNow_clearCounter (s : State) (a : Nat) : (s.clearCounter a).countedNow a = s.countedNow a := by
  have hstart : SMap.get Reg.resetVal (s.clearCounter a).same.start a = 0 := SMap.get_set_same ..
  rw [State.countedNow, State.clearCounter_count_field, hstart]
  rfl

/-- COUNTER_CLEAR of a counter whose block is powered clears it (R62, R408). -/
theorem exec_counterClear {s : State} {o : Nat} {r : Reg.Info} (hlive : s.live = true) (hfind : Reg.find (bar0Addr o) = some r)
    (hcounter : isCounter r = true) (hpow : s.powered (bar0Addr o) = true) :
    exec (.counterClear o) s = .next (s.clearCounter (bar0Addr o)) := by
  have harm : exec (.counterClear o) s = execCounterClear o s := rfl
  rw [harm, execCounterClear, hfind]
  simp only [hcounter, if_true, State.busWrite, hlive, hpow, Bool.not_true, Bool.false_eq_true, if_false]

/-- An event counts in its cycle by as much as it is (R408). -/
theorem State.countedNow_count (s : State) {a n : Nat}
    (hstart : fget (SMap.get Reg.resetVal s.same.start a) 47 0 ≤ fget (s.reg a) 47 0)
    (hn : fget (s.reg a) 47 0 + n < 0xFFFFFFFFFFFF) : (s.count a n).countedNow a = s.countedNow a + n := by
  rw [State.countedNow, State.count_field_count, State.count_same, Nat.min_eq_right hn.le, State.countedNow, Nat.sub_add_comm hstart]

/-- Settles O5: a counter saturates, and a clear leaves exactly what the cycle has counted. -/
theorem countersNeverWrap : Obligations.CountersNeverWrap := by
  unfold Obligations.CountersNeverWrap
  intro s a n
  refine ⟨s.count_field_count a n, s.count_sat, fun b hb => s.reg_count_ne n hb, fun o r t hlive ho hfind hcounter hpow hexec => ?_,
    fun hstart => ?_, s.countedNow_count⟩
  · subst ho
    rw [exec_counterClear hlive hfind hcounter hpow] at hexec
    obtain rfl : s.clearCounter (bar0Addr o) = t := Host.Outcome.next.inj hexec
    have hcount := s.clearCounter_count_field (bar0Addr o)
    refine ⟨hcount, s.clearCounter_sat _, s.countedNow_clearCounter _, ?_, fun hn => ?_⟩
    · rw [State.count_field_count, hcount]
    · rw [State.count_sat_below _ (by rwa [hcount]), State.clearCounter_sat]
  · rw [State.countedNow, hstart, Nat.sub_self]

end Sys2Proof.Machine
end

section
/-! PROOFS. The full fault queue (R404). With no room a fault's registers are those of four stages, one after another: its SEQ is
taken (`State.takeSeq`), it takes the place of a lesser record or none (`State.replaceMinor`), one record is counted as lost, and the
first grave one is captured (`State.captureFirst`); the actions of its class write none of the queue's own fields
(`State.rd_fault_of_full`). Each stage has a lemma for what it writes and one for what it leaves. -/
namespace Sys2Proof.Machine

/-! ### What the actions of a class leave -/

/-- The whole register at address `a`, as a field. -/
def wordAt (a : Nat) : Fld := ⟨a, 63, 0⟩

theorem fget_word (x : Word) : fget x 63 0 = x.toNat := by
  rw [fget, Nat.pow_zero, Nat.div_one, Nat.mod_eq_of_lt x.isLt]

/-- Registers that read alike as whole words are equal. -/
theorem State.reg_eq_of_rd_wordAt {s t : State} {a : Nat} (h : s.rd (wordAt a) = t.rd (wordAt a)) : s.reg a = t.reg a := by
  rw [State.rd_eq, State.rd_eq] at h
  exact BitVec.eq_of_toNat_eq ((fget_word _).symm.trans (h.trans (fget_word _)))

/-- The fields that the actions of a record's class and FAULT_N write (R398, R406, R430). -/
def actionFields : List Fld :=
  [Reg.GEN_BOOT_STATUS_FAULT_SINCE_READY, Reg.PLM_STATUS_HALTED, Reg.CUF_STATUS_RUNNING, Reg.LDR_STATUS_STATE,
   Reg.FLT_STATUS_MITTEN_STOPPED, Reg.FLT_STATUS_MODULE_FATAL, wordAt Reg.FLT_ALARM_TX_CNT, Reg.PWR_FAULTN_ASSERTED]

theorem ok_of_mem_actionFields : ∀ f ∈ actionFields, Fld.ok f = true := by decide

/-- A field that shares no bit with those that the actions write. -/
def besideActions (g : Fld) : Bool := Fld.ok g && actionFields.all fun f => Fld.apart f g

/-- A register of the fault block other than FLT_STATUS and the count of alarms is beside the actions. -/
theorem besideActions_wordAt {a : Nat} (hlo : Reg.FLT_HEAD ≤ a) (hhi : a < 0x7000000) (hne : a ≠ Reg.FLT_ALARM_TX_CNT) :
    besideActions (wordAt a) = true := by
  have hhead : Reg.FLT_HEAD = 0x6000010 := rfl
  have hfar : ∀ f ∈ actionFields, f.addr < Reg.FLT_HEAD ∨ 0x7000000 ≤ f.addr ∨ f.addr = Reg.FLT_ALARM_TX_CNT := by decide
  simp only [besideActions, Bool.and_eq_true, List.all_eq_true, Fld.apart, Bool.or_eq_true, bne_iff_ne]
  refine ⟨rfl, fun f hf => .inl (.inl ?_)⟩
  have := hfar f hf
  simp only [wordAt]
  omega

theorem State.rd_holdKey (s : State) (k : Nat × Nat) (g : Fld) : (s.holdKey k).rd g = s.rd g := rfl

theorem State.rd_pwr (s : State) (p : PwrSt) (g : Fld) : ({ s with pwr := p } : State).rd g = s.rd g := rfl

section
variable {g : Fld} (hg : besideActions g = true)
include hg

theorem State.rd_wr_action (s : State) {f : Fld} (v : Nat) (hf : f ∈ actionFields) : (s.wr f v).rd g = s.rd g := by
  rw [besideActions, Bool.and_eq_true, List.all_eq_true] at hg
  exact s.rd_wr_apart v (ok_of_mem_actionFields f hf) hg.1 (hg.2 f hf)

theorem addr_ne_of_besideActions : g.addr ≠ Reg.FLT_ALARM_TX_CNT := by
  have hmem : wordAt Reg.FLT_ALARM_TX_CNT ∈ actionFields := by decide
  simp only [besideActions, Bool.and_eq_true, List.all_eq_true, Fld.ok, decide_eq_true_eq] at hg
  have h := hg.2 _ hmem
  simp only [Fld.apart, Bool.or_eq_true, bne_iff_ne, decide_eq_true_eq] at h
  rcases h with (h | h) | h
  · exact h
  · exact absurd h (Nat.not_lt_zero _)
  · exact absurd h (by change ¬ 63 < g.lo; omega)

theorem State.rd_sendAlarm_beside (s : State) (o q rec : Nat) (k : Option Nat) : (s.sendAlarm o q rec k).rd g = s.rd g := by
  have hreg : (s.sendAlarm o q rec k).reg g.addr = s.reg g.addr := by
    unfold State.sendAlarm
    dsimp only
    exact State.reg_forEach _ _ _ (fun s _ _ => State.reg_route_count s _ (addr_ne_of_besideActions hg)) s
  rw [State.rd_eq, State.rd_eq, hreg]

theorem State.rd_endScheduled_beside (s : State) : s.endScheduled.rd g = s.rd g := by
  unfold State.endScheduled State.palmHalt
  dsimp only
  rw [State.rd_wr_action hg _ _ (by decide)]
  split
  · rw [State.rd_wr_action hg _ _ (by decide), State.rd_wr_action hg _ _ (by decide), State.rd_wr_action hg _ _ (by decide)]; rfl
  · rw [State.rd_wr_action hg _ _ (by decide), State.rd_wr_action hg _ _ (by decide)]; rfl

theorem State.rd_fatalActions_beside (s : State) (cls seq rec : Nat) : (s.fatalActions cls seq rec).rd g = s.rd g := by
  have hend : ((s.wr Reg.GEN_BOOT_STATUS_FAULT_SINCE_READY 1).endScheduled).rd g = s.rd g := by
    rw [State.rd_endScheduled_beside hg, State.rd_wr_action hg _ _ (by decide)]
  unfold State.fatalActions
  extract_lets u v
  have hv : v.rd g = s.rd g := by
    unfold v
    split
    · exact (State.rd_holdKey ..).trans ((State.rd_sendAlarm_beside hg ..).trans hend)
    · exact hend
  clear_value v
  split
  · exact (State.rd_pwr ..).trans ((State.rd_wr_action hg v _ (by decide)).trans hv)
  · exact hv

theorem State.rd_classActions_beside (s : State) (cls seq rec : Nat) : (s.classActions cls seq rec).rd g = s.rd g := by
  unfold State.classActions
  split
  · rfl
  · split
    · exact State.rd_wr_action hg _ _ (by decide)
    · split
      · exact (State.rd_wr_action hg _ _ (by decide)).trans (State.rd_wr_action hg _ _ (by decide))
      · exact State.rd_fatalActions_beside hg ..

/-- What a fault's record leaves in a field beside the actions is what the fault leaves there. -/
theorem State.rd_fault_beside (s : State) (f : FaultArgs) : (s.fault f).rd g = (s.makeRecord f).1.rd g :=
  (State.rd_wr_action hg _ _ (by decide)).trans (State.rd_classActions_beside hg ..)

end

/-! ### A record's slot -/

/-- The queue's window lies above every other register of the fault queue. -/
theorem FLT_QUEUE_ne {a : Nat} (h : a < 0x6010000) (i : Nat) : Reg.FLT_QUEUE i ≠ a :=
  Nat.ne_of_gt (h.trans_le (Nat.le_add_right _ _))

theorem State.reg_forEach_setReg (s : State) (b : Nat) (v : Nat → Word) (l : List Nat) {w : Nat} (hw : w ∈ l) :
    (s.forEach l fun s w => s.setReg (Reg.FLT_QUEUE (b + w)) (v w)).reg (Reg.FLT_QUEUE (b + w)) = v w := by
  induction l using List.reverseRecOn with
  | nil => exact absurd hw List.not_mem_nil
  | append_singleton l x ih =>
    rw [State.forEach, List.foldl_append, List.foldl_cons, List.foldl_nil, State.reg_setReg]
    split
    · next h => rw [show w = x by unfold Reg.FLT_QUEUE at h; omega]
    · next h =>
      rcases List.mem_append.mp hw with hl | hx
      · exact ih hl
      · exact absurd (by rw [List.mem_singleton.mp hx]) h

theorem State.reg_writeSlot_same (s : State) (slot : Nat) (ws : List Nat) {k : Nat} (hk : k < 8) :
    (s.writeSlot slot ws).reg (Reg.FLT_QUEUE (8 * slot + k)) = BitVec.ofNat 64 (ws.getD k 0) :=
  s.reg_forEach_setReg (8 * slot) (fun w => BitVec.ofNat 64 (ws.getD w 0)) _ (List.mem_range.mpr hk)

theorem State.reg_writeSlot_ne (s : State) {slot i : Nat} (ws : List Nat) (h : i / 8 ≠ slot) :
    (s.writeSlot slot ws).reg (Reg.FLT_QUEUE i) = s.reg (Reg.FLT_QUEUE i) :=
  State.reg_forEach _ _ _ (fun s w hw => s.reg_setReg_ne _ (by
    have := List.mem_range.mp hw
    unfold Reg.FLT_QUEUE; omega)) s

/-- The class of the record in slot `k` (R401). -/
def State.slotClass (s : State) (k : Nat) : Nat := fget (s.reg (Reg.FLT_QUEUE (8 * k))) 23 16

/-- The slot `m` places back from the newest record, in a queue whose tail is `i` (R403). -/
def backSlot (i m : Nat) : Nat := (i + 2047 - m) % 1024

theorem backSlot_step {i m : Nat} (hm : m < 1024) : backSlot ((i + 2047) % 2048) m = backSlot i (m + 1) := by
  unfold backSlot; omega

/-- The search for the newest lesser record looks at one slot, and goes on from it if the record there is grave. -/
theorem State.findMinor_succ (s : State) (i n : Nat) :
    s.findMinor i (n + 1) =
      if s.slotClass (backSlot i 0) ≤ 1 then some (backSlot i 0) else s.findMinor ((i + 2047) % 2048) n := by
  have hslot : (i + 2047) % 2048 % 1024 = backSlot i 0 := by unfold backSlot; omega
  rw [← hslot]
  rfl

theorem State.findMinor_eq_none (s : State) {n : Nat} (hn : n ≤ 1024) {i : Nat} (h : ∀ m < n, 1 < s.slotClass (backSlot i m)) :
    s.findMinor i n = none := by
  induction n generalizing i with
  | zero => rfl
  | succ n ih =>
    rw [State.findMinor_succ, if_neg (Nat.not_le.mpr (h 0 n.succ_pos))]
    refine ih (by omega) fun m hm => ?_
    rw [backSlot_step (by omega)]
    exact h (m + 1) (by omega)

theorem State.findMinor_eq_some (s : State) {n m : Nat} (hn : n ≤ 1024) (hm : m < n) {i : Nat} (hminor : s.slotClass (backSlot i m) ≤ 1)
    (hgrave : ∀ j < m, 1 < s.slotClass (backSlot i j)) : s.findMinor i n = some (backSlot i m) := by
  induction m generalizing i n with
  | zero =>
    obtain ⟨n, rfl⟩ := Nat.exists_eq_add_one_of_ne_zero (Nat.ne_of_gt hm)
    rw [State.findMinor_succ, if_pos hminor]
  | succ m ih =>
    obtain ⟨n, rfl⟩ := Nat.exists_eq_add_one_of_ne_zero (Nat.ne_of_gt (Nat.zero_lt_of_lt hm))
    have hm' : m < 1024 := by omega
    rw [State.findMinor_succ, if_neg (Nat.not_le.mpr (hgrave 0 m.succ_pos)), ← backSlot_step hm']
    refine ih (by omega) (by omega) ?_ fun j hj => ?_
    · rwa [backSlot_step hm']
    · rw [backSlot_step (hj.trans hm')]
      exact hgrave (j + 1) (by omega)

/-! ### The stages of a record that the full queue meets -/

/-- The slot that a record of class `cls` takes in a full queue: that of the newest lesser record, if its own class is grave (R404). -/
def State.victim (s : State) (cls : Nat) : Option Nat :=
  if cls ≤ 2 then none else s.findMinor (s.rd Reg.FLT_TAIL_IDX) 1024

theorem State.victim_eq_none (s : State) {cls : Nat}
    (h : cls ≤ 2 ∨ ∀ m < 1024, 1 < s.slotClass (backSlot (s.rd Reg.FLT_TAIL_IDX) m)) : s.victim cls = none := by
  unfold State.victim
  split
  · rfl
  · next hcls => exact s.findMinor_eq_none (Nat.le_refl _) (h.resolve_left hcls)

theorem State.victim_eq_some (s : State) {cls m : Nat} (hcls : 3 ≤ cls) (hm : m < 1024)
    (hminor : s.slotClass (backSlot (s.rd Reg.FLT_TAIL_IDX) m) ≤ 1)
    (hgrave : ∀ j < m, 1 < s.slotClass (backSlot (s.rd Reg.FLT_TAIL_IDX) j)) :
    s.victim cls = some (backSlot (s.rd Reg.FLT_TAIL_IDX) m) := by
  unfold State.victim
  rw [if_neg (by omega)]
  exact s.findMinor_eq_some (Nat.le_refl _) hm hminor hgrave

theorem State.findMinor_congr {s t : State} (h : ∀ k, s.slotClass k = t.slotClass k) (i n : Nat) : s.findMinor i n = t.findMinor i n := by
  induction n generalizing i with
  | zero => rfl
  | succ n ih => rw [State.findMinor_succ, State.findMinor_succ, h, ih]

/-- The queue has overflowed: OVERFLOW is set, and the records of this cycle have no order to keep any more. -/
def State.overflowed (s : State) : State :=
  { s.flag Reg.FLT_STATUS_OVERFLOW with same := { (s.flag Reg.FLT_STATUS_OVERFLOW).same with recs := [] } }

theorem State.reg_overflowed (s : State) (a : Nat) : s.overflowed.reg a = (s.wr Reg.FLT_STATUS_OVERFLOW 1).reg a := rfl

theorem State.reg_overflowed_ne (s : State) {a : Nat} (h : a ≠ Reg.FLT_STATUS) : s.overflowed.reg a = s.reg a :=
  (s.reg_overflowed a).trans (s.reg_wr_ne _ h)

/-- The words of a record replace those in the slot it takes, if it takes one (R404). -/
def State.replaceMinor (s : State) (cls : Nat) (ws : List Nat) : State :=
  match s.victim cls with
  | none => s.overflowed
  | some slot => s.overflowed.writeSlot slot ws

theorem State.replaceMinor_of_none (s : State) {cls : Nat} (ws : List Nat) (h : s.victim cls = none) :
    s.replaceMinor cls ws = s.overflowed := by
  rw [State.replaceMinor, h]

theorem State.replaceMinor_of_some (s : State) {cls slot : Nat} (ws : List Nat) (h : s.victim cls = some slot) :
    s.replaceMinor cls ws = s.overflowed.writeSlot slot ws := by
  rw [State.replaceMinor, h]

theorem State.victim_lt (s : State) {cls slot : Nat} (h : s.victim cls = some slot) : slot < 1024 := by
  unfold State.victim at h
  split at h
  · cases h
  · exact s.findMinor_lt _ _ _ h

/-- Replacing a record touches no register outside the queue's window but FLT_STATUS. -/
theorem State.reg_replaceMinor_outside (s : State) (cls : Nat) (ws : List Nat) {a : Nat} (h : a < 0x6010000) :
    (s.replaceMinor cls ws).reg a = s.overflowed.reg a := by
  cases hv : s.victim cls with
  | none => rw [s.replaceMinor_of_none ws hv]
  | some slot => rw [s.replaceMinor_of_some ws hv, State.reg_writeSlot _ (.inl h) (s.victim_lt hv)]

/-- A record that the full queue meets replaces a lesser one or is discarded, and one record is lost either way (R404). -/
theorem State.enqueueRecord_of_full (s : State) (hfull : s.fltHeld = 1024) (cls rank n : Nat) (ws : List Nat) :
    (s.enqueueRecord cls rank n ws).1 = (s.replaceMinor cls ws).count Reg.FLT_LOST_CNT 1 := by
  have hsame : s.overflowed.findMinor (s.rd Reg.FLT_TAIL_IDX) 1024 = s.findMinor (s.rd Reg.FLT_TAIL_IDX) 1024 :=
    State.findMinor_congr (fun k => congrArg (fget · 23 16) (s.reg_overflowed_ne (FLT_QUEUE_ne (by decide) _))) _ _
  unfold State.enqueueRecord State.replaceMinor State.victim
  dsimp only
  rw [if_neg (by omega)]
  change (ite (cls ≤ 2) (s.overflowed.count Reg.FLT_LOST_CNT 1, false) _ : State × Bool).1 = _
  split
  · rfl
  · change (match s.overflowed.findMinor (s.rd Reg.FLT_TAIL_IDX) 1024 with
      | some slot => ((s.overflowed.writeSlot slot ws).count Reg.FLT_LOST_CNT 1, true)
      | none => (s.overflowed.count Reg.FLT_LOST_CNT 1, false) : State × Bool).1 = _
    rw [hsame]
    cases s.findMinor (s.rd Reg.FLT_TAIL_IDX) 1024 <;> rfl

/-- A record of class `cls` takes the next SEQ, and is counted and summed up (R398, R403, R413). -/
def State.takeSeq (s : State) (cls : Nat) : State :=
  ((((s.wr Reg.FLT_TAIL_NEXT_SEQ (s.rd Reg.FLT_TAIL_NEXT_SEQ + 1)).count Reg.FLT_RECORD_CNT 1).wr Reg.FLT_STATUS_ANY 1).raise
    Reg.FLT_STATUS_MAX_CLASS cls).telRaise 3 (cls + 1)

theorem State.reg_takeSeq_ne (s : State) (cls : Nat) {a : Nat} (htail : a ≠ Reg.FLT_TAIL) (hcnt : a ≠ Reg.FLT_RECORD_CNT)
    (hstatus : a ≠ Reg.FLT_STATUS) : (s.takeSeq cls).reg a = s.reg a := by
  rw [State.takeSeq, State.reg_telRaise, State.reg_raise_ne _ _ hstatus, State.reg_wr_ne _ _ hstatus, State.reg_count_ne _ _ hcnt,
    State.reg_wr_ne _ _ htail]

theorem State.rd_takeSeq_tail (s : State) (cls : Nat) : (s.takeSeq cls).rd Reg.FLT_TAIL_IDX = s.rd Reg.FLT_TAIL_IDX := by
  rw [State.takeSeq, State.rd_telRaise, State.rd_raise_ne _ _ (by decide), State.rd_wr_ne _ _ (by decide),
    State.rd_count_ne _ _ (by decide), State.rd_wr_apart _ _ (by decide) (by decide) (by decide)]

theorem State.reg_takeSeq_queue (s : State) (cls i : Nat) : (s.takeSeq cls).reg (Reg.FLT_QUEUE i) = s.reg (Reg.FLT_QUEUE i) :=
  s.reg_takeSeq_ne cls (FLT_QUEUE_ne (by decide) i) (FLT_QUEUE_ne (by decide) i) (FLT_QUEUE_ne (by decide) i)

theorem State.fltHeld_takeSeq (s : State) (cls : Nat) : (s.takeSeq cls).fltHeld = s.fltHeld := by
  have hhead : (s.takeSeq cls).rd Reg.FLT_HEAD_IDX = s.rd Reg.FLT_HEAD_IDX := by
    rw [State.rd_eq, State.rd_eq, s.reg_takeSeq_ne cls (by decide) (by decide) (by decide)]
  rw [State.fltHeld, State.fltHeld, State.rd_takeSeq_tail, hhead]

theorem State.victim_takeSeq (s : State) (cls c : Nat) : (s.takeSeq c).victim cls = s.victim cls := by
  rw [State.victim, State.victim, State.rd_takeSeq_tail,
    State.findMinor_congr fun k => congrArg (fget · 23 16) (s.reg_takeSeq_queue c (8 * k))]

/-- FLT_FIRST captures a grave record if it is the first (R404). -/
def State.captureFirst (s : State) (cls seq : Nat) (first : Bool) : State :=
  if 3 ≤ cls ∧ first = true then
    ((s.wr Reg.FLT_FIRST_SEQ seq).wr Reg.FLT_FIRST_CLASS cls).wr Reg.FLT_FIRST_VALID 1
  else s

theorem State.reg_captureFirst_ne (s : State) (cls seq : Nat) (first : Bool) {a : Nat} (h : a ≠ Reg.FLT_FIRST) :
    (s.captureFirst cls seq first).reg a = s.reg a := by
  unfold State.captureFirst
  split
  · rw [State.reg_wr_ne _ _ h, State.reg_wr_ne _ _ h, State.reg_wr_ne _ _ h]
  · rfl

/-- What FLT_FIRST reads after it has captured a record. -/
theorem State.captureFirst_fields (s : State) {cls seq : Nat} (hcls : 3 ≤ cls) (hclass : cls < 8) (hseq : seq < 2 ^ 32) :
    (s.captureFirst cls seq true).rd Reg.FLT_FIRST_SEQ = seq ∧ (s.captureFirst cls seq true).rd Reg.FLT_FIRST_CLASS = cls ∧
      (s.captureFirst cls seq true).rd Reg.FLT_FIRST_VALID = 1 := by
  rw [State.captureFirst, if_pos ⟨hcls, rfl⟩]
  refine ⟨?_, ?_, State.rd_wr_same _ _ (by decide)⟩
  · rw [State.rd_wr_apart _ _ (by decide) (by decide) (by decide), State.rd_wr_apart _ _ (by decide) (by decide) (by decide),
      State.rd_wr_same _ _ (by decide)]
    exact Nat.mod_eq_of_lt hseq
  · rw [State.rd_wr_apart _ _ (by decide) (by decide) (by decide), State.rd_wr_same _ _ (by decide)]
    exact Nat.mod_eq_of_lt hclass

theorem State.captureFirst_of_not (s : State) {cls : Nat} (seq : Nat) {first : Bool} (h : ¬ (3 ≤ cls ∧ first = true)) :
    s.captureFirst cls seq first = s := if_neg h

theorem State.rd_msixRecord (s : State) (cls : Nat) (g : Fld) : (s.msixRecord cls).rd g = s.rd g := by
  rw [State.rd_eq, State.rd_eq, State.reg_msixRecord]

/-! ### A fault that finds the queue full -/

/-- The record that a fault makes when the queue is full: its words carry the next SEQ. -/
def State.fullRecord (s : State) (f : FaultArgs) : List Nat := recordWords s f (faultClass s f) (s.rd Reg.FLT_TAIL_NEXT_SEQ)

/-- What a fault does to the full queue, up to the actions of its class (R404). -/
def State.faultFull (s : State) (f : FaultArgs) : State :=
  (((s.takeSeq (faultClass s f)).replaceMinor (faultClass s f) (s.fullRecord f)).count Reg.FLT_LOST_CNT 1).captureFirst (faultClass s f)
    (s.rd Reg.FLT_TAIL_NEXT_SEQ) (!s.rdb Reg.FLT_FIRST_VALID)

theorem State.nextSeq_lt (s : State) : s.rd Reg.FLT_TAIL_NEXT_SEQ < 2 ^ 32 := fget_lt _ 63 32

theorem State.seq_of_none_behind (s : State) : (s.rd Reg.FLT_TAIL_NEXT_SEQ + 2 ^ 32 - 0) % 2 ^ 32 = s.rd Reg.FLT_TAIL_NEXT_SEQ := by
  rw [Nat.sub_zero, Nat.add_mod_right]
  exact Nat.mod_eq_of_lt s.nextSeq_lt

theorem State.rd_makeRecord_of_full (s : State) (hfull : s.fltHeld = 1024) (f : FaultArgs) (g : Fld) :
    (s.makeRecord f).1.rd g = (s.faultFull f).rd g := by
  have hbehind : s.behind (recordRank f (faultClass s f)) = 0 := by rw [State.behind, hfull, if_neg (by decide)]
  have hfirst : (s.rd Reg.FLT_FIRST_VALID == 0 || false) = !s.rdb Reg.FLT_FIRST_VALID := by
    rw [Bool.or_false, State.rdb_eq, bne, Bool.not_not]
  unfold State.makeRecord
  dsimp only
  rw [hbehind, if_pos rfl, State.seq_of_none_behind, decide_eq_false (Nat.not_lt_zero _), hfirst]
  generalize hq : State.enqueueRecord _ _ _ _ _ = q
  have hcount : q.1 = ((s.takeSeq (faultClass s f)).replaceMinor (faultClass s f) (s.fullRecord f)).count Reg.FLT_LOST_CNT 1 := by
    rw [← hq]
    exact State.enqueueRecord_of_full _ ((s.fltHeld_takeSeq _).trans hfull) _ _ _ _
  rw [State.faultFull, ← hcount]
  split
  · exact State.rd_msixRecord ..
  · rfl

/-- Every field beside the actions of a class reads as the queue's stages leave it. -/
theorem State.rd_fault_of_full (s : State) (hfull : s.fltHeld = 1024) (f : FaultArgs) {g : Fld} (hg : besideActions g = true) :
    (s.fault f).rd g = (s.faultFull f).rd g :=
  (s.rd_fault_beside hg f).trans (s.rd_makeRecord_of_full hfull f g)

theorem State.reg_fault_of_full (s : State) (hfull : s.fltHeld = 1024) (f : FaultArgs) {a : Nat} (hlo : Reg.FLT_HEAD ≤ a)
    (hhi : a < 0x7000000) (hne : a ≠ Reg.FLT_ALARM_TX_CNT) : (s.fault f).reg a = (s.faultFull f).reg a :=
  State.reg_eq_of_rd_wordAt (s.rd_fault_of_full hfull f (besideActions_wordAt hlo hhi hne))

/-- Below the queue's window, FLT_FIRST and FLT_LOST_CNT apart, a fault leaves a full queue's registers as the taking of its SEQ and the
overflow do. -/
theorem State.reg_faultFull_outside (s : State) (f : FaultArgs) {a : Nat} (h : a < 0x6010000) (hfirst : a ≠ Reg.FLT_FIRST)
    (hlost : a ≠ Reg.FLT_LOST_CNT) : (s.faultFull f).reg a = (s.takeSeq (faultClass s f)).overflowed.reg a := by
  rw [State.faultFull, State.reg_captureFirst_ne _ _ _ _ hfirst, State.reg_count_ne _ _ hlost, State.reg_replaceMinor_outside _ _ _ h]

theorem State.reg_faultFull_lost (s : State) (f : FaultArgs) :
    (s.faultFull f).reg Reg.FLT_LOST_CNT = (s.count Reg.FLT_LOST_CNT 1).reg Reg.FLT_LOST_CNT := by
  rw [State.faultFull, State.reg_captureFirst_ne _ _ _ _ (by decide), State.reg_count_same, State.reg_count_same,
    State.reg_replaceMinor_outside _ _ _ (by decide), State.reg_overflowed_ne _ (by decide),
    State.reg_takeSeq_ne _ _ (by decide) (by decide) (by decide)]

/-- The window holds what the replacing of a record leaves in it. -/
theorem State.reg_faultFull_queue (s : State) (f : FaultArgs) (i : Nat) :
    (s.faultFull f).reg (Reg.FLT_QUEUE i) =
      ((s.takeSeq (faultClass s f)).replaceMinor (faultClass s f) (s.fullRecord f)).reg (Reg.FLT_QUEUE i) := by
  rw [State.faultFull, State.reg_captureFirst_ne _ _ _ _ (FLT_QUEUE_ne (by decide) i),
    State.reg_count_ne _ _ (FLT_QUEUE_ne (by decide) i)]

theorem State.reg_overflowed_queue (s : State) (f : FaultArgs) (i : Nat) :
    (s.takeSeq (faultClass s f)).overflowed.reg (Reg.FLT_QUEUE i) = s.reg (Reg.FLT_QUEUE i) := by
  rw [State.reg_overflowed_ne _ (FLT_QUEUE_ne (by decide) i), State.reg_takeSeq_queue]

theorem State.reg_faultFull_queue_discarded (s : State) {f : FaultArgs} (h : s.victim (faultClass s f) = none) (i : Nat) :
    (s.faultFull f).reg (Reg.FLT_QUEUE i) = s.reg (Reg.FLT_QUEUE i) := by
  rw [State.reg_faultFull_queue, State.replaceMinor_of_none _ _ ((s.victim_takeSeq ..).trans h), State.reg_overflowed_queue]

theorem State.reg_faultFull_queue_same (s : State) {f : FaultArgs} {slot k : Nat} (h : s.victim (faultClass s f) = some slot) (hk : k < 8) :
    (s.faultFull f).reg (Reg.FLT_QUEUE (8 * slot + k)) = BitVec.ofNat 64 ((s.fullRecord f).getD k 0) := by
  rw [State.reg_faultFull_queue, State.replaceMinor_of_some _ _ ((s.victim_takeSeq ..).trans h), State.reg_writeSlot_same _ _ _ hk]

theorem State.reg_faultFull_queue_ne (s : State) {f : FaultArgs} {slot i : Nat} (h : s.victim (faultClass s f) = some slot)
    (hi : i / 8 ≠ slot) : (s.faultFull f).reg (Reg.FLT_QUEUE i) = s.reg (Reg.FLT_QUEUE i) := by
  rw [State.reg_faultFull_queue, State.replaceMinor_of_some _ _ ((s.victim_takeSeq ..).trans h), State.reg_writeSlot_ne _ _ hi,
    State.reg_overflowed_queue]

theorem faultClass_le (s : State) (f : FaultArgs) : faultClass s f ≤ 5 := by
  unfold faultClass
  repeat' split
  all_goals decide

/-- FLT_FIRST is not touched before it captures. -/
theorem State.reg_faultFull_first (s : State) {f : FaultArgs} (h : faultClass s f ≤ 2 ∨ s.rdb Reg.FLT_FIRST_VALID = true) :
    (s.faultFull f).reg Reg.FLT_FIRST = s.reg Reg.FLT_FIRST := by
  have hnot : ¬ (3 ≤ faultClass s f ∧ (!s.rdb Reg.FLT_FIRST_VALID) = true) := by
    rintro ⟨hgrave, hfree⟩
    rcases h with h | h
    · omega
    · rw [h] at hfree; cases hfree
  rw [State.faultFull, State.captureFirst_of_not _ _ hnot, State.reg_count_ne _ _ (by decide),
    State.reg_replaceMinor_outside _ _ _ (by decide), State.reg_overflowed_ne _ (by decide),
    State.reg_takeSeq_ne _ _ (by decide) (by decide) (by decide)]

theorem State.faultFull_first_fields (s : State) {f : FaultArgs} (hgrave : 3 ≤ faultClass s f)
    (hfree : s.rdb Reg.FLT_FIRST_VALID = false) :
    (s.faultFull f).rd Reg.FLT_FIRST_SEQ = s.rd Reg.FLT_TAIL_NEXT_SEQ ∧ (s.faultFull f).rd Reg.FLT_FIRST_CLASS = faultClass s f ∧
      (s.faultFull f).rd Reg.FLT_FIRST_VALID = 1 := by
  have hclass : faultClass s f < 8 := by have := faultClass_le s f; omega
  rw [State.faultFull, hfree, Bool.not_false]
  exact State.captureFirst_fields _ hgrave hclass s.nextSeq_lt

theorem State.rd_faultFull_overflow (s : State) (f : FaultArgs) : (s.faultFull f).rd Reg.FLT_STATUS_OVERFLOW = 1 := by
  rw [State.rd_eq, State.reg_faultFull_outside _ _ (by decide) (by decide) (by decide), State.reg_overflowed, ← State.rd_eq,
    State.rd_wr_same _ _ (by decide)]
  rfl

theorem State.rd_faultFull_tail (s : State) (f : FaultArgs) : (s.faultFull f).rd Reg.FLT_TAIL_IDX = s.rd Reg.FLT_TAIL_IDX := by
  rw [State.rd_eq, State.reg_faultFull_outside _ _ (by decide) (by decide) (by decide), State.reg_overflowed_ne _ (by decide),
    ← State.rd_eq, State.rd_takeSeq_tail]

/-- Settles O52: a full queue counts every further record as lost, and keeps a grave one in the place of the newest lesser one. -/
theorem fullQueueKeepsGraveRecords : Obligations.FullQueueKeepsGraveRecords := by
  unfold Obligations.FullQueueKeepsGraveRecords
  intro s f tail cls slot kept htail hcls hslot hkept hfull
  subst htail hcls
  obtain rfl : slot = backSlot (s.rd Reg.FLT_TAIL_IDX) := funext hslot
  obtain rfl : kept = fun m => s.slotClass (backSlot (s.rd Reg.FLT_TAIL_IDX) m) := funext hkept
  have hrd : ∀ {g : Fld}, besideActions g = true → (s.fault f).rd g = (s.faultFull f).rd g := fun hg => s.rd_fault_of_full hfull f hg
  have hqueue : ∀ i < 8192, (s.fault f).reg (Reg.FLT_QUEUE i) = (s.faultFull f).reg (Reg.FLT_QUEUE i) := fun i hi =>
    have hwin : 0x6010000 ≤ Reg.FLT_QUEUE i ∧ Reg.FLT_QUEUE i < 0x7000000 := by unfold Reg.FLT_QUEUE; omega
    s.reg_fault_of_full hfull f (le_trans (by decide) hwin.1) hwin.2 (FLT_QUEUE_ne (by decide) i)
  refine ⟨?_, ?_, ?_, fun hdiscard i hi => ?_, fun n hn hgrave hminor hbefore => ?_, fun hgrave hfree => ?_, fun hheld => ?_⟩
  · rw [State.rdb_eq, hrd (by decide), State.rd_faultFull_overflow]; rfl
  · rw [hrd (by decide), State.rd_faultFull_tail]
  · rw [s.reg_fault_of_full hfull f (by decide) (by decide) (by decide), State.reg_faultFull_lost]
  · rw [hqueue i hi, s.reg_faultFull_queue_discarded (s.victim_eq_none hdiscard)]
  · have hvictim := s.victim_eq_some hgrave hn hminor hbefore
    have hslot : backSlot (s.rd Reg.FLT_TAIL_IDX) n < 1024 := s.victim_lt hvictim
    refine ⟨fun k hk => ?_, fun i hi hother => ?_⟩
    · rw [hqueue _ (by omega), s.reg_faultFull_queue_same hvictim hk]; rfl
    · rw [hqueue i hi, s.reg_faultFull_queue_ne hvictim hother]
  · obtain ⟨hseq, hclass, hvalid⟩ := s.faultFull_first_fields hgrave hfree
    refine ⟨(hrd (by decide)).trans hseq, (hrd (by decide)).trans hclass, ?_⟩
    rw [State.rdb_eq, hrd (by decide), hvalid]; rfl
  · rw [s.reg_fault_of_full hfull f (by decide) (by decide) (by decide), s.reg_faultFull_first hheld]

end Sys2Proof.Machine
end

section
/-! PROOFS. The register address map (R442, R445). The map's rows are checked one by one, by their first and last register
(`Reg.table_in_groups`): every register lies in the lower half of one of the eight 16 MiB groups, where the address and the BAR0
offset give each other back. -/
namespace Sys2Proof.Reg

/-- The address of a row's last register: its last element in the last copy of its block. -/
def Info.last (r : Info) : Nat := r.base + (r.insts - 1) * r.istride + (r.elems - 1) * r.estride

/-- An address that the map gives to a row lies between the row's first and last register. -/
theorem le_last_of_find {a : Nat} {r : Info} (h : find a = some r) : r ∈ table ∧ r.base ≤ a ∧ a ≤ r.last := by
  have hrow := List.find?_some h
  simp only [decide_eq_true_eq] at hrow
  generalize (if r.insts ≤ 1 then 0 else (a - r.base) / r.istride) = j at hrow
  obtain ⟨hbase, hinst, helem⟩ := hrow
  have hj : j * r.istride ≤ (r.insts - 1) * r.istride := Nat.mul_le_mul_right _ (Nat.le_sub_one_of_lt hinst)
  have he : a - r.base - j * r.istride ≤ (r.elems - 1) * r.estride := by
    split at helem
    · exact helem.le.trans (Nat.zero_le _)
    · obtain ⟨haligned, hlt⟩ := helem
      rw [← Nat.div_mul_cancel (Nat.dvd_of_mod_eq_zero haligned)]
      exact Nat.mul_le_mul_right _ (Nat.le_sub_one_of_lt hlt)
  refine ⟨List.mem_of_find?_eq_some h, hbase, ?_⟩
  unfold Info.last
  omega

/-- Every row lies, from its first register to its last, in the lower half of one 16 MiB group (R442, R445). -/
theorem table_in_groups : ∀ r ∈ table, r.last < 2 ^ 27 ∧ r.last / 2 ^ 23 = r.base / 2 ^ 23 ∧ r.base / 2 ^ 23 % 2 = 0 := by
  decide +kernel

/-- The address of every register has bits 63 to 27 and bit 23 clear (R442). -/
theorem addr_of_find {a : Nat} {r : Info} (h : find a = some r) : a < 2 ^ 27 ∧ nbit a 23 = false := by
  obtain ⟨hmem, hbase, hlast⟩ := le_last_of_find h
  obtain ⟨hlt, hslice, heven⟩ := table_in_groups r hmem
  have ha : a / 2 ^ 23 = r.base / 2 ^ 23 :=
    Nat.le_antisymm ((Nat.div_le_div_right hlast).trans hslice.le) (Nat.div_le_div_right hbase)
  exact ⟨hlast.trans_lt hlt, by rw [nbit, ha, heven]; rfl⟩

end Sys2Proof.Reg

namespace Sys2Proof.Machine

/-! ### An address and its BAR0 offset -/

theorem bar0Offset_lt (a : Nat) : bar0Offset a < 2 ^ 26 := by
  unfold bar0Offset; omega

theorem nbits_bar0Offset_group (a : Nat) : nbits (bar0Offset a) 25 23 = nbits a 26 24 := by
  unfold nbits bar0Offset; omega

theorem nbits_bar0Offset_low (a : Nat) : nbits (bar0Offset a) 22 0 = nbits a 22 0 := by
  unfold nbits bar0Offset; omega

theorem nbits_bar0Addr_group (o : Nat) : nbits (bar0Addr o) 26 24 = nbits o 25 23 := by
  unfold nbits bar0Addr; omega

theorem nbits_bar0Addr_low (o : Nat) : nbits (bar0Addr o) 22 0 = nbits o 22 0 := by
  unfold nbits bar0Addr; omega

theorem bar0Offset_bar0Addr {o : Nat} (h : o < 2 ^ 26) : bar0Offset (bar0Addr o) = o := by
  unfold bar0Offset bar0Addr; omega

/-- An address gives itself back through its offset when the bits that the offset leaves out are clear. -/
theorem bar0Addr_bar0Offset {a : Nat} (h : a < 2 ^ 27) (h23 : nbit a 23 = false) : bar0Addr (bar0Offset a) = a := by
  have hbit : a / 2 ^ 23 % 2 ≠ 1 := by simpa [nbit] using h23
  unfold bar0Offset bar0Addr; omega

/-! ### Offsets that no register occupies -/

/-- An offset that no register, MSI-X entry or pending bit occupies reads 0 (R10). -/
theorem State.bar0Read_unoccupied (s : State) {o : Nat} (hmsix : o ∉ [0x1000, 0x1008, 0x1800]) (hfind : Reg.find (bar0Addr o) = none) :
    s.bar0Read o = 0 := by
  simp only [List.mem_cons, List.not_mem_nil, or_false, not_or] at hmsix
  obtain ⟨hlow, hhigh, hpending⟩ := hmsix
  simp only [State.bar0Read, hlow, hhigh, hpending, hfind, or_self, if_false]

/-- A write to an offset that no register and no MSI-X entry occupies is ignored (R10). -/
theorem State.bar0Write_unoccupied (s : State) {o : Nat} (m : Nat) (v : Word) (hlow : o ≠ 0x1000) (hhigh : o ≠ 0x1008)
    (hfind : Reg.find (bar0Addr o) = none) : s.bar0Write o m v = s := by
  simp only [State.bar0Write, hlow, hhigh, hfind, or_self, if_false]

/-- REGISTER_WRITE at an aligned BAR0 offset is the BAR0 write of the half's bits. -/
theorem exec_registerWrite_bar0 {s : State} {o : Nat} (half : Option Bool) (v : Word) (hlive : s.live = true) (haligned : o % 8 = 0) :
    exec (.registerWrite false o half v) s = .next (s.bar0Write o (halfMask half) v) := by
  have harm : exec (.registerWrite false o half v) s = execRegisterWrite false o half v s := rfl
  rw [harm, execRegisterWrite]
  simp [hlive, haligned]

/-- Settles O6: every register's address has the bits clear that its BAR0 offset leaves out, and an unoccupied offset holds nothing. -/
theorem registerAddressesAndOffsets : Obligations.RegisterAddressesAndOffsets := by
  unfold Obligations.RegisterAddressesAndOffsets
  refine ⟨fun a r hfind => ?_, fun a => ⟨bar0Offset_lt a, nbits_bar0Offset_group a, nbits_bar0Offset_low a⟩,
    fun o ho => ⟨nbits_bar0Addr_group o, nbits_bar0Addr_low o, bar0Offset_bar0Addr ho⟩,
    fun s o half v hlive haligned hmsix hfind => ⟨s.bar0Read_unoccupied hmsix hfind, ?_⟩⟩
  · obtain ⟨hlt, h23⟩ := Reg.addr_of_find hfind
    exact ⟨hlt, h23, bar0Addr_bar0Offset hlt h23⟩
  · have hlow : o ≠ 0x1000 := fun h => hmsix (by simp [h])
    have hhigh : o ≠ 0x1008 := fun h => hmsix (by simp [h])
    rw [exec_registerWrite_bar0 half v hlive haligned, s.bar0Write_unoccupied _ v hlow hhigh hfind]

end Sys2Proof.Machine
end

section
/-! PROOFS. Every command, in one case split: it answers a next state that keeps the queue, the clock and what was sent, stays canonical
and differs from the state before only in the parts that `touches` names. A cycle keeps the same of the state it begins with. -/
namespace Sys2Proof.Machine

/-- Each command answers and changes only the parts that `touches` names for it (Laws/Kept.lean). -/
theorem exec_kept (c : Instr) (s : State) : Answers (touches c) s (exec c s) := by
  cases c with
  | registerWrite => exact execRegisterWrite_kept rfl rfl rfl rfl rfl rfl rfl rfl rfl rfl (.refl s)
  | counterClear => exact execCounterClear_kept rfl rfl (.refl s)
  | hwmClear => exact execHwmClear_kept rfl (.refl s)
  | barAccessError => exact execBarAccessError_kept rfl (.refl s)
  | rootPllLock => exact execRootPllLock_kept rfl (.refl s)
  | referenceLost => exact execReferenceLost_kept rfl rfl rfl rfl rfl rfl (.refl s)
  | referenceRestored => exact execReferenceRestored_kept rfl (.refl s)
  | crnEnSet => exact execCrnEnSet_kept rfl (.refl s)
  | crnEnClear => exact execCrnEnClear_kept rfl rfl rfl rfl rfl rfl rfl (.refl s)
  | beaconRequestTimer => exact execBeaconRequestTimer_kept rfl rfl (.refl s)
  | beaconReq => exact execBeaconReq_kept rfl (.refl s)
  | beaconRsp => exact execBeaconRsp_kept rfl rfl rfl rfl rfl rfl rfl (.refl s)
  | beaconMiss => exact execBeaconMiss_kept rfl rfl rfl rfl rfl rfl (.refl s)
  | crownLocked => exact execCrownLocked_kept rfl (.refl s)
  | crownDrift => exact execCrownDrift_kept rfl rfl rfl rfl rfl rfl (.refl s)
  | parentLost => exact execParentLost_kept rfl rfl rfl rfl rfl rfl (.refl s)
  | altParentSwitch => exact execAltParentSwitch_kept rfl (.refl s)
  | masterRelock => exact execMasterRelock_kept rfl (.refl s)
  | holdLimitReached => exact execHoldLimitReached_kept rfl rfl rfl rfl rfl rfl (.refl s)
  | acqLimitReached => exact execAcqLimitReached_kept rfl rfl rfl rfl rfl rfl (.refl s)
  | monitorTimer => exact execMonitorTimer_kept rfl rfl (.refl s)
  | droopDetected => exact execDroopDetected_kept rfl (.refl s)
  | droopStepReturn => exact execDroopStepReturn_kept rfl (.refl s)
  | thermalStepTimer => exact execThermalStepTimer_kept rfl (.refl s)
  | dividerRestoreStep => exact execDividerRestoreStep_kept rfl (.refl s)
  | dividerStepResume => exact execDividerStepResume_kept rfl rfl (.refl s)
  | rgnClkWrite => exact execRgnClkWrite_kept rfl rfl (.refl s)
  | estimateCorrection => exact execEstimateCorrection_kept rfl rfl (.refl s)
  | stitchSend => exact execStitchSend_kept rfl rfl rfl rfl rfl rfl rfl rfl (.refl s)
  | landingStitch => exact execLandingStitch_kept rfl rfl rfl rfl rfl rfl rfl rfl (.refl s)
  | lateLanding => exact execLateLanding_kept rfl rfl rfl rfl rfl rfl rfl rfl (.refl s)
  | unexpectedArrival => exact execUnexpectedArrival_kept rfl rfl rfl rfl rfl rfl (.refl s)
  | deposit => exact execDeposit_kept rfl rfl rfl rfl rfl rfl rfl (.refl s)
  | depositReady => exact execDepositReady_kept rfl (.refl s)
  | bankVerify => exact execBankVerify_kept rfl rfl (.refl s)
  | verifyDone => exact execVerifyDone_kept rfl rfl rfl rfl rfl rfl (.refl s)
  | bankArm => exact execBankArm_kept rfl rfl (.refl s)
  | autoFillDone => exact execAutoFillDone_kept rfl rfl rfl rfl rfl rfl rfl rfl rfl (.refl s)
  | stitchTableWrite => exact execStitchTableWrite_kept rfl rfl rfl (.refl s)
  | bankCfgWrite => exact execBankCfgWrite_kept rfl (.refl s)
  | queueCfgWrite => exact execQueueCfgWrite_kept rfl (.refl s)
  | cufRunSet => exact execCufRunSet_kept rfl rfl (.refl s)
  | cufRunClear => exact execCufRunClear_kept rfl rfl rfl rfl rfl rfl (.refl s)
  | seamOpen => exact execSeamOpen_kept rfl rfl rfl rfl rfl rfl rfl rfl rfl rfl rfl (.refl s)
  | seamCheck => exact execSeamCheck_kept rfl rfl rfl rfl rfl (.refl s)
  | scheduledFlitRx => exact execScheduledFlitRx_kept rfl rfl rfl rfl rfl rfl rfl rfl (.refl s)
  | looseFlitRx => exact execLooseFlitRx_kept rfl rfl rfl rfl rfl rfl rfl rfl (.refl s)
  | nullFlitRx => exact execNullFlitRx_kept rfl rfl rfl rfl rfl rfl rfl rfl (.refl s)
  | erroredSlot => exact execErroredSlot_kept rfl (.refl s)
  | lcwReceived => exact execLcwReceived_kept rfl rfl rfl rfl rfl rfl rfl (.refl s)
  | ident => exact execIdent_kept rfl rfl rfl rfl rfl rfl (.refl s)
  | credit => exact execCredit_kept rfl (.refl s)
  | reqQuick => exact execReqQuick_kept rfl (.refl s)
  | reqFull => exact execReqFull_kept rfl (.refl s)
  | reqWidth => exact execReqWidth_kept rfl (.refl s)
  | trainAccept => exact execTrainAccept_kept rfl rfl rfl rfl rfl rfl rfl (.refl s)
  | trainRequestTimeout => exact execTrainRequestTimeout_kept rfl rfl rfl rfl rfl rfl rfl (.refl s)
  | lcwTransmit => exact execLcwTransmit_kept rfl rfl rfl rfl rfl rfl rfl rfl (.refl s)
  | replayStart => exact execReplayStart_kept rfl rfl rfl rfl rfl rfl rfl (.refl s)
  | replayTimer => exact execReplayTimer_kept rfl rfl rfl rfl rfl rfl rfl (.refl s)
  | linkEnable => exact execLinkEnable_kept rfl rfl (.refl s)
  | linkDisable => exact execLinkDisable_kept rfl rfl rfl rfl rfl rfl (.refl s)
  | linkRetrain => exact execLinkRetrain_kept rfl rfl (.refl s)
  | signalDetect => exact execSignalDetect_kept rfl (.refl s)
  | equalizeDone => exact execEqualizeDone_kept rfl (.refl s)
  | negotiateDone => exact execNegotiateDone_kept rfl rfl rfl rfl rfl rfl (.refl s)
  | alignDone => exact execAlignDone_kept rfl (.refl s)
  | measureDone => exact execMeasureDone_kept rfl rfl rfl rfl rfl rfl (.refl s)
  | trainingTimeout => exact execTrainingTimeout_kept rfl rfl rfl rfl rfl rfl (.refl s)
  | failedWaitEnd => exact execFailedWaitEnd_kept rfl (.refl s)
  | rxLockLost => exact execRxLockLost_kept rfl rfl rfl rfl rfl rfl rfl (.refl s)
  | trainingFrameRx => exact execTrainingFrameRx_kept rfl rfl rfl rfl rfl rfl rfl (.refl s)
  | laneError => exact execLaneError_kept rfl rfl rfl rfl rfl rfl rfl (.refl s)
  | memberAckTimeout => exact execMemberAckTimeout_kept rfl rfl rfl rfl rfl rfl rfl (.refl s)
  | rxDownPeriodEnd => exact execRxDownPeriodEnd_kept rfl rfl rfl rfl rfl rfl (.refl s)
  | looseInject => exact execLooseInject_kept rfl rfl rfl rfl rfl rfl rfl (.refl s)
  | latticeAssign => exact execLatticeAssign_kept rfl rfl rfl rfl rfl rfl rfl rfl (.refl s)
  | busyInject => exact execBusyInject_kept rfl rfl (.refl s)
  | reservationTimeout => exact execReservationTimeout_kept rfl rfl (.refl s)
  | oppSuppressEnd => exact execOppSuppressEnd_kept rfl (.refl s)
  | rankTableWrite => exact execRankTableWrite_kept rfl rfl rfl (.refl s)
  | routeTableWrite => exact execRouteTableWrite_kept rfl rfl rfl (.refl s)
  | epochArm => exact execEpochArm_kept rfl (.refl s)
  | epochSwitch => exact execEpochSwitch_kept (.refl s)
  | descriptorFetch => exact execDescriptorFetch_kept rfl rfl rfl rfl rfl rfl rfl rfl rfl rfl (.refl s)
  | matmul => exact execMatmul_kept rfl rfl rfl rfl rfl rfl rfl rfl rfl rfl rfl rfl rfl (.refl s)
  | matmulAcc => exact execMatmulAcc_kept rfl rfl rfl rfl rfl rfl rfl rfl rfl rfl rfl rfl rfl (.refl s)
  | conv2d => exact execConv2d_kept rfl rfl rfl rfl rfl rfl rfl rfl rfl rfl rfl rfl rfl (.refl s)
  | attend => exact execAttend_kept rfl rfl rfl rfl rfl rfl rfl rfl rfl rfl rfl rfl rfl (.refl s)
  | softmax => exact execSoftmax_kept rfl rfl rfl rfl rfl rfl rfl rfl rfl rfl rfl rfl rfl (.refl s)
  | norm => exact execNorm_kept rfl rfl rfl rfl rfl rfl rfl rfl rfl rfl rfl rfl rfl (.refl s)
  | elementOp => exact execElement_kept rfl rfl rfl rfl rfl rfl rfl rfl rfl rfl rfl rfl rfl (.refl s)
  | reduce => exact execReduce_kept rfl rfl rfl rfl rfl rfl rfl rfl rfl rfl rfl rfl rfl (.refl s)
  | transpose => exact execTranspose_kept rfl rfl rfl rfl rfl rfl rfl rfl rfl rfl rfl rfl rfl (.refl s)
  | gather => exact execGather_kept rfl rfl rfl rfl rfl rfl rfl rfl rfl rfl rfl rfl rfl (.refl s)
  | scatterAdd => exact execScatterAdd_kept rfl rfl rfl rfl rfl rfl rfl rfl rfl rfl rfl rfl rfl (.refl s)
  | topk => exact execTopk_kept rfl rfl rfl rfl rfl rfl rfl rfl rfl rfl rfl rfl rfl (.refl s)
  | dispatch => exact execDispatch_kept rfl rfl rfl rfl rfl rfl rfl rfl rfl rfl rfl rfl rfl (.refl s)
  | combine => exact execCombine_kept rfl rfl rfl rfl rfl rfl rfl rfl rfl rfl rfl rfl rfl (.refl s)
  | convert => exact execConvert_kept rfl rfl rfl rfl rfl rfl rfl rfl rfl rfl rfl rfl rfl (.refl s)
  | copy => exact execCopy_kept rfl rfl rfl rfl rfl rfl rfl rfl rfl rfl rfl rfl rfl (.refl s)
  | seamWait => exact execSeamWait_kept rfl rfl rfl rfl rfl rfl rfl rfl rfl rfl rfl rfl rfl (.refl s)
  | stagingDone => exact execStagingDone_kept rfl rfl rfl rfl rfl rfl rfl rfl rfl rfl (.refl s)
  | opComplete => exact execOpComplete_kept rfl rfl rfl rfl rfl rfl rfl rfl rfl rfl rfl rfl (.refl s)
  | palmStop => exact execPalmStop_kept rfl (.refl s)
  | linerLoad => exact execLinerLoad_kept rfl rfl (.refl s)
  | linerLoadDone => exact execLinerLoadDone_kept rfl rfl rfl rfl rfl rfl rfl rfl (.refl s)
  | tileWatchdog => exact execTileWatchdog_kept rfl rfl rfl rfl rfl rfl rfl (.refl s)
  | hbmWriteBack => exact execHbmWriteBack_kept rfl rfl (.refl s)
  | scrubBurst => exact execScrubBurst_kept rfl rfl rfl rfl rfl rfl rfl rfl (.refl s)
  | refresh _ channel => exact execRefresh_kept channel (.refl s)
  | periodicTraining _ channel _ => exact execPeriodicTraining_kept channel (.refl s)
  | hbmRetrainRequest => exact execHbmRetrainRequest_kept rfl rfl (.refl s)
  | hbmRetrainDone => exact execHbmRetrainDone_kept rfl (.refl s)
  | hbmRetrainTimeout => exact execHbmRetrainTimeout_kept rfl rfl rfl rfl rfl rfl (.refl s)
  | hbmCapWrite => exact execHbmCapWrite_kept rfl (.refl s)
  | loadOpen => exact execLoadOpen_kept rfl rfl (.refl s)
  | loadClose => exact execLoadClose_kept rfl rfl (.refl s)
  | loadVerify => exact execLoadVerify_kept rfl (.refl s)
  | loadVerifyDone => exact execLoadVerifyDone_kept rfl rfl rfl rfl rfl rfl rfl rfl rfl (.refl s)
  | admitLoad => exact execAdmit_kept rfl rfl rfl rfl rfl rfl rfl rfl rfl rfl rfl (.refl s)
  | imageArm => exact execImageArm_kept rfl rfl rfl rfl rfl rfl rfl rfl rfl (.refl s)
  | convertStartTime => exact execConvertStartTime_kept rfl (.refl s)
  | refuse => exact execRefuse_kept rfl rfl rfl rfl rfl rfl (.refl s)
  | imageStart => exact execImageStart_kept rfl rfl rfl rfl rfl rfl rfl rfl rfl rfl rfl (.refl s)
  | chunkPart => exact execChunkPart_kept rfl rfl rfl rfl rfl rfl rfl rfl rfl (.refl s)
  | chunkSubmit => exact execChunkSubmit_kept rfl rfl rfl rfl (.refl s)
  | bcast => exact execBcast_kept rfl rfl rfl rfl (.refl s)
  | bcastSettleEnd => exact execBcastSettleEnd_kept rfl rfl rfl (.refl s)
  | reportWaitEnd => exact execReportWaitEnd_kept rfl rfl rfl rfl rfl rfl rfl (.refl s)
  | roundEnd => exact execRoundEnd_kept rfl rfl rfl rfl rfl rfl rfl rfl (.refl s)
  | report => exact execReport_kept rfl rfl rfl rfl rfl rfl rfl (.refl s)
  | fwStart => exact execFwStart_kept rfl rfl rfl rfl rfl rfl rfl rfl (.refl s)
  | fwChunkSend => exact execFwChunkSend_kept rfl rfl rfl rfl rfl rfl rfl rfl (.refl s)
  | fwRepair => exact execFwRepair_kept rfl rfl rfl rfl rfl rfl rfl rfl rfl rfl (.refl s)
  | frameDropped => exact execFrameDropped_kept rfl rfl rfl rfl rfl rfl rfl rfl rfl (.refl s)
  | arpNdRequest => exact execArpNdRequest_kept rfl rfl rfl rfl rfl rfl rfl rfl (.refl s)
  | request => exact execRequest_kept rfl rfl rfl rfl rfl rfl rfl rfl rfl (.refl s)
  | cancel => exact execCancel_kept rfl rfl rfl rfl rfl rfl rfl rfl rfl (.refl s)
  | resend => exact execResend_kept rfl rfl rfl rfl rfl rfl rfl rfl rfl (.refl s)
  | bulkAck => exact execBulkAck_kept rfl rfl rfl rfl rfl rfl rfl rfl rfl rfl (.refl s)
  | forwardedDatagram => exact execForwardedDatagram_kept rfl rfl rfl rfl rfl rfl rfl rfl rfl rfl (.refl s)
  | asmTimeout => exact execAsmTimeout_kept rfl rfl (.refl s)
  | windowClose => exact execWindowClose_kept rfl (.refl s)
  | windowRecordDone => exact execWindowRecordDone_kept rfl rfl rfl rfl (.refl s)
  | mirrorRead => exact execMirrorRead_kept rfl rfl rfl rfl rfl rfl rfl rfl rfl rfl (.refl s)
  | recordDeadlineCheck => exact execRecordDeadlineCheck_kept rfl rfl rfl rfl rfl rfl (.refl s)
  | tokenOutput => exact execTokenOutput_kept rfl rfl rfl rfl rfl rfl rfl rfl rfl rfl (.refl s)
  | sessionTableWrite => exact execSessionTableWrite_kept rfl rfl (.refl s)
  | sessionOpen => exact execSessionOpen_kept rfl rfl rfl (.refl s)
  | sessionClose => exact execSessionClose_kept rfl rfl rfl (.refl s)
  | bulkStart => exact execBulkStart_kept rfl rfl rfl rfl rfl rfl rfl rfl rfl rfl (.refl s)
  | bulkAbort => exact execBulkAbort_kept rfl (.refl s)
  | bulkTimeout => exact execBulkTimeout_kept rfl rfl rfl rfl rfl rfl rfl rfl rfl rfl (.refl s)
  | ethPortUp => exact execEthPortUp_kept rfl rfl rfl rfl rfl rfl rfl rfl rfl rfl (.refl s)
  | sync => exact execSync_kept rfl rfl rfl rfl rfl rfl rfl (.refl s)
  | followUp => exact execFollowUp_kept rfl rfl rfl rfl rfl rfl rfl (.refl s)
  | delayResp => exact execDelayResp_kept rfl rfl rfl rfl rfl rfl rfl (.refl s)
  | pdelayReq => exact execPdelayReq_kept rfl (.refl s)
  | pdelayResp => exact execPdelayResp_kept rfl (.refl s)
  | pdelayRespFollowUp => exact execPdelayRespFollowUp_kept rfl (.refl s)
  | announce => exact execAnnounce_kept rfl rfl rfl rfl rfl rfl (.refl s)
  | ptpFrameDrop => exact execPtpFrameDrop_kept rfl (.refl s)
  | domainEnable => exact execDomainEnable_kept rfl (.refl s)
  | domainDisable => exact execDomainDisable_kept rfl rfl rfl rfl rfl rfl (.refl s)
  | syncTimeout => exact execSyncTimeout_kept rfl rfl rfl rfl rfl rfl (.refl s)
  | announceTimeout => exact execAnnounceTimeout_kept rfl rfl rfl rfl rfl rfl (.refl s)
  | outputReset => exact execOutputReset_kept rfl (.refl s)
  | outputSelect => exact execOutputSelect_kept rfl rfl rfl rfl rfl rfl (.refl s)
  | timeCapture => exact execTimeCapture_kept (.refl s)
  | bridgeSample => exact execBridgeSample_kept rfl (.refl s)
  | bridgeSend => exact execBridgeSend_kept rfl rfl rfl (.refl s)
  | bridgeMessage => exact execBridgeMessage_kept rfl rfl rfl rfl rfl rfl rfl rfl (.refl s)
  | bridgeStale => exact execBridgeStale_kept rfl rfl rfl rfl rfl rfl (.refl s)
  | tpArm => exact execTpArm_kept rfl rfl (.refl s)
  | tpStop => exact execTpStop_kept (.refl s)
  | tpEdge => exact execTpEdge_kept rfl (.refl s)
  | tpPulseEnd => exact execTpPulseEnd_kept rfl (.refl s)
  | tpBaseStep => exact execTpBaseStep_kept rfl rfl (.refl s)
  | aonPowerGood => exact execAonPowerGood_kept rfl rfl rfl rfl rfl rfl rfl (.refl s)
  | bootGo => exact execBootGo_kept rfl (.refl s)
  | domainPowerGood => exact execDomainPowerGood_kept rfl rfl rfl rfl rfl rfl rfl (.refl s)
  | domainPowerTimeout => exact execDomainPowerTimeout_kept rfl (.refl s)
  | bistDone => exact execBistDone_kept rfl rfl rfl rfl rfl rfl rfl rfl (.refl s)
  | hbmTrainingDone => exact execHbmTrainingDone_kept rfl rfl rfl rfl rfl rfl rfl rfl (.refl s)
  | linerBuild => exact execLinerBuild_kept rfl rfl rfl rfl rfl rfl rfl rfl (.refl s)
  | discoveryEval => exact execDiscoveryEval_kept rfl rfl rfl rfl rfl rfl (.refl s)
  | discoveryEnd => exact execDiscoveryEnd_kept rfl rfl rfl rfl rfl rfl rfl (.refl s)
  | readinessReport => exact execReadinessReport_kept rfl rfl rfl rfl rfl rfl rfl (.refl s)
  | rediscover => exact execRediscover_kept rfl rfl rfl rfl rfl rfl rfl (.refl s)
  | nvmRead => exact execNvmRead_kept rfl (.refl s)
  | nvmOpen => exact execNvmOpen_kept rfl (.refl s)
  | nvmWrite => exact execNvmWrite_kept rfl (.refl s)
  | nvmCommit => exact execNvmCommit_kept rfl (.refl s)
  | nvmAbort => exact execNvmAbort_kept rfl (.refl s)
  | nvmAppend => exact execNvmAppend_kept rfl (.refl s)
  | storeLive => exact execStoreLive_kept rfl (.refl s)
  | nvmCommandDone => exact execNvmCommandDone_kept rfl rfl rfl rfl (.refl s)
  | palmReset => exact execPalmReset_kept rfl rfl rfl rfl rfl rfl rfl rfl (.refl s)
  | serviceReset => exact execServiceReset_kept rfl rfl rfl rfl rfl rfl rfl rfl rfl rfl rfl rfl (.refl s)
  | cuffReset => exact execCuffReset_kept rfl rfl rfl rfl rfl rfl rfl rfl rfl rfl (.refl s)
  | moduleWarmReset => exact execModuleWarmReset_kept rfl rfl rfl rfl rfl rfl rfl rfl rfl rfl rfl rfl rfl rfl rfl (.refl s)
  | powerOnReset => exact execPowerOnReset_kept rfl rfl rfl rfl rfl rfl rfl rfl rfl rfl rfl rfl rfl rfl rfl rfl rfl rfl (.refl s)
  | perst => exact execPerst_kept rfl (.refl s)
  | alarmReceived => exact execAlarmReceived_kept rfl rfl rfl rfl rfl rfl (.refl s)
  | fltHeadWrite => exact execFltHeadWrite_kept rfl (.refl s)
  | faultMaxClr => exact execFaultMaxClr_kept rfl (.refl s)
  | snapshot => exact execSnapshot_kept rfl (.refl s)
  | telemetryReport => exact execTelemetryReport_kept rfl rfl rfl rfl rfl rfl rfl (.refl s)
  | telemetrySink => exact execTelemetrySink_kept rfl rfl rfl rfl rfl rfl rfl (.refl s)
  | inArmBreak => exact execInArmBreak_kept rfl rfl rfl rfl rfl rfl rfl rfl rfl rfl rfl rfl rfl rfl rfl rfl rfl rfl (.refl s)
  | inputStart => exact execInputStart_kept rfl (.refl s)
  | prechargeDone => exact execPrechargeDone_kept rfl rfl rfl rfl rfl rfl rfl rfl rfl rfl rfl rfl rfl rfl rfl rfl rfl rfl (.refl s)
  | prechargeTimeout => exact execPrechargeTimeout_kept rfl (.refl s)
  | supplyWarn => exact execSupplyWarn_kept rfl rfl rfl rfl rfl rfl (.refl s)
  | supplyWarnClear => exact execSupplyWarnClear_kept rfl rfl (.refl s)
  | budgetRecoveryStep => exact execBudgetRecoveryStep_kept rfl (.refl s)
  | powerFail => exact execPowerFail_kept rfl rfl rfl rfl rfl rfl rfl rfl rfl rfl rfl rfl rfl rfl rfl rfl rfl rfl (.refl s)
  | overvoltage => exact execOvervoltage_kept rfl rfl rfl rfl rfl rfl rfl rfl rfl rfl rfl rfl rfl rfl rfl rfl rfl rfl (.refl s)
  | overcurrent => exact execOvercurrent_kept rfl rfl rfl rfl rfl rfl rfl rfl rfl rfl rfl rfl rfl rfl rfl rfl rfl rfl (.refl s)
  | pwrEnLow => exact execPwrEnLow_kept rfl rfl (.refl s)
  | domainShutdown => exact execDomainShutdown_kept rfl rfl rfl rfl rfl rfl rfl rfl rfl rfl rfl rfl rfl rfl rfl rfl rfl rfl (.refl s)
  | palmOff => exact execPalmOff_kept rfl rfl rfl rfl rfl rfl rfl rfl rfl rfl rfl rfl rfl rfl (.refl s)
  | stackOff => exact execStackOff_kept rfl rfl rfl rfl rfl rfl rfl rfl rfl rfl rfl rfl rfl rfl (.refl s)
  | coolOkHigh => exact execCoolOkHigh_kept rfl (.refl s)
  | coolOkLow => exact execCoolOkLow_kept rfl rfl rfl rfl rfl rfl (.refl s)
  | sensorSample => exact execSensorSample_kept rfl rfl rfl rfl rfl rfl (.refl s)
  | smbusBlockWrite => exact execSmbusBlockWrite_kept rfl (.refl s)
  | smbusBlockRead => exact execSmbusBlockRead_kept (.refl s)
  | mgmtRead => exact execMgmtRead_kept rfl rfl rfl rfl rfl rfl rfl (.refl s)
  | mgmtWrite => exact execMgmtWrite_kept rfl rfl rfl rfl rfl rfl rfl rfl rfl rfl rfl (.refl s)
  | mgmtDiscard => exact execMgmtDiscard_kept rfl rfl rfl rfl rfl rfl rfl (.refl s)
  | msixUnmask => exact execMsixUnmask_kept rfl (.refl s)
  | portDown => exact execPortDown_kept rfl rfl rfl rfl rfl rfl (.refl s)
  | coolOkGlitch => exact execCoolOkGlitch_kept (.refl s)
  | delayReq => exact execDelayReq_kept rfl (.refl s)

/-- Settles O43: every command answers and keeps the queue, the clock and what was sent. -/
theorem everyCommandAnswers : Obligations.EveryCommandAnswers := by
  unfold Obligations.EveryCommandAnswers
  intro c s
  obtain ⟨t, hexec, hkept⟩ := exec_kept c s
  exact ⟨t, hexec, hkept.pending, hkept.cyc, hkept.egress⟩

/-- Settles O44: what a command keeps includes every part that `touches` does not name for it. -/
theorem commandsChangeOnlyTheirParts : Obligations.CommandsChangeOnlyTheirParts := by
  unfold Obligations.CommandsChangeOnlyTheirParts
  intro c s t hexec
  obtain ⟨u, hu, hkept⟩ := exec_kept c s
  obtain rfl : u = t := Host.Outcome.next.inj (hu.symm.trans hexec)
  exact hkept.toSame

/-! ### The canonical form along a step -/

theorem State.canonical_iff (s : State) :
    s.canonical = true ↔ SMap.wf Reg.resetVal s.regs = true ∧ SMap.wf (fun _ => 0) s.bar2 = true ∧ s.hbm.wf = true ∧
      s.sram.wf = true ∧ s.nvm.bytes.wf = true := by
  simp only [State.canonical, Bool.and_eq_true, and_assoc]

/-- Whatever parts an operation may write, what it keeps stays canonical. -/
theorem Kept.canonical {w : Wr} {r s : State} (h : Kept w r s) (hr : r.canonical = true) : s.canonical = true := by
  obtain ⟨hregs, hbar2, hhbm, hsram, hnvm⟩ := r.canonical_iff.mp hr
  exact s.canonical_iff.mpr ⟨h.regsWf hregs, h.bar2Wf hbar2, h.hbmWf hhbm, h.sramWf hsram, h.nvmWf hnvm⟩

/-- Every part of the state beside the register file. -/
def allParts : Wr :=
  { bar2 := true, hbm := true, sram := true, crown := true, rgn := true, links := true, cuff := true, route := true, flt := true,
    time := true, pwr := true, mem := true, palm := true, ldrs := true, boot := true, nvm := true, bon := true, freeCtr := true,
    same := true, flash := true }

/-- The state as a cycle begins: the model's clock has moved on, and nothing has happened yet. -/
def State.cycleStart (s : State) : State := { s with cyc := s.cyc + 1, same := { start := s.regs } }

/-- Without AON a cycle is no more than its begin (R419). -/
theorem State.newCycle_of_not_live {s : State} (h : s.live = false) : s.newCycle = s.cycleStart := by
  have hstart : s.cycleStart.live = false := h
  change (if !s.cycleStart.live then s.cycleStart else _) = s.cycleStart
  rw [hstart]; rfl

/-- What runs in a cycle keeps what every command keeps. -/
theorem State.newCycle_kept (s : State) : Kept allParts s.cycleStart s.newCycle := by
  change Kept allParts s.cycleStart (if !s.cycleStart.live then s.cycleStart else _)
  refine Kept.ite_ (.refl _) ?_
  have hclocks := State.clocksTick_kept rfl (State.holdShow_kept (State.crownTick_kept (State.monoTick_kept (w := allParts) rfl (.refl s.cycleStart))))
  have hlinks := State.linksTick_kept rfl rfl rfl rfl rfl rfl rfl (State.crossTick_kept rfl rfl rfl rfl rfl rfl rfl rfl rfl hclocks)
  have htime := State.outFollow_kept rfl rfl rfl rfl rfl rfl
    (State.timeShow_kept (State.capTick_kept rfl (State.palmCount_kept hlinks)))
  have hpump := State.ldrPump_kept rfl rfl rfl (State.powerStep_kept htime)
  exact State.bonErrors_kept rfl rfl rfl rfl rfl rfl rfl rfl
    (State.bonLook_kept rfl rfl (State.bulkGo_kept rfl rfl rfl rfl rfl rfl rfl rfl rfl rfl hpump))

/-- What waits for the end of a cycle keeps what every command keeps. -/
theorem State.cycleEnd_kept (s : State) : Kept allParts s (if s.live then s.closeCycle else s) :=
  Kept.ite_ (State.closeCycle_kept rfl rfl rfl rfl rfl rfl rfl rfl (.refl s)) (.refl s)

theorem State.tick_canonical {s : State} (h : s.canonical = true) : s.tick.canonical = true :=
  (State.newCycle_kept _).canonical (r := State.cycleStart _) (s.cycleEnd_kept.canonical h)

/-- Settles O45: a command and a cycle keep the canonical form. -/
theorem stepKeepsCanonicalForm : Obligations.StepKeepsCanonicalForm := by
  unfold Obligations.StepKeepsCanonicalForm step
  intro s t hcanonical hstep
  cases hqueue : s.pending with
  | nil =>
    rw [hqueue] at hstep
    obtain rfl : s.tick = t := Host.Outcome.next.inj hstep
    exact State.tick_canonical hcanonical
  | cons c rest =>
    rw [hqueue] at hstep
    obtain ⟨u, hu, hkept⟩ := exec_kept c { s with pending := rest }
    obtain rfl : u = t := Host.Outcome.next.inj (hu.symm.trans hstep)
    exact hkept.canonical hcanonical

/-- Settles O1: with a command at the front of the queue a step is `exec` of it. -/
theorem stepRunsFrontCommand : Obligations.StepRunsFrontCommand := fun _ _ _ => rfl

/-- Settles O2: a step on the empty queue ends one cycle and begins the next. -/
theorem idleStepIsOneCycle : Obligations.IdleStepIsOneCycle := by
  unfold Obligations.IdleStepIsOneCycle
  intro s hqueue
  have hstep : step s = .next s.tick := by rw [step, hqueue]
  have hend := s.cycleEnd_kept
  have hnew := State.newCycle_kept (if s.live then s.closeCycle else s)
  refine ⟨s.tick, hstep, hnew.cyc.trans (congrArg (· + 1) hend.cyc), hnew.pending.trans (hend.pending.trans hqueue),
    hend.egress.trans hnew.egress, fun hdead => ?_, fun u hlive hu => ?_⟩
  · rw [State.tick, hdead]
    exact State.newCycle_of_not_live hdead
  · rw [State.tick, hlive, hu]
    rfl

end Sys2Proof.Machine
end

section
/-! PROOFS. The word code (R277, R278). Multiplying by α is linear in GF(2^8) (`gfDouble_xor`), and a product with α^j is j such steps
(`gfMul_gfPow`). So a syndrome is a linear map of the stored bytes: it is 0 of every encoded word (`syndrome_encodeWord`), because g(x)
has the roots α^0 to α^3 (`generator_root`), and one changed byte shows in it by its change alone, moved up by j steps for each byte
that follows (`syndrome_set`). The steps tell the 36 places apart (`gfDouble_iterate_inj`). -/
namespace Sys2Proof.Machine

/-! ### Multiplication by α -/

theorem gfDouble_lt {a : Nat} (h : a < 256) : gfDouble a < 256 := by
  have hall : ∀ a < 256, gfDouble a < 256 := by decide +kernel
  exact hall a h

theorem iterate_gfDouble_lt {a : Nat} (h : a < 256) (n : Nat) : gfDouble^[n] a < 256 := by
  induction n with
  | zero => exact h
  | succ n ih => rw [Function.iterate_succ_apply']; exact gfDouble_lt ih

theorem xor_lt_256 {a b : Nat} (ha : a < 256) (hb : b < 256) : a ^^^ b < 256 := Nat.xor_lt_two_pow (n := 8) ha hb

/-- Doubling adds the polynomial exactly if bit 7 is set. -/
theorem gfDouble_eq {a : Nat} (h : a < 256) : gfDouble a = (2 * a) ^^^ (if a.testBit 7 then 0x11D else 0) := by
  have hbit : a.testBit 7 = decide (128 ≤ a) := by
    rw [Nat.testBit_eq_decide_div_mod_eq]
    exact decide_eq_decide.mpr (by omega)
  unfold gfDouble
  rw [hbit]
  by_cases h7 : 128 ≤ a <;> simp [h7]

theorem two_mul_xor (a b : Nat) : 2 * (a ^^^ b) = (2 * a) ^^^ (2 * b) := by
  have := Nat.shiftLeft_xor_distrib (a := a) (b := b) (i := 1)
  simpa [Nat.shiftLeft_eq, Nat.mul_comm] using this

theorem xor_xor_xor_comm (a b c d : Nat) : (a ^^^ b) ^^^ (c ^^^ d) = (a ^^^ c) ^^^ (b ^^^ d) := by ac_rfl

/-- Doubling is linear. -/
theorem gfDouble_xor {a b : Nat} (ha : a < 256) (hb : b < 256) : gfDouble (a ^^^ b) = gfDouble a ^^^ gfDouble b := by
  rw [gfDouble_eq ha, gfDouble_eq hb, gfDouble_eq (xor_lt_256 ha hb), two_mul_xor, Nat.testBit_xor]
  rw [xor_xor_xor_comm]
  cases a.testBit 7 <;> cases b.testBit 7 <;> rfl

theorem iterate_gfDouble_xor {a b : Nat} (ha : a < 256) (hb : b < 256) (n : Nat) :
    gfDouble^[n] (a ^^^ b) = gfDouble^[n] a ^^^ gfDouble^[n] b := by
  induction n with
  | zero => rfl
  | succ n ih =>
    rw [Function.iterate_succ_apply', Function.iterate_succ_apply', Function.iterate_succ_apply', ih,
      gfDouble_xor (iterate_gfDouble_lt ha n) (iterate_gfDouble_lt hb n)]

theorem iterate_gfDouble_zero (n : Nat) : gfDouble^[n] 0 = 0 := Function.iterate_fixed rfl n

/-- No power of α up to the 35th but the 0th keeps a byte other than 0. -/
theorem eq_zero_of_iterate_gfDouble_eq : ∀ a < 256, ∀ n < 36, 0 < n → gfDouble^[n] a = a → a = 0 := by
  decide +kernel

theorem gfDouble_inj {a b : Nat} (ha : a < 256) (hb : b < 256) (h : gfDouble a = gfDouble b) : a = b := by
  have hker : ∀ x < 256, gfDouble x = 0 → x = 0 := by decide +kernel
  have hx := gfDouble_xor ha hb
  rw [h, Nat.xor_self] at hx
  exact Nat.xor_eq_zero_iff.mp (hker _ (xor_lt_256 ha hb) hx)

theorem iterate_gfDouble_inj {a b : Nat} (ha : a < 256) (hb : b < 256) {n : Nat} (h : gfDouble^[n] a = gfDouble^[n] b) : a = b := by
  induction n with
  | zero => exact h
  | succ n ih =>
    rw [Function.iterate_succ_apply', Function.iterate_succ_apply'] at h
    exact ih (gfDouble_inj (iterate_gfDouble_lt ha n) (iterate_gfDouble_lt hb n) h)

/-- The powers of α below the 36th take a byte other than 0 to different values. -/
theorem gfDouble_iterate_inj {a p q : Nat} (ha : a < 256) (h0 : a ≠ 0) (hp : p < 36) (hq : q < 36)
    (h : gfDouble^[p] a = gfDouble^[q] a) : p = q := by
  wlog hle : p ≤ q generalizing p q with hwlog
  · exact (hwlog hq hp h.symm (by omega)).symm
  obtain ⟨k, rfl⟩ := Nat.exists_eq_add_of_le hle
  rcases Nat.eq_zero_or_pos k with rfl | hk
  · rfl
  · rw [Function.iterate_add_apply] at h
    have hfix := iterate_gfDouble_inj ha (iterate_gfDouble_lt ha k) h
    exact absurd (eq_zero_of_iterate_gfDouble_eq a ha k (by omega) hk hfix.symm) h0

/-! ### Products with a power of α -/

/-- A product is linear in the factor whose bits are taken. -/
theorem gfMulN_xor (a b c n : Nat) : gfMulN a (b ^^^ c) n = gfMulN a b n ^^^ gfMulN a c n := by
  induction n generalizing a b c with
  | zero => exact (Nat.xor_self 0).symm
  | succ n ih =>
    have hdiv : (b ^^^ c) / 2 = b / 2 ^^^ c / 2 := by
      simpa [Nat.shiftRight_eq_div_pow] using Nat.shiftRight_xor_distrib (a := b) (b := c) (i := 1)
    have hmod : (b ^^^ c) % 2 = b % 2 ^^^ c % 2 := by
      simpa using Nat.xor_mod_two_pow (a := b) (b := c) (n := 1)
    simp only [gfMulN, hdiv, ih, hmod]
    rw [xor_xor_xor_comm]
    congr 1
    rcases Nat.mod_two_eq_zero_or_one b with hb | hb <;> rcases Nat.mod_two_eq_zero_or_one c with hc | hc <;> simp [hb, hc]

/-- Bits that are 0 add nothing to a product. -/
theorem gfMulN_of_lt {a b n m : Nat} (hb : b < 2 ^ n) (hm : n ≤ m) : gfMulN a b m = gfMulN a b n := by
  induction n generalizing a b m with
  | zero =>
    obtain rfl : b = 0 := by omega
    have hzero : ∀ m a, gfMulN a 0 m = 0 := by
      intro m
      induction m with
      | zero => intro a; rfl
      | succ m ih => intro a; simp [gfMulN, ih]
    exact hzero m a
  | succ n ih =>
    obtain ⟨m, rfl⟩ := Nat.exists_eq_add_one_of_ne_zero (show m ≠ 0 by omega)
    rw [gfMulN, gfMulN, ih (by rw [Nat.pow_succ] at hb; omega) (by omega)]

/-- A product taken from a doubled factor is the doubled product. -/
theorem gfMulN_gfDouble {a : Nat} (ha : a < 256) (b n : Nat) : gfMulN (gfDouble a) b n = gfDouble (gfMulN a b n) ∧ gfMulN a b n < 256 := by
  induction n generalizing a b with
  | zero => exact ⟨rfl, Nat.zero_lt_succ _⟩
  | succ n ih =>
    obtain ⟨hdouble, hlt⟩ := ih (gfDouble_lt ha) (b / 2)
    have hbit : (if b % 2 = 1 then a else 0) < 256 := by split <;> omega
    refine ⟨?_, xor_lt_256 hbit hlt⟩
    rw [gfMulN, gfMulN, hdouble, gfDouble_xor hbit hlt]
    congr 1
    split <;> rfl

/-- Doubling either factor doubles the product: the polynomial multiplies every byte to 0. -/
theorem gfMul_gfDouble {a b : Nat} (ha : a < 256) (hb : b < 256) : gfMul a (gfDouble b) = gfDouble (gfMul a b) := by
  have hpoly : ∀ a < 256, gfMulN a 0x11D 9 = 0 := by decide +kernel
  have heven : gfMulN a (2 * b) 9 = gfMulN (gfDouble a) b 8 := by
    have hb2 : 2 * b / 2 = b := by omega
    have hb0 : 2 * b % 2 ≠ 1 := by omega
    rw [gfMulN, if_neg hb0, hb2, Nat.zero_xor]
  have hwide : gfMul a (gfDouble b) = gfMulN a (gfDouble b) 9 :=
    (gfMulN_of_lt (n := 8) (gfDouble_lt hb) (by omega)).symm
  rw [hwide, gfMul, ← (gfMulN_gfDouble ha b 8).1, ← heven]
  unfold gfDouble
  split
  · rw [gfMulN_xor, hpoly a ha, Nat.xor_zero]
  · rfl

theorem gfPow_lt (p : Nat) : gfPow p < 256 := by
  induction p with
  | zero => decide
  | succ p ih => exact gfDouble_lt ih

/-- A product with α^p is `p` doublings. -/
theorem gfMul_gfPow {a : Nat} (ha : a < 256) (p : Nat) : gfMul a (gfPow p) = gfDouble^[p] a := by
  induction p with
  | zero =>
    change gfMulN a 1 8 = a
    rw [gfMulN_of_lt (n := 1) (by decide) (by decide)]
    simp [gfMulN]
  | succ p ih => rw [gfPow, gfMul_gfDouble ha (gfPow_lt p), ih, Function.iterate_succ_apply']

/-! ### Syndromes -/

/-- One byte more of a syndrome whose root is α^j. -/
def synStep (j a : Nat) (b : Byte) : Nat := gfDouble^[j] a ^^^ b.toNat

theorem synStep_lt {a : Nat} (ha : a < 256) (j : Nat) (b : Byte) : synStep j a b < 256 :=
  xor_lt_256 (iterate_gfDouble_lt ha j) b.isLt

theorem foldl_synStep_lt {a : Nat} (ha : a < 256) (j : Nat) (w : List Byte) : w.foldl (synStep j) a < 256 := by
  induction w generalizing a with
  | nil => exact ha
  | cons b w ih => exact ih (synStep_lt ha j b)

theorem syndrome_eq_foldl (w : List Byte) (j : Nat) : syndrome w j = w.foldl (synStep j) 0 := by
  unfold syndrome
  have hfold : ∀ (a : Nat), a < 256 → w.foldl (fun a b => gfMul a (gfPow j) ^^^ b.toNat) a = w.foldl (synStep j) a := by
    induction w with
    | nil => intro a _; rfl
    | cons b w ih =>
      intro a ha
      have hstep : gfMul a (gfPow j) ^^^ b.toNat = synStep j a b := by rw [gfMul_gfPow ha, synStep]
      rw [List.foldl_cons, List.foldl_cons, hstep]
      exact ih _ (synStep_lt ha j b)
  exact hfold 0 (by decide)

/-- What stands before a list of bytes adds to their syndrome, moved up by j steps for each of them. -/
theorem foldl_synStep_xor {a e : Nat} (ha : a < 256) (he : e < 256) (j : Nat) (w : List Byte) :
    w.foldl (synStep j) (a ^^^ e) = w.foldl (synStep j) a ^^^ gfDouble^[j * w.length] e := by
  induction w generalizing a e with
  | nil => rfl
  | cons b w ih =>
    have hstep : synStep j (a ^^^ e) b = synStep j a b ^^^ gfDouble^[j] e := by
      rw [synStep, iterate_gfDouble_xor ha he, synStep]; ac_rfl
    rw [List.foldl_cons, hstep, ih (synStep_lt ha j b) (iterate_gfDouble_lt he j), List.foldl_cons, ← Function.iterate_add_apply]
    congr 2

/-- A changed byte changes a syndrome by its change, moved up by j steps for each byte that follows. -/
theorem syndrome_set {w : List Byte} {i : Nat} {b c : Byte} (hi : w[i]? = some c) (j : Nat) :
    syndrome (w.set i b) j = syndrome w j ^^^ gfDouble^[j * (w.length - 1 - i)] (c.toNat ^^^ b.toNat) := by
  obtain ⟨hlt, hget⟩ := List.getElem?_eq_some_iff.mp hi
  have hw : w = w.take i ++ c :: w.drop (i + 1) := by
    rw [← hget, List.getElem_cons_drop, List.take_append_drop]
  have hset : w.set i b = w.take i ++ b :: w.drop (i + 1) := List.set_eq_take_append_cons_drop .. |>.trans (if_pos hlt)
  have hlen : (w.drop (i + 1)).length = w.length - 1 - i := by rw [List.length_drop]; omega
  have ha : (w.take i).foldl (synStep j) 0 < 256 := foldl_synStep_lt (by decide) j _
  have hstep : synStep j ((w.take i).foldl (synStep j) 0) b =
      synStep j ((w.take i).foldl (synStep j) 0) c ^^^ (c.toNat ^^^ b.toNat) := by
    rw [synStep, synStep, Nat.xor_assoc, ← Nat.xor_assoc c.toNat, Nat.xor_self, Nat.zero_xor]
  rw [syndrome_eq_foldl, syndrome_eq_foldl, hset, List.foldl_append, List.foldl_cons, hstep,
    foldl_synStep_xor (synStep_lt ha j c) (xor_lt_256 c.isLt b.isLt), hlen]
  conv_rhs => arg 1; rw [hw, List.foldl_append, List.foldl_cons]

/-! ### The check bytes -/

/-- The value at α^j of the polynomial whose coefficients the division keeps. -/
def evalChecks (j : Nat) (c : Nat × Nat × Nat × Nat) : Nat :=
  gfDouble^[3 * j] c.1 ^^^ gfDouble^[2 * j] c.2.1 ^^^ gfDouble^[j] c.2.2.1 ^^^ c.2.2.2

/-- The division keeps four bytes. -/
def bytesIn (c : Nat × Nat × Nat × Nat) : Prop := c.1 < 256 ∧ c.2.1 < 256 ∧ c.2.2.1 < 256 ∧ c.2.2.2 < 256

theorem gfMul_lt {a : Nat} (ha : a < 256) (b : Nat) : gfMul a b < 256 := (gfMulN_gfDouble ha b 8).2

theorem bytesIn_checkStep {c : Nat × Nat × Nat × Nat} (hc : bytesIn c) (b : Byte) : bytesIn (checkStep c b) := by
  obtain ⟨-, h2, h3, h4⟩ := hc
  exact ⟨xor_lt_256 h2 (gfMul_lt (by decide) _), xor_lt_256 h3 (gfMul_lt (by decide) _), xor_lt_256 h4 (gfMul_lt (by decide) _),
    gfMul_lt (by decide) _⟩

/-- g(x) = x^4 + 0x0F x^3 + 0x36 x^2 + 0x78 x + 0x40 has the roots α^0 to α^3 (R277). -/
theorem generator_root : ∀ j < 4, ∀ f < 256, evalChecks j (gfMul 0x0F f, gfMul 0x36 f, gfMul 0x78 f, gfMul 0x40 f) = gfDouble^[4 * j] f := by
  decide +kernel

/-- A step of the division, evaluated at a root of g(x): the remainder moves up by one place and takes the byte in. -/
theorem evalChecks_checkStep {c : Nat × Nat × Nat × Nat} (hc : bytesIn c) {j : Nat} (hj : j < 4) (b : Byte) :
    evalChecks j (checkStep c b) = gfDouble^[j] (evalChecks j c) ^^^ gfDouble^[4 * j] b.toNat := by
  obtain ⟨c1, c2, c3, c4⟩ := c
  obtain ⟨h1, h2, h3, h4⟩ := hc
  dsimp only at h1 h2 h3 h4
  have hroot := generator_root j hj (c1 ^^^ b.toNat) (xor_lt_256 h1 b.isLt)
  rw [iterate_gfDouble_xor h1 b.isLt] at hroot
  have hup : gfDouble^[j] (evalChecks j (c1, c2, c3, c4)) =
      gfDouble^[4 * j] c1 ^^^ gfDouble^[3 * j] c2 ^^^ gfDouble^[2 * j] c3 ^^^ gfDouble^[j] c4 := by
    have h1' := iterate_gfDouble_lt h1 (3 * j)
    have h2' := iterate_gfDouble_lt h2 (2 * j)
    have h3' := iterate_gfDouble_lt h3 j
    rw [evalChecks, iterate_gfDouble_xor (xor_lt_256 (xor_lt_256 h1' h2') h3') h4, iterate_gfDouble_xor (xor_lt_256 h1' h2') h3',
      iterate_gfDouble_xor h1' h2', ← Function.iterate_add_apply, ← Function.iterate_add_apply, ← Function.iterate_add_apply,
      show j + 3 * j = 4 * j by omega, show j + 2 * j = 3 * j by omega, show j + j = 2 * j by omega]
  have hf : ∀ k : Nat, k < 256 → gfMul k (c1 ^^^ b.toNat) < 256 := fun k hk => gfMul_lt hk _
  have hnew : evalChecks j (checkStep (c1, c2, c3, c4) b) =
      (gfDouble^[3 * j] c2 ^^^ gfDouble^[2 * j] c3 ^^^ gfDouble^[j] c4) ^^^
        evalChecks j (gfMul 0x0F (c1 ^^^ b.toNat), gfMul 0x36 (c1 ^^^ b.toNat), gfMul 0x78 (c1 ^^^ b.toNat), gfMul 0x40 (c1 ^^^ b.toNat)) := by
    simp only [evalChecks, checkStep]
    rw [iterate_gfDouble_xor h2 (hf _ (by decide)), iterate_gfDouble_xor h3 (hf _ (by decide)), iterate_gfDouble_xor h4 (hf _ (by decide))]
    ac_rfl
  rw [hnew, hroot, hup]
  ac_rfl

/-- The division's remainder is the data, moved up by four places, at each root of g(x). -/
theorem evalChecks_foldl {j : Nat} (hj : j < 4) (d : List Byte) (c : Nat × Nat × Nat × Nat) (a : Nat) (hc : bytesIn c) (ha : a < 256)
    (h : evalChecks j c = gfDouble^[4 * j] a) :
    bytesIn (d.foldl checkStep c) ∧ evalChecks j (d.foldl checkStep c) = gfDouble^[4 * j] (d.foldl (synStep j) a) := by
  induction d generalizing c a with
  | nil => exact ⟨hc, h⟩
  | cons b d ih =>
    refine ih _ _ (bytesIn_checkStep hc b) (synStep_lt ha j b) ?_
    rw [evalChecks_checkStep hc hj, h, synStep, iterate_gfDouble_xor (iterate_gfDouble_lt ha j) b.isLt, ← Function.iterate_add_apply,
      ← Function.iterate_add_apply, Nat.add_comm j]

theorem bytesIn_zero : bytesIn (0, 0, 0, 0) := by simp [bytesIn]

/-- Every syndrome of an encoded word is 0. -/
theorem syndrome_encodeWord (d : List Byte) {j : Nat} (hj : j < 4) : syndrome (encodeWord d) j = 0 := by
  have hzero : evalChecks j (0, 0, 0, 0) = gfDouble^[4 * j] 0 := by simp [evalChecks, iterate_gfDouble_zero]
  obtain ⟨⟨h1, h2, h3, h4⟩, heval⟩ := evalChecks_foldl hj d (0, 0, 0, 0) 0 bytesIn_zero (by decide) hzero
  have ha : d.foldl (synStep j) 0 < 256 := foldl_synStep_lt (by decide) j d
  rw [syndrome_eq_foldl, encodeWord, checkBytes, List.foldl_append]
  generalize d.foldl checkStep (0, 0, 0, 0) = c at h1 h2 h3 h4 heval
  generalize d.foldl (synStep j) 0 = a at ha heval
  obtain ⟨c1, c2, c3, c4⟩ := c
  dsimp only at h1 h2 h3 h4
  have hbyte : ∀ x < 256, (BitVec.ofNat 8 x).toNat = x := fun x hx => by rw [BitVec.toNat_ofNat, Nat.mod_eq_of_lt hx]
  have hhorner : [BitVec.ofNat 8 c1, BitVec.ofNat 8 c2, BitVec.ofNat 8 c3, BitVec.ofNat 8 c4].foldl (synStep j) (0 ^^^ a) =
      evalChecks j (c1, c2, c3, c4) ^^^ gfDouble^[j * 4] a := by
    rw [foldl_synStep_xor (by decide) ha]
    congr 1
    simp only [List.foldl_cons, List.foldl_nil, synStep, hbyte c1 h1, hbyte c2 h2, hbyte c3 h3, hbyte c4 h4, iterate_gfDouble_zero,
      Nat.zero_xor, evalChecks]
    have h1' := iterate_gfDouble_lt h1 j
    have h12 := xor_lt_256 h1' h2
    rw [iterate_gfDouble_xor (iterate_gfDouble_lt h12 j) h3, iterate_gfDouble_xor h1' h2,
      iterate_gfDouble_xor (iterate_gfDouble_lt h1' j) (iterate_gfDouble_lt h2 j), ← Function.iterate_add_apply,
      ← Function.iterate_add_apply, ← Function.iterate_add_apply, show j + j = 2 * j by omega, show 2 * j + j = 3 * j by omega]
  rw [Nat.zero_xor] at hhorner
  rw [hhorner, heval, Nat.mul_comm j 4, Nat.xor_self]

/-! ### Reading a stored word -/

/-- The syndromes of one error name its power (R278). -/
theorem errorPower_eq_some {e p : Nat} (he : e < 256) (h0 : e ≠ 0) (hp : p < 36) :
    errorPower e (gfDouble^[p] e) (gfDouble^[2 * p] e) (gfDouble^[3 * p] e) = some p := by
  have hprod : ∀ q n : Nat, gfMul (gfDouble^[n] e) (gfPow q) = gfDouble^[q + n] e := fun q n => by
    rw [gfMul_gfPow (iterate_gfDouble_lt he n), Function.iterate_add_apply]
  have hfirst : ∀ q : Nat, gfMul e (gfPow q) = gfDouble^[q] e := gfMul_gfPow he
  have hfits : p + p = 2 * p ∧ p + 2 * p = 3 * p := by omega
  unfold errorPower
  simp only [hfirst, hprod]
  refine (List.find?_range_eq_some).mpr ⟨?_, List.mem_range.mpr hp, fun q hq => ?_⟩
  · simp [hfits]
  · have hne : gfDouble^[q] e ≠ gfDouble^[p] e := fun h => Nat.ne_of_lt hq (gfDouble_iterate_inj he h0 (hq.trans hp) hp h)
    simp [hne]

theorem decodeWord_of_syndromes_zero {w : List Byte} (h : ∀ j < 4, syndrome w j = 0) : decodeWord w = .ok (w.take 32) := by
  unfold decodeWord
  rw [h 0 (by decide), h 1 (by decide), h 2 (by decide), h 3 (by decide)]
  rfl

/-- A word whose syndromes are those of one error of power `p` is corrected by that error (R278). -/
theorem decodeWord_of_one_error {w : List Byte} {e p : Nat} (he : e < 256) (h0 : e ≠ 0) (hp : p < 36)
    (h : ∀ j < 4, syndrome w j = gfDouble^[j * p] e) :
    decodeWord w = .corrected (35 - p) (w.set (35 - p) (BitVec.ofNat 8 ((w.getD (35 - p) 0).toNat ^^^ e))) := by
  have hs0 : syndrome w 0 = e := by rw [h 0 (by decide), Nat.zero_mul]; rfl
  have hs1 : syndrome w 1 = gfDouble^[p] e := by rw [h 1 (by decide), Nat.one_mul]
  unfold decodeWord
  rw [hs0, hs1, h 2 (by decide), h 3 (by decide)]
  dsimp only
  rw [if_neg (fun hall => h0 hall.1), if_neg h0, errorPower_eq_some he h0 hp]

/-- Settles O46: an encoded word has syndromes 0, and those of a word with one byte changed name the byte and its change. -/
theorem wordCodeCorrectsOneByte : Obligations.WordCodeCorrectsOneByte := by
  unfold Obligations.WordCodeCorrectsOneByte
  intro d hd
  refine ⟨?_, fun i b hi hb => ?_⟩
  · rw [decodeWord_of_syndromes_zero fun j => syndrome_encodeWord d, encodeWord, List.take_left' hd]
  · have hlen : (encodeWord d).length = 36 := by rw [encodeWord, List.length_append, hd]; rfl
    have hlt : i < (encodeWord d).length := by omega
    have hget : (encodeWord d)[i]? = some (encodeWord d)[i] := List.getElem?_eq_getElem hlt
    generalize hc : (encodeWord d)[i] = c at hget
    have hcb : c ≠ b := fun h => hb (h ▸ hget)
    have hne : c.toNat ^^^ b.toNat ≠ 0 := fun h => hcb (BitVec.eq_of_toNat_eq (Nat.xor_eq_zero_iff.mp h))
    have hsyn : ∀ j < 4, syndrome ((encodeWord d).set i b) j = gfDouble^[j * (35 - i)] (c.toNat ^^^ b.toNat) := fun j hj => by
      rw [syndrome_set hget, syndrome_encodeWord d hj, Nat.zero_xor, hlen]
    have hplace : 35 - (35 - i) = i := by omega
    have hback : BitVec.ofNat 8 (b.toNat ^^^ (c.toNat ^^^ b.toNat)) = c := by
      rw [Nat.xor_comm c.toNat, ← Nat.xor_assoc, Nat.xor_self, Nat.zero_xor, BitVec.ofNat_toNat, BitVec.setWidth_eq]
    rw [decodeWord_of_one_error (xor_lt_256 c.isLt b.isLt) hne (by omega) hsyn, hplace, List.getD_eq_getElem?_getD,
      List.getElem?_set_self hlt, Option.getD_some, hback, List.set_set, ← hc, List.set_getElem_self]

end Sys2Proof.Machine
end

section
/-! PROOFS. The records of a cycle (R398, R403, R405). A fault's record goes through four stages: its SEQ is taken (`State.takeSeq`), the
records that come after it move on (`State.openRoom`), it enters its slot (`State.enterAt`), and FLT_FIRST captures a grave one
(`State.captureFirst`). The actions of its class come last and write none of the record's own fields. -/
namespace Sys2Proof.Machine

/-! ### What making a record leaves -/

/-- The fields outside the queue's window that making a record writes. -/
def recordFields : List Fld :=
  [Reg.FLT_TAIL_NEXT_SEQ, Reg.FLT_TAIL_IDX, Reg.FLT_STATUS_ANY, Reg.FLT_STATUS_MAX_CLASS, Reg.FLT_STATUS_COUNT,
   Reg.FLT_STATUS_OVERFLOW, wordAt Reg.FLT_RECORD_CNT, wordAt Reg.FLT_LOST_CNT, Reg.FLT_FIRST_SEQ, Reg.FLT_FIRST_CLASS,
   Reg.FLT_FIRST_VALID]

theorem ok_of_mem_recordFields : ∀ f ∈ recordFields, Fld.ok f = true := by decide

/-- A field outside the queue's window that shares no bit with those that making a record writes. -/
def besideRecord (g : Fld) : Bool :=
  Fld.ok g && (decide (g.addr < 0x6010000) || decide (0x6020000 ≤ g.addr)) && recordFields.all fun f => Fld.apart f g

/-- A field apart from a whole register lies in another. -/
theorem addr_ne_of_apart_wordAt {a : Nat} {g : Fld} (hok : Fld.ok g = true) (h : Fld.apart (wordAt a) g = true) : g.addr ≠ a := by
  simp only [Fld.ok, Bool.and_eq_true, decide_eq_true_eq] at hok
  simp only [Fld.apart, Bool.or_eq_true, bne_iff_ne, decide_eq_true_eq] at h
  have hhi : ¬ 63 < g.lo := by omega
  exact (h.resolve_right hhi).resolve_right (Nat.not_lt_zero _)

theorem besideRecord_iff (g : Fld) :
    besideRecord g = true ↔ Fld.ok g = true ∧ (g.addr < 0x6010000 ∨ 0x6020000 ≤ g.addr) ∧ ∀ f ∈ recordFields, Fld.apart f g = true := by
  simp only [besideRecord, Bool.and_eq_true, Bool.or_eq_true, decide_eq_true_eq, List.all_eq_true, and_assoc]

theorem State.rd_raise_apart (s : State) {f g : Fld} (v : Nat) (hf : Fld.ok f = true) (hg : Fld.ok g = true)
    (h : Fld.apart f g = true) : (s.raise f v).rd g = s.rd g := by
  unfold State.raise
  split
  · exact s.rd_wr_apart v hf hg h
  · rfl

theorem State.rd_noteRecord (s : State) (k n : Nat) (g : Fld) : (s.noteRecord k n).rd g = s.rd g := rfl

/-- The queue's last `n` records move on for a record of class `cls` and SEQ `lo`. -/
def State.openRoom (s : State) (cls lo n : Nat) : State := if n = 0 then s else s.makeRoom cls lo n

/-- A record enters the queue before its last `n` records (R403, R405). -/
def State.enterAt (s : State) (rank n : Nat) (ws : List Nat) : State :=
  (((s.writeSlot ((s.rd Reg.FLT_TAIL_IDX + 2048 - n) % 1024) ws).wr Reg.FLT_TAIL_IDX (s.rd Reg.FLT_TAIL_IDX + 1)).wr
    Reg.FLT_STATUS_COUNT (s.fltHeld + 1)).noteRecord rank n

theorem State.enqueueRecord_of_room (s : State) (h : s.fltHeld < 1024) (cls rank n : Nat) (ws : List Nat) :
    s.enqueueRecord cls rank n ws = (s.enterAt rank n ws, true) := by
  unfold State.enqueueRecord State.enterAt
  exact if_pos h

/-- The SEQ that a fault's record takes: the next one, less the records of its cycle that come after it (R405). -/
def State.recordSeq (s : State) (f : FaultArgs) : Nat :=
  (s.rd Reg.FLT_TAIL_NEXT_SEQ + 2 ^ 32 - s.behind (recordRank f (faultClass s f))) % 2 ^ 32

/-- The record is the first grave one: FLT_FIRST holds none, or one of those that move on. -/
def State.recordFirst (s : State) (f : FaultArgs) : Bool :=
  s.rd Reg.FLT_FIRST_VALID == 0 ||
    decide ((s.rd Reg.FLT_FIRST_SEQ + 2 ^ 32 - s.recordSeq f) % 2 ^ 32 < s.behind (recordRank f (faultClass s f)))

/-- The queue once a fault's SEQ is taken and there is room for its record. -/
def State.readyQueue (s : State) (f : FaultArgs) : State :=
  (s.takeSeq (faultClass s f)).openRoom (faultClass s f) (s.recordSeq f) (s.behind (recordRank f (faultClass s f)))

/-- The queue's answer to a fault's record. -/
def State.queued (s : State) (f : FaultArgs) : State × Bool :=
  (s.readyQueue f).enqueueRecord (faultClass s f) (recordRank f (faultClass s f)) (s.behind (recordRank f (faultClass s f)))
    (recordWords s f (faultClass s f) (s.recordSeq f))

/-- The stages that making a record goes through. -/
theorem State.makeRecord_fst (s : State) (f : FaultArgs) :
    (s.makeRecord f).1 =
      if (s.queued f).2 then
        ((s.queued f).1.captureFirst (faultClass s f) (s.recordSeq f) (s.recordFirst f)).msixRecord (faultClass s f)
      else (s.queued f).1.captureFirst (faultClass s f) (s.recordSeq f) (s.recordFirst f) := rfl

section
variable {g : Fld} (hg : besideRecord g = true)
include hg

theorem State.rd_wr_record (s : State) {f : Fld} (v : Nat) (hf : f ∈ recordFields) : (s.wr f v).rd g = s.rd g :=
  have ⟨hok, _, hall⟩ := (besideRecord_iff g).mp hg
  s.rd_wr_apart v (ok_of_mem_recordFields f hf) hok (hall f hf)

theorem State.rd_count_record (s : State) {a : Nat} (n : Nat) (ha : wordAt a ∈ recordFields) : (s.count a n).rd g = s.rd g :=
  have ⟨hok, _, hall⟩ := (besideRecord_iff g).mp hg
  s.rd_count_ne n (addr_ne_of_apart_wordAt hok (hall _ ha))

theorem State.rd_takeSeq_beside (s : State) (cls : Nat) : (s.takeSeq cls).rd g = s.rd g := by
  obtain ⟨hok, -, hall⟩ := (besideRecord_iff g).mp hg
  rw [State.takeSeq, State.rd_telRaise, State.rd_raise_apart _ _ (by decide) hok (hall _ (by decide)),
    State.rd_wr_record hg _ _ (by decide), State.rd_count_record hg _ _ (by decide), State.rd_wr_record hg _ _ (by decide)]

theorem State.rd_writeSlot_beside (s : State) {slot : Nat} (hs : slot < 1024) (ws : List Nat) : (s.writeSlot slot ws).rd g = s.rd g := by
  rw [State.rd_eq, State.rd_eq, s.reg_writeSlot ((besideRecord_iff g).mp hg).2.1 hs]

theorem State.rd_enqueueRecord_beside (s : State) (cls rank n : Nat) (ws : List Nat) :
    (s.enqueueRecord cls rank n ws).1.rd g = s.rd g := by
  have hover : s.overflowed.rd g = s.rd g := s.rd_wr_record hg 1 (by decide)
  by_cases hroom : s.fltHeld < 1024
  · rw [s.enqueueRecord_of_room hroom, State.enterAt, State.rd_noteRecord, State.rd_wr_record hg _ _ (by decide),
      State.rd_wr_record hg _ _ (by decide), State.rd_writeSlot_beside hg _ (Nat.mod_lt _ (by decide))]
  · unfold State.enqueueRecord
    dsimp only
    rw [if_neg hroom]
    change (ite (cls ≤ 2) (s.overflowed.count Reg.FLT_LOST_CNT 1, false)
      (match s.overflowed.findMinor (s.rd Reg.FLT_TAIL_IDX) 1024 with
        | some slot => ((s.overflowed.writeSlot slot ws).count Reg.FLT_LOST_CNT 1, true)
        | none => (s.overflowed.count Reg.FLT_LOST_CNT 1, false)) : State × Bool).1.rd g = _
    split
    · exact (State.rd_count_record hg _ _ (by decide)).trans hover
    · split
      · next slot hslot =>
        exact (State.rd_count_record hg _ _ (by decide)).trans
          ((State.rd_writeSlot_beside hg _ (State.findMinor_lt _ _ _ _ hslot) _).trans hover)
      · exact (State.rd_count_record hg _ _ (by decide)).trans hover

theorem State.rd_captureFirst_beside (s : State) (cls seq : Nat) (first : Bool) : (s.captureFirst cls seq first).rd g = s.rd g := by
  unfold State.captureFirst
  split
  · rw [State.rd_wr_record hg _ _ (by decide), State.rd_wr_record hg _ _ (by decide), State.rd_wr_record hg _ _ (by decide)]
  · rfl

end

/-- Moving records on touches no register outside the queue's window. -/
theorem State.reg_openRoom (s : State) {a : Nat} (h : a < 0x6010000 ∨ 0x6020000 ≤ a) (cls lo n : Nat) :
    (s.openRoom cls lo n).reg a = s.reg a := by
  have hmoves : ∀ t : Nat, (s.forEach (List.range n) fun s j => s.moveRecord (t - j)).reg a = s.reg a := fun t =>
    State.reg_forEach a _ _ (fun s j _ => s.reg_moveRecord h _) s
  unfold State.openRoom State.makeRoom
  dsimp only
  split
  · rfl
  · split
    · exact hmoves _
    · exact hmoves _

theorem State.rd_openRoom (s : State) {g : Fld} (h : g.addr < 0x6010000 ∨ 0x6020000 ≤ g.addr) (cls lo n : Nat) :
    (s.openRoom cls lo n).rd g = s.rd g := by
  rw [State.rd_eq, State.rd_eq, s.reg_openRoom h]

/-- A field beside a record's own keeps its value while the record is made. -/
theorem State.rd_makeRecord_beside (s : State) (f : FaultArgs) {g : Fld} (hg : besideRecord g = true) :
    (s.makeRecord f).1.rd g = s.rd g := by
  have hqueued : (s.queued f).1.rd g = s.rd g := by
    rw [State.queued, State.rd_enqueueRecord_beside hg, State.readyQueue, State.rd_openRoom _ ((besideRecord_iff g).mp hg).2.1,
      State.rd_takeSeq_beside hg]
  rw [s.makeRecord_fst]
  split
  · rw [State.rd_msixRecord, State.rd_captureFirst_beside hg, hqueued]
  · rw [State.rd_captureFirst_beside hg, hqueued]

/-! ### The Cuff's engine and a record -/

/-- A record below MITTEN_FATAL leaves the Cuff's engine alone: no other refers to those that it moves on. -/
theorem State.makeRecord_cuff (s : State) {f : FaultArgs} (h : faultClass s f < 4) : (s.makeRecord f).1.cuff = s.cuff := by
  have htake : Kept { flt := true, same := true } s (s.takeSeq (faultClass s f)) :=
    State.telRaise_kept rfl (State.raise_kept rfl (State.wr_kept (State.count_kept (State.wr_kept (.refl s)))))
  have hopen : Kept { flt := true, same := true } s (s.readyQueue f) := by
    unfold State.readyQueue State.openRoom State.makeRoom
    dsimp only
    rw [if_neg (Nat.not_le.mpr h)]
    exact Kept.ite_ htake (State.forEach_kept htake fun _ _ h => State.writeSlot_kept h)
  have hqueued : Kept { flt := true, same := true } s (s.queued f).1 := State.enqueueRecord_kept rfl hopen
  have hcapture : Kept { flt := true, same := true } s
      ((s.queued f).1.captureFirst (faultClass s f) (s.recordSeq f) (s.recordFirst f)) :=
    Kept.ite_ (State.wr_kept (State.wr_kept (State.wr_kept hqueued))) hqueued
  have hall : Kept { flt := true, same := true } s (s.makeRecord f).1 := by
    rw [s.makeRecord_fst]
    exact Kept.ite_ (State.msixRecord_kept rfl hcapture) hcapture
  exact hall.cuff.resolve_left (by decide)

/-! ### The actions of a class -/

/-- What the end of scheduled traffic writes (R117, R398). -/
theorem State.endScheduled_fields (s : State) :
    s.endScheduled.rd Reg.PLM_STATUS_HALTED = 1 ∧ s.endScheduled.rd Reg.CUF_STATUS_RUNNING = 0 ∧
      s.endScheduled.ldr = (if s.ldr = 8 then 9 else s.ldr) ∧ s.endScheduled.rd Reg.FLT_STATUS_MITTEN_STOPPED = 1 ∧
      s.endScheduled.cuff.stopped = true := by
  have hldr : ((({ s with cuff := { s.cuff with stopped := true } } : State).palmHalt.wr Reg.CUF_STATUS_RUNNING 0)).ldr = s.ldr := by
    rw [State.ldr, State.palmHalt, State.rd_wr_apart _ _ (by decide) (by decide) (by decide),
      State.rd_wr_apart _ _ (by decide) (by decide) (by decide)]
    rfl
  unfold State.endScheduled
  dsimp only
  rw [hldr]
  split
  · refine ⟨?_, ?_, ?_, State.rd_wr_same _ _ (by decide), rfl⟩ <;>
      simp (disch := decide) only [State.ldr, State.palmHalt, State.rd_wr_apart, State.rd_wr_same] <;> rfl
  · refine ⟨?_, ?_, ?_, State.rd_wr_same _ _ (by decide), rfl⟩
    · simp (disch := decide) only [State.palmHalt, State.rd_wr_apart, State.rd_wr_same]; rfl
    · simp (disch := decide) only [State.rd_wr_apart, State.rd_wr_same]; rfl
    · rw [State.ldr, State.rd_wr_apart _ _ (by decide) (by decide) (by decide)]; exact hldr

theorem State.rd_endScheduled_apart (s : State) {g : Fld} (hg : Fld.ok g = true)
    (h : ∀ f ∈ [Reg.PLM_STATUS_HALTED, Reg.CUF_STATUS_RUNNING, Reg.LDR_STATUS_STATE, Reg.FLT_STATUS_MITTEN_STOPPED],
      Fld.apart f g = true) : s.endScheduled.rd g = s.rd g := by
  simp only [List.forall_mem_cons, List.not_mem_nil, false_implies, implies_true, and_true] at h
  obtain ⟨hhalt, hrun, hldr, hstop⟩ := h
  unfold State.endScheduled State.palmHalt
  dsimp only
  rw [State.rd_wr_apart _ _ (by decide) hg hstop]
  split
  · rw [State.rd_wr_apart _ _ (by decide) hg hldr, State.rd_wr_apart _ _ (by decide) hg hrun,
      State.rd_wr_apart _ _ (by decide) hg hhalt]; rfl
  · rw [State.rd_wr_apart _ _ (by decide) hg hrun, State.rd_wr_apart _ _ (by decide) hg hhalt]; rfl

theorem State.rd_sendAlarm (s : State) (o q rec : Nat) (k : Option Nat) {g : Fld} (h : g.addr ≠ Reg.FLT_ALARM_TX_CNT) :
    (s.sendAlarm o q rec k).rd g = s.rd g := by
  rw [State.rd_eq, State.rd_eq]
  unfold State.sendAlarm
  dsimp only
  rw [State.reg_forEach _ _ _ (fun s _ _ => State.reg_route_count s _ h) s]

/-- The alarm of a record goes out, if the module is in a mitten (R406). -/
def State.raiseAlarm (s : State) (seq rec : Nat) : State :=
  if s.rd Reg.CUF_MITTEN_MITTEN ≠ 0 then
    (s.sendAlarm (s.rd Reg.RTE_SELF_ID) seq rec none).holdKey (s.rd Reg.RTE_SELF_ID, seq)
  else s

theorem State.rd_raiseAlarm (s : State) (seq rec : Nat) {g : Fld} (h : g.addr ≠ Reg.FLT_ALARM_TX_CNT) :
    (s.raiseAlarm seq rec).rd g = s.rd g := by
  unfold State.raiseAlarm
  split
  · exact (State.rd_holdKey ..).trans (State.rd_sendAlarm _ _ _ _ _ h)
  · rfl

theorem State.cuff_raiseAlarm (s : State) (seq rec : Nat) : (s.raiseAlarm seq rec).cuff = s.cuff := by
  have hkept : Kept { route := true, flt := true } s (s.raiseAlarm seq rec) :=
    Kept.ite_ (State.holdKey_kept rfl (State.sendAlarm_kept rfl (.refl s))) (.refl s)
  exact hkept.cuff.resolve_left (by decide)

/-- Scheduled traffic ends, and the alarm goes out, for a record of MITTEN_FATAL or above. -/
def State.stopAndAlarm (s : State) (seq rec : Nat) : State :=
  (s.wr Reg.GEN_BOOT_STATUS_FAULT_SINCE_READY 1).endScheduled.raiseAlarm seq rec

/-- The actions of a class of MITTEN_FATAL or above; only MODULE_FATAL sets its flag (R398). -/
theorem State.fatalActions_eq (s : State) (cls seq rec : Nat) :
    s.fatalActions cls seq rec =
      if cls = 5 then
        { ((s.stopAndAlarm seq rec).wr Reg.FLT_STATUS_MODULE_FATAL 1) with pwr := { (s.stopAndAlarm seq rec).pwr with
            fatalAt := if ((s.stopAndAlarm seq rec).pwr.fatalAt.isNone && (s.stopAndAlarm seq rec).pwr.shut.isNone &&
              !(s.stopAndAlarm seq rec).rdb Reg.PWR_STATUS_SHUTDOWN) then some (s.stopAndAlarm seq rec).cyc
              else (s.stopAndAlarm seq rec).pwr.fatalAt } }
      else s.stopAndAlarm seq rec := rfl

theorem State.rd_fatalActions (s : State) (cls seq rec : Nat) {g : Fld} (hg : Fld.ok g = true)
    (hfatal : Fld.apart Reg.FLT_STATUS_MODULE_FATAL g = true) (h : g.addr ≠ Reg.FLT_ALARM_TX_CNT) :
    (s.fatalActions cls seq rec).rd g = (s.wr Reg.GEN_BOOT_STATUS_FAULT_SINCE_READY 1).endScheduled.rd g := by
  rw [State.fatalActions_eq]
  split
  · exact (State.rd_pwr ..).trans ((State.rd_wr_apart _ _ (by decide) hg hfatal).trans (State.rd_raiseAlarm _ seq rec h))
  · exact State.rd_raiseAlarm _ seq rec h

theorem State.cuff_pwr (s : State) (p : PwrSt) : ({ s with pwr := p } : State).cuff = s.cuff := rfl

theorem State.cuff_fatalActions (s : State) (cls seq rec : Nat) :
    (s.fatalActions cls seq rec).cuff = (s.wr Reg.GEN_BOOT_STATUS_FAULT_SINCE_READY 1).endScheduled.cuff := by
  have hstop : (s.stopAndAlarm seq rec).cuff = (s.wr Reg.GEN_BOOT_STATUS_FAULT_SINCE_READY 1).endScheduled.cuff := by
    rw [State.stopAndAlarm, State.cuff_raiseAlarm]
  rw [State.fatalActions_eq]
  generalize s.stopAndAlarm seq rec = u at hstop ⊢
  split
  · exact (State.cuff_pwr ..).trans ((u.wr_cuff Reg.FLT_STATUS_MODULE_FATAL 1).trans hstop)
  · exact hstop

/-- A class below MITTEN_FATAL writes two fields at most: FAULT_SINCE_READY from DEGRADED on, and HALTED for OP_FATAL (R398). -/
theorem State.classActions_of_lt_four (s : State) {cls : Nat} (h : cls < 4) (seq rec : Nat) :
    s.classActions cls seq rec =
      (have s := if 2 ≤ cls then s.wr Reg.GEN_BOOT_STATUS_FAULT_SINCE_READY 1 else s
       if 3 ≤ cls then s.wr Reg.PLM_STATUS_HALTED 1 else s) := by
  unfold State.classActions State.palmHalt
  obtain rfl | rfl | rfl | rfl : cls = 0 ∨ cls = 1 ∨ cls = 2 ∨ cls = 3 := by omega
  all_goals simp

theorem State.classActions_of_four_le (s : State) {cls : Nat} (h : 4 ≤ cls) (seq rec : Nat) :
    s.classActions cls seq rec = s.fatalActions cls seq rec := by
  unfold State.classActions
  rw [if_neg (by omega), if_neg (by omega), if_neg (by omega)]

theorem State.rd_fault_actions (s : State) (f : FaultArgs) {g : Fld} (h : g.addr ≠ Reg.PWR_FAULTN) :
    ∃ seq rec, (s.fault f).rd g = ((s.makeRecord f).1.classActions (faultClass s f) seq rec).rd g :=
  ⟨_, _, State.rd_wr_ne _ _ h⟩

theorem State.cuff_fault_actions (s : State) (f : FaultArgs) :
    ∃ seq rec, (s.fault f).cuff = ((s.makeRecord f).1.classActions (faultClass s f) seq rec).cuff := ⟨_, _, rfl⟩

/-- Below DEGRADED a fault writes no field but those of its record and FAULT_N (R398). -/
theorem State.rd_fault_of_lt_two (s : State) {f : FaultArgs} (h : faultClass s f < 2) {g : Fld} (hg : besideRecord g = true)
    (hpin : g.addr ≠ Reg.PWR_FAULTN) : (s.fault f).rd g = s.rd g := by
  obtain ⟨seq, rec, hfault⟩ := s.rd_fault_actions f hpin
  rw [hfault, State.classActions_of_lt_four _ (by omega)]
  simp only [show ¬ 2 ≤ faultClass s f by omega, show ¬ 3 ≤ faultClass s f by omega, if_false]
  exact s.rd_makeRecord_beside f hg

/-- Below MITTEN_FATAL a fault writes FAULT_SINCE_READY and HALTED at most (R398). -/
theorem State.rd_fault_of_lt_four (s : State) {f : FaultArgs} (h : faultClass s f < 4) {g : Fld} (hg : besideRecord g = true)
    (hpin : g.addr ≠ Reg.PWR_FAULTN) (hready : Fld.apart Reg.GEN_BOOT_STATUS_FAULT_SINCE_READY g = true)
    (hhalt : faultClass s f < 3 ∨ Fld.apart Reg.PLM_STATUS_HALTED g = true) : (s.fault f).rd g = s.rd g := by
  obtain ⟨hok, -, -⟩ := (besideRecord_iff g).mp hg
  obtain ⟨seq, rec, hfault⟩ := s.rd_fault_actions f hpin
  have hrecord := s.rd_makeRecord_beside f hg
  rw [hfault, State.classActions_of_lt_four _ h]
  generalize (s.makeRecord f).1 = u at hrecord ⊢
  have hu : (if 2 ≤ faultClass s f then u.wr Reg.GEN_BOOT_STATUS_FAULT_SINCE_READY 1 else u).rd g = s.rd g := by
    split
    · rw [State.rd_wr_apart _ _ (by decide) hok hready, hrecord]
    · exact hrecord
  dsimp only
  split
  · next hthree => rw [State.rd_wr_apart _ _ (by decide) hok (hhalt.resolve_left (by omega)), hu]
  · exact hu

theorem State.cuff_fault_of_lt_four (s : State) {f : FaultArgs} (h : faultClass s f < 4) : (s.fault f).cuff = s.cuff := by
  obtain ⟨seq, rec, hfault⟩ := s.cuff_fault_actions f
  have hrecord := s.makeRecord_cuff h
  rw [hfault, State.classActions_of_lt_four _ h]
  generalize (s.makeRecord f).1 = u at hrecord ⊢
  dsimp only
  split <;> split <;> simp only [State.wr_cuff, hrecord]

/-- From MITTEN_FATAL on, a fault leaves what the end of scheduled traffic does, MODULE_FATAL apart (R398). -/
theorem State.rd_fault_of_four_le (s : State) {f : FaultArgs} (h : 4 ≤ faultClass s f) {g : Fld} (hg : Fld.ok g = true)
    (hpin : g.addr ≠ Reg.PWR_FAULTN) (hfatal : Fld.apart Reg.FLT_STATUS_MODULE_FATAL g = true)
    (halarm : g.addr ≠ Reg.FLT_ALARM_TX_CNT) :
    (s.fault f).rd g = ((s.makeRecord f).1.wr Reg.GEN_BOOT_STATUS_FAULT_SINCE_READY 1).endScheduled.rd g := by
  obtain ⟨seq, rec, hfault⟩ := s.rd_fault_actions f hpin
  rw [hfault, State.classActions_of_four_le _ h, State.rd_fatalActions _ _ _ _ hg hfatal halarm]

theorem State.rd_fault_since_ready (s : State) {f : FaultArgs} (h : 2 ≤ faultClass s f) :
    (s.fault f).rd Reg.GEN_BOOT_STATUS_FAULT_SINCE_READY = 1 := by
  rcases Nat.lt_or_ge (faultClass s f) 4 with hlt | hge
  · obtain ⟨seq, rec, hfault⟩ := s.rd_fault_actions f (g := Reg.GEN_BOOT_STATUS_FAULT_SINCE_READY) (by decide)
    rw [hfault, State.classActions_of_lt_four _ hlt]
    simp only [h, if_true]
    split
    · rw [State.rd_wr_apart _ _ (by decide) (by decide) (by decide), State.rd_wr_same _ _ (by decide)]; rfl
    · rw [State.rd_wr_same _ _ (by decide)]; rfl
  · rw [s.rd_fault_of_four_le hge (by decide) (by decide) (by decide) (by decide),
      State.rd_endScheduled_apart _ (by decide) (by decide), State.rd_wr_same _ _ (by decide)]
    rfl

theorem State.rd_fault_halted (s : State) {f : FaultArgs} (h : 3 ≤ faultClass s f) : (s.fault f).rd Reg.PLM_STATUS_HALTED = 1 := by
  rcases Nat.lt_or_ge (faultClass s f) 4 with hlt | hge
  · obtain ⟨seq, rec, hfault⟩ := s.rd_fault_actions f (g := Reg.PLM_STATUS_HALTED) (by decide)
    rw [hfault, State.classActions_of_lt_four _ hlt]
    simp only [h, if_true]
    rw [State.rd_wr_same _ _ (by decide)]
    rfl
  · rw [s.rd_fault_of_four_le hge (by decide) (by decide) (by decide) (by decide)]
    exact (State.endScheduled_fields _).1

/-- From MITTEN_FATAL on, scheduled traffic has ended and a RUNNING load has stopped (R117, R398). -/
theorem State.fault_fields_of_four_le (s : State) {f : FaultArgs} (h : 4 ≤ faultClass s f) :
    (s.fault f).cuff.stopped = true ∧ (s.fault f).rd Reg.CUF_STATUS_RUNNING = 0 ∧
      (s.fault f).ldr = (if s.ldr = 8 then 9 else s.ldr) ∧ (s.fault f).rd Reg.FLT_STATUS_MITTEN_STOPPED = 1 := by
  obtain ⟨seq, rec, hcuff⟩ := s.cuff_fault_actions f
  rw [State.classActions_of_four_le _ h, State.cuff_fatalActions] at hcuff
  have hrd : ∀ {g : Fld}, Fld.ok g = true → g.addr ≠ Reg.PWR_FAULTN → Fld.apart Reg.FLT_STATUS_MODULE_FATAL g = true →
      g.addr ≠ Reg.FLT_ALARM_TX_CNT → _ := fun hok hpin hfatal halarm => s.rd_fault_of_four_le h hok hpin hfatal halarm
  have hldr : ((s.makeRecord f).1.wr Reg.GEN_BOOT_STATUS_FAULT_SINCE_READY 1).ldr = s.ldr := by
    rw [State.ldr, State.rd_wr_apart _ _ (by decide) (by decide) (by decide)]
    exact s.rd_makeRecord_beside f (by decide)
  obtain ⟨-, hrun, hload, hstop, hcut⟩ :=
    ((s.makeRecord f).1.wr Reg.GEN_BOOT_STATUS_FAULT_SINCE_READY 1).endScheduled_fields
  refine ⟨by rw [hcuff, hcut], (hrd (by decide) (by decide) (by decide) (by decide)).trans hrun, ?_,
    (hrd (by decide) (by decide) (by decide) (by decide)).trans hstop⟩
  rw [← hldr, ← hload]
  exact hrd (by decide) (by decide) (by decide) (by decide)

/-- MODULE_FATAL's flag is set by its own class alone (R398). -/
theorem State.rd_fault_module_fatal (s : State) (f : FaultArgs) :
    (s.fault f).rd Reg.FLT_STATUS_MODULE_FATAL = if faultClass s f = 5 then 1 else s.rd Reg.FLT_STATUS_MODULE_FATAL := by
  have hrecord : (s.makeRecord f).1.rd Reg.FLT_STATUS_MODULE_FATAL = s.rd Reg.FLT_STATUS_MODULE_FATAL :=
    s.rd_makeRecord_beside f (by decide)
  rcases Nat.lt_or_ge (faultClass s f) 4 with hlt | hge
  · rw [if_neg (by omega)]
    exact s.rd_fault_of_lt_four hlt (by decide) (by decide) (by decide) (.inr (by decide))
  · obtain ⟨seq, rec, hfault⟩ := s.rd_fault_actions f (g := Reg.FLT_STATUS_MODULE_FATAL) (by decide)
    have hstop : ((s.makeRecord f).1.stopAndAlarm seq rec).rd Reg.FLT_STATUS_MODULE_FATAL = s.rd Reg.FLT_STATUS_MODULE_FATAL := by
      rw [State.stopAndAlarm, State.rd_raiseAlarm _ _ _ (by decide), State.rd_endScheduled_apart _ (by decide) (by decide),
        State.rd_wr_apart _ _ (by decide) (by decide) (by decide), hrecord]
    rw [hfault, State.classActions_of_four_le _ hge, State.fatalActions_eq]
    generalize (s.makeRecord f).1.stopAndAlarm seq rec = u at hstop ⊢
    split
    · exact (State.rd_pwr ..).trans (State.rd_wr_same _ _ (by decide))
    · exact hstop

/-- Settles O53: each class acts as R398 says, whatever the queue does with the record. -/
theorem faultClassSetsItsAction : Obligations.FaultClassSetsItsAction := by
  unfold Obligations.FaultClassSetsItsAction
  intro s f cls hcls
  subst hcls
  have hone : ∀ {n : Nat}, n = 1 → (n != 0) = true := fun h => by rw [h]; rfl
  refine ⟨fun h => ?_, fun h => hone (s.rd_fault_since_ready h), fun h => ?_, fun h => hone (s.rd_fault_halted h), fun h => ?_,
    fun h => ?_, fun h => ?_, fun h => hone ?_⟩
  · have hword : ∀ {a : Nat}, besideRecord (wordAt a) = true → a ≠ Reg.PWR_FAULTN → (s.fault f).reg a = s.reg a := fun hb hpin =>
      State.reg_eq_of_rd_wordAt (s.rd_fault_of_lt_two h hb hpin)
    exact ⟨hword (by decide) (by decide), hword (by decide) (by decide), hword (by decide) (by decide),
      s.cuff_fault_of_lt_four (by omega)⟩
  · exact s.rd_fault_of_lt_four (by omega) (by decide) (by decide) (by decide) (.inl h)
  · exact ⟨s.cuff_fault_of_lt_four h, s.rd_fault_of_lt_four h (by decide) (by decide) (by decide) (.inr (by decide)),
      s.rd_fault_of_lt_four h (by decide) (by decide) (by decide) (.inr (by decide))⟩
  · obtain ⟨hcut, hrun, hload, hstop⟩ := s.fault_fields_of_four_le h
    exact ⟨hcut, by rw [State.rdb_eq, hrun]; rfl, hload, hone hstop⟩
  · rw [s.rd_fault_module_fatal, if_neg (by omega)]
  · rw [s.rd_fault_module_fatal, if_pos h]

end Sys2Proof.Machine
end

section
/-! PROOFS. A record that meets room in the fault queue (R403, R405): the records of its cycle that come after it move on by a slot and
a SEQ, it enters the slot before them, and the others stay. -/
namespace Sys2Proof.Machine

/-! ### The order of the records of a cycle -/

/-- Numbers of two digits compare by the first digit, then by the second. -/
theorem two_digits_lt {b x y x' y' : Nat} (hy : y < b) (hy' : y' < b) : b * x + y < b * x' + y' ↔ x < x' ∨ x = x' ∧ y < y' := by
  constructor
  · intro h
    rcases Nat.lt_trichotomy x x' with hx | rfl | hx
    · exact .inl hx
    · exact .inr ⟨rfl, by omega⟩
    · have := Nat.mul_le_mul_left b (Nat.succ_le_of_lt hx)
      rw [Nat.mul_succ] at this
      omega
  · rintro (hx | ⟨rfl, h⟩)
    · have := Nat.mul_le_mul_left b (Nat.succ_le_of_lt hx)
      rw [Nat.mul_succ] at this
      omega
    · omega

/-- Records of one cycle stand by descending class, then ascending code, link, region and tile (R405). -/
theorem recordRank_lt_iff (f g : FaultArgs) {c d : Nat} (hc : c ≤ 5) (hd : d ≤ 5) (hf : f.code < 2 ^ 16) (hg : g.code < 2 ^ 16)
    (hfl : f.link < 2 ^ 8) (hgl : g.link < 2 ^ 8) (hfr : f.region < 2 ^ 8) (hgr : g.region < 2 ^ 8) (hft : f.tile < 2 ^ 16)
    (hgt : g.tile < 2 ^ 16) :
    recordRank f c < recordRank g d ↔ d < c ∨ d = c ∧ (f.code < g.code ∨ f.code = g.code ∧ (f.link < g.link ∨ f.link = g.link ∧
      (f.region < g.region ∨ f.region = g.region ∧ f.tile < g.tile))) := by
  have hrank : ∀ (h : FaultArgs) (e : Nat), recordRank h e =
      2 ^ 48 * (5 - e) + (2 ^ 32 * h.code + (2 ^ 24 * h.link + (2 ^ 16 * h.region + h.tile))) := fun h e => by
    rw [recordRank]; omega
  rw [hrank, hrank, two_digits_lt (by omega) (by omega), two_digits_lt (by omega) (by omega), two_digits_lt (by omega) (by omega),
    two_digits_lt (by omega) (by omega)]
  have hlt : 5 - c < 5 - d ↔ d < c := by omega
  have heq : 5 - c = 5 - d ↔ d = c := by omega
  rw [hlt, heq]

/-! ### Records that move on -/

/-- The slot `j` places back from the one that a queue whose tail is `i` takes next. -/
def tailSlot (i j : Nat) : Nat := (i + 2048 - j) % 1024

theorem tailSlot_lt (i j : Nat) : tailSlot i j < 1024 := Nat.mod_lt _ (by decide)

theorem tailSlot_inj {i j k : Nat} (hj : j < 1024) (hk : k < 1024) (h : tailSlot i j = tailSlot i k) : j = k := by
  unfold tailSlot at h; omega

/-- Word `k` of a record that moves on: its SEQ is one higher (R405). -/
def movedWord (k : Nat) (old : Word) : Word := if k = 0 then fset old 63 32 (fget old 63 32 + 1) else old

theorem State.reg_moveRecord_same (s : State) (i : Nat) {k : Nat} (hk : k < 8) :
    (s.moveRecord i).reg (Reg.FLT_QUEUE (8 * ((i + 1) % 1024) + k)) = movedWord k (s.reg (Reg.FLT_QUEUE (8 * (i % 1024) + k))) := by
  have hword : ∀ w : Nat → Nat, ((List.range 8).map w).getD k 0 = w k := fun w => by
    rw [List.getD_eq_getElem?_getD, List.getElem?_map, List.getElem?_range hk, Option.map_some, Option.getD_some]
  rw [State.moveRecord, State.reg_writeSlot_same _ _ _ hk, hword]
  dsimp only
  rw [BitVec.ofNat_toNat, BitVec.setWidth_eq, movedWord]

theorem State.reg_moveRecord_ne (s : State) {i m : Nat} (h : m / 8 ≠ (i + 1) % 1024) :
    (s.moveRecord i).reg (Reg.FLT_QUEUE m) = s.reg (Reg.FLT_QUEUE m) := State.reg_writeSlot_ne _ _ h

/-- The last `n` records of the queue have moved on, the newest first. -/
def State.movesOn (s : State) (i n : Nat) : State := s.forEach (List.range n) fun s j => s.moveRecord (i + 2047 - j)

theorem State.movesOn_succ (s : State) (i n : Nat) : s.movesOn i (n + 1) = (s.movesOn i n).moveRecord (i + 2047 - n) := by
  simp only [State.movesOn, State.forEach, List.range_succ, List.foldl_append, List.foldl_cons, List.foldl_nil]

/-- What the moves leave in the queue: each of the `n` newest slots has what the slot before it held, and no other slot changes. -/
theorem State.reg_movesOn (s : State) (i : Nat) {n : Nat} (hn : n < 1024) :
    (∀ j < n, ∀ k < 8, (s.movesOn i n).reg (Reg.FLT_QUEUE (8 * tailSlot i j + k)) =
      movedWord k (s.reg (Reg.FLT_QUEUE (8 * tailSlot i (j + 1) + k)))) ∧
    (∀ m < 1024, (∀ j < n, m ≠ tailSlot i j) → ∀ k < 8,
      (s.movesOn i n).reg (Reg.FLT_QUEUE (8 * m + k)) = s.reg (Reg.FLT_QUEUE (8 * m + k))) := by
  induction n with
  | zero => exact ⟨fun j hj => absurd hj (Nat.not_lt_zero j), fun _ _ _ _ _ => rfl⟩
  | succ n ih =>
    obtain ⟨hmoved, hkept⟩ := ih (by omega)
    have hto : (i + 2047 - n + 1) % 1024 = tailSlot i n := by unfold tailSlot; omega
    have hfrom : (i + 2047 - n) % 1024 = tailSlot i (n + 1) := by unfold tailSlot; omega
    have hother : ∀ m ≠ tailSlot i n, ∀ k < 8, (s.movesOn i (n + 1)).reg (Reg.FLT_QUEUE (8 * m + k)) =
        (s.movesOn i n).reg (Reg.FLT_QUEUE (8 * m + k)) := fun m hm k hk => by
      rw [State.movesOn_succ, State.reg_moveRecord_ne _ (by omega)]
    refine ⟨fun j hj k hk => ?_, fun m hm hne k hk => ?_⟩
    · rcases Nat.lt_succ_iff_lt_or_eq.mp hj with hlt | rfl
      · have hslot : tailSlot i j ≠ tailSlot i n := fun h => Nat.ne_of_lt hlt (tailSlot_inj (by omega) (by omega) h)
        rw [hother _ hslot k hk, hmoved j hlt k hk]
      · have hslot : ∀ l < j, tailSlot i (j + 1) ≠ tailSlot i l := fun l hl h => by
          have := tailSlot_inj (by omega) (by omega) h
          omega
        have hmove := (s.movesOn i j).reg_moveRecord_same (i + 2047 - j) hk
        rw [hto, hfrom] at hmove
        rw [State.movesOn_succ, hmove, hkept _ (tailSlot_lt _ _) hslot k hk]
    · rw [hother m (hne n (by omega)) k hk, hkept m hm (fun j hj => hne j (by omega)) k hk]

theorem State.reg_openRoom_queue (s : State) (cls lo n a : Nat) :
    (s.openRoom cls lo n).reg a = (s.movesOn (s.rd Reg.FLT_TAIL_IDX) n).reg a := by
  unfold State.openRoom State.makeRoom State.movesOn
  dsimp only
  split
  · next h => subst h; rfl
  · split
    · rfl
    · rfl

/-! ### A record that enters its slot -/

theorem State.fltHeld_openRoom (s : State) (cls lo n : Nat) : (s.openRoom cls lo n).fltHeld = s.fltHeld := by
  rw [State.fltHeld, State.fltHeld, State.rd_openRoom _ (by decide), State.rd_openRoom _ (by decide)]

theorem State.rd_readyQueue (s : State) (f : FaultArgs) {g : Fld} (h : g.addr < 0x6010000) :
    (s.readyQueue f).rd g = (s.takeSeq (faultClass s f)).rd g := State.rd_openRoom _ (.inl h) ..

/-- The next SEQ is one more than that taken. -/
theorem State.rd_takeSeq_nextSeq (s : State) (cls : Nat) :
    (s.takeSeq cls).rd Reg.FLT_TAIL_NEXT_SEQ = (s.rd Reg.FLT_TAIL_NEXT_SEQ + 1) % 2 ^ 32 := by
  rw [State.takeSeq, State.rd_telRaise, State.rd_raise_ne _ _ (by decide), State.rd_wr_ne _ _ (by decide),
    State.rd_count_ne _ _ (by decide), State.rd_wr_same _ _ (by decide)]
  rfl

theorem State.fltHeld_readyQueue (s : State) (f : FaultArgs) : (s.readyQueue f).fltHeld = s.fltHeld := by
  rw [State.readyQueue, State.fltHeld_openRoom, State.fltHeld_takeSeq]

theorem State.tail_readyQueue (s : State) (f : FaultArgs) : (s.readyQueue f).rd Reg.FLT_TAIL_IDX = s.rd Reg.FLT_TAIL_IDX := by
  rw [s.rd_readyQueue f (by decide), State.rd_takeSeq_tail]

/-- With room, the record is entered in a queue made ready for it. -/
theorem State.queued_of_room (s : State) (f : FaultArgs) (h : s.fltHeld < 1024) :
    s.queued f = ((s.readyQueue f).enterAt (recordRank f (faultClass s f)) (s.behind (recordRank f (faultClass s f)))
      (recordWords s f (faultClass s f) (s.recordSeq f)), true) :=
  State.enqueueRecord_of_room _ (by rwa [State.fltHeld_readyQueue]) ..

/-- A register of the queue or of FLT_TAIL and FLT_STATUS reads, after a fault that meets room, as the entered record leaves it. -/
theorem State.rd_fault_of_room (s : State) (f : FaultArgs) (h : s.fltHeld < 1024) {g : Fld} (hg : besideActions g = true)
    (hfirst : g.addr ≠ Reg.FLT_FIRST) :
    (s.fault f).rd g = ((s.readyQueue f).enterAt (recordRank f (faultClass s f)) (s.behind (recordRank f (faultClass s f)))
      (recordWords s f (faultClass s f) (s.recordSeq f))).rd g := by
  rw [s.rd_fault_beside hg, s.makeRecord_fst, s.queued_of_room f h, if_pos rfl, State.rd_msixRecord, State.rd_eq,
    State.reg_captureFirst_ne _ _ _ _ hfirst, ← State.rd_eq]

theorem State.reg_enterAt_queue (s : State) (rank n : Nat) (ws : List Nat) (m : Nat) :
    (s.enterAt rank n ws).reg (Reg.FLT_QUEUE m) = (s.writeSlot (tailSlot (s.rd Reg.FLT_TAIL_IDX) n) ws).reg (Reg.FLT_QUEUE m) := by
  rw [State.enterAt, State.reg_noteRecord, State.reg_wr_ne _ _ (FLT_QUEUE_ne (by decide) m),
    State.reg_wr_ne _ _ (FLT_QUEUE_ne (by decide) m)]
  rfl

theorem State.reg_fault_queue_of_room (s : State) (f : FaultArgs) (h : s.fltHeld < 1024) {m : Nat} (hm : m < 8192) :
    (s.fault f).reg (Reg.FLT_QUEUE m) =
      ((s.readyQueue f).writeSlot (tailSlot (s.rd Reg.FLT_TAIL_IDX) (s.behind (recordRank f (faultClass s f))))
        (recordWords s f (faultClass s f) (s.recordSeq f))).reg (Reg.FLT_QUEUE m) := by
  have hbeside : besideActions (wordAt (Reg.FLT_QUEUE m)) = true :=
    besideActions_wordAt (by unfold Reg.FLT_QUEUE Reg.FLT_HEAD; omega) (by unfold Reg.FLT_QUEUE; omega) (FLT_QUEUE_ne (by decide) m)
  rw [State.reg_eq_of_rd_wordAt (s.rd_fault_of_room f h hbeside (FLT_QUEUE_ne (by decide) m)), State.reg_enterAt_queue,
    s.tail_readyQueue]

/-- The queue made ready holds what the moves leave of the queue before. -/
theorem State.reg_readyQueue_queue (s : State) (f : FaultArgs) {n : Nat} (hn : n = s.behind (recordRank f (faultClass s f)))
    (hlt : n < 1024) :
    (∀ j < n, ∀ k < 8, (s.readyQueue f).reg (Reg.FLT_QUEUE (8 * tailSlot (s.rd Reg.FLT_TAIL_IDX) j + k)) =
      movedWord k (s.reg (Reg.FLT_QUEUE (8 * tailSlot (s.rd Reg.FLT_TAIL_IDX) (j + 1) + k)))) ∧
    (∀ m < 1024, (∀ j < n, m ≠ tailSlot (s.rd Reg.FLT_TAIL_IDX) j) → ∀ k < 8,
      (s.readyQueue f).reg (Reg.FLT_QUEUE (8 * m + k)) = s.reg (Reg.FLT_QUEUE (8 * m + k))) := by
  subst hn
  obtain ⟨hmoved, hkept⟩ := (s.takeSeq (faultClass s f)).reg_movesOn (s.rd Reg.FLT_TAIL_IDX) hlt
  simp only [State.reg_takeSeq_queue] at hmoved hkept
  refine ⟨fun j hj k hk => ?_, fun m hm hne k hk => ?_⟩
  · rw [State.readyQueue, State.reg_openRoom_queue, State.rd_takeSeq_tail, hmoved j hj k hk]
  · rw [State.readyQueue, State.reg_openRoom_queue, State.rd_takeSeq_tail, hkept m hm hne k hk]

theorem State.behind_le_held (s : State) (k : Nat) (h : s.fltHeld < 1024) : s.behind k ≤ s.fltHeld := by
  rw [State.behind, if_pos h]
  exact Nat.min_le_right _ _

/-! ### The cycle's ranks -/

/-- In an ascending list, what lies above `k` is its end. -/
theorem drop_eq_filter_of_pairwise {l : List Nat} (h : l.Pairwise (fun x y => x ≤ y)) (k : Nat) :
    l.drop (l.length - (l.filter fun x => k < x).length) = l.filter (fun x => k < x) ∧
      l.take (l.length - (l.filter fun x => k < x).length) = l.filter (fun x => x ≤ k) := by
  induction l with
  | nil => exact ⟨rfl, rfl⟩
  | cons x l ih =>
    obtain ⟨hx, hl⟩ := List.pairwise_cons.mp h
    obtain ⟨hdrop, htake⟩ := ih hl
    by_cases hk : k < x
    · have hall : l.filter (fun y => k < y) = l := List.filter_eq_self.mpr fun y hy => by
        simpa using hk.trans_le (hx y hy)
      have hnone : l.filter (fun y => y ≤ k) = [] := List.filter_eq_nil_iff.mpr fun y hy => by
        have := hx y hy
        simp only [decide_eq_true_eq]; omega
      simp [hk, Nat.not_le.mpr hk, hall, hnone]
    · have hle : (l.filter fun y => k < y).length ≤ l.length := List.length_filter_le _ _
      have hlen : l.length + 1 - (l.filter fun y => k < y).length = (l.length - (l.filter fun y => k < y).length) + 1 := by omega
      simp [hk, Nat.not_lt.mp hk, hlen, hdrop, htake]

theorem State.recs_raise (s : State) (f : Fld) (v : Nat) : (s.raise f v).same.recs = s.same.recs := by
  unfold State.raise State.noteLevel
  split
  · rw [State.wr_same]
  · rfl

theorem State.recs_enterAt (s : State) (rank n : Nat) (ws : List Nat) :
    (s.enterAt rank n ws).same.recs =
      s.same.recs.take (s.same.recs.length - n) ++ rank :: s.same.recs.drop (s.same.recs.length - n) := by
  have hrecs : ∀ t : State, t.same = s.same →
      (t.noteRecord rank n).same.recs = s.same.recs.take (s.same.recs.length - n) ++ rank :: s.same.recs.drop (s.same.recs.length - n) :=
    fun t ht => by rw [State.noteRecord, ht]
  refine hrecs _ ?_
  rw [State.wr_same, State.wr_same]
  exact (State.writeSlot_kept (w := {}) (.refl s)).same.resolve_left (by decide)

/-- Taking a SEQ and making room leave the cycle's ranks. -/
theorem State.recs_readyQueue (s : State) (f : FaultArgs) : (s.readyQueue f).same.recs = s.same.recs := by
  have htake : (s.takeSeq (faultClass s f)).same.recs = s.same.recs := by
    have hkept := State.telRaise_kept (w := { flt := true }) (k := 3) (v := faultClass s f + 1) rfl
      (.refl ((((s.wr Reg.FLT_TAIL_NEXT_SEQ (s.rd Reg.FLT_TAIL_NEXT_SEQ + 1)).count Reg.FLT_RECORD_CNT 1).wr Reg.FLT_STATUS_ANY 1).raise
        Reg.FLT_STATUS_MAX_CLASS (faultClass s f)))
    rw [State.takeSeq, hkept.same.resolve_left (by decide), State.recs_raise, State.wr_same, State.count_same, State.wr_same]
  have hopen : (s.readyQueue f).same = (s.takeSeq (faultClass s f)).same :=
    (Kept.ite_ (.refl _) (State.makeRoom_kept (w := { cuff := true, route := true, flt := true }) rfl rfl rfl (.refl _))).same.resolve_left
      (by decide)
  rw [hopen, htake]

/-- A fault's record stands in the cycle's ranks where the entering of the record puts it. -/
theorem State.recs_fault_of_room (s : State) (f : FaultArgs) (h : s.fltHeld < 1024) {n : Nat}
    (hn : n = s.behind (recordRank f (faultClass s f))) :
    (s.fault f).same.recs = s.same.recs.take (s.same.recs.length - n) ++
      recordRank f (faultClass s f) :: s.same.recs.drop (s.same.recs.length - n) := by
  have hactions : (s.fault f).same = (s.makeRecord f).1.same :=
    (State.updFaultN_kept (State.classActions_kept (w := { cuff := true, route := true, flt := true, pwr := true }) rfl rfl rfl rfl
      (.refl _))).same.resolve_left (by decide)
  have hcapture : Kept { flt := true } (s.queued f).1 (s.makeRecord f).1 := by
    have hfirst : Kept { flt := true } (s.queued f).1
        ((s.queued f).1.captureFirst (faultClass s f) (s.recordSeq f) (s.recordFirst f)) :=
      Kept.ite_ (State.wr_kept (State.wr_kept (State.wr_kept (.refl _)))) (.refl _)
    rw [s.makeRecord_fst]
    exact Kept.ite_ (State.msixRecord_kept rfl hfirst) hfirst
  rw [hactions, hcapture.same.resolve_left (by decide), s.queued_of_room f h, State.recs_enterAt, s.recs_readyQueue, ← hn]

/-- Settles O51: the record enters before those of its cycle that come after it, which move on by a slot and a SEQ. -/
theorem faultRecordEntersTheQueue : Obligations.FaultRecordEntersTheQueue := by
  unfold Obligations.FaultRecordEntersTheQueue
  intro s f tail seq held n slot htail hseq hheld hroom hn hslot
  subst htail hseq
  obtain rfl : slot = tailSlot (s.rd Reg.FLT_TAIL_IDX) := funext hslot
  obtain rfl : held = s.fltHeld := hheld
  have hle : n ≤ s.fltHeld := hn ▸ s.behind_le_held _ hroom
  have hlt : n < 1024 := by omega
  have hseq : (s.rd Reg.FLT_TAIL_NEXT_SEQ + 2 ^ 32 - n) % 2 ^ 32 = s.recordSeq f := by rw [hn]; rfl
  obtain ⟨hmoved, hkept⟩ := s.reg_readyQueue_queue f hn hlt
  have hqueue := fun (m : Nat) (hm : m < 8192) => s.reg_fault_queue_of_room f hroom hm
  rw [← hn] at hqueue
  have hbefore : ∀ m < 1024, m ≠ tailSlot (s.rd Reg.FLT_TAIL_IDX) n → ∀ k < 8,
      (s.fault f).reg (Reg.FLT_QUEUE (8 * m + k)) = (s.readyQueue f).reg (Reg.FLT_QUEUE (8 * m + k)) := fun m hm hne k hk => by
    rw [hqueue _ (by omega), State.reg_writeSlot_ne _ _ (by omega)]
  refine ⟨?_, ?_, ?_, fun k hk => ?_, fun j hj k old hk hold => ?_, fun i hi hne k hk => ?_, fun hlen hsorted => ?_,
    fun f g c d hc hd hf hg hfl hgl hfr hgr hft hgt => recordRank_lt_iff f g hc hd hf hg hfl hgl hfr hgr hft hgt⟩
  · rw [s.rd_fault_of_room f hroom (by decide) (by decide), State.enterAt, State.rd_noteRecord,
      State.rd_wr_ne _ _ (by decide), State.rd_wr_same _ _ (by decide), s.tail_readyQueue]
    rfl
  · rw [s.rd_fault_of_room f hroom (by decide) (by decide), State.enterAt, State.rd_noteRecord,
      State.rd_wr_ne _ _ (by decide), State.rd_wr_apart _ _ (by decide) (by decide) (by decide),
      State.rd_eq, State.reg_writeSlot _ (.inl (by decide)) (Nat.mod_lt _ (by decide)), ← State.rd_eq, s.rd_readyQueue f (by decide),
      State.rd_takeSeq_nextSeq]
  · rw [s.rd_fault_of_room f hroom (by decide) (by decide), State.enterAt, State.rd_noteRecord,
      State.rd_wr_same _ _ (by decide), s.fltHeld_readyQueue]
    exact Nat.mod_eq_of_lt (by change s.fltHeld + 1 < 2048; omega)
  · have hslot := tailSlot_lt (s.rd Reg.FLT_TAIL_IDX) n
    rw [hqueue _ (by omega), State.reg_writeSlot_same _ _ _ hk, hseq]
  · have hslot := tailSlot_lt (s.rd Reg.FLT_TAIL_IDX) j
    have hother : tailSlot (s.rd Reg.FLT_TAIL_IDX) j ≠ tailSlot (s.rd Reg.FLT_TAIL_IDX) n := fun h =>
      Nat.ne_of_lt hj (tailSlot_inj (by omega) hlt h)
    rw [hbefore _ hslot hother k hk, hmoved j hj k hk, hold, movedWord]
  · rw [hbefore i hi (hne n (Nat.le_refl n)) k hk, hkept i hi (fun j hj => hne j hj.le) k hk]
  · have hcount : n = (s.same.recs.filter fun x => recordRank f (faultClass s f) < x).length := by
      rw [hn, State.behind, if_pos hroom]
      exact Nat.min_eq_left ((List.length_filter_le _ _).trans hlen)
    obtain ⟨hdrop, htake⟩ := drop_eq_filter_of_pairwise hsorted (recordRank f (faultClass s f))
    rw [← hcount] at hdrop htake
    rw [s.recs_fault_of_room f hroom hn]
    refine ⟨?_, List.pairwise_append.mpr ⟨?_, List.pairwise_cons.mpr ⟨fun y hy => ?_, ?_⟩, fun x hx y hy => ?_⟩⟩
    · exact List.perm_middle.trans (by rw [List.take_append_drop])
    · exact hsorted.take
    · rw [hdrop] at hy
      exact (of_decide_eq_true (List.mem_filter.mp hy).2).le
    · exact hsorted.drop
    · rw [htake] at hx
      have hxk : x ≤ recordRank f (faultClass s f) := of_decide_eq_true (List.mem_filter.mp hx).2
      rcases List.mem_cons.mp hy with rfl | hy
      · exact hxk
      · rw [hdrop] at hy
        exact hxk.trans (of_decide_eq_true (List.mem_filter.mp hy).2).le

end Sys2Proof.Machine
end

section
/-! PROOFS. Accesses (R8 to R11, R22, R99, R419, R444, R446, R447): what a refused access records, what a write to a block without power
does, and what a plain register write leaves of each bit. -/
namespace Sys2Proof.Machine

/-! ### Refused accesses -/

theorem State.accErr_of_valid (s : State) (h : s.rdb Reg.GEN_ACC_ERR_VALID = true) (path kind : Nat) (write : Bool) (o : Nat) :
    s.accErr path kind write o = s.flag Reg.GEN_ACC_ERR_OVERRUN := by
  rw [State.accErr, if_pos h]

/-- The first refused access is recorded whole (R447). -/
theorem State.accErr_fields (s : State) (h : s.rdb Reg.GEN_ACC_ERR_VALID = false) (path kind : Nat) (write : Bool) (o : Nat) :
    (s.accErr path kind write o).rd Reg.GEN_ACC_ERR_VALID = 1 ∧ (s.accErr path kind write o).rd Reg.GEN_ACC_ERR_PATH = path % 2 ^ 2 ∧
      (s.accErr path kind write o).rd Reg.GEN_ACC_ERR_KIND = kind % 2 ^ 2 ∧
      (s.accErr path kind write o).rd Reg.GEN_ACC_ERR_WRITE = b2n write % 2 ∧
      (s.accErr path kind write o).rd Reg.GEN_ACC_ERR_OFFSET = o % 2 ^ 27 ∧
      (s.accErr path kind write o).rd Reg.GEN_ACC_ERR_OVERRUN = s.rd Reg.GEN_ACC_ERR_OVERRUN := by
  have hfree : ¬ s.rdb Reg.GEN_ACC_ERR_VALID = true := by rw [h]; decide
  rw [State.accErr, if_neg hfree]
  refine ⟨?_, ?_, ?_, ?_, ?_, ?_⟩ <;>
    simp (disch := decide) only [State.wrb, State.rd_flag, State.rd_wr_apart, State.rd_wr_same] <;> rfl

theorem execBarAccessError_of_live {s : State} (hlive : s.live = true) (bar2 write : Bool) (o : Nat) :
    exec (.barAccessError bar2 write o) s = .next ((s.emit .completerAbort).accErr (b2n bar2) 1 write o) := by
  have harm : exec (.barAccessError bar2 write o) s = execBarAccessError bar2 write o s := rfl
  rw [harm, execBarAccessError, if_pos hlive, State.badRequest]

theorem b2n_lt (b : Bool) : b2n b < 2 := by cases b <;> decide

theorem b2n_ne_zero (b : Bool) : (b2n b != 0) = b := by cases b <;> rfl

/-- Settles O7: a refused request only sends its abort and records itself, whole if it is the first. -/
theorem badRequestIsRecordedOnce : Obligations.BadRequestIsRecordedOnce := by
  unfold Obligations.BadRequestIsRecordedOnce
  intro s bar2 write o hlive ho
  have hkept : Kept { same := true } s ((s.emit .completerAbort).accErr (b2n bar2) 1 write o) :=
    State.accErr_kept rfl (State.emit_kept (.refl s))
  refine ⟨_, execBarAccessError_of_live hlive bar2 write o, ?_, fun a ha => ?_, hkept.toSame, fun hfree => ?_, fun hheld => ?_⟩
  · rw [State.accErr_egress, State.emit_egress]
  · rw [State.reg_accErr_ne _ _ _ _ _ ha]; rfl
  · obtain ⟨hvalid, hpath, hkind, hwrite, hoffset, hoverrun⟩ :=
      (s.emit .completerAbort).accErr_fields hfree (b2n bar2) 1 write o
    have hbar := b2n_lt bar2
    have hwr := b2n_lt write
    refine ⟨?_, ?_, hkind, ?_, ?_, hoverrun⟩
    · rw [State.rdb_eq, hvalid]; rfl
    · rw [hpath, Nat.mod_eq_of_lt (by omega)]
    · rw [State.rdb_eq, hwrite, Nat.mod_eq_of_lt hwr, b2n_ne_zero]
    · rw [hoffset, Nat.mod_eq_of_lt ho]
  · exact (s.emit .completerAbort).accErr_of_valid hheld ..

/-! ### Driver writes and power -/

theorem State.busWrite_of_not_live (s : State) (h : s.live = false) (a : Nat) (f : State → State) : s.busWrite a f = s := by
  rw [State.busWrite, h]; rfl

theorem State.busWrite_of_off (s : State) (hlive : s.live = true) {a : Nat} (hoff : s.powered a = false) (f : State → State) :
    s.busWrite a f = s.accErr 0 2 true (bar0Offset a) := by
  rw [State.busWrite, hlive, hoff]; rfl

theorem State.busWrite_of_on (s : State) (hlive : s.live = true) {a : Nat} (hon : s.powered a = true) (f : State → State) :
    s.busWrite a f = f s := by
  rw [State.busWrite, hlive, hon]; rfl

/-- Every driver write goes over the bus to its register. -/
theorem exec_driverWrite {c : Instr} {a : Nat} (h : driverWrite c = some a) : ∃ f, ∀ s, exec c s = .next (s.busWrite a f) := by
  cases c <;> cases h <;> exact ⟨_, fun _ => rfl⟩

/-- Settles O9: what the bus does with a write to a block whose domain is off. -/
theorem writesToPoweredDownBlocksAreIgnored : Obligations.WritesToPoweredDownBlocksAreIgnored := by
  unfold Obligations.WritesToPoweredDownBlocksAreIgnored
  intro s c a hc
  obtain ⟨f, hexec⟩ := exec_driverWrite hc
  refine ⟨fun hdead => ?_, fun hlive hoff => ?_⟩
  · rw [hexec, s.busWrite_of_not_live hdead]
  · rw [hexec, s.busWrite_of_off hlive hoff]

/-! ### Bits of a plain register write -/

theorem getLsbD_ofNat_nat (m : Nat) {i : Nat} (h : i < 64) : (BitVec.ofNat 64 m).getLsbD i = nbit m i := by
  rw [BitVec.getLsbD_ofNat, nbit_eq_testBit, decide_eq_true h, Bool.true_and]

/-- A merged word has the new bits where the mask has ones. -/
theorem getLsbD_mergeBits (old v : Word) (m : Nat) {i : Nat} (h : i < 64) :
    (mergeBits old v m).getLsbD i = if nbit m i = true then v.getLsbD i else old.getLsbD i := by
  rw [mergeBits, BitVec.getLsbD_or, BitVec.getLsbD_and, BitVec.getLsbD_and, BitVec.getLsbD_not, getLsbD_ofNat_nat m h, decide_eq_true h]
  cases nbit m i <;> simp

theorem nbit_and (x y i : Nat) : nbit (x &&& y) i = (nbit x i && nbit y i) := by
  rw [nbit_eq_testBit, nbit_eq_testBit, nbit_eq_testBit, Nat.testBit_and]

theorem nbit_or (x y i : Nat) : nbit (x ||| y) i = (nbit x i || nbit y i) := by
  rw [nbit_eq_testBit, nbit_eq_testBit, nbit_eq_testBit, Nat.testBit_or]

/-- The complement of a mask within a word. -/
theorem nbit_complement (x : Nat) {i : Nat} (h : i < 64) : nbit ((2 ^ 64 - 1) ^^^ x) i = !nbit x i := by
  rw [nbit_eq_testBit, nbit_eq_testBit, Nat.testBit_xor, Nat.testBit_two_pow_sub_one, decide_eq_true h, Bool.true_xor]

/-- A write reaches fields that are RW while RUN = 0, and RUN is 1 (R99). -/
def State.writeLocked (s : State) (r : Reg.Info) (m : Nat) : Bool := s.run && (r.rwRun0 &&& m) != 0

/-- The bits that a write stores: RW bits that it reaches and that neither RUN nor the register's own rule holds (R8, R99). -/
def State.openBits (s : State) (r : Reg.Info) (a m : Nat) (v : Word) : Nat :=
  storedBits r &&& m &&& ((2 ^ 64 - 1) ^^^ ((s.ignored r a v).1 ||| (if s.writeLocked r m then r.rwRun0 else 0)))

/-- The refusals that a write shows. -/
def State.writeRefusals (s : State) (r : Reg.Info) (a m : Nat) (v : Word) : State :=
  have t := if s.writeLocked r m then s.flag Reg.CUF_STATUS_WR_REFUSED else s
  match (s.ignored r a v).2 with
  | some f => t.flag f
  | none => t

/-- The bits that a write of ones clears: W1C bits that it reaches, unless the device has set them in this cycle (R9). -/
def State.clearBits (s : State) (r : Reg.Info) (a m : Nat) : Nat :=
  (r.w1c &&& m) &&& ((2 ^ 64 - 1) ^^^ SMap.get (fun _ => 0) s.same.flagged a)

/-- What a write leaves in the register. -/
def State.writtenWord (s : State) (r : Reg.Info) (a m : Nat) (v : Word) (o : Nat) : Word :=
  mergeBits (s.reg a) v o &&& ~~~(BitVec.ofNat 64 (s.clearBits r a m) &&& v)

/-- The driver has written the bits `o` of register `a` in this cycle. -/
def State.noteDriver (s : State) (a o : Nat) : State :=
  { s with same := { s.same with driver := addBits s.same.driver a o } }

/-- What a plain write does, part by part. -/
theorem State.plainWrite_eq (s : State) (r : Reg.Info) (a m : Nat) (v : Word) :
    s.plainWrite r a m v =
      (have u := s.writeRefusals r a m v
       have t := u.noteDriver a (s.openBits r a m v)
       ((if a = Reg.TIME_CTRL then t.setD t.dNow else t).setReg a (u.writtenWord r a m v (s.openBits r a m v))).afterWrite r a
        (v &&& BitVec.ofNat 64 m)) := rfl

theorem State.getLsbD_writtenWord (s : State) (r : Reg.Info) (a m : Nat) (v : Word) (o : Nat) {i : Nat} (h : i < 64) :
    (s.writtenWord r a m v o).getLsbD i =
      ((if nbit o i = true then v.getLsbD i else (s.reg a).getLsbD i) && !(nbit (s.clearBits r a m) i && v.getLsbD i)) := by
  rw [State.writtenWord, BitVec.getLsbD_and, getLsbD_mergeBits _ _ _ h, BitVec.getLsbD_not, BitVec.getLsbD_and,
    getLsbD_ofNat_nat _ h, decide_eq_true h, Bool.true_and]

/-- A bit that a write neither stores nor clears stays. -/
theorem State.getLsbD_writtenWord_kept (s : State) (r : Reg.Info) (a m : Nat) (v : Word) {o i : Nat} (h : i < 64)
    (ho : nbit o i = false) (hc : nbit (s.clearBits r a m) i = false) : (s.writtenWord r a m v o).getLsbD i = (s.reg a).getLsbD i := by
  rw [s.getLsbD_writtenWord r a m v o h, ho, hc]
  simp

theorem nbit_openBits_le (s : State) (r : Reg.Info) (a m : Nat) (v : Word) (i : Nat)
    (h : nbit (storedBits r) i = false ∨ nbit m i = false) : nbit (s.openBits r a m v) i = false := by
  rw [State.openBits, nbit_and, nbit_and]
  rcases h with h | h <;> simp [h]

theorem nbit_clearBits (s : State) (r : Reg.Info) (a m : Nat) {i : Nat} (h : i < 64) :
    nbit (s.clearBits r a m) i = (nbit r.w1c i && nbit m i && !nbit (SMap.get (fun _ => 0) s.same.flagged a) i) := by
  rw [State.clearBits, nbit_and, nbit_and, nbit_complement _ h]

/-! ### What a write's refusals leave -/

/-- The flags that a refused write sets. -/
def refusalFlags : List Fld :=
  [Reg.CUF_STATUS_WR_REFUSED, Reg.LDR_STATUS_WR_REFUSED, Reg.BON_STATUS_WR_REFUSED, Reg.PLM_STATUS_WR_REFUSED]

theorem State.ignored_flag_mem (s : State) (r : Reg.Info) (a : Nat) (v : Word) : ∀ f ∈ (s.ignored r a v).2, f ∈ refusalFlags := by
  unfold State.ignored
  dsimp only
  repeat' split
  all_goals simp [refusalFlags]

/-- Refusals are flags: the state before, with some flags of refusal set one after another. -/
theorem State.writeRefusals_induct {p : State → Prop} (s : State) (r : Reg.Info) (a m : Nat) (v : Word) (hs : p s)
    (hflag : ∀ t, p t → ∀ f ∈ refusalFlags, p (t.flag f)) : p (s.writeRefusals r a m v) := by
  have hrun : p (if s.writeLocked r m then s.flag Reg.CUF_STATUS_WR_REFUSED else s) := by
    split
    · exact hflag s hs _ (by decide)
    · exact hs
  have hmem := s.ignored_flag_mem r a v
  unfold State.writeRefusals
  dsimp only
  split
  · next f hf => exact hflag _ hrun f (hmem f (by rw [hf]; rfl))
  · exact hrun

theorem addr_of_mem_refusalFlags : ∀ f ∈ refusalFlags, f.addr ∈ [Reg.CUF_STATUS, Reg.LDR_STATUS, Reg.BON_STATUS, Reg.PLM_STATUS] := by
  decide

theorem State.reg_writeRefusals (s : State) (r : Reg.Info) (a m : Nat) (v : Word) {b : Nat}
    (h : b ∉ [Reg.CUF_STATUS, Reg.LDR_STATUS, Reg.BON_STATUS, Reg.PLM_STATUS]) : (s.writeRefusals r a m v).reg b = s.reg b :=
  s.writeRefusals_induct (p := fun t => t.reg b = s.reg b) r a m v rfl fun t ht f hf => by
    have hne : b ≠ f.addr := fun hb => h (hb ▸ addr_of_mem_refusalFlags f hf)
    rw [State.reg_flag, State.reg_wr_ne _ _ hne, ht]

theorem State.flagged_writeRefusals (s : State) (r : Reg.Info) (a m : Nat) (v : Word) {b : Nat}
    (h : b ∉ [Reg.CUF_STATUS, Reg.LDR_STATUS, Reg.BON_STATUS, Reg.PLM_STATUS]) :
    SMap.get (fun _ => 0) (s.writeRefusals r a m v).same.flagged b = SMap.get (fun _ => 0) s.same.flagged b :=
  s.writeRefusals_induct (p := fun t => SMap.get (fun _ => 0) t.same.flagged b = SMap.get (fun _ => 0) s.same.flagged b) r a m v rfl
    fun t ht f hf => by
      have hne : b ≠ f.addr := fun hb => h (hb ▸ addr_of_mem_refusalFlags f hf)
      exact (SMap.get_set_ne _ _ _ hne).trans ht

/-! ### What a write does besides -/

/-- Registers whose new value has an effect of its own, by address. -/
def effectRegs : List Nat := [Reg.TIME_CTRL, Reg.PWR_FAULTN, Reg.CUF_MITTEN, Reg.BON_CTRL, Reg.FLT_FIRST]

/-- A register with no effect of its own takes a write and no more. -/
theorem State.plainWrite_of_no_effect (s : State) {r : Reg.Info} {a : Nat} (m : Nat) (v : Word) (ha : a ∉ effectRegs)
    (hhbm : r.base ≠ Reg.HBM_CTRL 0) (hliner : r.base ≠ Reg.PLM_LINER_RAM 0) :
    s.plainWrite r a m v = ((s.writeRefusals r a m v).noteDriver a (s.openBits r a m v)).setReg a
      ((s.writeRefusals r a m v).writtenWord r a m v (s.openBits r a m v)) := by
  simp only [effectRegs, List.mem_cons, List.not_mem_nil, or_false, not_or] at ha
  obtain ⟨htime, hpin, hmitten, hbon, hfirst⟩ := ha
  have hafter : ∀ (t : State) (w : Word), t.afterWrite r a w = t := fun t w => by
    unfold State.afterWrite
    rw [if_neg htime, if_neg hpin, if_neg hmitten, if_neg hbon, if_neg hfirst, if_neg hhbm, if_neg hliner]
  rw [s.plainWrite_eq]
  dsimp only
  rw [hafter, if_neg htime]

/-- REGISTER_WRITE at a register of a powered block. -/
theorem exec_registerWrite_of_find {s : State} {o : Nat} (half : Option Bool) (v : Word) {r : Reg.Info} (hlive : s.live = true)
    (ho : o % 8 = 0) (hlow : o ≠ 0x1000) (hhigh : o ≠ 0x1008) (hfind : Reg.find (bar0Addr o) = some r)
    (hon : s.powered (bar0Addr o) = true) :
    exec (.registerWrite false o half v) s = .next (s.plainWrite r (bar0Addr o)
      (halfMask half &&& ((2 ^ 64 - 1) ^^^ SMap.get (fun _ => 0) s.same.mgmt (bar0Addr o))) v) := by
  rw [exec_registerWrite_bar0 half v hlive ho, State.bar0Write]
  simp only [hlow, hhigh, or_self, if_false, hfind, hon, if_true]

/-- Settles O10: a bit changes only where the write stores or clears it. -/
theorem registerWriteKeepsReadOnlyBits : Obligations.RegisterWriteKeepsReadOnlyBits := by
  unfold Obligations.RegisterWriteKeepsReadOnlyBits
  intro s t o i half v r hlive ho hi hfind hon hlow hhigh hplain hhbm hliner hexec
  generalize ha : bar0Addr o = a at *
  have heffect : a ∉ effectRegs := fun h => hplain (by
    simp only [effectRegs, List.mem_cons, List.not_mem_nil, or_false] at h ⊢
    tauto)
  have hstatus : a ∉ [Reg.CUF_STATUS, Reg.LDR_STATUS, Reg.BON_STATUS, Reg.PLM_STATUS] := fun h => hplain (by
    simp only [List.mem_cons, List.not_mem_nil, or_false] at h ⊢
    tauto)
  subst ha
  rw [exec_registerWrite_of_find half v hlive ho hlow hhigh hfind hon] at hexec
  have ht := Host.Outcome.next.inj hexec
  rw [s.plainWrite_of_no_effect _ v heffect hhbm hliner] at ht
  generalize hm : halfMask half &&& ((2 ^ 64 - 1) ^^^ SMap.get (fun _ => 0) s.same.mgmt (bar0Addr o)) = m at ht
  generalize bar0Addr o = a at *
  have hmbit : nbit m i = (nbit (halfMask half) i && !nbit (SMap.get (fun _ => 0) s.same.mgmt a) i) := by
    rw [← hm, nbit_and, nbit_complement _ hi]
  have hreg := s.reg_writeRefusals r a m v hstatus
  have hflagged := s.flagged_writeRefusals r a m v hstatus
  have hta : t.reg a = (s.writeRefusals r a m v).writtenWord r a m v (s.openBits r a m v) := by
    rw [← ht, State.reg_setReg_same]
  have hclear := nbit_clearBits (s.writeRefusals r a m v) r a m hi
  rw [hflagged] at hclear
  have hkept : nbit (s.openBits r a m v) i = false → nbit ((s.writeRefusals r a m v).clearBits r a m) i = false →
      (t.reg a).getLsbD i = (s.reg a).getLsbD i := fun hopen hcl => by
    rw [hta, State.getLsbD_writtenWord_kept _ _ _ _ _ hi hopen hcl, hreg]
  refine ⟨fun h => ?_, fun hw1c hhalf hv hmgmt hfree => ?_, fun b hb => ?_, fun hw1c hstored hset => ?_, fun hmgmt => ?_,
    fun f n hf hbit hw1c hchange => ?_⟩
  · rw [nbit_or, Bool.or_eq_false_iff] at h
    rcases h with ⟨hstored, hw1c⟩ | hhalf
    · exact hkept (nbit_openBits_le s r a m v i (.inl hstored)) (by rw [hclear, hw1c]; rfl)
    · have hm0 : nbit m i = false := by rw [hmbit, hhalf]; rfl
      exact hkept (nbit_openBits_le s r a m v i (.inr hm0)) (by rw [hclear, hm0]; simp)
  · have hm1 : nbit m i = true := by
      have hzero : nbit 0 i = false := by rw [nbit_eq_testBit, Nat.zero_testBit]
      rw [hmbit, hhalf, hmgmt, hzero]; rfl
    rw [hta, State.getLsbD_writtenWord _ _ _ _ _ _ hi, hclear, hw1c, hm1, hfree, hv]
    simp
  · have hba : b ≠ a := fun h => hb (by rw [h]; exact List.mem_cons_self)
    rw [← ht, State.reg_setReg_ne _ _ hba]
    exact s.reg_writeRefusals r a m v fun h => hb (List.mem_cons_of_mem _ h)
  · exact hkept (nbit_openBits_le s r a m v i (.inl hstored)) (by rw [hclear, hset]; simp)
  · have hm0 : nbit m i = false := by rw [hmbit, hmgmt]; simp
    exact hkept (nbit_openBits_le s r a m v i (.inr hm0)) (by rw [hclear, hm0]; simp)
  · have hopen : nbit (s.openBits r a m v) i = true := by
      by_contra hclosed
      exact hchange (hkept (Bool.eq_false_iff.mpr hclosed) (by rw [hclear, hw1c]; rfl))
    refine State.devWr_driven _ _ _ fun hnone => ?_
    have hdriver : SMap.get (fun _ => 0) t.same.driver a =
        SMap.get (fun _ => 0) (s.writeRefusals r a m v).same.driver a ||| s.openBits r a m v := by
      rw [← ht]
      exact SMap.get_set_same ..
    have hzero := congrArg (nbit · i) hnone
    rw [hf, State.driven, hdriver, nbit_and, nbit_or, nbit_or, hopen, hbit] at hzero
    simp [nbit_eq_testBit] at hzero

/-! ### Registers that RUN locks -/

/-- The registers with fields that RUN locks: none has W1C bits, and the mitten alone has an effect of its own. -/
theorem rwRun0_rows : ∀ r ∈ Reg.table, r.rwRun0 ≠ 0 →
    r.w1c = 0 ∧ r.base ≠ Reg.HBM_CTRL 0 ∧ r.base ≠ Reg.PLM_LINER_RAM 0 := by decide +kernel

theorem rwRun0_of_effect : ∀ a ∈ [Reg.TIME_CTRL, Reg.PWR_FAULTN, Reg.BON_CTRL, Reg.FLT_FIRST, Reg.CUF_STATUS, Reg.LDR_STATUS,
    Reg.BON_STATUS, Reg.PLM_STATUS], (Reg.find a).map (·.rwRun0) = some 0 := by decide +kernel

/-- A register that a row with locked fields gives is none of those whose writes act or show refusals. -/
theorem not_mem_of_rwRun0 {a : Nat} {r : Reg.Info} (hfind : Reg.find a = some r) (hrun0 : r.rwRun0 ≠ 0) :
    a ∉ [Reg.TIME_CTRL, Reg.PWR_FAULTN, Reg.BON_CTRL, Reg.FLT_FIRST, Reg.CUF_STATUS, Reg.LDR_STATUS, Reg.BON_STATUS,
      Reg.PLM_STATUS] := fun h => by
  have hrow := rwRun0_of_effect a h
  rw [hfind] at hrow
  exact hrun0 (Option.some.inj hrow)

/-- A field of neither a record, nor a class's actions, nor a link. -/
def besideMitten (g : Fld) : Bool := besideRecord g && besideActions g && decide (g.addr < 0x1100000)

theorem State.rd_mittenViol_beside (s : State) (l cause vc mitten : Nat) {g : Fld} (hg : besideMitten g = true) :
    (s.mittenViol l cause vc mitten).rd g = s.rd g := by
  simp only [besideMitten, Bool.and_eq_true] at hg
  obtain ⟨⟨hrecord, hactions⟩, -⟩ := hg
  unfold State.mittenViol
  dsimp only
  split
  · rfl
  · rw [State.rd_fault_beside hactions, State.rd_makeRecord_beside _ _ hrecord, State.rd_setLk]

/-- A new mitten of the module writes no field beside the links' and those of the fault it may raise (R94). -/
theorem State.rd_updMitten_beside (s : State) (l : Nat) {g : Fld} (hg : besideMitten g = true) : (s.updMitten l).rd g = s.rd g := by
  have hlink : ∀ {f : Fld}, f.addr = Reg.LNK_SCHED_STATUS l → g.addr ≠ f.addr := fun hf => by
    simp only [besideMitten, Bool.and_eq_true, decide_eq_true_eq] at hg
    rw [hf, Reg.LNK_SCHED_STATUS]
    omega
  have hfit : ∀ b, ((s.wrb (Reg.LNK_SCHED_STATUS_IN_MITTEN l) b).updFit l).rd g = s.rd g := fun b => by
    unfold State.updFit State.wrb
    dsimp only
    rw [State.rd_wr_ne _ _ (hlink rfl), State.rd_wr_ne _ _ (hlink rfl), State.rd_wr_ne _ _ (hlink rfl), State.rd_wr_ne _ _ (hlink rfl)]
  unfold State.updMitten
  dsimp only
  split
  · rw [State.rd_mittenViol_beside _ _ _ _ _ hg, State.rd_setLk, hfit]
  · exact hfit _

theorem State.rd_forEach {α : Type} {g : Fld} {f : State → α → State} (hf : ∀ s x, (f s x).rd g = s.rd g) (l : List α) (s : State) :
    (s.forEach l f).rd g = s.rd g := by
  induction l generalizing s with
  | nil => rfl
  | cons x l ih => exact (ih (f s x)).trans (hf s x)

/-- After a write to a register with locked fields, every field beside the mitten's reads as the write leaves it. -/
theorem State.rd_afterWrite_of_rwRun0 (s : State) {r : Reg.Info} {a : Nat} (hfind : Reg.find a = some r) (hrun0 : r.rwRun0 ≠ 0)
    (v : Word) {g : Fld} (hg : besideMitten g = true ∨ a ≠ Reg.CUF_MITTEN) : (s.afterWrite r a v).rd g = s.rd g := by
  have hnot := not_mem_of_rwRun0 hfind hrun0
  obtain ⟨hmem, -, -⟩ := Reg.le_last_of_find hfind
  obtain ⟨-, hhbm, hliner⟩ := rwRun0_rows r hmem hrun0
  simp only [List.mem_cons, List.not_mem_nil, or_false, not_or] at hnot
  obtain ⟨htime, hpin, hbon, hfirst, -⟩ := hnot
  unfold State.afterWrite
  rw [if_neg htime, if_neg hpin]
  split
  · next hmitten => exact State.rd_forEach (fun s l => s.rd_updMitten_beside l (hg.resolve_right (not_not_intro hmitten))) _ _
  · rfl

/-- WR_REFUSED of the Cuff is set by a write that RUN locks (R99). -/
theorem State.rd_writeRefusals_of_locked (s : State) {r : Reg.Info} {m : Nat} (h : s.writeLocked r m = true) (a : Nat) (v : Word) :
    (s.writeRefusals r a m v).rd Reg.CUF_STATUS_WR_REFUSED = 1 := by
  have hset : (s.flag Reg.CUF_STATUS_WR_REFUSED).rd Reg.CUF_STATUS_WR_REFUSED = 1 := by
    rw [State.rd_flag, State.rd_wr_same _ _ (by decide)]; rfl
  unfold State.writeRefusals
  rw [h]
  dsimp only
  split
  · next f hf =>
    have hmem := s.ignored_flag_mem r a v f (by rw [hf]; rfl)
    rw [State.rd_flag]
    simp only [refusalFlags, List.mem_cons, List.not_mem_nil, or_false] at hmem
    rcases hmem with rfl | rfl | rfl | rfl
    · exact State.rd_wr_same _ _ (by decide)
    all_goals exact (State.rd_wr_ne _ _ (by decide)).trans hset
  · exact hset

theorem halfMask_and_all (half : Option Bool) : halfMask half &&& ((2 ^ 64 - 1) ^^^ 0) = halfMask half := by
  rcases half with _ | _ | _ <;> decide

/-- A write that RUN locks shows its refusal and leaves every locked bit of its register (R99). -/
theorem State.plainWrite_of_locked (s : State) {r : Reg.Info} {a m : Nat} (v : Word) (hfind : Reg.find a = some r)
    (h : s.writeLocked r m = true) :
    (s.plainWrite r a m v).rdb Reg.CUF_STATUS_WR_REFUSED = true ∧
      ∀ i < 64, nbit r.rwRun0 i = true → ((s.plainWrite r a m v).reg a).getLsbD i = (s.reg a).getLsbD i := by
  have hrun0 : r.rwRun0 ≠ 0 := fun hzero => by
    rw [State.writeLocked, hzero, Nat.zero_and] at h
    simp at h
  have hnot := not_mem_of_rwRun0 hfind hrun0
  have hstatus : a ∉ [Reg.CUF_STATUS, Reg.LDR_STATUS, Reg.BON_STATUS, Reg.PLM_STATUS] := fun hmem => hnot (by
    simp only [List.mem_cons, List.not_mem_nil, or_false] at hmem ⊢
    tauto)
  have htime : a ≠ Reg.TIME_CTRL := fun hmem => hnot (by simp [hmem])
  have hcuf : Reg.CUF_STATUS_WR_REFUSED.addr ≠ a := fun hmem => hstatus (by rw [← hmem]; decide)
  have hw1c := (rwRun0_rows r (Reg.le_last_of_find hfind).1 hrun0).1
  have hwhole : besideMitten (wordAt a) = true ∨ a ≠ Reg.CUF_MITTEN := by
    by_cases hmitten : a = Reg.CUF_MITTEN
    · exact .inl (hmitten ▸ by decide)
    · exact .inr hmitten
  rw [s.plainWrite_eq]
  dsimp only
  rw [if_neg htime]
  refine ⟨?_, fun i hi hbit => ?_⟩
  · rw [State.rdb_eq, State.rd_afterWrite_of_rwRun0 _ hfind hrun0 _ (.inl (by decide)), State.rd_setReg_ne _ _ hcuf]
    exact bne_iff_ne.mpr (by rw [show (State.noteDriver _ _ _).rd _ = _ from s.rd_writeRefusals_of_locked h a v]; decide)
  · have hopen : nbit (s.openBits r a m v) i = false := by
      rw [State.openBits, h, nbit_and, nbit_complement _ hi, nbit_or, if_pos rfl, hbit]
      simp
    have hclear : nbit ((s.writeRefusals r a m v).clearBits r a m) i = false := by
      rw [nbit_clearBits _ _ _ _ hi, hw1c, nbit_eq_testBit, Nat.zero_testBit]; rfl
    rw [State.reg_eq_of_rd_wordAt (State.rd_afterWrite_of_rwRun0 _ hfind hrun0 _ hwhole), State.reg_setReg_same,
      State.getLsbD_writtenWord_kept _ _ _ _ _ hi hopen hclear, s.reg_writeRefusals r a m v hstatus]

theorem State.runLocked_of_run (s : State) (h : s.run = true) (f : State → State) : s.runLocked f = s.flag Reg.CUF_STATUS_WR_REFUSED :=
  if_pos h

/-- Settles O8: RUN turns a locked write into its refusal. -/
theorem runLocksConfiguration : Obligations.RunLocksConfiguration := by
  unfold Obligations.RunLocksConfiguration
  intro s hlive hrun
  refine ⟨fun g n f hon => ?_, fun k o b hon => ?_, fun l rq v hon => ?_,
    fun o half v r ho hlow hhigh hfind hon hmgmt hreach => ?_⟩
  · have harm : exec (.rgnClkWrite g n f) s = execRgnClkWrite g n f s := rfl
    rw [harm, execRgnClkWrite, s.busWrite_of_on hlive hon, s.runLocked_of_run hrun]
  · have harm : exec (.hbmCapWrite k o b) s = execHbmCapWrite k o b s := rfl
    rw [harm, execHbmCapWrite, s.busWrite_of_on hlive hon, s.runLocked_of_run hrun]
  · have harm : exec (.queueCfgWrite l rq v) s = execQueueCfgWrite l rq v s := rfl
    rw [harm, execQueueCfgWrite, s.busWrite_of_on hlive hon, if_pos hrun, State.cufRefuse]
  · have hlocked : s.writeLocked r (halfMask half) = true := by
      rw [State.writeLocked, hrun, Bool.true_and, bne_iff_ne]
      exact hreach
    have hexec := exec_registerWrite_of_find half v hlive ho hlow hhigh hfind hon
    rw [hmgmt, halfMask_and_all] at hexec
    obtain ⟨hrefused, hbits⟩ := s.plainWrite_of_locked v hfind hlocked
    exact ⟨_, hexec, hrefused, hbits⟩

/-! ### The access commands -/

/-- Settles O11: each access command has the effect of the operation it calls. -/
theorem accessCommandsComplete : Obligations.AccessCommandsComplete := by
  unfold Obligations.AccessCommandsComplete
  refine ⟨fun s o half v hlive ho => exec_registerWrite_bar0 half v hlive ho, fun s o v hlive ho => ?_,
    fun s o r hlive hfind hcounter hon => exec_counterClear hlive hfind hcounter hon, fun s o r hlive hfind hon => ?_,
    fun s bar2 write o hlive => execBarAccessError_of_live hlive bar2 write o, fun s o hlive => ?_, fun s hlive hoffset hread => ?_,
    fun s hlive hread => ?_, fun s e hlive => ?_⟩
  · have harm : exec (.registerWrite true o none v) s = execRegisterWrite true o none v s := rfl
    rw [harm, execRegisterWrite]
    simp [hlive, ho]
  · have harm : exec (.hwmClear o) s = execHwmClear o s := rfl
    rw [harm, execHwmClear, hfind]
    dsimp only
    rw [s.busWrite_of_on hlive hon]
    rfl
  · have harm : exec (.smbusBlockWrite o) s = execSmbusBlockWrite o s := rfl
    rw [harm, execSmbusBlockWrite, if_pos hlive]
  · have harm : exec .smbusBlockRead s = execSmbusBlockRead s := rfl
    rw [harm, execSmbusBlockRead]
    simp [hlive, hoffset, hread]
  · have harm : exec .smbusBlockRead s = execSmbusBlockRead s := rfl
    rw [harm, execSmbusBlockRead]
    simp [hlive, hread]
  · have harm : exec (.msixUnmask e) s = execMsixUnmask e s := rfl
    rw [harm, execMsixUnmask, hlive]
    rfl

end Sys2Proof.Machine
end

section
/-! PROOFS. Stored words and sectors (R275, R279, R290, R382): bytes just written read back, and those outside stay. -/
namespace Sys2Proof.Machine

/-! ### Runs of bytes -/

theorem Memory.readBytes_congr {m m' : Memory} {a n : Nat} (h : ∀ i, a ≤ i → i < a + n → m.read i = m'.read i) :
    m.readBytes a n = m'.readBytes a n := by
  induction n generalizing a with
  | zero => rfl
  | succ n ih =>
    rw [Memory.readBytes, Memory.readBytes, h a (Nat.le_refl a) (by omega), ih fun i hi hlt => h i (by omega) (by omega)]

/-- Bytes just written read back. -/
theorem Memory.readBytes_writeBytes (m : Memory) (a : Nat) (bs : List Byte) : (m.writeBytes a bs).readBytes a bs.length = bs := by
  induction bs generalizing m a with
  | nil => rfl
  | cons b bs ih =>
    have hfirst : (m.writeBytes a (b :: bs)).read a = b := by
      rw [Memory.writeBytes, Memory.read_writeBytes_out _ _ _ _ (.inl (Nat.lt_succ_self a)), Memory.read_write_same]
    rw [List.length_cons, Memory.readBytes, hfirst, Memory.writeBytes, ih]

/-- Bytes outside those written read as before. -/
theorem Memory.readBytes_writeBytes_out (m : Memory) {a a' n : Nat} {bs : List Byte} (h : a' + n ≤ a ∨ a + bs.length ≤ a') :
    (m.writeBytes a bs).readBytes a' n = m.readBytes a' n :=
  Memory.readBytes_congr fun i hi hlt => Memory.read_writeBytes_out m a i bs (by omega)

/-! ### Words of HBM -/

theorem encodeWord_length {d : List Byte} (h : d.length = 32) : (encodeWord d).length = 36 := by
  rw [encodeWord, List.length_append, h]; rfl

theorem bytesOf_length (v : RWord) : (bytesOf v).length = 32 := by
  cases v with
  | none => rfl
  | some n => exact leBytes_length 32 n

theorem decodeWord_encodeWord {d : List Byte} (h : d.length = 32) : decodeWord (encodeWord d) = .ok d :=
  (wordCodeCorrectsOneByte d h).1

/-- Data bytes that are not the poison pattern are the number they hold (R279). -/
theorem wordOf_leBytes {n : Nat} (hn : n < 2 ^ 256) (hpoison : leBytes 32 n ≠ poisonBytes) : wordOf (leBytes 32 n) = some n := by
  have hpow : 256 ^ 32 = 2 ^ 256 := by norm_num
  rw [wordOf, if_neg hpoison, ofLeBytes_leBytes, hpow, Nat.mod_eq_of_lt hn]

/-- A write to a stack that is UP stores the word's code and counts it (R275, R277). -/
theorem State.hbmWrite_of_up (s : State) {w : Nat} (hw : w / stackWords < 8) (hup : s.stackUp (w / stackWords) = true) (v : RWord) :
    s.hbmWrite w v = (s.count (Reg.HBM_WR_WORD_CNT (w / stackWords)) 1).hbmStore w (encodeWord (bytesOf v)) := by
  rw [State.hbmWrite, if_neg (Nat.not_le.mpr hw), hup, if_neg (by decide)]

theorem State.hbm_hbmWrite_of_up (s : State) {w : Nat} (hw : w / stackWords < 8) (hup : s.stackUp (w / stackWords) = true) (v : RWord) :
    (s.hbmWrite w v).hbm = s.hbm.writeBytes (36 * w) (encodeWord (bytesOf v)) := by
  rw [s.hbmWrite_of_up hw hup, State.hbmStore, State.count_hbm]

/-- Counting a word leaves the stacks' states. -/
theorem State.stackUp_count (s : State) {k j a : Nat} (ha : a = Reg.HBM_WR_WORD_CNT j ∨ a = Reg.HBM_RD_WORD_CNT j) :
    (s.count a 1).stackUp k = s.stackUp k := by
  have hne : (Reg.HBM_STATUS_STATE k).addr ≠ a := by
    rcases ha with rfl | rfl
    · unfold Reg.HBM_STATUS_STATE Reg.HBM_STATUS Reg.HBM_WR_WORD_CNT; dsimp only; omega
    · unfold Reg.HBM_STATUS_STATE Reg.HBM_STATUS Reg.HBM_RD_WORD_CNT; dsimp only; omega
  rw [State.stackUp, State.stackUp, State.rd_count_ne _ _ hne]

theorem State.stackUp_hbmStore (s : State) (w k : Nat) (bs : List Byte) : (s.hbmStore w bs).stackUp k = s.stackUp k := rfl

/-- A word just written is stored as its code. -/
theorem State.hbmStored_hbmWrite_same (s : State) {w : Nat} (hw : w / stackWords < 8) (hup : s.stackUp (w / stackWords) = true)
    (v : RWord) : (s.hbmWrite w v).hbmStored w = encodeWord (bytesOf v) := by
  have hlen : (encodeWord (bytesOf v)).length = 36 := encodeWord_length (bytesOf_length v)
  rw [State.hbmStored, s.hbm_hbmWrite_of_up hw hup, ← hlen, Memory.readBytes_writeBytes]

theorem State.hbmStored_hbmWrite_ne (s : State) {w w' : Nat} (hw : w / stackWords < 8) (hup : s.stackUp (w / stackWords) = true)
    (v : RWord) (h : w' ≠ w) : (s.hbmWrite w v).hbmStored w' = s.hbmStored w' := by
  have hlen : (encodeWord (bytesOf v)).length = 36 := encodeWord_length (bytesOf_length v)
  rw [State.hbmStored, State.hbmStored, s.hbm_hbmWrite_of_up hw hup, Memory.readBytes_writeBytes_out _ (by omega)]

/-- What a read of a whole word of an UP stack gives: poison where the word is HARD, and otherwise what its data bytes stand for. -/
theorem State.hbmRead_of_whole (s : State) {w : Nat} (hw : w / stackWords < 8) (hup : s.stackUp (w / stackWords) = true)
    (source : Nat) {d : List Byte} (hd : decodeWord (s.hbmStored w) = .ok d) :
    (s.hbmRead w source).2 = if w ∈ s.mem.hard then none else wordOf d := by
  have hstored : (s.count (Reg.HBM_RD_WORD_CNT (w / stackWords)) 1).hbmStored w = s.hbmStored w := by
    rw [State.hbmStored, State.count_hbm, State.hbmStored]
  rw [State.hbmRead]
  dsimp only
  rw [if_neg (Nat.not_le.mpr hw), hup, if_neg (by decide), State.count_mem, hstored, hd]
  split <;> rfl

theorem wordOf_poisonBytes : wordOf poisonBytes = none := if_pos rfl

/-- Settles O47: what an UP stack has stored decodes to what was written, and other words' bytes are not touched. -/
theorem hbmReadsBackWhatWasWritten : Obligations.HbmReadsBackWhatWasWritten := by
  unfold Obligations.HbmReadsBackWhatWasWritten
  intro s w n hw hup hn hpoison
  have hread : ∀ v, ((s.hbmWrite w v).hbmRead w 0).2 = if w ∈ s.mem.hard then none else wordOf (bytesOf v) := fun v => by
    have hup' : (s.hbmWrite w v).stackUp (w / stackWords) = true := by
      rw [s.hbmWrite_of_up hw hup, State.stackUp_hbmStore, s.stackUp_count (.inl rfl), hup]
    have hmem : (s.hbmWrite w v).mem = s.mem := by rw [s.hbmWrite_of_up hw hup, State.hbmStore, State.count_mem]
    have hdecode : decodeWord ((s.hbmWrite w v).hbmStored w) = .ok (bytesOf v) := by
      rw [s.hbmStored_hbmWrite_same hw hup, decodeWord_encodeWord (bytesOf_length v)]
    rw [State.hbmRead_of_whole _ hw hup' 0 hdecode, hmem]
  refine ⟨fun hhard => ?_, ?_, fun w' hne => s.hbmStored_hbmWrite_ne hw hup _ hne⟩
  · rw [hread, if_neg hhard, bytesOf, wordOf_leBytes hn hpoison]
  · rw [hread, bytesOf, wordOf_poisonBytes, ite_self]

/-! ### Sectors of NVM -/

theorem length_flatMap_leBytes (l : List Nat) (f : Nat → Nat) : (l.flatMap fun i => leBytes 8 (f i)).length = 8 * l.length := by
  induction l with
  | nil => rfl
  | cons i l ih => rw [List.flatMap_cons, List.length_append, ih, leBytes_length, List.length_cons]; omega

theorem State.nvmBuf_length (s : State) : s.nvmBuf.length = 4096 := by
  rw [State.nvmBuf, length_flatMap_leBytes, List.length_range]

/-- The NVM bytes that a program operation leaves: the sector erased and then written (R382). -/
theorem State.program_bytes (s : State) (sector : Nat) (bs : List Byte) :
    (s.program sector bs).nvm.bytes =
      Memory.writeBytes (SMap.clear s.nvm.bytes fun a => a / 4096 == sector) (4096 * sector) (bs.take 4096) := rfl

theorem State.program_wear (s : State) (sector : Nat) (bs : List Byte) :
    (s.program sector bs).nvm.wear = SMap.set (fun _ => 0) s.nvm.wear sector (SMap.get (fun _ => 0) s.nvm.wear sector + 1) := rfl

/-- Settles O57: a programmed sector holds the buffer, and erasing it touches no other byte. -/
theorem programmedSectorReadsBack : Obligations.ProgrammedSectorReadsBack := by
  unfold Obligations.ProgrammedSectorReadsBack
  intro s sector
  have hlen := s.nvmBuf_length
  have htake : s.nvmBuf.take 4096 = s.nvmBuf := List.take_of_length_le hlen.le
  refine ⟨?_, fun a ha => ?_, ?_⟩
  · rw [s.program_bytes, htake]
    have hback := Memory.readBytes_writeBytes (SMap.clear s.nvm.bytes fun a => a / 4096 == sector) (4096 * sector) s.nvmBuf
    rwa [hlen] at hback
  · have herased : Memory.read (SMap.clear s.nvm.bytes fun a => a / 4096 == sector) a = s.nvm.bytes.read a := by
      rw [Memory.read, SMap.get_clear, if_neg (by simpa using ha), Memory.read]
    rw [s.program_bytes, htake, Memory.read_writeBytes_out _ _ _ _ (by omega), herased]
  · rw [s.program_wear, SMap.get_set_same]

end Sys2Proof.Machine
end

section
/-! PROOFS. Recovery of the Palm's budget (R422), beacon stamps (R35) and stretched periods (R50, R51). -/
namespace Sys2Proof.Machine

/-! ### The Palm's budget -/

/-- The budget after a step of recovery: a twentieth of GRADE more, and GRADE at most (R422). -/
def State.nextBudget (s : State) : Nat :=
  min (s.rd Reg.PLM_BUDGET_GRADE) (s.rd Reg.PLM_BUDGET_EFFECTIVE + (s.rd Reg.PLM_BUDGET_GRADE + 19) / 20)

theorem State.nextBudget_lt (s : State) : s.nextBudget < 2 ^ 8 := (Nat.min_le_left _ _).trans_lt (fget_lt _ 7 0)

/-- The state that a step of recovery meets when it is due. -/
def State.recoveryDue (s : State) : State := { s with cyc := max s.cyc (s.pwr.recoverAt.getD 0) }

theorem exec_budgetRecoveryStep_done {s : State} (h : s.pwr.recoverAt = none) :
    exec .budgetRecoveryStep s.recoveryDue = .next s.recoveryDue := by
  have harm : exec .budgetRecoveryStep s.recoveryDue = execBudgetRecoveryStep s.recoveryDue := rfl
  have hnone : s.recoveryDue.pwr.recoverAt = none := h
  rw [harm, execBudgetRecoveryStep, hnone]

/-- A step of recovery that is due raises the budget; at GRADE the input is NORMAL and recovery is over (R422). -/
theorem budgetRecoveryStep_due {s u : State} {t : Nat} (h : s.pwr.recoverAt = some t)
    (hexec : exec .budgetRecoveryStep s.recoveryDue = .next u) :
    u.rd Reg.PLM_BUDGET_GRADE = s.rd Reg.PLM_BUDGET_GRADE ∧ u.rd Reg.PLM_BUDGET_EFFECTIVE = s.nextBudget ∧
      (s.nextBudget = s.rd Reg.PLM_BUDGET_GRADE → u.rd Reg.PWR_STATUS_INPUT = 0 ∧ u.pwr.recoverAt = none) ∧
      (s.nextBudget ≠ s.rd Reg.PLM_BUDGET_GRADE → u.pwr.recoverAt.isSome = true) := by
  have harm : exec .budgetRecoveryStep s.recoveryDue = execBudgetRecoveryStep s.recoveryDue := rfl
  have hsome : s.recoveryDue.pwr.recoverAt = some t := h
  have hdue : ¬ s.recoveryDue.cyc < t := by
    rw [State.recoveryDue, h]
    exact Nat.not_lt.mpr (Nat.le_max_right _ _)
  have hbudget : s.recoveryDue.nextBudget = s.nextBudget := rfl
  have hgrade : s.recoveryDue.rd Reg.PLM_BUDGET_GRADE = s.rd Reg.PLM_BUDGET_GRADE := rfl
  generalize s.recoveryDue = d at harm hsome hdue hbudget hgrade hexec
  have heff : (d.wr Reg.PLM_BUDGET_EFFECTIVE d.nextBudget).rd Reg.PLM_BUDGET_EFFECTIVE = d.nextBudget := by
    rw [State.rd_wr_same _ _ (by decide)]
    exact Nat.mod_eq_of_lt d.nextBudget_lt
  have hkeep : (d.wr Reg.PLM_BUDGET_EFFECTIVE d.nextBudget).rd Reg.PLM_BUDGET_GRADE = d.rd Reg.PLM_BUDGET_GRADE :=
    State.rd_wr_apart _ _ (by decide) (by decide) (by decide)
  have hstep : execBudgetRecoveryStep d =
      (if d.nextBudget = d.rd Reg.PLM_BUDGET_GRADE then
        .next { (d.wr Reg.PLM_BUDGET_EFFECTIVE d.nextBudget).wr Reg.PWR_STATUS_INPUT 0 with pwr := { d.pwr with recoverAt := none } }
      else .next { d.wr Reg.PLM_BUDGET_EFFECTIVE d.nextBudget with pwr := { d.pwr with recoverAt := some (t + 10000) } }) := by
    rw [execBudgetRecoveryStep, hsome]
    dsimp only
    rw [if_neg hdue]
    rfl
  rw [harm, hstep] at hexec
  rw [← hbudget, ← hgrade]
  split at hexec
  · next hfull =>
    rw [← Host.Outcome.next.inj hexec]
    refine ⟨?_, ?_, fun _ => ⟨?_, rfl⟩, fun hne => absurd hfull hne⟩
    · rw [State.rd_pwr, State.rd_wr_ne _ _ (by decide), hkeep]
    · rw [State.rd_pwr, State.rd_wr_ne _ _ (by decide), heff]
    · rw [State.rd_pwr, State.rd_wr_same _ _ (by decide)]; rfl
  · next hless =>
    rw [← Host.Outcome.next.inj hexec]
    exact ⟨hkeep, heff, fun hfull => absurd hfull hless, fun _ => rfl⟩

/-- Where recovery stands after `i` steps from half of GRADE: it is over, at GRADE, or the budget has grown with every step. -/
def State.recovering (s : State) (grade i : Nat) : Prop :=
  s.rd Reg.PLM_BUDGET_GRADE = grade ∧
    ((s.pwr.recoverAt = none ∧ s.rd Reg.PLM_BUDGET_EFFECTIVE = grade ∧ s.rd Reg.PWR_STATUS_INPUT = 0) ∨
     (s.pwr.recoverAt.isSome = true ∧ s.rd Reg.PLM_BUDGET_EFFECTIVE ≤ grade ∧ (0 < grade → s.rd Reg.PLM_BUDGET_EFFECTIVE < grade) ∧
       grade / 2 + i * ((grade + 19) / 20) ≤ s.rd Reg.PLM_BUDGET_EFFECTIVE))

theorem State.recovering_step {s u : State} {grade i : Nat} (h : s.recovering grade i)
    (hexec : exec .budgetRecoveryStep s.recoveryDue = .next u) : u.recovering grade (i + 1) := by
  obtain ⟨hgrade, ⟨hnone, heff, hinput⟩ | ⟨hsome, hle, hlt, hgrown⟩⟩ := h
  · rw [exec_budgetRecoveryStep_done hnone] at hexec
    rw [← Host.Outcome.next.inj hexec]
    exact ⟨hgrade, .inl ⟨hnone, heff, hinput⟩⟩
  · obtain ⟨t, ht⟩ := Option.isSome_iff_exists.mp hsome
    obtain ⟨hgrade', heff, hfull, hless⟩ := budgetRecoveryStep_due ht hexec
    have hnext : s.nextBudget = min grade (s.rd Reg.PLM_BUDGET_EFFECTIVE + (grade + 19) / 20) := by rw [State.nextBudget, hgrade]
    refine ⟨hgrade'.trans hgrade, ?_⟩
    by_cases hg : s.nextBudget = s.rd Reg.PLM_BUDGET_GRADE
    · obtain ⟨hinput, hnone⟩ := hfull hg
      exact .inl ⟨hnone, heff.trans (hg.trans hgrade), hinput⟩
    · have hsucc : (i + 1) * ((grade + 19) / 20) = i * ((grade + 19) / 20) + (grade + 19) / 20 := Nat.succ_mul ..
      rw [hgrade] at hg
      exact .inr ⟨hless (by rwa [hgrade]), by omega, by omega, by omega⟩

/-- Settles O50: ten steps of a twentieth each make up the missing half, and no step passes GRADE. -/
theorem budgetRecoversInTenSteps : Obligations.BudgetRecoversInTenSteps := by
  unfold Obligations.BudgetRecoversInTenSteps
  intro f hhalf hsome hexec
  generalize hg : (f 0).rd Reg.PLM_BUDGET_GRADE = grade
  rw [hg] at hhalf
  have hall : ∀ i, (f i).recovering grade i := fun i => by
    induction i with
    | zero => exact ⟨hg, .inr ⟨hsome, by omega, by omega, by omega⟩⟩
    | succ i ih => exact State.recovering_step ih (hexec i)
  refine ⟨fun hpos => ?_, fun i => ?_⟩
  · obtain ⟨-, ⟨hnone, heff, hinput⟩ | ⟨-, -, hlt, hgrown⟩⟩ := hall 10
    · exact ⟨heff, hinput, hnone⟩
    · have := hlt hpos
      omega
  · obtain ⟨-, ⟨-, heff, -⟩ | ⟨-, hle, -, -⟩⟩ := hall i
    · exact heff.le
    · exact hle

/-! ### Beacon stamps -/

/-- Settles O54: the stamp's value lies within half of 2^28 of the crown, and values with its bits are 2^28 apart. -/
theorem stampExtendsToTheNearestValue : Obligations.StampExtendsToTheNearestValue := by
  unfold Obligations.StampExtendsToTheNearestValue
  intro x near hx
  have hbase : ((near - near % 2 ^ 28 + x : Nat) : Int) = 2 ^ 28 * ((near / 2 ^ 28 : Nat) : Int) + x := by omega
  have hvalue : ∃ k : Int, extendStamp x near = 2 ^ 28 * k + x ∧ -(2 ^ 27) ≤ 2 ^ 28 * k + x - near ∧ 2 ^ 28 * k + x - near ≤ 2 ^ 27 := by
    unfold extendStamp
    dsimp only
    rw [hbase]
    split
    · exact ⟨((near / 2 ^ 28 : Nat) : Int) - 1, by omega, by omega, by omega⟩
    · split
      · exact ⟨((near / 2 ^ 28 : Nat) : Int) + 1, by omega, by omega, by omega⟩
      · exact ⟨((near / 2 ^ 28 : Nat) : Int), rfl, by omega, by omega⟩
  obtain ⟨k, hk, hlow, hhigh⟩ := hvalue
  rw [hk]
  refine ⟨by omega, fun y hy => ?_⟩
  omega

/-! ### Remembered stretches -/

section
variable {s t : State} {g : Nat}

/-- `t` differs from `s` in no region's clock but that of `g`, whose remembered stretches are as before. -/
def State.KeepsStretches (s t : State) (g : Nat) : Prop :=
  (t.rg g).stretches = (s.rg g).stretches ∧ ∀ g', g' ≠ g → t.rg g' = s.rg g'

theorem State.KeepsStretches.refl : s.KeepsStretches s g := ⟨rfl, fun _ _ => rfl⟩

theorem State.KeepsStretches.trans {u : State} (h : s.KeepsStretches t g) (h' : t.KeepsStretches u g) :
    s.KeepsStretches u g :=
  ⟨h'.1.trans h.1, fun g' hg => (h'.2 g' hg).trans (h.2 g' hg)⟩

theorem State.keepsStretches_of_rg (h : ∀ k, t.rg k = s.rg k) : s.KeepsStretches t g :=
  ⟨by rw [h], fun k _ => h k⟩

theorem State.keepsStretches_setRg {x : RgnSt} (h : x.stretches = (s.rg g).stretches) :
    s.KeepsStretches (s.setRg g x) g :=
  ⟨by rw [State.rg_setRg_same, h], fun _ hne => by rw [State.rg_setRg, if_neg hne]⟩

theorem State.keepsStretches_orderStop : s.KeepsStretches (s.orderStop g) g := by
  unfold State.orderStop
  split
  · exact State.keepsStretches_setRg rfl
  · exact State.keepsStretches_setRg rfl

theorem State.keepsStretches_startStep : s.KeepsStretches (s.startStep g) g := by
  unfold State.startStep
  split
  · exact .refl
  · exact State.keepsStretches_orderStop.trans (State.keepsStretches_of_rg fun k => State.rg_count _ _ _ k)

end

/-- What a clock remembers once it has ordered a stretch of its next cycle: that cycle, and what lies within 1,024 of it. -/
def RgnSt.stretchesOrdered (r : RgnSt) : List Nat :=
  (r.cycle + 1) :: (r.stretches.filter fun x => r.cycle + 1 < x + 1024)

/-- A droop orders a stretch of the next cycle where R48 leaves one, or remembers no further stretch. -/
theorem droopDetected_stretches {s t : State} {g : Fin 17} (h : exec (.droopDetected g) s = .next t) :
    s.KeepsStretches t g ∨
      mayStretch (s.rg g).stretches (s.rg g).cycle = true ∧ (t.rg g).stretches = (s.rg g).stretchesOrdered ∧
        ∀ g', g' ≠ g.val → t.rg g' = s.rg g' := by
  have harm : exec (.droopDetected g) s = execDroopDetected g s := rfl
  rw [harm, execDroopDetected] at h
  have hmark : s.KeepsStretches (s.setRg g { s.rg g with droopAt := s.cyc }) g := State.keepsStretches_setRg rfl
  split at h
  · obtain rfl := Host.Outcome.next.inj h
    exact .inl .refl
  dsimp only at h
  generalize s.setRg g { s.rg g with droopAt := s.cyc } = marked at h hmark
  split at h
  · obtain rfl := Host.Outcome.next.inj h
    exact .inl hmark
  split at h
  · rename_i hmay
    obtain rfl := Host.Outcome.next.inj h
    refine .inr ⟨hmay, ?_, fun g' hne => ?_⟩
    · split
      · rw [State.rg_count, State.rg_setRg_same, RgnSt.stretchesOrdered]
      · rw [State.rg_setRg_same, RgnSt.stretchesOrdered]
    · have hother := hmark.2 g' hne
      split
      · rw [State.rg_count, State.rg_setRg, if_neg hne, hother]
      · rw [State.rg_setRg, if_neg hne, hother]
  split at h
  · split at h
    · obtain rfl := Host.Outcome.next.inj h
      refine .inl (hmark.trans (State.KeepsStretches.trans ?_ State.keepsStretches_startStep))
      refine State.KeepsStretches.trans ?_ (State.keepsStretches_of_rg fun k => State.rg_wr _ _ _ k)
      exact State.keepsStretches_setRg rfl
    · obtain rfl := Host.Outcome.next.inj h
      exact .inl hmark
  · obtain rfl := Host.Outcome.next.inj h
    exact .inl (hmark.trans State.keepsStretches_orderStop)

/-- Settles O55: `mayStretch` asks for eight cycles since the last stretch and for fewer than 51 within 1,024. -/
theorem stretchesStayApart : Obligations.StretchesStayApart := by
  unfold Obligations.StretchesStayApart
  intro s t g hapart hfew h
  obtain ⟨hsame, hother⟩ | ⟨hmay, hordered, hother⟩ := droopDetected_stretches h
  · rw [hsame]
    exact ⟨hapart, hfew, fun x hx => .inl hx, hother⟩
  · rw [mayStretch, Bool.and_eq_true, List.all_eq_true, decide_eq_true_eq] at hmay
    obtain ⟨hgap, hroom⟩ := hmay
    rw [hordered, RgnSt.stretchesOrdered]
    refine ⟨List.pairwise_cons.2 ⟨fun x hx => ?_, hapart.filter _⟩, ?_, fun x hx => ?_, hother⟩
    · have := of_decide_eq_true (hgap x (List.mem_of_mem_filter hx))
      omega
    · rw [List.length_cons]
      omega
    · obtain rfl | hx := List.mem_cons.1 hx
      · exact .inr rfl
      · exact .inl (List.mem_of_mem_filter hx)

end Sys2Proof.Machine
end

section
/-! PROOFS. What stands on the wire (R122 to R130, R156, R159): packed fields read back, and a CRC finds one flipped bit. -/
namespace Sys2Proof.Machine

/-! ### Fields of packed numbers -/

/-- Settles O56: the fields of the route word are packed side by side, each within its width. -/
theorem routeWordCarriesItsFields : Obligations.RouteWordCarriesItsFields := by
  unfold Obligations.RouteWordCarriesItsFields
  intro f src pkt born dr dq sr rtag rn kind hdr data hsrc hpkt hborn hdr' hdq hsr hrtag hrn hkind hhdr hpayload
  simp only [rwSrc, rwPkt, rwBorn, rwDstRank, rwDstQ, rwSrcRank, rwRtag, rwReplyN, rwKind, rwHdr, rwData, nbits]
  rw [hpayload, routeWord]
  refine ⟨?_, ?_, ?_, ?_, ?_, ?_, ?_, ?_, ?_, ?_, ?_⟩
  all_goals omega

theorem b2n_le_one (b : Bool) : b2n b ≤ 1 := by cases b <;> decide

/-- What is put into data bits stands there. -/
theorem nbits_putBits (x p n v : Nat) : nbits (putBits x p (n + 1) v) (p + (n + 1) - 1) p = v % 2 ^ (n + 1) := by
  have hsplit : putBits x p (n + 1) v = x % 2 ^ p + 2 ^ p * (v % 2 ^ (n + 1) + 2 ^ (n + 1) * (x / 2 ^ (p + (n + 1)))) := by
    rw [putBits, Nat.pow_add 2 p]
    ring
  rw [hsplit, nbits, show p + (n + 1) - 1 + 1 - p = n + 1 by omega, Nat.add_mul_div_left _ _ (Nat.two_pow_pos p),
    Nat.div_eq_of_lt (Nat.mod_lt x (Nat.two_pow_pos p)), Nat.zero_add, Nat.add_mul_mod_self_left, Nat.mod_mod]

theorem xor_two_pow_ne (x i : Nat) : x ^^^ 2 ^ i ≠ x := fun h =>
  (Nat.two_pow_pos i).ne' (Nat.xor_right_injective (h.trans (Nat.xor_zero x).symm : (x ^^^ ·) (2 ^ i) = (x ^^^ ·) 0))

theorem xor_two_pow_lt {x i n : Nat} (hx : x < 2 ^ n) (hi : i < n) : x ^^^ 2 ^ i < 2 ^ n :=
  Nat.xor_lt_two_pow hx (Nat.pow_lt_pow_right Nat.one_lt_two hi)

theorem add_two_pow_mul_lt {x y p q n : Nat} (hn : p + q = n) (hx : x < 2 ^ p) (hy : y < 2 ^ q) : x + 2 ^ p * y < 2 ^ n :=
  calc x + 2 ^ p * y < 2 ^ p + 2 ^ p * y := Nat.add_lt_add_right hx _
    _ = 2 ^ p * (y + 1) := by ring
    _ ≤ 2 ^ p * 2 ^ q := Nat.mul_le_mul_left _ hy
    _ = 2 ^ n := by rw [← hn, Nat.pow_add]

/-- Nothing else moves. -/
theorem nbit_putBits_out {x p n v i : Nat} (h : i < p ∨ p + n ≤ i) : nbit (putBits x p n v) i = nbit x i := by
  have hfield := add_two_pow_mul_lt rfl (Nat.mod_lt x (Nat.two_pow_pos p)) (Nat.mod_lt v (Nat.two_pow_pos n))
  rw [nbit_eq_testBit, nbit_eq_testBit, putBits]
  obtain hlt | hge := h
  · have hpow : x % 2 ^ p + 2 ^ p * (v % 2 ^ n) + 2 ^ (p + n) * (x / 2 ^ (p + n)) =
        2 ^ p * (v % 2 ^ n + 2 ^ n * (x / 2 ^ (p + n))) + x % 2 ^ p := by
      rw [Nat.pow_add 2 p]
      ring
    rw [hpow, Nat.testBit_two_pow_mul_add _ (Nat.mod_lt x (Nat.two_pow_pos p)), if_pos hlt, Nat.testBit_mod_two_pow,
      decide_eq_true hlt, Bool.true_and]
  · rw [Nat.add_comm, Nat.testBit_two_pow_mul_add _ hfield, if_neg (by omega), Nat.testBit_div_two_pow]
    congr 1
    omega

/-! ### Link control words and lane markers -/

theorem crc16Bit_lt (r : Nat) (b : Bool) : crc16Bit r b < 2 ^ 16 := by
  rw [crc16Bit]
  have hdouble : 2 * r % 65536 < 2 ^ 16 := Nat.mod_lt _ (by decide)
  split
  · exact Nat.xor_lt_two_pow hdouble (by decide)
  · exact hdouble

theorem crc16_lt (x n : Nat) {r : Nat} (hr : r < 2 ^ 16) : crc16 x n r < 2 ^ 16 := by
  induction n generalizing r with
  | zero => exact hr
  | succ n ih => exact ih (crc16Bit_lt _ _)

theorem crc8Bit_lt (r : Nat) (b : Bool) : crc8Bit r b < 2 ^ 8 := by
  rw [crc8Bit]
  have hdouble : 2 * r % 256 < 2 ^ 8 := Nat.mod_lt _ (by decide)
  split
  · exact Nat.xor_lt_two_pow hdouble (by decide)
  · exact hdouble

theorem crc8_lt (x n : Nat) {r : Nat} (hr : r < 2 ^ 8) : crc8 x n r < 2 ^ 8 := by
  induction n generalizing r with
  | zero => exact hr
  | succ n ih => exact ih (crc8Bit_lt _ _)

/-- A CRC-16 is of the bits it covers alone. -/
theorem crc16_congr {x y n : Nat} (r : Nat) (h : ∀ i, i < n → nbit x i = nbit y i) : crc16 x n r = crc16 y n r := by
  induction n generalizing r with
  | zero => rfl
  | succ n ih => rw [crc16, crc16, h n (Nat.lt_succ_self n), ih _ fun i hi => h i (by omega)]

theorem crc16_lcwSeal (x : Nat) : crc16 (lcwSeal x) 176 0xFFFF = crc16 x 176 0xFFFF := by
  refine crc16_congr _ fun i hi => ?_
  rw [nbit_eq_testBit, nbit_eq_testBit, lcwSeal, Nat.add_comm, Nat.testBit_two_pow_mul_add _ (Nat.mod_lt x (by decide)),
    if_pos hi, Nat.testBit_mod_two_pow, decide_eq_true hi, Bool.true_and]

/-- A sealed word keeps its bits under a CRC that holds. -/
theorem lcwSeal_holds (x : Nat) : lcwSeal x < 2 ^ 192 ∧ lcwOk (lcwSeal x) = true ∧ lcwSeal x % 2 ^ 176 = x % 2 ^ 176 := by
  have hcrc := crc16_lt x 176 (r := 0xFFFF) (by decide)
  rw [lcwOk, crc16_lcwSeal, beq_iff_eq, nbits, lcwSeal]
  generalize crc16 x 176 0xFFFF = crc at hcrc
  exact ⟨by omega, by omega, by omega⟩

/-- A lane marker is whole and names its lane, link and frame. -/
theorem laneMarker_holds {lane link : Nat} (n : Nat) (hlane : lane < 8) (hlink : link < 32) :
    markerOk (laneMarker lane link n) = true ∧ laneMarker lane link n < 2 ^ 64 ∧
      nbits (laneMarker lane link n) 55 53 = lane ∧ nbits (laneMarker lane link n) 52 48 = link ∧
      nbits (laneMarker lane link n) 47 8 = n % 2 ^ 40 := by
  have hcrc := crc8_lt (2 ^ 48 * 0xA5 + 2 ^ 45 * (lane % 8) + 2 ^ 40 * (link % 32) + n % 2 ^ 40) 56 (r := 0) (by decide)
  simp only [markerOk, laneMarker, nbits, Bool.and_eq_true, beq_iff_eq]
  rw [Nat.mul_add_div (by decide), Nat.div_eq_of_lt hcrc, Nat.add_zero]
  generalize crc8 _ 56 0 = crc at hcrc
  refine ⟨⟨?_, ?_⟩, ?_, ?_, ?_, ?_⟩
  all_goals omega

/-! ### The CRC-32 of a slot -/

theorem crc32Step_lt {c : Nat} (n : Nat) (h : c < 2 ^ 32) : crc32Step c n < 2 ^ 32 := by
  induction n generalizing c with
  | zero => exact h
  | succ n ih =>
    refine ih ?_
    split
    · exact Nat.xor_lt_two_pow (by omega) (by decide)
    · omega

/-- The polynomial's highest bit tells a step that took it from one that did not. -/
theorem testBit_crc32Poly {c : Nat} (h : c < 2 ^ 31) : (c ^^^ 0xEDB88320).testBit 31 = true := by
  rw [Nat.testBit_xor, Nat.testBit_lt_two_pow h]
  rfl

/-- One bit's step loses nothing of a register of 32 bits. -/
theorem crc32Bit_injective {c d : Nat} (hc : c < 2 ^ 32) (hd : d < 2 ^ 32)
    (h : (if c % 2 = 1 then c / 2 ^^^ 0xEDB88320 else c / 2) = if d % 2 = 1 then d / 2 ^^^ 0xEDB88320 else d / 2) : c = d := by
  have hc' : c / 2 < 2 ^ 31 := by omega
  have hd' : d / 2 < 2 ^ 31 := by omega
  split at h
  · split at h
    · have : c / 2 = d / 2 := Nat.xor_left_injective h
      omega
    · have htop := testBit_crc32Poly hc'
      rw [h, Nat.testBit_lt_two_pow hd'] at htop
      cases htop
  · split at h
    · have htop := testBit_crc32Poly hd'
      rw [← h, Nat.testBit_lt_two_pow hc'] at htop
      cases htop
    · omega

theorem crc32Step_injective {c d : Nat} (n : Nat) (hc : c < 2 ^ 32) (hd : d < 2 ^ 32) (h : crc32Step c n = crc32Step d n) :
    c = d := by
  induction n generalizing c d with
  | zero => exact h
  | succ n ih => exact crc32Bit_injective hc hd (ih (crc32Step_lt 1 hc) (crc32Step_lt 1 hd) h)

theorem xor_byte_lt {c : Nat} (b : Byte) (h : c < 2 ^ 32) : c ^^^ b.toNat < 2 ^ 32 :=
  Nat.xor_lt_two_pow h (b.isLt.trans (by decide))

theorem crc32Run_lt {c : Nat} (bs : List Byte) (h : c < 2 ^ 32) : crc32Run bs c < 2 ^ 32 := by
  induction bs generalizing c with
  | nil => exact h
  | cons b bs ih =>
    rw [crc32Run_cons]
    exact ih (crc32Step_lt 8 (xor_byte_lt b h))

/-- Registers that differ still differ after the same bytes. -/
theorem crc32Run_injective {c d : Nat} (bs : List Byte) (hc : c < 2 ^ 32) (hd : d < 2 ^ 32) (h : crc32Run bs c = crc32Run bs d) :
    c = d := by
  induction bs generalizing c d with
  | nil => exact h
  | cons b bs ih =>
    rw [crc32Run_cons, crc32Run_cons] at h
    have hstep := ih (crc32Step_lt 8 (xor_byte_lt b hc)) (crc32Step_lt 8 (xor_byte_lt b hd)) h
    exact Nat.xor_left_injective (crc32Step_injective 8 (xor_byte_lt b hc) (xor_byte_lt b hd) hstep)

/-- Bytes of which one bit has flipped leave another register. -/
theorem crc32Run_flip_ne {x i n c : Nat} (hi : i < 8 * n) (hc : c < 2 ^ 32) :
    crc32Run (leBytes n (x ^^^ 2 ^ i)) c ≠ crc32Run (leBytes n x) c := by
  induction n generalizing x i c with
  | zero => omega
  | succ n ih =>
    rw [leBytes, leBytes, crc32Run_cons, crc32Run_cons, show (256 : Nat) = 2 ^ 8 from rfl, Nat.xor_div_two_pow]
    obtain hfirst | hrest := Nat.lt_or_ge i 8
    · rw [Nat.div_eq_of_lt (Nat.pow_lt_pow_right Nat.one_lt_two hfirst), Nat.xor_zero]
      intro h
      have hregister := crc32Run_injective _ (crc32Step_lt 8 (xor_byte_lt _ hc)) (crc32Step_lt 8 (xor_byte_lt _ hc)) h
      have hbyte := Nat.xor_right_injective (crc32Step_injective 8 (xor_byte_lt _ hc) (xor_byte_lt _ hc) hregister)
      rw [BitVec.toNat_ofNat, BitVec.toNat_ofNat, Nat.xor_mod_two_pow,
        Nat.mod_eq_of_lt (Nat.pow_lt_pow_right Nat.one_lt_two hfirst)] at hbyte
      exact xor_two_pow_ne _ i hbyte
    · have hbyte : BitVec.ofNat 8 (x ^^^ 2 ^ i) = BitVec.ofNat 8 x := by
        apply BitVec.eq_of_toNat_eq
        rw [BitVec.toNat_ofNat, BitVec.toNat_ofNat, Nat.xor_mod_two_pow,
          Nat.mod_eq_zero_of_dvd (Nat.pow_dvd_pow 2 hrest), Nat.xor_zero]
      rw [hbyte, Nat.pow_div hrest (by decide)]
      exact ih (by omega) (crc32Step_lt 8 (xor_byte_lt _ hc))

theorem slotCrc_lt (x : Nat) : slotCrc x < 2 ^ 32 :=
  Nat.xor_lt_two_pow (crc32Run_lt _ (by decide)) (by decide)

/-- A slot of which one bit has flipped is errored (R129). -/
theorem slotOk_flip {x i : Nat} (hx : x < 2 ^ 3200) (hok : slotOk x = true) (hi : i < 3200) : slotOk (x ^^^ 2 ^ i) = false := by
  rw [slotOk, Bool.and_eq_true, beq_iff_eq] at hok
  have hheld : x / 2 ^ 3168 = slotCrc x := by
    have := hok.1
    rw [nbits] at this
    omega
  have hflip := xor_two_pow_lt hx hi
  rw [slotOk, Bool.and_eq_false_iff]
  refine .inl (beq_false_of_ne fun h => ?_)
  have hread : (x ^^^ 2 ^ i) / 2 ^ 3168 = slotCrc (x ^^^ 2 ^ i) := by
    rw [nbits] at h
    omega
  rw [Nat.xor_div_two_pow, hheld, slotCrc, slotCrc, Nat.xor_mod_two_pow] at hread
  obtain hbody | hcrc := Nat.lt_or_ge i 3168
  · rw [Nat.div_eq_of_lt (Nat.pow_lt_pow_right Nat.one_lt_two hbody), Nat.xor_zero,
      Nat.mod_eq_of_lt (Nat.pow_lt_pow_right Nat.one_lt_two hbody)] at hread
    exact crc32Run_flip_ne (n := 396) (by omega) (by decide) (Nat.xor_left_injective hread).symm
  · rw [Nat.mod_eq_zero_of_dvd (Nat.pow_dvd_pow 2 hcrc), Nat.xor_zero, Nat.pow_div hcrc (by decide)] at hread
    exact xor_two_pow_ne _ _ hread

/-! ### Flits in slots -/

/-- A field below `p` is of what stands below `p`. -/
theorem nbits_below {p hi : Nat} (x y lo : Nat) (h : hi < p) : nbits (x + 2 ^ p * y) hi lo = nbits x hi lo := by
  rw [nbits, nbits]
  obtain hwidth | hwidth := Nat.eq_zero_or_pos (hi + 1 - lo)
  · rw [hwidth, Nat.pow_zero, Nat.mod_one, Nat.mod_one]
  · have hp : 2 ^ p * y = 2 ^ lo * (2 ^ (hi + 1 - lo) * (2 ^ (p - hi - 1) * y)) := by
      rw [← Nat.mul_assoc, ← Nat.mul_assoc, ← Nat.pow_add, ← Nat.pow_add]
      congr 2
      omega
    rw [hp, Nat.add_mul_div_left _ _ (Nat.two_pow_pos lo), Nat.add_mul_mod_self_left]

/-- A field from `p` on is of what stands there. -/
theorem nbits_above {p x : Nat} (y hi lo : Nat) (hx : x < 2 ^ p) : nbits (x + 2 ^ p * y) (p + hi) (p + lo) = nbits y hi lo := by
  rw [nbits, nbits, show p + hi + 1 - (p + lo) = hi + 1 - lo by omega, Nat.pow_add, ← Nat.div_div_eq_div_mul,
    Nat.add_mul_div_left _ _ (Nat.two_pow_pos p), Nat.div_eq_of_lt hx, Nat.zero_add]

theorem nbit_eq_nbits (x i : Nat) : nbit x i = (nbits x i i == 1) := by
  rw [nbit, nbits, Nat.add_sub_cancel_left, Nat.pow_one]

theorem flitHeader_lt (f : Flit) : flitHeader f < 2 ^ 64 := by
  have hvoid := b2n_le_one f.void
  have hpoison := b2n_le_one f.poison
  have hlat := b2n_le_one f.lat
  have hmoved : (if f.moved then f.origSeq % 4096 else 0) < 4096 := by split <;> omega
  rw [flitHeader]
  split
  · rw [headCommon]
    omega
  · rw [headCommon]
    omega
  · omega

theorem flitTail_lt (f : Flit) : flitTail f < 2 ^ 32 := by
  have hresent := b2n_le_one f.resent
  have hmoved := b2n_le_one f.moved
  have hvalid := b2n_le_one f.carriedV
  have hcarried : (if f.carriedV then f.carried % 8 else 0) < 8 := by split <;> omega
  rw [flitTail]
  omega

theorem flitFront_lt (f : Flit) : flitHeader f + 2 ^ 64 * (f.payload % 2 ^ 3072) < 2 ^ 3136 :=
  add_two_pow_mul_lt rfl (flitHeader_lt f) (Nat.mod_lt _ (Nat.two_pow_pos 3072))

theorem flitBody_lt (f : Flit) : flitBody f < 2 ^ 3168 := add_two_pow_mul_lt rfl (flitFront_lt f) (flitTail_lt f)

theorem flitBits_lt (f : Flit) : flitBits f < 2 ^ 3200 := add_two_pow_mul_lt rfl (flitBody_lt f) (slotCrc_lt _)

/-- What the header's fields read from the bits sent. -/
theorem nbits_flitBits_header (f : Flit) {hi : Nat} (lo : Nat) (h : hi < 64) :
    nbits (flitBits f) hi lo = nbits (flitHeader f) hi lo := by
  rw [flitBits, nbits_below _ _ _ (by omega : hi < 3168), flitBody, nbits_below _ _ _ (by omega : hi < 3136), nbits_below _ _ _ h]

theorem nbits_flitBits_payload (f : Flit) : nbits (flitBits f) 3135 64 = f.payload % 2 ^ 3072 := by
  rw [flitBits, nbits_below _ _ _ (by decide : 3135 < 3168), flitBody, nbits_below _ _ _ (by decide : 3135 < 3136),
    show 3135 = 64 + 3071 from rfl, show nbits _ (64 + 3071) 64 = nbits (f.payload % 2 ^ 3072) 3071 0 from
      nbits_above _ _ 0 (flitHeader_lt f), nbits, Nat.pow_zero, Nat.div_one, Nat.mod_mod]

/-- What the trailer's fields read from the bits sent. -/
theorem nbits_flitBits_tail (f : Flit) {hi : Nat} (lo : Nat) (h : hi < 32) :
    nbits (flitBits f) (3136 + hi) (3136 + lo) = nbits (flitTail f) hi lo := by
  rw [flitBits, nbits_below _ _ _ (by omega : 3136 + hi < 3168), flitBody, nbits_above _ _ _ (flitFront_lt f)]

theorem slotCrc_flitBits (f : Flit) : slotCrc (flitBits f) = slotCrc (flitBody f) := by
  rw [slotCrc, slotCrc, flitBits, Nat.add_mul_mod_self_left]

theorem nbit_of_nbits {x i : Nat} {b : Bool} (h : nbits x i i = b2n b) : nbit x i = b := by
  rw [nbit_eq_nbits, h]
  cases b <;> rfl

/-- The trailer's flags and its number are read as they were sent. -/
theorem flitBits_trailer {f : Flit} (hseq : f.seq < 2 ^ 24) (hcarried : f.carried < 8) (hnone : f.carriedV = false → f.carried = 0) :
    nbits (flitBits f) 3167 3144 = f.seq ∧ nbit (flitBits f) 3143 = f.resent ∧ nbit (flitBits f) 3142 = f.moved ∧
      nbit (flitBits f) 3141 = f.carriedV ∧ nbits (flitBits f) 3140 3138 = f.carried := by
  have hread : ∀ hi lo, hi < 32 → nbits (flitBits f) (3136 + hi) (3136 + lo) = nbits (flitTail f) hi lo :=
    fun hi lo h => nbits_flitBits_tail f lo h
  have hresent := b2n_le_one f.resent
  have hmoved := b2n_le_one f.moved
  have hvalid := b2n_le_one f.carriedV
  have hsent : (if f.carriedV then f.carried % 8 else 0) = f.carried := by
    split
    · exact Nat.mod_eq_of_lt hcarried
    · exact (hnone (Bool.eq_false_of_not_eq_true ‹_›)).symm
  rw [flitTail, hsent] at hread
  refine ⟨(hread 31 8 (by decide)).trans ?_, nbit_of_nbits ((hread 7 7 (by decide)).trans ?_),
    nbit_of_nbits ((hread 6 6 (by decide)).trans ?_), nbit_of_nbits ((hread 5 5 (by decide)).trans ?_),
    (hread 4 2 (by decide)).trans ?_⟩
  all_goals
    rw [nbits]
    omega

theorem flitHeader_scheduled {f : Flit} (hcls : f.cls = 0) : flitHeader f = headCommon f + 2 ^ 41 * (f.fmt % 32) +
    2 ^ 25 * (f.tag % 65536) + 2 ^ 24 * (b2n f.void) + 2 ^ 23 * (b2n f.poison) := by
  simp only [flitHeader, hcls]

theorem flitHeader_loose {f : Flit} (hcls : f.cls = 1) : flitHeader f = headCommon f + 2 ^ 59 * (f.vc % 8) +
    2 ^ 58 * (f.epoch % 2) + 2 ^ 45 * (b2n f.lat) + 2 ^ 29 * (f.dest % 4096) + 2 ^ 3 * (f.age % 256) := by
  simp only [flitHeader, hcls]

theorem headCommon_eq {f : Flit} (horig : f.origSeq < 2 ^ 12) (hhome : f.moved = false → f.origSeq = 0) :
    headCommon f = 2 ^ 62 * (f.cls % 4) + 2 ^ 46 * (f.mitten % 4096) + 2 ^ 11 * f.origSeq := by
  rw [headCommon]
  split
  · rw [show f.origSeq % 4096 = f.origSeq from Nat.mod_eq_of_lt horig]
  · rw [hhome (Bool.eq_false_of_not_eq_true ‹_›)]

/-- A flit is read from the bits sent once its header is; a field that its class does not use holds its reset value. -/
theorem flitOf_scheduled {f : Flit} (hcls : f.cls = 0) (hmitten : f.mitten < 2 ^ 12) (horig : f.origSeq < 2 ^ 12)
    (hpayload : f.payload < 2 ^ 3072) (hseq : f.seq < 2 ^ 24) (hcarried : f.carried < 8) (hhome : f.moved = false → f.origSeq = 0)
    (hnone : f.carriedV = false → f.carried = 0) (hfmt : f.fmt < 32) (htag : f.tag < 2 ^ 16) (hvc : f.vc = 0)
    (hepoch : f.epoch = 0) (hlat : f.lat = false) (hdest : f.dest = 0) (hage : f.age = 0) : flitOf (flitBits f) = f := by
  obtain ⟨hseq', hresent, hmoved, hvalid, hcarried'⟩ := flitBits_trailer hseq hcarried hnone
  have hvoid := b2n_le_one f.void
  have hpoison := b2n_le_one f.poison
  have hread : ∀ hi lo, hi < 64 → nbits (flitBits f) hi lo = nbits (flitHeader f) hi lo := fun hi lo h =>
    nbits_flitBits_header f lo h
  rw [flitHeader_scheduled hcls, headCommon_eq horig hhome, hcls] at hread
  have hclass : nbits (flitBits f) 63 62 = 0 := (hread 63 62 (by decide)).trans (by rw [nbits]; omega)
  have hmitten' : nbits (flitBits f) 57 46 = f.mitten := (hread 57 46 (by decide)).trans (by rw [nbits]; omega)
  have hfmt' : nbits (flitBits f) 45 41 = f.fmt := (hread 45 41 (by decide)).trans (by rw [nbits]; omega)
  have htag' : nbits (flitBits f) 40 25 = f.tag := (hread 40 25 (by decide)).trans (by rw [nbits]; omega)
  have horig' : nbits (flitBits f) 22 11 = f.origSeq := (hread 22 11 (by decide)).trans (by rw [nbits]; omega)
  have hvoid' : nbit (flitBits f) 24 = f.void := nbit_of_nbits ((hread 24 24 (by decide)).trans (by rw [nbits]; omega))
  have hpoison' : nbit (flitBits f) 23 = f.poison := nbit_of_nbits ((hread 23 23 (by decide)).trans (by rw [nbits]; omega))
  rw [flitOf, hseq', hresent, hmoved, hvalid, hcarried', hclass, hmitten', hfmt', htag', horig', hvoid', hpoison',
    nbits_flitBits_payload, Nat.mod_eq_of_lt hpayload]
  cases f
  cases hcls
  cases hvc
  cases hepoch
  cases hlat
  cases hdest
  cases hage
  rfl

theorem flitOf_loose {f : Flit} (hcls : f.cls = 1) (hmitten : f.mitten < 2 ^ 12) (horig : f.origSeq < 2 ^ 12)
    (hpayload : f.payload < 2 ^ 3072) (hseq : f.seq < 2 ^ 24) (hcarried : f.carried < 8) (hhome : f.moved = false → f.origSeq = 0)
    (hnone : f.carriedV = false → f.carried = 0) (hvc : f.vc < 8) (hepoch : f.epoch < 2) (hdest : f.dest < 2 ^ 12)
    (hage : f.age < 2 ^ 8) (hfmt : f.fmt = 0) (htag : f.tag = 0) (hvoid : f.void = false) (hpoison : f.poison = false) :
    flitOf (flitBits f) = f := by
  obtain ⟨hseq', hresent, hmoved, hvalid, hcarried'⟩ := flitBits_trailer hseq hcarried hnone
  have hlat := b2n_le_one f.lat
  have hread : ∀ hi lo, hi < 64 → nbits (flitBits f) hi lo = nbits (flitHeader f) hi lo := fun hi lo h =>
    nbits_flitBits_header f lo h
  rw [flitHeader_loose hcls, headCommon_eq horig hhome, hcls] at hread
  have hclass : nbits (flitBits f) 63 62 = 1 := (hread 63 62 (by decide)).trans (by rw [nbits]; omega)
  have hvc' : nbits (flitBits f) 61 59 = f.vc := (hread 61 59 (by decide)).trans (by rw [nbits]; omega)
  have hepoch' : nbits (flitBits f) 58 58 = f.epoch := (hread 58 58 (by decide)).trans (by rw [nbits]; omega)
  have hmitten' : nbits (flitBits f) 57 46 = f.mitten := (hread 57 46 (by decide)).trans (by rw [nbits]; omega)
  have hdest' : nbits (flitBits f) 40 29 = f.dest := (hread 40 29 (by decide)).trans (by rw [nbits]; omega)
  have horig' : nbits (flitBits f) 22 11 = f.origSeq := (hread 22 11 (by decide)).trans (by rw [nbits]; omega)
  have hage' : nbits (flitBits f) 10 3 = f.age := (hread 10 3 (by decide)).trans (by rw [nbits]; omega)
  have hlat' : nbit (flitBits f) 45 = f.lat := nbit_of_nbits ((hread 45 45 (by decide)).trans (by rw [nbits]; omega))
  rw [flitOf, hseq', hresent, hmoved, hvalid, hcarried', hclass, hvc', hepoch', hmitten', hdest', horig', hage', hlat',
    nbits_flitBits_payload, Nat.mod_eq_of_lt hpayload]
  cases f
  cases hcls
  cases hfmt
  cases htag
  cases hvoid
  cases hpoison
  rfl

theorem flitOf_null : flitOf (flitBits nullFlit) = nullFlit := by
  obtain ⟨hseq, hresent, hmoved, hvalid, hcarried⟩ :=
    flitBits_trailer (f := nullFlit) (by decide) (by decide) (fun _ => rfl)
  have hread : ∀ hi lo, hi < 64 → nbits (flitBits nullFlit) hi lo = nbits (2 ^ 63) hi lo := fun hi lo h =>
    nbits_flitBits_header nullFlit lo h
  have hclass : nbits (flitBits nullFlit) 63 62 = 2 := hread 63 62 (by decide)
  have hmitten : nbits (flitBits nullFlit) 57 46 = 0 := hread 57 46 (by decide)
  have horig : nbits (flitBits nullFlit) 22 11 = 0 := hread 22 11 (by decide)
  rw [flitOf, hseq, hresent, hmoved, hvalid, hcarried, hclass, hmitten, horig, nbits_flitBits_payload,
    show nullFlit.payload = 0 from rfl, Nat.zero_mod]
  rfl

/-- A sent slot is whole (R129): its CRC is in place, and its CLASS is none but those sent. -/
theorem slotOk_flitBits {f : Flit} (hread : flitOf (flitBits f) = f) (hcls : f.cls ≠ 3) : slotOk (flitBits f) = true := by
  have hclass : nbits (flitBits f) 63 62 = f.cls := congrArg Flit.cls hread
  have hcrc : nbits (flitBits f) 3199 3168 = slotCrc (flitBits f) := by
    rw [slotCrc_flitBits, flitBits, nbits_above (p := 3168) _ 31 0 (flitBody_lt f), nbits, Nat.pow_zero, Nat.div_one]
    exact Nat.mod_eq_of_lt (slotCrc_lt _)
  rw [slotOk, hclass, hcrc, beq_self_eq_true, Bool.true_and, bne_iff_ne]
  exact hcls

/-- Settles O60: each field is read where it was packed, and the CRC-32 register never loses a difference once it has one. -/
theorem slotsWordsAndMarkersOnTheWire : Obligations.SlotsWordsAndMarkersOnTheWire := by
  unfold Obligations.SlotsWordsAndMarkersOnTheWire
  refine ⟨?_, fun x i => slotOk_flip, fun x p n v => ?_, fun x p n v i => nbit_putBits_out, lcwSeal_holds,
    fun lane link n => laneMarker_holds n⟩
  · intro f hmitten horig hpayload hseq hcarried hhome hnone hkinds
    refine ⟨flitBits_lt f, ?_⟩
    obtain ⟨hcls, hfmt, htag, hvc, hepoch, hlat, hdest, hage⟩ | ⟨hcls, hvc, hepoch, hdest, hage, hfmt, htag, hvoid, hpoison⟩ | rfl :=
      hkinds
    · have hread := flitOf_scheduled hcls hmitten horig hpayload hseq hcarried hhome hnone hfmt htag hvc hepoch hlat hdest hage
      exact ⟨slotOk_flitBits hread (by rw [hcls]; decide), hread⟩
    · have hread := flitOf_loose hcls hmitten horig hpayload hseq hcarried hhome hnone hvc hepoch hdest hage hfmt htag hvoid hpoison
      exact ⟨slotOk_flitBits hread (by rw [hcls]; decide), hread⟩
    · exact ⟨slotOk_flitBits flitOf_null (by decide), flitOf_null⟩
  · cases n with
    | zero => exact .inr rfl
    | succ n => exact .inl (nbits_putBits x p n v)

end Sys2Proof.Machine
end

section
/-! PROOFS. Combines (R187): extremes pick an operand, and sums and ORs do not depend on the order of their operands. -/
namespace Sys2Proof.Machine

/-- A fold whose step keeps one of its two arguments ends at the start or at an element. -/
theorem foldl_pick_mem {α : Type} {pick : α → α → α} (hpick : ∀ a y, pick a y = a ∨ pick a y = y) (x : α) (rest : List α) :
    rest.foldl pick x ∈ x :: rest := by
  induction rest generalizing x with
  | nil => exact List.mem_singleton.2 rfl
  | cons y rest ih =>
    rw [List.foldl_cons]
    obtain hstart | hlater := List.mem_cons.1 (ih (pick x y))
    · rw [hstart]
      obtain hx | hy := hpick x y
      · rw [hx]
        exact List.mem_cons_self
      · rw [hy]
        exact List.mem_cons_of_mem _ List.mem_cons_self
    · exact List.mem_cons_of_mem _ (List.mem_cons_of_mem _ hlater)

theorem cmbMinMax_bits_mem (isMax : Bool) {fmt : Nat} {xs : List Nat} (hne : xs ≠ [])
    (hnum : ∀ x ∈ xs, (decodeElem fmt x).isNan = false) : (cmbMinMax isMax fmt xs).bits ∈ xs := by
  have hnan : (xs.any fun x => (decodeElem fmt x).isNan) = false := List.any_eq_false.2 fun x hx => by
    rw [hnum x hx]
    exact Bool.false_ne_true
  unfold cmbMinMax
  rw [hnan]
  cases xs with
  | nil => exact absurd rfl hne
  | cons x rest =>
    refine foldl_pick_mem (fun a y => ?_) x rest
    cases isMax <;> cases leVal (decodeElem fmt a) (decodeElem fmt y)
    · exact .inr rfl
    · exact .inl rfl
    · exact .inl rfl
    · exact .inr rfl

theorem cmbAddL64_perm {xs ys : List Nat} (h : xs.Perm ys) : cmbAddL64 xs = cmbAddL64 ys := by
  have hsum := h.foldl_eq (f := fun a x => a + toSigned 64 x) (rcomm := ⟨fun a x y => Int.add_right_comm a (toSigned 64 x) (toSigned 64 y)⟩) (0 : Int)
  rw [cmbAddL64, cmbAddL64, hsum]

/-- Settles O59: addition of integers and OR are commutative and associative. -/
theorem combinesOfLongSumsAndExtremes : Obligations.CombinesOfLongSumsAndExtremes := by
  unfold Obligations.CombinesOfLongSumsAndExtremes
  refine ⟨fun isMax _ _ => cmbMinMax_bits_mem isMax, fun _ _ => cmbAddL64_perm, fun fmt xs ys h => ?_⟩
  have hor := h.foldl_eq (f := fun a b : Nat => a ||| b) (rcomm := ⟨Nat.or_right_comm⟩) 0
  rw [cmbElem, cmbElem, hor]
  all_goals decide

end Sys2Proof.Machine
end

section
/-! PROOFS. The floating-point formats (R224, R237, R238): a bit pattern that is no NaN converts back to itself. -/
namespace Sys2Proof.Machine

section
variable {f : FloatFmt} {x m e : Nat} (mode r : Nat)

/-- What the formats of R224 share: an exponent field of at least two bits, a fraction, and specials of one of the three kinds. -/
structure FloatFmt.Sound (f : FloatFmt) : Prop where
  exponent : 2 ≤ f.eb
  fraction : 1 ≤ f.mb
  specials : f.spec ≤ 2

theorem floatFmt_sound {fmt : Nat} (h : floatFmt fmt = some f) : f.Sound ∧ elemBits fmt = f.eb + f.mb + 1 := by
  unfold floatFmt at h
  split at h
  all_goals cases h
  all_goals exact ⟨⟨by decide, by decide, by decide⟩, rfl⟩

/-- The fields of a finite pattern without its sign: no special has them. -/
structure FloatFmt.Finite (f : FloatFmt) (e m : Nat) : Prop where
  fraction : m < 2 ^ f.mb
  exponent : e < 2 ^ f.eb
  notInf : ¬(f.spec = 1 ∧ e = 2 ^ f.eb - 1)
  notNan : ¬(f.spec = 2 ∧ e = 2 ^ f.eb - 1 ∧ m = 2 ^ f.mb - 1)

theorem two_pow_le {a b : Nat} (h : a ≤ b) : 2 ^ a ≤ 2 ^ b := Nat.pow_le_pow_right Nat.zero_lt_two h

/-- No finite pattern passes the largest one. -/
theorem FloatFmt.Finite.le_maxBits (h : f.Finite e m) (hf : f.Sound) : e * 2 ^ f.mb + m ≤ f.maxBits := by
  obtain ⟨hm, he, hinf, hnan⟩ := h
  have hexp : 4 ≤ 2 ^ f.eb := two_pow_le hf.exponent
  have hfrac : 2 ≤ 2 ^ f.mb := two_pow_le hf.fraction
  have hspecials := hf.specials
  have hmono : ∀ t, e ≤ t → e * 2 ^ f.mb ≤ t * 2 ^ f.mb := fun t ht => Nat.mul_le_mul_right _ ht
  have hnext : e < 2 ^ f.eb - 1 → e * 2 ^ f.mb + 2 ^ f.mb ≤ (2 ^ f.eb - 1) * 2 ^ f.mb := fun hlt =>
    (Nat.succ_mul e _).symm.le.trans (Nat.mul_le_mul_right _ hlt)
  rw [FloatFmt.maxBits]
  split
  · next hspec =>
    have := hmono (2 ^ f.eb - 1 - 1) (by omega)
    omega
  · next hspec =>
    obtain htop | hbelow := Nat.eq_or_lt_of_le (show e ≤ 2 ^ f.eb - 1 by omega)
    · rw [htop]
      omega
    · have := hnext hbelow
      omega
  · have := hmono (2 ^ f.eb - 1) (by omega)
    omega

/-- A value that is a whole number of its format's units needs no rounding. -/
theorem roundAt_same (n : Nat) (q : Int) : roundAt mode r n q q = n := by
  rw [roundAt, if_pos (Int.le_refl q), Int.sub_self, Int.toNat_zero, Nat.pow_zero, Nat.mul_one]

/-- A value in units of its own place whose bits are in range encodes to them. -/
theorem FloatFmt.encode_units {n bits : Nat} {q : Int} (neg : Bool) (hn : n ≠ 0)
    (hq : max ((Nat.log2 n : Nat) + q) (1 - (f.bias : Int)) - f.mb = q)
    (hbits : (if q = 1 - (f.bias : Int) - f.mb then n else (q + f.mb + f.bias - 1).toNat * 2 ^ f.mb + n) = bits)
    (hmax : bits ≤ f.maxBits) :
    f.encode mode r (.fin neg n q) = { bits := bits + 2 ^ (f.eb + f.mb) * b2n neg, sat := false, nanMapped := false } := by
  simp only [FloatFmt.encode, if_neg hn, hq, roundAt_same, hbits, if_pos hmax]

/-- A subnormal pattern encodes to itself. -/
theorem FloatFmt.encode_subnormal (neg : Bool) (hf : f.Sound) (h : f.Finite 0 m) :
    f.encode mode r (.fin neg m (1 - (f.bias : Int) - f.mb)) = { bits := m + 2 ^ (f.eb + f.mb) * b2n neg, sat := false, nanMapped := false } := by
  obtain hzero | hpos := Nat.eq_zero_or_pos m
  · rw [hzero, Nat.zero_add]
    rfl
  · have hlead : m.log2 < f.mb := (Nat.log2_lt hpos.ne').2 h.fraction
    have hmax := h.le_maxBits hf
    refine FloatFmt.encode_units mode r neg hpos.ne' ?_ (if_pos rfl) (by omega)
    omega

theorem log2_leading {k m : Nat} (h : m < 2 ^ k) : (2 ^ k + m).log2 = k := by
  have hpos : 2 ^ k + m ≠ 0 := by
    have := Nat.two_pow_pos k
    omega
  exact (Nat.log2_eq_iff hpos).2 ⟨Nat.le_add_right _ _, by rw [Nat.pow_succ]; omega⟩

/-- A normal pattern encodes to itself. -/
theorem FloatFmt.encode_normal (neg : Bool) (hf : f.Sound) (he : e ≠ 0) (h : f.Finite e m) :
    f.encode mode r (.fin neg (2 ^ f.mb + m) ((e : Int) - f.bias - f.mb)) =
      { bits := e * 2 ^ f.mb + m + 2 ^ (f.eb + f.mb) * b2n neg, sat := false, nanMapped := false } := by
  have hlead := log2_leading h.fraction
  have hpos := Nat.two_pow_pos f.mb
  refine FloatFmt.encode_units mode r neg (by omega) (by rw [hlead]; omega) ?_ (h.le_maxBits hf)
  split
  · next hplace =>
    have hone : e = 1 := by omega
    rw [hone, Nat.one_mul]
  · have hunits : ((e : Int) - f.bias - f.mb + f.mb + f.bias - 1).toNat = e - 1 := by omega
    obtain ⟨k, rfl⟩ := Nat.exists_eq_succ_of_ne_zero he
    rw [hunits, Nat.succ_sub_one, Nat.succ_mul]
    omega

/-- A pattern is its fraction, its exponent field and its sign. -/
theorem FloatFmt.pattern_eq (hx : x < 2 ^ (f.eb + f.mb + 1)) :
    x / 2 ^ f.mb % 2 ^ f.eb * 2 ^ f.mb + x % 2 ^ f.mb + 2 ^ (f.eb + f.mb) * b2n (nbit x (f.eb + f.mb)) = x := by
  have hsign : b2n (nbit x (f.eb + f.mb)) = x / 2 ^ f.mb / 2 ^ f.eb := by
    rw [Nat.div_div_eq_div_mul, ← Nat.pow_add, Nat.add_comm f.mb f.eb, nbit]
    have htop : x / 2 ^ (f.eb + f.mb) < 2 := Nat.div_lt_of_lt_mul (by rw [← Nat.pow_succ]; exact hx)
    interval_cases x / 2 ^ (f.eb + f.mb) <;> rfl
  have hlow := Nat.mod_add_div x (2 ^ f.mb)
  have hhigh := Nat.mod_add_div (x / 2 ^ f.mb) (2 ^ f.eb)
  rw [hsign, Nat.pow_add]
  calc _ = x % 2 ^ f.mb + 2 ^ f.mb * (x / 2 ^ f.mb % 2 ^ f.eb + 2 ^ f.eb * (x / 2 ^ f.mb / 2 ^ f.eb)) := by ring
    _ = x := by rw [hhigh, hlow]

/-- A pattern that is no NaN converts back to itself. -/
theorem FloatFmt.encode_decode (hf : f.Sound) (hx : x < 2 ^ (f.eb + f.mb + 1)) (hnum : (f.decode x).isNan = false) :
    f.encode mode r (f.decode x) = { bits := x, sat := false, nanMapped := false } := by
  have hpattern := FloatFmt.pattern_eq hx
  have hm := Nat.mod_lt x (Nat.two_pow_pos f.mb)
  have he := Nat.mod_lt (x / 2 ^ f.mb) (Nat.two_pow_pos f.eb)
  unfold FloatFmt.decode at hnum ⊢
  dsimp only at hnum ⊢
  generalize x % 2 ^ f.mb = m at *
  generalize x / 2 ^ f.mb % 2 ^ f.eb = e at *
  generalize nbit x (f.eb + f.mb) = neg at *
  split
  · next hinf =>
    obtain ⟨hspec, htop⟩ := hinf
    split
    · next hzero =>
      rw [htop, hzero, Nat.add_zero] at hpattern
      simp only [FloatFmt.encode, if_pos hspec, hpattern]
    · next hne => rw [if_pos ⟨hspec, htop⟩, if_neg hne] at hnum; cases hnum
  · next hinf =>
    split
    · next hnan => rw [if_neg hinf, if_pos hnan] at hnum; cases hnum
    · next hnan =>
      have hfin : f.Finite e m := ⟨hm, he, hinf, hnan⟩
      split
      · next hzero =>
        rw [hzero, Nat.zero_mul, Nat.zero_add] at hpattern
        rw [FloatFmt.encode_subnormal mode r neg hf (hzero ▸ hfin), hpattern]
      · next hne => rw [FloatFmt.encode_normal mode r neg hf hne hfin, hpattern]

end

/-- Settles O58: a decoded value is a whole number of units of its own place, so no mode rounds it. -/
theorem everyValueConvertsToItself : Obligations.EveryValueConvertsToItself := by
  unfold Obligations.EveryValueConvertsToItself
  intro fmt f x mode r hfmt hx _ hnum
  obtain ⟨hf, hbits⟩ := floatFmt_sound hfmt
  exact FloatFmt.encode_decode mode r hf (hbits ▸ hx) hnum

end Sys2Proof.Machine
end

section
/-! PROOFS. The state at reset (R62, R447): its canonical form and the values of its register tables. -/
namespace Sys2Proof.Machine

/-- Settles O3: the reset state's maps hold nothing. -/
theorem resetIsCanonical : Obligations.ResetIsCanonical := ⟨rfl, by decide +kernel⟩

/-- Settles O4: the reset state is one closed state, and each of its values is read off it. -/
theorem resetRegisterValues : Obligations.ResetRegisterValues := by
  unfold Obligations.ResetRegisterValues
  decide +kernel

end Sys2Proof.Machine
end

section
/-! PROOFS. The crown's commands (R26 to R44): what each does when its condition holds. -/
namespace Sys2Proof.Machine

/-! ### The reference and the crown's enable -/

theorem execReferenceLost_of_ok {s u : State} (hok : s.rdb Reg.CRN_STATUS_REF_OK = true)
    (hu : u = ((s.wr Reg.CRN_STATUS_REF_OK 0).wr Reg.CRN_STATUS_PLL_LOCK 0).noteRef) :
    exec .referenceLost s = .next (((if u.rd Reg.CRN_STATUS_STATE = 1 ∨ u.rd Reg.CRN_STATUS_STATE = 2 then u.enterHoldover
      else u).crownUnlock 1).checkRefHold) := by
  have harm : exec .referenceLost s = execReferenceLost s := rfl
  rw [harm, execReferenceLost, if_pos hok, hu]

theorem execCrnEnSet_of_off {s : State} (hoff : s.rdb Reg.CRN_CTRL_EN = false) (role alt : Bool) {u : State}
    (hu : u = (((s.wrb Reg.CRN_CTRL_ALT_EN alt).wrb Reg.CRN_CTRL_ROLE role).wr Reg.CRN_CTRL_EN 1).wr Reg.CRN_STATUS_ON_ALT 0) :
    exec (.crnEnSet role alt) s = .next
      { u with crown := { s.crown with acqRun := 0, slices := [], lastAcc := none, altPend := false, missRun := 0, hopRun := 0,
                                       smallRun := 0, bigRun := 0 } }.tryMasterStart := by
  have harm : exec (.crnEnSet role alt) s = execCrnEnSet role alt s := rfl
  have hstill : ¬ (s.wrb Reg.CRN_CTRL_ALT_EN alt).rdb Reg.CRN_CTRL_EN = true := by
    simp (disch := decide) only [State.rdb_eq, State.wrb, State.rd_wr_apart]
    rw [← State.rdb_eq, hoff]
    decide
  rw [harm, execCrnEnSet]
  dsimp only
  rw [if_neg hstill, hu]
  rfl

theorem execCrnEnClear_of_on {s : State} (hon : s.rdb Reg.CRN_CTRL_EN = true) (role alt : Bool) :
    exec (.crnEnClear role alt) s =
      .next (((s.wrb Reg.CRN_CTRL_ALT_EN alt).wrb Reg.CRN_CTRL_ROLE role).wr Reg.CRN_CTRL_EN 0).enterFree := by
  have harm : exec (.crnEnClear role alt) s = execCrnEnClear role alt s := rfl
  rw [harm, execCrnEnClear, if_pos hon]

theorem execMasterRelock_of_ref {s : State} {t : Nat} (href : s.crown.refSince = some t) (hmaster : s.isMaster = true)
    (hhold : s.rd Reg.CRN_STATUS_STATE = 3) (hage : t + 65536 ≤ s.cyc) :
    exec .masterRelock s = .next
      { s.wr Reg.CRN_STATUS_STATE 2 with crown := { s.crown with holdSince := none, lockedExch := 0 } } := by
  have harm : exec .masterRelock s = execMasterRelock s := rfl
  rw [harm, execMasterRelock, href]
  exact if_pos ⟨hmaster, hhold, hage⟩

/-- Settles O12: a command whose condition holds takes the branch of its rule. -/
theorem referenceCommandsComplete : Obligations.ReferenceCommandsComplete := by
  unfold Obligations.ReferenceCommandsComplete
  exact ⟨fun _ => rfl, fun _ => rfl, fun _ _ => execReferenceLost_of_ok, fun _ _ role alt hoff => execCrnEnSet_of_off hoff role alt,
    fun _ role alt hon => execCrnEnClear_of_on hon role alt, fun _ _ => execMasterRelock_of_ref⟩

/-! ### Beacons -/

theorem execBeaconRequestTimer_of_due {s : State} (hen : s.rdb Reg.CRN_CTRL_EN = true) (hchild : s.isMaster = false)
    (hdue : s.beaconTime / 16 % 4096 = 0) (hup : s.isUp s.parentLink = true) (hconf : s.confirmed s.parentLink = true) :
    exec .beaconRequestTimer s = .next
      { s.setLk s.parentLink { s.lk s.parentLink with pendReq := some (s.ownBeacon s.crown.seqNext) } with
        crown := { s.crown with
          seqNext := (s.crown.seqNext + 1) % 256, req := some (s.crown.seqNext, s.beaconTime, s.cyc) } } := by
  have harm : exec .beaconRequestTimer s = execBeaconRequestTimer s := rfl
  rw [harm, execBeaconRequestTimer, if_pos ⟨hen, hchild, hdue⟩]
  dsimp only
  rw [hup, hconf]
  rfl

theorem execBeaconReq_of_runs {s : State} {l : Fin 24} (hruns : s.crownRuns = true) (hup : s.isUp l = true)
    (hconf : s.confirmed l = true) (b : Beacon) (t2 : Nat) :
    exec (.beaconReq l b t2) s = .next
      (s.setLk l { s.lk l with pendRsp := some ({ s.ownBeacon b.seq with stampA := t2 % 2 ^ 28 }, s.wireTick) }) := by
  have harm : exec (.beaconReq l b t2) s = execBeaconReq l b t2 s := rfl
  rw [harm, execBeaconReq, if_pos ⟨hruns, hup, hconf⟩]

theorem execBeaconRsp_of_request {s : State} {l : Fin 24} {b : Beacon} {t1 c : Nat} (hreq : s.crown.req = some (b.seq, t1, c))
    (hparent : s.parentLink = l.val) (hen : s.rdb Reg.CRN_CTRL_EN = true) (hchild : s.isMaster = false) (t4 : Nat) :
    exec (.beaconRsp l b t4) s = .next (s.parentExchange l b t1 t4) := by
  have harm : exec (.beaconRsp l b t4) s = execBeaconRsp l b t4 s := rfl
  rw [harm, execBeaconRsp, hreq]
  exact if_pos ⟨rfl, hparent, hen, hchild⟩

theorem execBeaconRsp_of_monitor {s : State} {l : Fin 24} {b : Beacon} {t1 : Nat} (hreq : s.crown.req = none)
    (hmon : s.crown.mon = [(l.val, b.seq, t1)]) (hruns : s.crownRuns = true) (t4 : Nat) :
    exec (.beaconRsp l b t4) s = .next (s.monitorExchange l b t1 t4) := by
  have harm : exec (.beaconRsp l b t4) s = execBeaconRsp l b t4 s := rfl
  have hfind : s.crown.mon.find? (fun m => m.1 == l.val && m.2.1 == b.seq) = some (l.val, b.seq, t1) := by
    rw [hmon]
    exact List.find?_cons_of_pos (by rw [beq_self_eq_true, beq_self_eq_true, Bool.and_self])
  rw [harm, execBeaconRsp, hreq]
  simp only [hfind, hruns, if_true]

theorem execBeaconMiss_of_request {s : State} {d : Bool} {q t1 at0 : Nat} (hreq : s.crown.req = some (q, t1, at0))
    (hmissed : d = true ∨ at0 + 3072 ≤ s.cyc) :
    exec (.beaconMiss d) s = .next
      (({ s with crown := { s.crown with req := none, hopRun := 0 } }).count Reg.CRN_BCN_MISS 1).missEffects := by
  have harm : exec (.beaconMiss d) s = execBeaconMiss d s := rfl
  rw [harm, execBeaconMiss, hreq]
  exact if_pos hmissed

theorem execMonitorTimer_of_due {s : State} (hruns : s.crownRuns = true) (hdue : s.now % 65536 = 0) :
    exec .monitorTimer s = .next
      (s.forEach (allLinks.filter fun l => s.isUp l && s.inMitten l && (s.isMaster || s.parentLink != l)) fun s l =>
        { s.setLk l { s.lk l with pendReq := some (s.ownBeacon s.crown.seqNext) } with
          crown := { s.crown with
            seqNext := (s.crown.seqNext + 1) % 256,
            mon := (l, s.crown.seqNext, s.beaconTime) :: s.crown.mon.filter (fun m => m.1 != l) } }) := by
  have harm : exec .monitorTimer s = execMonitorTimer s := rfl
  rw [harm, execMonitorTimer, if_pos ⟨hruns, hdue⟩]
  rfl

/-- Settles O13: a beacon command whose condition holds takes the branch of its rule. -/
theorem beaconCommandsComplete : Obligations.BeaconCommandsComplete := by
  unfold Obligations.BeaconCommandsComplete
  exact ⟨fun _ => execBeaconRequestTimer_of_due,
    fun _ _ b t2 hruns hup hconf => execBeaconReq_of_runs hruns hup hconf b t2,
    fun _ _ _ _ t4 _ hreq hparent hen hchild => execBeaconRsp_of_request hreq hparent hen hchild t4,
    fun _ _ _ _ t4 hreq hmon hruns => execBeaconRsp_of_monitor hreq hmon hruns t4,
    fun _ _ _ _ _ => execBeaconMiss_of_request, fun _ => execMonitorTimer_of_due⟩

/-! ### Lock states and their limits -/

theorem execCrownLocked_of_small {s : State} (hchild : s.isMaster = false) (hsmall : 16 ≤ s.crown.smallRun)
    (hstate : s.rd Reg.CRN_STATUS_STATE = 1 ∨ (s.rd Reg.CRN_STATUS_STATE = 3 ∧ s.rdb Reg.CRN_STATUS_REF_OK = true)) :
    exec .crownLocked s = .next
      { s.wr Reg.CRN_STATUS_STATE 2 with crown := { s.crown with
          lockedExch := 0, acqExch := 0, holdSince := none, altPend := false, limRaised := false, depthRaised := false,
          refRaised := false } }.reportHold := by
  have harm : exec .crownLocked s = execCrownLocked s := rfl
  rw [harm, execCrownLocked]
  exact if_pos ⟨hchild, hsmall, hstate⟩

theorem execCrownDrift_of_big {s u : State} (hlocked : s.rd Reg.CRN_STATUS_STATE = 2) (hchild : s.isMaster = false)
    (hbig : 4 ≤ s.crown.bigRun)
    (hu : u = { s.wr Reg.CRN_STATUS_STATE 1 with crown := { s.crown with
            lastAcc := none, acqExch := 0, acqRaised := false, bigRun := 0, smallRun := 0 } }) :
    exec .crownDrift s = .next (if s.imageLoaded then u.crownUnlock 6 else u) := by
  have harm : exec .crownDrift s = execCrownDrift s := rfl
  have hldr : u.ldr = s.ldr := by
    rw [hu]
    exact State.rd_wr_ne s 1 (by decide)
  have hloaded : u.imageLoaded = s.imageLoaded := by rw [State.imageLoaded, State.imageLoaded, hldr]
  rw [← hloaded, hu, harm, execCrownDrift]
  exact if_pos ⟨hlocked, hchild, hbig⟩

theorem execParentLost_of_misses {s : State} (hlocked : s.rd Reg.CRN_STATUS_STATE = 2) (hchild : s.isMaster = false)
    (hmisses : 4 ≤ s.crown.missRun) :
    exec .parentLost s = .next
      { s.enterHoldover with crown := { s.enterHoldover.crown with
          altPend := s.enterHoldover.rdb Reg.CRN_CTRL_ALT_EN && s.enterHoldover.rd Reg.CRN_STATUS_ON_ALT == 0 } }.checkRefHold := by
  have harm : exec .parentLost s = execParentLost s := rfl
  rw [harm, execParentLost, if_pos ⟨hlocked, hchild, hmisses⟩]
  dsimp only
  rw [Bool.decide_and, Bool.decide_coe, beq_eq_decide]

theorem execAltParentSwitch_of_pending {s : State} (hpend : s.crown.altPend = true) (hdue : s.now % 4096 = 0) :
    exec .altParentSwitch s = .next
      { s.wr Reg.CRN_STATUS_ON_ALT 1 with crown :=
        { s.crown with altPend := false, lastAcc := none, missRun := 0, req := none } } := by
  have harm : exec .altParentSwitch s = execAltParentSwitch s := rfl
  rw [harm, execAltParentSwitch, if_pos ⟨hpend, hdue⟩]

theorem execHoldLimitReached_of_age {s u : State} (hu : u = s.reportHold) (hhold : u.rd Reg.CRN_STATUS_STATE = 3)
    (hchild : u.isMaster = false) (hfirst : u.crown.limRaised = false)
    (hage : max 1 (u.rd Reg.CRN_HOLD_HOLD_LIMIT) ≤ u.rd Reg.CRN_STATUS_HOLD_AGE) :
    exec .holdLimitReached s = .next ({ u with crown := { u.crown with limRaised := true } }.crownUnlock 2) := by
  have harm : exec .holdLimitReached s = execHoldLimitReached s := rfl
  subst hu
  rw [harm, execHoldLimitReached]
  exact if_pos ⟨hhold, hchild, hfirst, hage⟩

theorem execAcqLimitReached_of_exchanges {s : State} (hacq : s.rd Reg.CRN_STATUS_STATE = 1) (hfirst : s.crown.acqRaised = false)
    (hlimit : s.rd Reg.CRN_HOLD_ACQ_LIMIT ≤ s.crown.acqExch) :
    exec .acqLimitReached s = .next ({ s with crown := { s.crown with acqRaised := true } }.crownUnlock 5) := by
  have harm : exec .acqLimitReached s = execAcqLimitReached s := rfl
  rw [harm, execAcqLimitReached, if_pos ⟨hacq, hfirst, hlimit⟩]

/-- Settles O14: a change of lock state whose condition holds takes the branch of its rule. -/
theorem lockStateCommandsComplete : Obligations.LockStateCommandsComplete := by
  unfold Obligations.LockStateCommandsComplete
  exact ⟨fun _ => execCrownLocked_of_small, fun _ _ => execCrownDrift_of_big, fun _ => execParentLost_of_misses,
    fun _ => execAltParentSwitch_of_pending, fun _ => execHoldLimitReached_of_age rfl, fun _ => execAcqLimitReached_of_exchanges⟩

end Sys2Proof.Machine
end

section
/-! PROOFS. Region clocks (R47 to R53, R57, R65): stretches, stops and dividers, and the crossing buffers of an op's regions. -/
namespace Sys2Proof.Machine

section
variable {s : State}

/-! ### Droops -/

/-- A region's clock with the time of its last droop. -/
def State.markDroop (s : State) (g : Nat) : State := s.setRg g { s.rg g with droopAt := s.cyc }

theorem State.rg_markDroop (s : State) (g : Nat) : (s.markDroop g).rg g = { s.rg g with droopAt := s.cyc } := by
  rw [State.markDroop, State.rg_setRg_same]

theorem not_stopped {r : RgnSt} (hclock : r.stepUntil = none) (hrest : r.rest = false) :
    ¬ (r.stepUntil.isSome = true ∨ r.rest = true) := by
  rw [hclock, hrest]
  decide

theorem execDroopDetected_of_stretch {g : Fin 17} (hclock : (s.rg g).stepUntil = none) (hrest : (s.rg g).rest = false)
    (hlong : (s.rg g).longNext = false) (hmay : mayStretch (s.rg g).stretches (s.rg g).cycle = true) {x : RgnSt}
    (hx : x = { s.rg g with droopAt := s.cyc, longNext := true, stretches := (s.rg g).stretchesOrdered }) :
    exec (.droopDetected g) s = .next
      (if g.val < 16 then ((s.markDroop g).setRg g x).count (Reg.RGN_STRETCH_CNT g) 1 else (s.markDroop g).setRg g x) := by
  have harm : exec (.droopDetected g) s = execDroopDetected g s := rfl
  rw [harm, execDroopDetected]
  dsimp only
  rw [if_neg (not_stopped hclock hrest), if_neg (Bool.eq_false_iff.1 hlong), if_pos hmay, State.rg_setRg_same, hx]
  rfl

theorem execDroopDetected_of_no_stretch {g : Fin 17} (hclock : (s.rg g).stepUntil = none) (hrest : (s.rg g).rest = false)
    (hlong : (s.rg g).longNext = false) (hmay : mayStretch (s.rg g).stretches (s.rg g).cycle = false) {n : Nat}
    (hn : n = s.rd (Reg.RGN_CLK_N_NOW g)) :
    exec (.droopDetected g) s = .next
      (if g.val < 16 then
        if n < 20 then
          ((((s.markDroop g).setRg g { s.rg g with droopAt := s.cyc, droopN := n + 1 }).wr (Reg.RGN_STATUS_STEP_DROOP g) 1).startStep g)
        else s.markDroop g
      else (s.markDroop g).orderStop g) := by
  have harm : exec (.droopDetected g) s = execDroopDetected g s := rfl
  rw [harm, execDroopDetected]
  dsimp only
  rw [if_neg (not_stopped hclock hrest), if_neg (Bool.eq_false_iff.1 hlong), if_neg (Bool.eq_false_iff.1 hmay), State.rg_setRg_same,
    State.rd_setRg, ← hn, State.markDroop]
  split
  · split
    · rfl
    · rfl
  · rfl

theorem State.orderStop_of_running {g : Nat} (h : (s.rg g).rest = false) :
    s.orderStop g = s.setRg g { s.rg g with stopDue := true } := by
  rw [State.orderStop, h, if_neg Bool.false_ne_true]

theorem State.startStep_of_running {g : Nat} (hclock : (s.rg g).stepUntil = none) (hdue : (s.rg g).stopDue = false)
    (hrest : (s.rg g).rest = false) :
    s.startStep g = (s.setRg g { s.rg g with stopDue := true }).count (Reg.RGN_STEP_CNT g) 1 := by
  have hfree : ¬ s.stepping g = true := by
    rw [State.stepping, hclock, hdue]
    decide
  rw [State.startStep, if_neg hfree, State.orderStop_of_running hrest]

/-- R48, R49: the droop that orders a stretch. -/
theorem droopDetected_stretches_next (g : Fin 17) (hclock : (s.rg g).stepUntil = none) (hrest : (s.rg g).rest = false)
    (hlong : (s.rg g).longNext = false) (hmay : mayStretch (s.rg g).stretches (s.rg g).cycle = true) :
    ∃ t, exec (.droopDetected g) s = .next t ∧
      t.rg g = { s.rg g with droopAt := s.cyc, longNext := true, stretches := (s.rg g).stretchesOrdered } ∧
      (g.val < 16 → t.reg (Reg.RGN_STRETCH_CNT g) = (s.count (Reg.RGN_STRETCH_CNT g) 1).reg (Reg.RGN_STRETCH_CNT g)) ∧
      ∀ a, (g.val < 16 → a ≠ Reg.RGN_STRETCH_CNT g) → t.reg a = s.reg a := by
  refine ⟨_, execDroopDetected_of_stretch hclock hrest hlong hmay rfl, ?_, fun hg => ?_, fun a ha => ?_⟩
  · split
    · rw [State.rg_count, State.rg_setRg_same]
    · rw [State.rg_setRg_same]
  · rw [if_pos hg, State.reg_count_same, State.reg_count_same, State.reg_setRg, State.markDroop, State.reg_setRg]
  · split
    · next hg => rw [State.reg_count_ne _ _ (ha hg), State.reg_setRg, State.markDroop, State.reg_setRg]
    · rw [State.reg_setRg, State.markDroop, State.reg_setRg]

/-- R48, R49: the droop that finds no stretch left stops the clock for a step of its divider. -/
theorem droopDetected_steps (g : Fin 17) (hclock : (s.rg g).stepUntil = none) (hrest : (s.rg g).rest = false)
    (hlong : (s.rg g).longNext = false) (hdue : (s.rg g).stopDue = false)
    (hmay : mayStretch (s.rg g).stretches (s.rg g).cycle = false) :
    ∃ t, exec (.droopDetected g) s = .next t ∧
      (16 ≤ g.val ∨ s.rd (Reg.RGN_CLK_N_NOW g) < 20 → (t.rg g).stopDue = true) ∧
      (g.val < 16 → s.rd (Reg.RGN_CLK_N_NOW g) < 20 →
        (t.rg g).droopN = s.rd (Reg.RGN_CLK_N_NOW g) + 1 ∧ t.rd (Reg.RGN_STATUS_STEP_DROOP g) = 1 ∧
        t.reg (Reg.RGN_STEP_CNT g) = (s.count (Reg.RGN_STEP_CNT g) 1).reg (Reg.RGN_STEP_CNT g)) := by
  refine ⟨_, execDroopDetected_of_no_stretch hclock hrest hlong hmay rfl, ?_⟩
  have hmark := s.rg_markDroop g
  split
  · next hg =>
    split
    · next hn =>
      have hapart : Reg.RGN_STATUS g ≠ Reg.RGN_STEP_CNT g := by
        rw [Reg.RGN_STATUS, Reg.RGN_STEP_CNT]
        omega
      rw [State.startStep_of_running (by rw [State.rg_wr, State.rg_setRg_same]; exact hclock)
        (by rw [State.rg_wr, State.rg_setRg_same]; exact hdue) (by rw [State.rg_wr, State.rg_setRg_same]; exact hrest),
        State.rg_wr, State.rg_setRg_same, State.rg_count, State.rg_setRg_same]
      refine ⟨fun _ => rfl, fun _ _ => ⟨rfl, ?_, ?_⟩⟩
      · rw [State.rd_count_ne _ _ hapart, State.rd_setRg, State.rd_wr_same _ _ rfl]
        rfl
      · rw [State.reg_count_same, State.reg_count_same, State.reg_setRg, State.reg_wr_ne _ _ hapart.symm, State.reg_setRg,
          State.markDroop, State.reg_setRg]
    · next hn => exact ⟨fun h => absurd h (by omega), fun _ h => absurd h hn⟩
  · next hg =>
    rw [State.orderStop_of_running (by rw [hmark]; exact hrest), State.rg_setRg_same]
    exact ⟨fun _ => rfl, fun h => absurd h hg⟩

/-! ### Dividers -/

theorem execDroopStepReturn_of_due {g : Fin 16} (hn : (s.rg g).droopN ≠ 0) (hdue : (s.rg g).droopAt + 100000 ≤ s.cyc) :
    ∃ n, exec (.droopStepReturn g) s = .next
        (((s.setRg g { s.rg g with droopN := n, droopAt := s.cyc }).wrb (Reg.RGN_STATUS_STEP_DROOP g) (n != 0)).stepIfFaster g) ∧
      n < (s.rg g).droopN ∧ (s.rd (Reg.RGN_CLK_N_TARGET g) + 1 < (s.rg g).droopN → n + 1 = (s.rg g).droopN) := by
  have harm : exec (.droopStepReturn g) s = execDroopStepReturn g s := rfl
  refine ⟨if (s.rg g).droopN ≤ s.rd (Reg.RGN_CLK_N_TARGET g) + 1 then 0 else (s.rg g).droopN - 1, ?_, ?_, fun hfar => ?_⟩
  · rw [harm, execDroopStepReturn]
    exact if_pos ⟨hn, hdue⟩
  · split
    · omega
    · omega
  · rw [if_neg (by omega)]
    omega

theorem execThermalStepTimer_of_due {g : Fin 16} (habove : (s.rg g).above = true) (hdue : (s.rg g).thermAt + 10000 ≤ s.cyc) :
    exec (.thermalStepTimer g) s = .next (s.thermStep g) := by
  have harm : exec (.thermalStepTimer g) s = execThermalStepTimer g s := rfl
  rw [harm, execThermalStepTimer]
  exact if_pos ⟨habove, hdue⟩

theorem execDividerRestoreStep_of_due {g : Fin 16} (hdue : (s.rg g).restoreAt + 10000 ≤ s.cyc) :
    ∃ n, exec (.dividerRestoreStep g) s = .next
        (((s.setRg g { s.rg g with thermN := n, restoreAt := s.cyc }).wrb (Reg.RGN_STATUS_STEP_THERM g) (n != 0)).stepIfFaster g) ∧
      n ≤ (s.rg g).thermN ∧ ((s.rg g).hot = true → n = (s.rg g).thermN) ∧
      ((s.rg g).hot = false → (s.rg g).thermN ≠ 0 → n < (s.rg g).thermN) ∧
      (s.rg g).thermN ≤ n + 1 + s.rd (Reg.RGN_CLK_N_TARGET g) := by
  have harm : exec (.dividerRestoreStep g) s = execDividerRestoreStep g s := rfl
  refine ⟨if (s.rg g).hot || (s.rg g).thermN == 0 then (s.rg g).thermN
    else if (s.rg g).thermN ≤ s.rd (Reg.RGN_CLK_N_TARGET g) + 1 then 0 else (s.rg g).thermN - 1, ?_, ?_⟩
  · rw [harm, execDividerRestoreStep]
    exact if_pos hdue
  · split
    · next hheld =>
      refine ⟨Nat.le_refl _, fun _ => rfl, fun hcool hne => ?_, by omega⟩
      rw [hcool, Bool.false_or, beq_iff_eq] at hheld
      exact absurd hheld hne
    · next hfree =>
      have hcool : (s.rg g).hot ≠ true := fun hhot => hfree (by rw [hhot]; rfl)
      have hne : (s.rg g).thermN ≠ 0 := fun hzero => hfree (by rw [hzero, Bool.or_eq_true]; exact .inr rfl)
      split
      · exact ⟨by omega, fun hhot => absurd hhot hcool, fun _ _ => by omega, by omega⟩
      · exact ⟨by omega, fun hhot => absurd hhot hcool, fun _ _ => by omega, by omega⟩

/-- A region's estimate is the crown's time once it is set. -/
theorem State.rg_setEst (s : State) (g : Nat) (mark : Bool) :
    (s.setEst g mark).rg g = { s.rg g with est := ((12 * s.now : Nat) : Int) - s.estPart g } := by
  rw [State.setEst]
  dsimp only
  split
  · split
    · rw [State.rg_raise, State.rg_wr, State.rg_setRg_same]
    · rw [State.rg_wr, State.rg_setRg_same]
  · rw [State.rg_setRg_same]

theorem State.setEst_of_region (s : State) {g : Nat} (hg : g < 16) :
    ∃ z e, s.setEst g false = (s.setRg g z).wr (Reg.RGN_EST_ERR_LAST g) e := by
  refine ⟨{ s.rg g with est := (12 * s.now : Nat) - s.estPart g }, ofSigned 16 ((12 * s.now : Nat) - ((s.rg g).est + s.estPart g)), ?_⟩
  rw [State.setEst]
  dsimp only
  rw [if_pos hg, if_neg Bool.false_ne_true]

theorem State.estPart_setRg (s : State) (g : Nat) {x : RgnSt} (hgone : x.gone = (s.rg g).gone) :
    (s.setRg g x).estPart g = s.estPart g := by
  rw [State.estPart, State.estPart, State.rg_setRg_same, hgone, State.nomPeriod, State.nomPeriod, State.rd_setRg]

/-- What a region's divider must be rests on its three registers and the steps that droops and heat have ordered. -/
theorem State.requiredN_congr {t : State} {g : Nat} (hclk : t.reg (Reg.RGN_CLK g) = s.reg (Reg.RGN_CLK g))
    (hstatus : t.reg (Reg.RGN_STATUS g) = s.reg (Reg.RGN_STATUS g)) (hdroop : (t.rg g).droopN = (s.rg g).droopN)
    (htherm : (t.rg g).thermN = (s.rg g).thermN) : t.requiredN g = s.requiredN g := by
  have hfield : ∀ f : Fld, f.addr = Reg.RGN_CLK g ∨ f.addr = Reg.RGN_STATUS g → t.rd f = s.rd f := fun f hf => by
    obtain haddr | haddr := hf
    · rw [State.rd_eq, State.rd_eq, haddr, hclk]
    · rw [State.rd_eq, State.rd_eq, haddr, hstatus]
  have hsupply : t.rdb (Reg.RGN_STATUS_STEP_SUPPLY g) = s.rdb (Reg.RGN_STATUS_STEP_SUPPLY g) := by
    rw [State.rdb_eq, State.rdb_eq, hfield _ (.inr rfl)]
  rw [State.requiredN, State.requiredN, hsupply, hfield _ (.inl rfl), hfield _ (.inl rfl), hdroop, htherm]

/-- R50, R51, R53: a stop that has ended. -/
theorem dividerStepResume_ends {g : Fin 17} {x : Nat} (hstop : (s.rg g).stepUntil = some x) (hover : x ≤ s.cyc) :
    ∃ t, exec (.dividerStepResume g) s = .next t ∧ (t.rg g).stepUntil = none ∧
      (t.rg g).est = ((12 * s.now : Nat) : Int) - s.estPart g ∧
      (g.val < 16 → ∃ y z e, t = (((((s.setRg g y).setRg g z).wr (Reg.RGN_EST_ERR_LAST g) e).wr (Reg.RGN_CLK_N_NOW g)
        (resumeN (s.rd (Reg.RGN_CLK_N_NOW g)) (s.requiredN g))).showFloor g)) := by
  have harm : exec (.dividerStepResume g) s = execDividerStepResume g s := rfl
  generalize hy : ({ s.rg g with stepUntil := none } : RgnSt) = y
  have hset := (s.setRg g y).rg_setEst g false
  rw [State.rg_setRg_same, State.now_setRg, State.estPart_setRg s g (by rw [← hy])] at hset
  have hnone : y.stepUntil = none := by rw [← hy]
  rw [harm, execDividerStepResume, hstop]
  dsimp only
  rw [if_pos hover, hy]
  by_cases hg : g.val < 16
  · refine ⟨_, rfl, ?_, ?_, fun _ => ?_⟩
    · rw [if_pos hg, State.showFloor, State.rg_wrb, State.rg_wr, hset, hnone]
    · rw [if_pos hg, State.showFloor, State.rg_wrb, State.rg_wr, hset]
    · obtain ⟨z, e, hwritten⟩ := (s.setRg g y).setEst_of_region hg
      have hclk : Reg.RGN_CLK g ≠ Reg.RGN_EST_ERR g := by
        rw [Reg.RGN_CLK, Reg.RGN_EST_ERR]
        omega
      have hstatus : Reg.RGN_STATUS g ≠ Reg.RGN_EST_ERR g := by
        rw [Reg.RGN_STATUS, Reg.RGN_EST_ERR]
        omega
      refine ⟨y, z, e, ?_⟩
      have hnow : ((s.setRg g y).setEst g false).rd (Reg.RGN_CLK_N_NOW g) = s.rd (Reg.RGN_CLK_N_NOW g) := by
        rw [hwritten, State.rd_wr_ne _ _ hclk, State.rd_setRg, State.rd_setRg]
      have hreq : ((s.setRg g y).setEst g false).requiredN g = s.requiredN g := by
        refine State.requiredN_congr ?_ ?_ ?_ ?_
        · rw [hwritten, State.reg_wr_ne _ _ hclk, State.reg_setRg, State.reg_setRg]
        · rw [hwritten, State.reg_wr_ne _ _ hstatus, State.reg_setRg, State.reg_setRg]
        · rw [hset, ← hy]
        · rw [hset, ← hy]
      rw [if_pos hg, hnow, hreq, hwritten]
  · refine ⟨_, rfl, ?_, ?_, fun h => absurd h hg⟩
    · rw [if_neg hg, hset, hnone]
    · rw [if_neg hg, hset]

theorem State.runLocked_of_idle (s : State) (h : s.run = false) (f : State → State) : s.runLocked f = f s := by
  rw [State.runLocked, h, if_neg Bool.false_ne_true]

/-- R65: a write of the dividers that the grade allows. -/
theorem execRgnClkWrite_of_allowed {u : State} {g : Fin 16} {n f : Nat} (hlive : s.live = true)
    (hon : s.powered (Reg.RGN_CLK g) = true) (hidle : s.run = false) (hgrade : gradeMinN s ≤ n) (hfloor : n ≤ f) (hmax : f ≤ 20)
    (hu : u = ((s.wr (Reg.RGN_CLK_N_TARGET g) n).wr (Reg.RGN_CLK_N_FLOOR g) f).showFloor g) :
    exec (.rgnClkWrite g n f) s = .next
      (if u.requiredN g < u.rd (Reg.RGN_CLK_N_NOW g) then u.setRg g { u.rg g with restoreAt := s.cyc } else u.stepIfSlower g) := by
  have harm : exec (.rgnClkWrite g n f) s = execRgnClkWrite g n f s := rfl
  have hcyc : u.cyc = s.cyc := by
    rw [hu]
    rfl
  rw [harm, execRgnClkWrite, State.busWrite_of_on _ hlive hon, State.runLocked_of_idle _ hidle, if_neg (by omega), State.setDividers]
  dsimp only
  rw [← hu, hcyc]
  congr 1
  split
  · next hfaster =>
    have hreq : (u.setRg g { u.rg g with restoreAt := s.cyc }).requiredN g = u.requiredN g :=
      State.requiredN_congr rfl rfl (by rw [State.rg_setRg_same]) (by rw [State.rg_setRg_same])
    rw [State.stepIfSlower, hreq, State.rd_setRg, if_neg (by omega)]
  · rfl

theorem execEstimateCorrection_of_due (hruns : s.crownRuns = true) (hdue : s.now % 64 = 0) :
    exec .estimateCorrection s = .next
      (s.forEach ((List.range 17).filter fun g => s.domOn (clockDomain g)) fun s g =>
        if (s.rg g).stepUntil.isSome || (s.rg g).rest then s else s.setEst g true) := by
  have harm : exec .estimateCorrection s = execEstimateCorrection s := rfl
  rw [harm, execEstimateCorrection, if_pos ⟨hruns, hdue⟩]
  rfl

/-! ### Crossing buffers -/

theorem length_afterConsumer_false (b : List Nat) : (afterConsumer false b).length = b.length := by
  rw [afterConsumer, if_neg Bool.false_ne_true, List.length_map]

theorem length_afterConsumer_true {b : List Nat} (h : wordSeen b = true) : (afterConsumer true b).length + 1 = b.length := by
  cases b with
  | nil => cases h
  | cons a b => rw [afterConsumer, if_pos rfl, List.length_map, List.length_drop, List.length_cons, Nat.add_sub_cancel]

/-- Put `b` into the crossing buffer that leaves region `j` to the east. -/
def State.setEast (s : State) (j : Nat) (b : List Nat) : State := s.setRg j { s.rg j with east := b }

/-- Put `b` into the crossing buffer that leaves region `j` to the south. -/
def State.setSouth (s : State) (j : Nat) (b : List Nat) : State := s.setRg j { s.rg j with south := b }

theorem State.rg_setEast (s : State) (j : Nat) (b : List Nat) (k : Nat) :
    ((s.setEast j b).rg k).east = (if k = j then b else (s.rg k).east) ∧ ((s.setEast j b).rg k).south = (s.rg k).south ∧
      ((s.setEast j b).rg k).active = (s.rg k).active := by
  rw [State.setEast, State.rg_setRg]
  split
  · next hk => exact ⟨rfl, by rw [hk], by rw [hk]⟩
  · exact ⟨rfl, rfl, rfl⟩

theorem State.rg_setSouth (s : State) (j : Nat) (b : List Nat) (k : Nat) :
    ((s.setSouth j b).rg k).south = (if k = j then b else (s.rg k).south) ∧ ((s.setSouth j b).rg k).east = (s.rg k).east ∧
      ((s.setSouth j b).rg k).active = (s.rg k).active := by
  rw [State.setSouth, State.rg_setRg]
  split
  · next hk => exact ⟨rfl, by rw [hk], by rw [hk]⟩
  · exact ⟨rfl, rfl, rfl⟩

/-- After the consumers' side of a cycle: what region `g` reads. -/
def State.crossReads (s : State) (g : Nat) (go : Bool) : State :=
  have s := if s.feedsWest g then s.setEast (g - 1) (afterConsumer go (s.rg (g - 1)).east) else s
  if s.feedsNorth g then s.setSouth (g - 4) (afterConsumer go (s.rg (g - 4)).south) else s

/-- After the producer's side of a cycle: what region `g` writes. -/
def State.crossWrites (s : State) (g : Nat) : State :=
  have s := if s.eatsEast g then s.setEast g ((s.rg g).east ++ [0]) else s
  if s.eatsSouth g then s.setSouth g ((s.rg g).south ++ [0]) else s

theorem State.reg_crossReads (s : State) (g : Nat) (go : Bool) (a : Nat) : (s.crossReads g go).reg a = s.reg a := by
  rw [State.crossReads]
  split <;> split <;> rfl

theorem State.reg_crossWrites (s : State) (g : Nat) (a : Nat) : (s.crossWrites g).reg a = s.reg a := by
  rw [State.crossWrites]
  split <;> split <;> rfl

/-- A region that takes its word from the west, or leaves it. -/
def State.crossWest (s : State) (g : Nat) (go : Bool) : State :=
  if s.feedsWest g then s.setEast (g - 1) (afterConsumer go (s.rg (g - 1)).east) else s

theorem State.rg_crossWest (s : State) (g : Nat) (go : Bool) (k : Nat) :
    ((s.crossWest g go).rg k).east =
        (if s.feedsWest g = true ∧ k = g - 1 then afterConsumer go (s.rg k).east else (s.rg k).east) ∧
      ((s.crossWest g go).rg k).south = (s.rg k).south ∧ ((s.crossWest g go).rg k).active = (s.rg k).active := by
  rw [State.crossWest]
  split
  · next hfeeds =>
    obtain ⟨heast, hsouth, hactive⟩ := s.rg_setEast (g - 1) (afterConsumer go (s.rg (g - 1)).east) k
    refine ⟨heast.trans ?_, hsouth, hactive⟩
    by_cases hk : k = g - 1
    · rw [if_pos hk, if_pos ⟨hfeeds, hk⟩, hk]
    · rw [if_neg hk, if_neg fun h => hk h.2]
  · next hfeeds => exact ⟨(if_neg fun h => hfeeds h.1).symm, rfl, rfl⟩

/-- What reading does to each region's buffers. -/
theorem State.rg_crossReads (s : State) (g : Nat) (go : Bool) (k : Nat) :
    ((s.crossReads g go).rg k).east =
        (if s.feedsWest g = true ∧ k = g - 1 then afterConsumer go (s.rg k).east else (s.rg k).east) ∧
      ((s.crossReads g go).rg k).south =
        (if s.feedsNorth g = true ∧ k = g - 4 then afterConsumer go (s.rg k).south else (s.rg k).south) ∧
      ((s.crossReads g go).rg k).active = (s.rg k).active := by
  have hreads : s.crossReads g go = if (s.crossWest g go).feedsNorth g then
      (s.crossWest g go).setSouth (g - 4) (afterConsumer go ((s.crossWest g go).rg (g - 4)).south) else s.crossWest g go := rfl
  have hnorth : (s.crossWest g go).feedsNorth g = s.feedsNorth g := by
    rw [State.feedsNorth, State.feedsNorth, (s.rg_crossWest g go (g - 4)).2.2]
  obtain ⟨hwest, hsouth, hactive⟩ := s.rg_crossWest g go k
  rw [hreads, hnorth, (s.rg_crossWest g go (g - 4)).2.1]
  split
  · next hfeeds =>
    obtain ⟨hsouth', heast', hactive'⟩ := (s.crossWest g go).rg_setSouth (g - 4) (afterConsumer go (s.rg (g - 4)).south) k
    refine ⟨heast'.trans hwest, hsouth'.trans ?_, hactive'.trans hactive⟩
    by_cases hk : k = g - 4
    · rw [if_pos hk, if_pos ⟨hfeeds, hk⟩, hk]
    · rw [if_neg hk, if_neg fun h => hk h.2, hsouth]
  · next hfeeds => exact ⟨hwest, hsouth.trans (if_neg fun h => hfeeds h.1).symm, hactive⟩

/-- What writing does to the region's own buffers, and to no other. -/
theorem State.rg_crossWrites (s : State) (g k : Nat) :
    ((s.crossWrites g).rg k).east = (if s.eatsEast g = true ∧ k = g then (s.rg k).east ++ [0] else (s.rg k).east) ∧
      ((s.crossWrites g).rg k).south = (if s.eatsSouth g = true ∧ k = g then (s.rg k).south ++ [0] else (s.rg k).south) := by
  generalize hu : (if s.eatsEast g then s.setEast g ((s.rg g).east ++ [0]) else s) = u
  have hrg : ∀ k, (u.rg k).east = (if s.eatsEast g = true ∧ k = g then (s.rg k).east ++ [0] else (s.rg k).east) ∧
      (u.rg k).south = (s.rg k).south ∧ (u.rg k).active = (s.rg k).active := fun k => by
    rw [← hu]
    split
    · next heats =>
      obtain ⟨heast, hsouth, hactive⟩ := s.rg_setEast g ((s.rg g).east ++ [0]) k
      refine ⟨heast.trans ?_, hsouth, hactive⟩
      by_cases hk : k = g
      · rw [if_pos hk, if_pos ⟨heats, hk⟩, hk]
      · rw [if_neg hk, if_neg fun h => hk h.2]
    · next heats => exact ⟨(if_neg fun h => heats h.1).symm, rfl, rfl⟩
  have hwrites : s.crossWrites g = if u.eatsSouth g then u.setSouth g ((u.rg g).south ++ [0]) else u := by
    rw [State.crossWrites, ← hu]
  have heats : u.eatsSouth g = s.eatsSouth g := by rw [State.eatsSouth, State.eatsSouth, (hrg (g + 4)).2.2]
  obtain ⟨heast, hsouth, -⟩ := hrg k
  rw [hwrites, heats, (hrg g).2.1]
  split
  · next heats =>
    obtain ⟨hsouth', heast', -⟩ := u.rg_setSouth g ((s.rg g).south ++ [0]) k
    refine ⟨heast'.trans heast, hsouth'.trans ?_⟩
    by_cases hk : k = g
    · rw [if_pos hk, if_pos ⟨heats, hk⟩, hk]
    · rw [if_neg hk, if_neg fun h => hk h.2, hsouth]
  · next heats => exact ⟨heast, hsouth.trans (if_neg fun h => heats h.1).symm⟩

theorem State.crossCycle_of_active {g : Fin 16} (h : (s.rg g).active = true) :
    s.crossCycle g = if s.crossStall g = true then (s.crossReads g false).count (Reg.RGN_XSTALL_CNT g) 1
      else (s.crossReads g true).crossWrites g := by
  rw [State.crossCycle, if_pos ⟨g.isLt, h⟩]
  dsimp only
  cases s.crossStall g
  · rfl
  · rfl

/-- Where the cycle stalls, every buffer keeps its words. -/
theorem State.crossReads_lengths (s : State) (g k : Nat) :
    ((s.crossReads g false).rg k).east.length = (s.rg k).east.length ∧
      ((s.crossReads g false).rg k).south.length = (s.rg k).south.length := by
  obtain ⟨heast, hsouth, -⟩ := s.rg_crossReads g false k
  rw [heast, hsouth, apply_ite List.length, apply_ite List.length, length_afterConsumer_false, length_afterConsumer_false, ite_self,
    ite_self]
  exact ⟨rfl, rfl⟩

/-- What a cycle without a stall finds: a word to take and room to put one. -/
theorem State.crossStall_eq_false {g : Nat} (h : s.crossStall g = false) :
    (s.feedsWest g = true → wordSeen (s.rg (g - 1)).east = true) ∧ (s.feedsNorth g = true → wordSeen (s.rg (g - 4)).south = true) ∧
      (s.eatsEast g = true → (s.rg g).east.length < 16) ∧ (s.eatsSouth g = true → (s.rg g).south.length < 16) := by
  rw [State.crossStall, Bool.or_eq_false_iff, Bool.or_eq_false_iff, Bool.or_eq_false_iff, Bool.and_eq_false_imp, Bool.and_eq_false_imp,
    Bool.and_eq_false_imp, Bool.and_eq_false_imp] at h
  obtain ⟨⟨⟨hwest, hnorth⟩, heast⟩, hsouth⟩ := h
  exact ⟨fun hf => Bool.not_eq_eq_eq_not.1 (hwest hf), fun hf => Bool.not_eq_eq_eq_not.1 (hnorth hf),
    fun he => Nat.lt_of_not_le (of_decide_eq_false (heast he)), fun he => Nat.lt_of_not_le (of_decide_eq_false (hsouth he))⟩

theorem State.pos_of_feedsWest {g : Nat} (h : s.feedsWest g = true) : g ≠ g - 1 := fun heq => by
  have hzero : g = 0 := by omega
  rw [State.feedsWest, hzero] at h
  cases h

theorem State.pos_of_feedsNorth {g : Nat} (h : s.feedsNorth g = true) : g ≠ g - 4 := fun heq => by
  have hzero : g = 0 := by omega
  rw [State.feedsNorth, hzero] at h
  cases h

/-- A region reads no buffer of its own. -/
theorem State.crossReads_self (s : State) (g : Nat) (go : Bool) :
    ((s.crossReads g go).rg g).east = (s.rg g).east ∧ ((s.crossReads g go).rg g).south = (s.rg g).south := by
  obtain ⟨heast, hsouth, -⟩ := s.rg_crossReads g go g
  exact ⟨heast.trans (if_neg fun h => State.pos_of_feedsWest h.1 h.2), hsouth.trans (if_neg fun h => State.pos_of_feedsNorth h.1 h.2)⟩

theorem State.eats_crossReads (s : State) (g : Nat) (go : Bool) :
    (s.crossReads g go).eatsEast g = s.eatsEast g ∧ (s.crossReads g go).eatsSouth g = s.eatsSouth g := by
  rw [State.eatsEast, State.eatsEast, State.eatsSouth, State.eatsSouth, (s.rg_crossReads g go _).2.2, (s.rg_crossReads g go _).2.2]
  exact ⟨rfl, rfl⟩

/-- R57: a cycle of an op in a region that takes part. -/
theorem crossCycle_of_active_completes (g : Fin 16) (hactive : (s.rg g).active = true) :
    ∃ t, t = s.crossCycle g ∧
      (s.crossStall g = true →
        t.reg (Reg.RGN_XSTALL_CNT g) = (s.count (Reg.RGN_XSTALL_CNT g) 1).reg (Reg.RGN_XSTALL_CNT g) ∧
        ∀ k, (t.rg k).east.length = (s.rg k).east.length ∧ (t.rg k).south.length = (s.rg k).south.length) ∧
      (s.crossStall g = false → (∀ a, t.reg a = s.reg a) ∧
        (s.feedsWest g = true → (t.rg (g.val - 1)).east.length + 1 = (s.rg (g.val - 1)).east.length) ∧
        (s.feedsNorth g = true → (t.rg (g.val - 4)).south.length + 1 = (s.rg (g.val - 4)).south.length) ∧
        (s.eatsEast g = true → (t.rg g).east.length = (s.rg g).east.length + 1 ∧ (t.rg g).east.length ≤ 16) ∧
        (s.eatsSouth g = true → (t.rg g).south.length = (s.rg g).south.length + 1 ∧ (t.rg g).south.length ≤ 16)) := by
  refine ⟨_, rfl, fun hstall => ?_, fun hgo => ?_⟩
  · rw [State.crossCycle_of_active hactive, if_pos hstall]
    refine ⟨?_, fun k => ?_⟩
    · rw [State.reg_count_same, State.reg_count_same, State.reg_crossReads]
    · rw [State.rg_count]
      exact s.crossReads_lengths g k
  · obtain ⟨hwest, hnorth, heast, hsouth⟩ := State.crossStall_eq_false hgo
    rw [State.crossCycle_of_active hactive, hgo, if_neg Bool.false_ne_true]
    obtain ⟨hkeepEast, hkeepSouth⟩ := s.crossReads_self g true
    obtain ⟨heatsEast, heatsSouth⟩ := s.eats_crossReads g true
    refine ⟨fun a => ?_, fun hf => ?_, fun hf => ?_, fun he => ?_, fun he => ?_⟩
    · rw [State.reg_crossWrites, State.reg_crossReads]
    · rw [(State.rg_crossWrites _ g _).1, if_neg fun h => State.pos_of_feedsWest hf h.2.symm, (s.rg_crossReads g true _).1,
        if_pos ⟨hf, rfl⟩]
      exact length_afterConsumer_true (hwest hf)
    · rw [(State.rg_crossWrites _ g _).2, if_neg fun h => State.pos_of_feedsNorth hf h.2.symm, (s.rg_crossReads g true _).2.1,
        if_pos ⟨hf, rfl⟩]
      exact length_afterConsumer_true (hnorth hf)
    · rw [(State.rg_crossWrites _ g _).1, if_pos ⟨heatsEast.trans he, rfl⟩, hkeepEast, List.length_append, List.length_singleton]
      exact ⟨rfl, heast he⟩
    · rw [(State.rg_crossWrites _ g _).2, if_pos ⟨heatsSouth.trans he, rfl⟩, hkeepSouth, List.length_append, List.length_singleton]
      exact ⟨rfl, hsouth he⟩

end

/-- Settles O15: a clock's command whose condition holds takes the branch of its rule. -/
theorem regionClockCommandsComplete : Obligations.RegionClockCommandsComplete := by
  unfold Obligations.RegionClockCommandsComplete
  refine ⟨?_, ?_, fun _ _ => execDroopStepReturn_of_due, fun _ _ => execThermalStepTimer_of_due,
    fun _ _ => execDividerRestoreStep_of_due, fun _ _ _ => dividerStepResume_ends,
    fun _ _ _ _ _ => execRgnClkWrite_of_allowed, fun _ => execEstimateCorrection_of_due, fun _ => crossCycle_of_active_completes⟩
  · rintro s g r rfl
    exact droopDetected_stretches_next g
  · rintro s g r rfl
    exact droopDetected_steps g

end Sys2Proof.Machine
end

section
/-! PROOFS. Scheduled traffic (R72 to R118): stitches, the bank sets, RUN and the seams. -/
namespace Sys2Proof.Machine

section
variable {s : State}

/-! ### Stitches and queues -/

theorem execStitchSend_of_first {u v : State} {l : Fin 24} (hfirst : (s.lk l).sendAt ≠ some s.stitch) (hclear : s.seamClear = true)
    (hu : u = ((s.setLk l { s.lk l with sendAt := some s.stitch }).beginStitch l s.stitch).ejectFar s.stitch)
    (hv : v = (if u.isUp l = true ∧ slotFree (s.rd (Reg.LNK_STATUS_WIDTH l)) (u.wireTick / 2 * 2) = false then u
         else if isFar l = true ∧ entKind (u.entryAt l 0 s.stitch) = 4 then u.farSend l s.stitch
         else if isFar l = false ∧ u.looseStitch s.stitch = true then (if u.isLattice l then u else u.oppSend l s.stitch)
         else u.sendSched l s.stitch (entKind (u.entryAt l 0 s.stitch)))) :
    exec (.stitchSend l) s = .next (v.retryWait.showLists l) := by
  have harm : exec (.stitchSend l) s = execStitchSend l s := rfl
  have hgo : ¬ ((s.lk l).sendAt = some s.stitch ∨ s.seamClear = false) := by
    rw [hclear]
    exact fun h => h.elim hfirst fun hfalse => by cases hfalse
  rw [harm, execStitchSend]
  dsimp only
  rw [if_neg hgo, ← hu, hv]
  simp only [Bool.not_eq_true']

theorem execLandingStitch_of_expected {l : Fin 24} {e : Expect} {es : List Expect} (hclear : s.seamClear = true)
    (hhead : ((s.beginStitch l s.stitch).lk l).expecting = e :: es) (hnow : e.stitch = s.stitch) :
    exec (.landingStitch l) s = .next (((s.beginStitch l s.stitch).landOldest l s.stitch).palmDrain.showLists l) := by
  have harm : exec (.landingStitch l) s = execLandingStitch l s := rfl
  rw [harm, execLandingStitch]
  dsimp only
  rw [if_neg (ne_false_of_eq_true hclear), hhead, List.head?_cons]
  dsimp only
  rw [if_pos hnow]

theorem execLateLanding_of_late {l : Fin 24} {e : Expect} {es : List Expect} (hhead : (s.lk l).expecting = e :: es)
    (hlate : e.stitch < s.stitch) : exec (.lateLanding l) s = .next ((s.landOldest l s.stitch).palmDrain.showLists l) := by
  have harm : exec (.lateLanding l) s = execLateLanding l s := rfl
  rw [harm, execLateLanding, hhead, List.head?_cons]
  dsimp only
  rw [if_pos hlate]

theorem execUnexpectedArrival_of_unpaired {l : Fin 24} {i : Nat} (hgo : s.cuff.stopped = false)
    (hi : s.unpaired l s.stitch = some i) :
    exec (.unexpectedArrival l) s = .next
      ((s.setLk l { s.lk l with arrivals := (s.lk l).arrivals.eraseIdx i }).stitchMismatch l 3
        ((s.lk l).arrivals.getD i (0, {})).2.tag 0
        ((s.setLk l { s.lk l with arrivals := (s.lk l).arrivals.eraseIdx i }).posAt
          (((s.lk l).arrivals.getD i (0, {})).1 + landDelay l))) := by
  have harm : exec (.unexpectedArrival l) s = execUnexpectedArrival l s := rfl
  rw [harm, execUnexpectedArrival, if_neg (Bool.eq_false_iff.1 hgo), hi]

theorem execDeposit_of_outgoing {l : Fin 24} {q : Fin 8} {d : Desc} {tile : Nat} {f : Flit} {rest : List (Nat × Nat × Nat × Flit)}
    (hrun : s.palm.running = some d) (hout : s.palm.outgoing = (l.val, q.val, tile, f) :: rest) :
    exec (.deposit l q) s =
      .next ({ s with palm := { s.palm with outgoing := rest } }.deposit l q f (nbits d.bits 255 224)) := by
  have harm : exec (.deposit l q) s = execDeposit l q s := rfl
  have hfind : s.palm.outgoing.find? (fun d => d.1 == l.val && d.2.1 == q.val) = some (l.val, q.val, tile, f) := by
    rw [hout]
    exact List.find?_cons_of_pos (by rw [beq_self_eq_true, beq_self_eq_true, Bool.and_self])
  rw [harm, execDeposit, hfind]
  simp only [hrun, hout, List.erase_cons_head]

/-- Settles O16: a stitch's command whose condition holds takes the branch of its rule. -/
theorem stitchCommandsComplete : Obligations.StitchCommandsComplete := by
  unfold Obligations.StitchCommandsComplete
  exact ⟨fun _ _ _ _ => execStitchSend_of_first, fun _ _ _ _ => execLandingStitch_of_expected, fun _ _ _ _ => execLateLanding_of_late,
    fun _ _ _ => execUnexpectedArrival_of_unpaired, fun _ _ _ _ _ _ _ => execDeposit_of_outgoing, fun _ _ _ => rfl⟩

/-! ### Bank sets -/

theorem State.bar2Write_of_on {d : Nat} (hlive : s.live = true) (hon : s.domOn d = true) (o : Nat) (f : State → State) :
    s.bar2Write d o f = f s := by
  rw [State.bar2Write, hlive, hon]
  rfl

theorem execBankVerify_of_idle (hlive : s.live = true) (hon : s.powered Reg.CUF_CTRL = true)
    (hmanual : s.rdb Reg.CUF_CTRL_FILL_AUTO = false) (hidle : s.rdb Reg.CUF_STATUS_VERIFY_BUSY = false)
    (hdisarmed : s.rdb Reg.CUF_STATUS_ARMED = false) : exec .bankVerify s = .next (s.startVerify 0) := by
  have harm : exec .bankVerify s = execBankVerify s := rfl
  rw [harm, execBankVerify, State.busWrite_of_on _ hlive hon, hmanual, hidle, hdisarmed]
  rfl

theorem execVerifyDone_of_good {v : VerifySt} (hv : s.cuff.verify = some v) (hdone : v.done ≤ s.cyc) (hgood : v.reason = 0)
    (hmanual : v.seg = 0) :
    exec .verifyDone s = .next
      ((({ s.wr Reg.CUF_STATUS_VERIFY_BUSY 0 with cuff := { s.cuff with verify := none } }).wr Reg.CUF_STATUS_VERIFY_OK 1).setReg
        Reg.CUF_VERIFY_ERR 0) := by
  have harm : exec .verifyDone s = execVerifyDone s := rfl
  rw [harm, execVerifyDone, hv]
  dsimp only
  rw [if_neg (Nat.not_lt.2 hdone), if_neg (not_not.2 hgood), if_pos hmanual]

theorem execBankArm_of_verified (hlive : s.live = true) (hon : s.powered Reg.CUF_CTRL = true)
    (hmanual : s.rdb Reg.CUF_CTRL_FILL_AUTO = false) (hok : s.rdb Reg.CUF_STATUS_VERIFY_OK = true)
    (hdisarmed : s.rdb Reg.CUF_STATUS_ARMED = false) :
    exec .bankArm s = .next { s.wr Reg.CUF_STATUS_ARMED 1 with cuff := { s.cuff with armedAt := s.now, armSeg := 0 } } := by
  have harm : exec .bankArm s = execBankArm s := rfl
  rw [harm, execBankArm, State.busWrite_of_on _ hlive hon, hmanual, hok, hdisarmed]
  rfl

theorem execAutoFillDone_of_due {k t : Nat} (hfill : s.cuff.fill = some (k, t)) (hdue : t ≤ s.cyc) :
    exec .autoFillDone s = .next ((s.fillShadow k).startVerify k) := by
  have harm : exec .autoFillDone s = execAutoFillDone s := rfl
  rw [harm, execAutoFillDone, hfill]
  exact if_neg (Nat.not_lt.2 hdue)

theorem execStitchTableWrite_of_shadow {l : Fin 24} {dir bank : Fin 2} {p : Fin 32768} {v : Word} (hlive : s.live = true)
    (hon : s.domOn (linkDomain l) = true) (hshadow : s.rd Reg.CUF_STATUS_ACTIVE_BANK ≠ bank.val)
    (hdisarmed : s.rdb Reg.CUF_STATUS_ARMED = false) (hidle : s.rdb Reg.CUF_STATUS_VERIFY_BUSY = false) :
    exec (.stitchTableWrite l dir bank p v) s = .next
      (((s.setTab (0x100000 * l + 0x80000 * dir + 0x40000 * bank + 8 * p) v).dropUpsets .program l (2 * dir + bank) (p / 4)).wr
        Reg.CUF_STATUS_VERIFY_OK 0) := by
  have harm : exec (.stitchTableWrite l dir bank p v) s = execStitchTableWrite l dir bank p v s := rfl
  have hfree : ¬ (s.rd Reg.CUF_STATUS_ACTIVE_BANK = bank.val ∨ s.rdb Reg.CUF_STATUS_ARMED = true ∨
      s.rdb Reg.CUF_STATUS_VERIFY_BUSY = true) := by
    rw [hdisarmed, hidle]
    exact fun h => h.elim hshadow fun h => by rcases h with h | h <;> cases h
  rw [harm, execStitchTableWrite, State.bar2Write_of_on hlive hon, if_neg hfree, progAddr, progQueue, Nat.mul_comm p.val 8]

theorem execBankCfgWrite_of_shadow {n : Fin 65536} {phase : Fin 32} (hlive : s.live = true) (hon : s.powered Reg.CUF_BANK_CFG = true)
    (hdisarmed : s.rdb Reg.CUF_STATUS_ARMED = false) (hidle : s.rdb Reg.CUF_STATUS_VERIFY_BUSY = false) (hmul : n.val % 32 = 0)
    (hpos : 0 < n.val) (hmax : n.val ≤ 32768) :
    exec (.bankCfgWrite n phase) s = .next
      (((s.drvWr Reg.CUF_BANK_CFG_N n).drvWr Reg.CUF_BANK_CFG_LOOSE_PHASE phase).wr Reg.CUF_STATUS_VERIFY_OK 0) := by
  have harm : exec (.bankCfgWrite n phase) s = execBankCfgWrite n phase s := rfl
  have hvalid : ¬ (n.val % 32 ≠ 0 ∨ n.val = 0 ∨ 32768 < n.val) := by omega
  rw [harm, execBankCfgWrite, State.busWrite_of_on _ hlive hon, hdisarmed, hidle, if_neg hvalid]
  rfl

theorem execQueueCfgWrite_of_idle {l : Fin 24} {rq : Bool} {v : Word} (hlive : s.live = true)
    (hon : s.powered (if rq then Reg.LNK_RQ_CFG l else Reg.LNK_SQ_CFG l) = true) (hidle : s.run = false) (hsum : capSum v ≤ 512) :
    exec (.queueCfgWrite l rq v) s = .next
      (s.setReg (if rq then Reg.LNK_RQ_CFG l else Reg.LNK_SQ_CFG l) (fset (fset v 63 63 0) 13 7 0)) := by
  have harm : exec (.queueCfgWrite l rq v) s = execQueueCfgWrite l rq v s := rfl
  rw [harm, execQueueCfgWrite, State.busWrite_of_on _ hlive hon, if_neg (Bool.eq_false_iff.1 hidle), if_neg (Nat.not_lt.2 hsum)]

/-- Settles O17: a bank set's command whose condition holds takes the branch of its rule. -/
theorem bankCommandsComplete : Obligations.BankCommandsComplete := by
  unfold Obligations.BankCommandsComplete
  exact ⟨fun _ => execBankVerify_of_idle, fun _ _ => execVerifyDone_of_good, fun _ => execBankArm_of_verified,
    fun _ _ _ => execAutoFillDone_of_due, fun _ _ _ _ _ _ => execStitchTableWrite_of_shadow,
    fun _ _ _ => execBankCfgWrite_of_shadow, fun _ _ _ _ => execQueueCfgWrite_of_idle⟩

/-! ### RUN and seams -/

/-- What setting RUN clears: the seam reports of the links, before `fwd`. -/
def State.clearReports (s : State) (ls : List Nat) : State := s.forEach ls fun s l => s.wr (Reg.LNK_SEAM_RPT_VALID l) 0

theorem State.rd_clearReports_ne (s : State) {g : Fld} (hg : ∀ l < 24, g.addr ≠ Reg.LNK_SEAM_RPT l) :
    (s.clearReports allLinks).rd g = s.rd g := by
  rw [State.rd_eq, State.rd_eq, State.clearReports]
  refine congrArg (fget · g.hi g.lo) (State.reg_forEach _ _ _ (fun s l hl => State.reg_wr_ne _ _ ?_) s)
  exact hg l (List.mem_range.1 hl)

theorem State.rd_clearReports (s : State) {ls : List Nat} {l : Nat} (h : l ∈ ls ∨ s.rd (Reg.LNK_SEAM_RPT_VALID l) = 0) :
    (s.clearReports ls).rd (Reg.LNK_SEAM_RPT_VALID l) = 0 := by
  induction ls generalizing s with
  | nil => exact h.resolve_left List.not_mem_nil
  | cons j ls ih =>
    refine ih (s := s.wr (Reg.LNK_SEAM_RPT_VALID j) 0) ?_
    by_cases hj : l = j
    · rw [hj, State.rd_wr_same _ _ rfl]
      exact .inr rfl
    · have haddr : Reg.LNK_SEAM_RPT l ≠ Reg.LNK_SEAM_RPT j := by
        rw [Reg.LNK_SEAM_RPT, Reg.LNK_SEAM_RPT]
        omega
      rw [State.rd_wr_ne _ _ haddr]
      exact h.imp_left fun hmem => (List.mem_cons.1 hmem).resolve_left hj

/-- R96, R114: setting RUN forgets the alarm received and the seam reports. -/
theorem cufRunSet_of_idle (hlive : s.live = true) (hon : s.powered Reg.CUF_CTRL = true) (hidle : s.run = false) :
    ∃ t, exec .cufRunSet s = .next t ∧ t.run = true ∧ t.rd Reg.FLT_ALARM_RX_VALID = 0 ∧ t.flt.fwd = 0 ∧
      ∀ l : Fin 24, t.rd (Reg.LNK_SEAM_RPT_VALID l) = 0 := by
  have harm : exec .cufRunSet s = execCufRunSet s := rfl
  generalize hu : (s.wr Reg.CUF_CTRL_RUN 1).wr Reg.FLT_ALARM_RX_VALID 0 = u
  generalize hc : u.clearReports allLinks = c
  have hnext : exec .cufRunSet s = .next { c with flt := { c.flt with fwd := 0 } } := by
    rw [harm, execCufRunSet, State.busWrite_of_on _ hlive hon, if_neg (Bool.eq_false_iff.1 hidle), hu, ← hc, State.clearReports]
  have hapart : ∀ {g : Fld}, g.addr < 0x1100000 ∨ 0x1280000 ≤ g.addr → c.rd g = u.rd g := fun h => by
    rw [← hc]
    refine u.rd_clearReports_ne fun l hl => ?_
    rw [Reg.LNK_SEAM_RPT]
    omega
  have hreports : ∀ l : Fin 24, c.rd (Reg.LNK_SEAM_RPT_VALID l) = 0 := fun l => by
    rw [← hc]
    exact u.rd_clearReports (.inl (List.mem_range.2 l.isLt))
  have hrun : c.rd Reg.CUF_CTRL_RUN = 1 := by
    rw [hapart (.inl (by decide)), ← hu]
    simp (disch := decide) only [State.rd_wr_ne, State.rd_wr_same]
    rfl
  have hvalid : c.rd Reg.FLT_ALARM_RX_VALID = 0 := by
    rw [hapart (.inr (by decide)), ← hu, State.rd_wr_same _ _ (by decide)]
    rfl
  exact ⟨_, hnext, congrArg (· != 0) hrun, hvalid, rfl, hreports⟩

theorem execCufRunClear_of_running (hlive : s.live = true) (hon : s.powered Reg.CUF_CTRL = true) (hrun : s.run = true) :
    exec .cufRunClear s = .next s.clearRun := by
  have harm : exec .cufRunClear s = execCufRunClear s := rfl
  rw [harm, execCufRunClear, State.busWrite_of_on _ hlive hon, if_pos hrun]

theorem State.seamDue_eq_true (hrun : s.run = true) (hldr : s.ldr = 8) (hgo : s.cuff.stopped = false) (hmore : s.cuff.ended = false)
    (hnow : s.now = s.rd Reg.CUF_SEAM_TICK_TICK) : s.seamDue = true := by
  rw [State.seamDue, hrun, hldr, hgo, hmore, hnow, beq_self_eq_true (s.rd _)]
  rfl

/-- What a due seam does: the states between its parts are `v`, `w`, `u` and `x`. -/
theorem execSeamOpen_of_due {v w u x : State} {k t : Nat} (fetched : Bool) (hdue : s.seamDue = true)
    (hk : k = s.rd Reg.CUF_SEAM_SEGMENT) (ht : t = s.rd Reg.CUF_SEAM_TICK_TICK) (hv : v = s.takeDeferred (k + 1))
    (hgo : v.cuff.stopped = false)
    (hw : w = (v.forEach allLinks fun s l =>
      s.setLk l { s.lk l with wasSched := s.rdb (Reg.LNK_SCHED_STATUS_SCHED_ACTIVE l), misRaised := false }))
    (hu : u = { w with cuff := { w.cuff with checkSeam := some (k, t, t + w.rd Reg.CUF_SEAM_GRACE), prevN := w.roundN } })
    (hx : x = (if u.swapDue (k + 1) then u.swapBanks k else u).setEsts false) :
    exec (.seamOpen fetched) s = .next (if segLast (s.segEntry k) then { x with cuff := { x.cuff with ended := true } }
      else (x.openNext k t (u.swapDue (k + 1)) fetched).when (x.segFetched (k + 1) fetched) fun s => s.fetchSeg (k + 2)) := by
  have harm : exec (.seamOpen fetched) s = execSeamOpen fetched s := rfl
  rw [harm, execSeamOpen]
  dsimp only
  rw [if_neg (ne_false_of_eq_true hdue), ← hk, ← ht, ← hv, if_neg (Bool.eq_false_iff.1 hgo), ← hw, ← hu, ← hx]

theorem State.openNext_of_fetched {k t : Nat} {swapped fetched : Bool} (h : s.segFetched (k + 1) fetched = true) {y : State}
    (hy : y = { s with cuff := { s.cuff with prevOpen := s.cuff.openTick, openTick := t } }.commitSegment (k + 1)) :
    s.openNext k t swapped fetched = (if swapped then y.nextFill (k + 1) else y).beginAll := by
  have hheld : ¬ (!State.segFetched { s with cuff := { s.cuff with prevOpen := s.cuff.openTick, openTick := t } } (k + 1) fetched) = true := by
    rw [show State.segFetched { s with cuff := { s.cuff with prevOpen := s.cuff.openTick, openTick := t } } (k + 1) fetched =
      s.segFetched (k + 1) fetched from rfl, h]
    decide
  rw [State.openNext, if_neg hheld, hy]

theorem execSeamCheck_of_due {u : State} {k t : Nat} (hcheck : s.cuff.checkSeam = some (k, t, s.now)) (hrun : s.run = true)
    (hgo : s.cuff.stopped = false) (hu : u = { s with cuff := { s.cuff with checkSeam := none } }) :
    exec .seamCheck s = .next
      (match u.seamFailure k t s.stitch with
       | some f => u.seamFailed k f
       | none => u.seamPassed k) := by
  have harm : exec .seamCheck s = execSeamCheck s := rfl
  have hrun' : u.run = true := by
    rw [hu]
    exact hrun
  have hgo' : u.cuff.stopped = false := by
    rw [hu]
    exact hgo
  have hstill : ¬ ((!u.run) = true ∨ u.cuff.stopped = true) := by
    rw [hrun', hgo']
    decide
  have hstitch : u.stitch = s.stitch := by
    rw [hu]
    rfl
  have hnext : exec .seamCheck s = if (!u.run) = true ∨ u.cuff.stopped = true then .next u
      else match u.seamFailure k t u.stitch with
        | some f => .next (u.seamFailed k f)
        | none => .next (u.seamPassed k) := by
    rw [harm, execSeamCheck, hcheck, hu]
    exact if_neg (not_not.2 rfl)
  rw [hnext, if_neg hstill, hstitch]
  cases u.seamFailure k t s.stitch
  · rfl
  · rfl

end

/-- Settles O18: a seam's command whose condition holds takes the branch of its rule. -/
theorem seamCommandsComplete : Obligations.SeamCommandsComplete := by
  unfold Obligations.SeamCommandsComplete
  refine ⟨fun _ => cufRunSet_of_idle, fun _ => execCufRunClear_of_running, ?_, fun _ _ _ _ => execSeamCheck_of_due⟩
  intro s v w u x k t fetched hrun hldr hgo hmore hk ht hnow hv hgo' hw hu hx
  have hnext := execSeamOpen_of_due fetched (State.seamDue_eq_true hrun hldr hgo hmore (hnow.trans ht)) hk ht hv hgo' hw hu hx
  refine ⟨fun hlast => ?_, fun hlast hfetched => ⟨_, _, rfl, rfl, ?_⟩⟩
  · rw [hnext, if_pos hlast]
  · rw [hnext, if_neg (Bool.eq_false_iff.1 hlast), State.openNext_of_fetched hfetched rfl, State.when, if_pos hfetched]

end Sys2Proof.Machine
end

section
/-! PROOFS. Links that are UP (R77 to R172): slots and words that arrive, words sent, training requests and replays. -/
namespace Sys2Proof.Machine

section
variable {s : State}

/-! ### Slots that arrive -/

section
variable {l : Fin 24} {slot : BitVec 3200} {f : Flit}

theorem State.takeSlot_of_scheduled (hup : s.isUp l = true) (hhears : s.mute l = false) (hok : slotOk slot.toNat = true)
    (hf : f = flitOf slot.toNat) (hcls : f.cls = 0) : s.takeSlot l slot.toNat = s.rxSched l f := by
  rw [State.takeSlot, hup, hhears, hok, ← hf, hcls]
  rfl

theorem State.takeSlot_of_loose (hup : s.isUp l = true) (hhears : s.mute l = false) (hok : slotOk slot.toNat = true)
    (hf : f = flitOf slot.toNat) (hcls : f.cls = 1) : s.takeSlot l slot.toNat = s.rxLoose l f := by
  rw [State.takeSlot, hup, hhears, hok, ← hf, hcls]
  rfl

theorem State.takeSlot_of_null (hup : s.isUp l = true) (hhears : s.mute l = false) (hok : slotOk slot.toNat = true)
    (hf : f = flitOf slot.toNat) (hcls : f.cls = 2) : s.takeSlot l slot.toNat = s := by
  rw [State.takeSlot, hup, hhears, hok, ← hf, hcls]
  rfl

theorem State.takeSlot_of_errored (hup : s.isUp l = true) (hhears : s.mute l = false) (hbad : slotOk slot.toNat = false) :
    s.takeSlot l slot.toNat = s.slotErrored l (s.stitch - s.flight l) [] := by
  rw [State.takeSlot, hup, hhears, hbad]
  rfl

theorem State.rxSched_of_expected {u : State} (hseq : f.seq % 2 ^ 24 = s.rd (rxExpectFld l 0))
    (hu : u = (if f.carriedV then (s.acceptSeq l 0).declareMember l f.carried else s.acceptSeq l 0)) :
    s.rxSched l f = if movedRepeat (u.lk l).carryExpS f then u.count (Reg.LNK_DUP_CNT l) 1
      else u.setLk l { u.lk l with arrivals := (u.lk l).arrivals ++ [(u.stitch, f)] } := by
  rw [State.rxSched, if_neg (not_not.2 hseq), hu, State.carriedBy]

/-- What `rxLoose` does with a flit of the number it expects; `d` is the state once the flit's declaration is taken. -/
theorem State.rxLoose_of_expected {d : State} (hseq : f.seq % 2 ^ 24 = s.rd (rxExpectFld l 1))
    (hd : d = if f.carriedV then s.declareMember l f.carried else s) :
    (movedRepeat (d.lk l).carryExpL f = true →
      s.rxLoose l f = (if f.carriedV then (s.acceptSeq l 1).declareMember l f.carried else s.acceptSeq l 1).count
        (Reg.LNK_DUP_CNT l) 1) ∧
    (movedRepeat (d.lk l).carryExpL f = false → (s.offer l s.stitch f).2 = true →
      s.rxLoose l f = (if f.carriedV then ((s.offer l s.stitch f).1.acceptSeq l 1).declareMember l f.carried
        else (s.offer l s.stitch f).1.acceptSeq l 1).retryWait) ∧
    (movedRepeat (d.lk l).carryExpL f = false → (s.offer l s.stitch f).2 = false →
      s.rxLoose l f = (s.offer l s.stitch f).1.count Reg.RTE_REFUSE_CNT 1) := by
  have hcarried : s.carriedBy l f = d := by rw [hd, State.carriedBy]
  rw [State.rxLoose, if_neg (not_not.2 hseq), hcarried]
  refine ⟨fun hmoved => ?_, fun hnew htaken => ?_, fun hnew hrefused => ?_⟩
  · rw [if_pos hmoved, State.carriedBy]
  · rw [if_neg (Bool.eq_false_iff.1 hnew)]
    dsimp only
    rw [if_pos htaken, State.carriedBy]
  · rw [if_neg (Bool.eq_false_iff.1 hnew)]
    dsimp only
    rw [if_neg (Bool.eq_false_iff.1 hrefused)]

end

theorem State.slotErrored_eq {u v : State} {l : Fin 24} {d : Nat} {cs : List Nat}
    (hu : u = (s.count (Reg.LNK_CRC_ERR_CNT l) 1).count (Reg.LNK_FEC_UNCORR_CNT l) ((cs.filter fun n => decide (15 < n)).length))
    (hv : v = (if !isFar l && u.rd (Reg.LNK_STATUS_WIDTH l) == 8 && u.looseStitch d || (u.lk l).s.nakOpen then u else u.openNak l 0)) :
    s.slotErrored l d cs = if (v.lk l).l.nakOpen then v else v.openNak l 1 := by
  rw [hv, hu, State.slotErrored]
  rfl

/-! ### Words and credits that arrive -/

theorem execErroredSlot_of_up {u v : State} {l : Fin 24} {d : Nat} {cs : List Nat} (hup : s.isUp l = true) (hhears : s.mute l = false)
    (hu : u = (s.count (Reg.LNK_CRC_ERR_CNT l) 1).count (Reg.LNK_FEC_UNCORR_CNT l) ((cs.filter fun n => decide (15 < n)).length))
    (hv : v = (if !isFar l && u.rd (Reg.LNK_STATUS_WIDTH l) == 8 && u.looseStitch d || (u.lk l).s.nakOpen then u else u.openNak l 0)) :
    exec (.erroredSlot l d cs) s = .next (if (v.lk l).l.nakOpen then v else v.openNak l 1) := by
  have harm : exec (.erroredSlot l d cs) s = execErroredSlot l d cs s := rfl
  rw [harm, execErroredSlot, hup, hhears, State.slotErrored_eq hu hv]
  rfl

theorem execLcwReceived_of_up {l : Fin 24} (hup : s.isUp l = true) (w : Nat) (errored : Bool) :
    exec (.lcwReceived l w errored) s = .next
      (if errored = false ∧ lcwOk w = true ∧ nbits w 175 172 ≤ 5 then s.applyLcw l w else s.count (Reg.LNK_LCW_ERR_CNT l) 1) := by
  have harm : exec (.lcwReceived l w errored) s = execLcwReceived l w errored s := rfl
  have hbad : (errored = true ∨ (!lcwOk w) = true ∨ 5 < nbits w 175 172) ↔
      ¬ (errored = false ∧ lcwOk w = true ∧ nbits w 175 172 ≤ 5) := by
    rw [not_and_or, not_and_or, Bool.not_eq_false, Bool.not_eq_true, Bool.not_eq_true', Nat.not_le]
  rw [harm, execLcwReceived, hup]
  by_cases hgood : errored = false ∧ lcwOk w = true ∧ nbits w 175 172 ≤ 5
  · rw [if_pos hgood, if_neg fun h => hbad.1 h hgood]
    rfl
  · rw [if_neg hgood, if_pos (hbad.2 hgood)]
    rfl

theorem execIdent_of_up {l : Fin 24} (hup : s.isUp l = true) (serial : Word) (link : Fin 32) (seat mitten : Fin 4096) :
    exec (.ident l serial link seat mitten) s = .next
      (((s.setLk l { s.lk l with ident := some (serial.toNat, link.val, seat.val, mitten.val) }).wr
        (Reg.LNK_SCHED_STATUS_NBR_MITTEN l) mitten).discover l) := by
  have harm : exec (.ident l serial link seat mitten) s = execIdent l serial link seat mitten s := rfl
  rw [harm, execIdent, hup]
  rfl

theorem execCredit_of_far {l : Fin 24} (hup : s.isUp l = true) (hfar : isFar l = true) (counts : List Nat) :
    exec (.credit l counts) s = .next (s.forEach (counts.take 8).zipIdx fun s p => s.takeCredit l p.2 (p.1 % 512)) := by
  have harm : exec (.credit l counts) s = execCredit l counts s := rfl
  rw [harm, execCredit, hup, hfar]
  rfl

end

/-- Settles O19: a slot's bits say which command it is, and a command whose condition holds takes the branch of its rule. -/
theorem receptionCommandsComplete : Obligations.ReceptionCommandsComplete := by
  unfold Obligations.ReceptionCommandsComplete
  have hsched : ∀ (s : State) (l : Fin 24) (slot : BitVec 3200), exec (.scheduledFlitRx l slot) s = .next (s.takeSlot l slot.toNat) :=
    fun _ _ _ => rfl
  have hloose : ∀ (s : State) (l : Fin 24) (slot : BitVec 3200), exec (.looseFlitRx l slot) s = .next (s.takeSlot l slot.toNat) :=
    fun _ _ _ => rfl
  have hnull : ∀ (s : State) (l : Fin 24) (slot : BitVec 3200), exec (.nullFlitRx l slot) s = .next (s.takeSlot l slot.toNat) :=
    fun _ _ _ => rfl
  refine ⟨fun s u l slot f hup hhears hok hf hcls hseq hu => ?_, fun s d l slot f hup hhears hok hf hcls hseq hd => ?_,
    fun s l slot f hup hhears hok hf => ⟨fun hcls hseq => ?_, fun hcls hseq => ?_, fun hcls => ?_⟩,
    fun s l slot => ⟨rfl, rfl, fun hup hhears hbad => ?_⟩, fun _ _ _ _ _ _ => execErroredSlot_of_up,
    fun _ _ w errored hup => execLcwReceived_of_up hup w errored,
    fun _ _ serial link seat mitten hup => execIdent_of_up hup serial link seat mitten,
    fun _ _ counts hup hfar => execCredit_of_far hup hfar counts⟩
  · rw [hsched, State.takeSlot_of_scheduled hup hhears hok hf hcls, State.rxSched_of_expected hseq hu]
  · obtain ⟨hmoved, htaken, hrefused⟩ := State.rxLoose_of_expected hseq hd
    rw [hloose, State.takeSlot_of_loose hup hhears hok hf hcls]
    exact ⟨fun h => congrArg _ (hmoved h), fun h h' => ⟨_, rfl, congrArg _ (htaken h h')⟩,
      fun h h' => congrArg _ (hrefused h h')⟩
  · rw [hsched, State.takeSlot_of_scheduled hup hhears hok hf hcls, State.rxSched, if_pos hseq]
  · rw [hloose, State.takeSlot_of_loose hup hhears hok hf hcls, State.rxLoose, if_pos hseq]
  · rw [hnull, State.takeSlot_of_null hup hhears hok hf hcls]
  · have harm : exec (.erroredSlot l (s.stitch - s.flight l) []) s = execErroredSlot l (s.stitch - s.flight l) [] s := rfl
    rw [hnull, State.takeSlot_of_errored hup hhears hbad, harm, execErroredSlot, hup, hhears]
    rfl

end Sys2Proof.Machine
end

section
/-! PROOFS. What a link sends beside its flits (R122, R123, R133, R134, R139, R140, R149): training requests, link control words and
replays. -/
namespace Sys2Proof.Machine

section
variable {s : State} {l : Fin 24}

/-! ### Training requests -/

theorem execTrainAccept_of_request {code n t : Nat} (hup : s.isUp l = true) (hreq : (s.lk l).trainReq = some (code, n, t)) :
    exec (.trainAccept l) s = .next (s.followTrain l code (s.lk l).reqCause) := by
  have harm : exec (.trainAccept l) s = execTrainAccept l s := rfl
  rw [harm, execTrainAccept, hup, hreq]
  rfl

theorem execTrainRequestTimeout_of_due {code n t : Nat} (hup : s.isUp l = true) (hreq : (s.lk l).trainReq = some (code, n, t))
    (hdue : t + 4096 ≤ s.cyc) :
    exec (.trainRequestTimeout l) s = .next
      (if n < 4 then s.setLk l { s.lk l with pendTrain := some code } else s.dropLink l true (s.lk l).reqCause false) := by
  have harm : exec (.trainRequestTimeout l) s = execTrainRequestTimeout l s := rfl
  have hgo : ¬ ((!s.isUp l) = true ∨ s.cyc < t + 4096) := by
    rw [hup]
    exact fun h => h.elim (fun h => by cases h) (Nat.not_lt.2 hdue)
  rw [harm, execTrainRequestTimeout, hreq]
  dsimp only
  rw [if_neg hgo, hreq, apply_ite Host.Outcome.next]

/-! ### Link control words sent -/

theorem State.rspDue_of_ready {b : Beacon} {t : Nat} (hrsp : (s.lk l).pendRsp = some (b, t)) (hready : t + 4 ≤ s.wireTick) :
    s.rspDue l = some b := by
  rw [State.rspDue, hrsp]
  exact if_pos hready

theorem State.rspDue_of_early (h : ∀ b t, (s.lk l).pendRsp = some (b, t) → s.wireTick < t + 4) : s.rspDue l = none := by
  rw [State.rspDue]
  split
  · next b t hrsp => exact if_neg (Nat.not_le.2 (h b t hrsp))
  · rfl

theorem execLcwTransmit_of_response {b : Beacon} (hdue : s.lcwDue l = true) (hrsp : s.rspDue l = some b) :
    exec (.lcwTransmit l) s = .next (s.sendRsp l b) := by
  have harm : exec (.lcwTransmit l) s = execLcwTransmit l s := rfl
  rw [harm, execLcwTransmit, hdue, hrsp]
  rfl

theorem execLcwTransmit_of_training {code : Nat} (hdue : s.lcwDue l = true) (hrsp : s.rspDue l = none)
    (htrain : s.trainDue l = some code) (hcode : code ≠ 4) (hfirst : (s.lk l).trainReq = none) :
    exec (.lcwTransmit l) s = .next
      ((s.sendTrain l code).setLk l { (s.sendTrain l code).lk l with trainReq := some (code, 1, (s.sendTrain l code).cyc) }) := by
  have harm : exec (.lcwTransmit l) s = execLcwTransmit l s := rfl
  rw [harm, execLcwTransmit, hdue, hrsp, htrain]
  dsimp only
  rw [if_neg hcode, hfirst]
  rfl

theorem execLcwTransmit_of_accept {f : Nat} (hdue : s.lcwDue l = true) (hrsp : s.rspDue l = none)
    (htrain : s.trainDue l = some 4) (hfollow : (s.lk l).follow = some f) :
    exec (.lcwTransmit l) s = .next ((s.sendTrain l 4).followTrain l f 7) := by
  have harm : exec (.lcwTransmit l) s = execLcwTransmit l s := rfl
  rw [harm, execLcwTransmit, hdue, hrsp, htrain]
  dsimp only
  rw [if_pos rfl, hfollow]
  rfl

theorem execLcwTransmit_of_later (hdue : s.lcwDue l = true) (hrsp : s.rspDue l = none) (htrain : s.trainDue l = none) :
    exec (.lcwTransmit l) s = .next (s.sendLater l) := by
  have harm : exec (.lcwTransmit l) s = execLcwTransmit l s := rfl
  rw [harm, execLcwTransmit, hdue, hrsp, htrain]
  rfl

theorem State.trainDue_of_shown {code : Nat} (hpend : (s.lk l).pendTrain = some code) (hshown : (s.lcwShown l).train = some code) :
    s.trainDue l = some code := by
  rw [State.trainDue, hpend, hshown, if_pos rfl]

theorem State.trainDue_of_none (hpend : (s.lk l).pendTrain = none) : s.trainDue l = none := by
  rw [State.trainDue, hpend, ite_self]

/-- The words after TRAIN, in the order of log entry 33. -/
theorem State.sendLater_eq (s : State) (l : Nat) :
    (s.identDue l = true → s.sendLater l = s.sendIdent l) ∧
    (s.identDue l = false → s.sendLater l =
      (if isFar l && (s.lk l).pendCred && (s.lcwShown l).cred && !(s.lk l).prevCred then s.sendCredit l
       else match (if (s.lcwShown l).req then (s.lk l).pendReq else none) with
         | some b => s.sendReq l b
         | none =>
           if s.identNew l then s.sendIdent l
           else if isFar l && (s.lk l).pendCred && (s.lcwShown l).cred then s.sendCredit l
           else s.sendLcw l 0 0)) := by
  refine ⟨fun h => ?_, fun h => ?_⟩
  · rw [State.sendLater, if_pos h]
  · rw [State.sendLater]
    exact if_neg (Bool.eq_false_iff.1 h)

/-! ### Replays -/

section
variable {u : State} {c : Fin 2}

theorem execReplayStart_of_nak {n t : Nat} (hnak : ((s.lk l).cls c).nakFrom = some (n, t))
    (hu : u = s.setCls l c { (s.lk l).cls c with nakFrom := none }) (hup : u.isUp l = true)
    (hup' : c.val = 1 → (u.oppRefused l n).isUp l = true) :
    exec (.replayStart l c) s = .next
      (if c.val = 1 then (u.oppRefused l n).startReplay l c n (t + 5) false else u.startReplay l c n (t + 5) false) := by
  have harm : exec (.replayStart l c) s = execReplayStart l c s := rfl
  rw [harm, execReplayStart]
  dsimp only
  rw [hnak]
  dsimp only
  rw [← hu]
  by_cases hc : c.val = 1
  · rw [if_pos hc, if_pos hc, if_pos (hup' hc)]
  · rw [if_neg hc, if_neg hc, if_pos hup]

theorem State.unanswered_of_oldest {x : Sent} {xs : List Sent} (hnak : ((s.lk l).cls c).nakFrom = none)
    (hold : ((s.lk l).cls c).unacked = x :: xs) (hreplay : (((s.lk l).cls c).replay.map Prod.fst) ≠ some x.flit.seq) :
    s.unanswered l c = some x := by
  rw [State.unanswered]
  rw [hold, hnak, List.head?_cons]
  exact if_neg hreplay

theorem execReplayTimer_of_due {x : Sent} (hx : s.unanswered l c = some x) (hup : s.isUp l = true) (hhears : s.mute l = false)
    (hdue : x.last + 2 * s.flight l + 34 ≤ s.stitch) (hu : u = (if c.val = 1 then s.oppRefused l x.flit.seq else s)) :
    exec (.replayTimer l c) s = .next (u.startReplay l c x.flit.seq u.stitch true) := by
  have harm : exec (.replayTimer l c) s = execReplayTimer l c s := rfl
  have hgo : ¬ ((!s.isUp l) = true ∨ s.mute l = true ∨ s.stitch < x.last + 2 * s.flight l + 34) := by
    rw [hup, hhears]
    rintro (h | h | h)
    · cases h
    · cases h
    · exact Nat.not_lt.2 hdue h
  rw [harm, execReplayTimer, hx]
  dsimp only
  rw [if_neg hgo, ← hu]

end

end

/-- Settles O20: the word that is due, and a request or replay whose condition holds, take the branch of their rule. -/
theorem linkExchangeCommandsComplete : Obligations.LinkExchangeCommandsComplete := by
  unfold Obligations.LinkExchangeCommandsComplete
  refine ⟨?_, fun _ _ _ _ _ => execTrainAccept_of_request, fun _ _ _ _ _ => execTrainRequestTimeout_of_due,
    fun s l b t hdue hrsp hready => execLcwTransmit_of_response hdue (State.rspDue_of_ready hrsp hready),
    fun s l code hdue hearly hpend hshown => ?_, fun s l hdue hearly hpend => ?_, fun _ _ _ _ _ _ => execReplayStart_of_nak,
    fun s u l c x xs hnak hold hreplay hup hhears hdue hu =>
      execReplayTimer_of_due (State.unanswered_of_oldest hnak hold hreplay) hup hhears hdue hu⟩
  · rintro s u l serial link w g rfl
    exact ⟨rfl, rfl, rfl⟩
  · have hrsp := State.rspDue_of_early hearly
    have htrain := State.trainDue_of_shown hpend hshown
    refine ⟨execLcwTransmit_of_training hdue hrsp htrain, fun hcode f hfollow => ?_⟩
    exact execLcwTransmit_of_accept hdue hrsp (hcode ▸ htrain) hfollow
  · have hnext := execLcwTransmit_of_later hdue (State.rspDue_of_early hearly) (State.trainDue_of_none hpend)
    obtain ⟨hident, hlater⟩ := s.sendLater_eq l
    exact ⟨fun h => hnext.trans (congrArg _ (hident h)), fun h => hnext.trans (congrArg _ (hlater h))⟩

end Sys2Proof.Machine
end

section
/-! PROOFS. Training (R144 to R152): a link's way through its states to UP, and what takes it out again. -/
namespace Sys2Proof.Machine

/-! ### Lanes that do not pass -/

/-- The number that has a bit at every `i` below `n` for which `p` does not hold. -/
def clearMask (p : Nat → Bool) (n : Nat) : Nat := ((List.range n).map fun i => if p i then 0 else 2 ^ i).sum

theorem clearMask_succ (p : Nat → Bool) (n : Nat) : clearMask p (n + 1) = clearMask p n + if p n then 0 else 2 ^ n := by
  rw [clearMask, List.range_succ, List.map_append, List.sum_append, List.map_singleton, List.sum_singleton, clearMask]

theorem clearMask_lt (p : Nat → Bool) (n : Nat) : clearMask p n < 2 ^ n := by
  induction n with
  | zero => exact Nat.one_pos
  | succ n ih =>
    rw [clearMask_succ, Nat.pow_succ]
    split
    · omega
    · omega

theorem nbit_clearMask (p : Nat → Bool) {n i : Nat} (h : i < n) : nbit (clearMask p n) i = !p i := by
  induction n with
  | zero => omega
  | succ n ih =>
    have hlt := clearMask_lt p n
    rw [nbit_eq_testBit] at ih ⊢
    rw [clearMask_succ]
    obtain hbelow | htop := Nat.lt_succ_iff_lt_or_eq.1 h
    · split
      · rw [Nat.add_zero, ih hbelow]
      · rw [Nat.add_comm, Nat.testBit_two_pow_add_gt hbelow, ih hbelow]
    · subst htop
      split
      · next hp => rw [Nat.add_zero, Nat.testBit_lt_two_pow hlt, hp]; rfl
      · next hp => rw [Nat.add_comm, Nat.testBit_two_pow_add_eq, Nat.testBit_lt_two_pow hlt, Bool.eq_false_iff.2 hp]

/-- A lane is bad without lock or with more corrected symbols than the threshold. -/
theorem nbit_badLanes (lock : BitVec 8) (most : Nat) (symbols : List Nat) {i : Nat} (h : i < 8) :
    nbit (badLanes lock.toNat most symbols) i = true ↔ lock.getLsbD i = false ∨ most < symbols.getD i 0 := by
  have hmask : badLanes lock.toNat most symbols =
      clearMask (fun i => nbit lock.toNat i && decide (symbols.getD i 0 ≤ most)) 8 := rfl
  rw [hmask, nbit_clearMask _ h, Bool.not_eq_true', Bool.and_eq_false_iff, decide_eq_false_iff_not, Nat.not_le, nbit_eq_testBit,
    BitVec.testBit_toNat]

section
variable {s : State} {l : Fin 24}

/-! ### From DISABLED to UP -/

theorem execLinkEnable_of_disabled {u : State} (hlive : s.live = true) (hon : s.powered (Reg.LNK_CTRL l) = true)
    (hoff : s.rdb (Reg.LNK_CTRL_EN l) = false)
    (hu : u = ((s.drvWr (Reg.LNK_CTRL_EN l) 1).wr (Reg.LNK_TRAIN_INFO_CAUSE l) 1).wr (Reg.LNK_TRAIN_INFO_FAILS l) 0) :
    exec (.linkEnable l) s = .next ((u.setLk l { u.lk l with full := true, prevWidth := 0 }).setTraining l 1) := by
  have harm : exec (.linkEnable l) s = execLinkEnable l s := rfl
  rw [harm, execLinkEnable, State.busWrite_of_on _ hlive hon, if_neg (Bool.eq_false_iff.1 hoff), hu]

theorem execLinkDisable_of_on {u : State} (hlive : s.live = true) (hon : s.powered (Reg.LNK_CTRL l) = true)
    (hu : u = (s.drvWr (Reg.LNK_CTRL_EN l) 0).setLk l { s.lk l with
      ident := none, trainReq := none, pendTrain := none, pendReq := none, pendRsp := none, follow := none, rxDownUntil := none,
      s := { (s.lk l).s with replay := none }, l := { (s.lk l).l with replay := none } }) :
    exec (.linkDisable l) s = .next (((u.setTraining l 0).wr (Reg.LNK_STATUS_RX_LOCK l) 0).discover l) := by
  have harm : exec (.linkDisable l) s = execLinkDisable l s := rfl
  rw [harm, execLinkDisable, State.busWrite_of_on _ hlive hon, hu]

theorem execLinkRetrain_of_up (hlive : s.live = true) (hon : s.powered (Reg.LNK_CTRL l) = true) (hup : s.isUp l = true) :
    exec (.linkRetrain l) s = .next
      (s.setLk l { s.lk l with pendTrain := some (1 + s.rd (Reg.LNK_CTRL_MODE l)), reqCause := 2 }) := by
  have harm : exec (.linkRetrain l) s = execLinkRetrain l s := rfl
  rw [harm, execLinkRetrain, State.busWrite_of_on _ hlive hon, if_pos hup]

theorem execSignalDetect_of_detect (hstate : s.lstate l = 1) :
    exec (.signalDetect l) s = .next ((s.setLk l { s.lk l with trainAt := s.cyc }).setTraining l 2) := by
  have harm : exec (.signalDetect l) s = execSignalDetect l s := rfl
  rw [harm, execSignalDetect, if_neg (not_not.2 hstate)]

theorem execEqualizeDone_of_equalize {lock : BitVec 8} {symbols : List Nat} {bad : Nat} (hstate : s.lstate l = 2)
    (hbad : bad = badLanes lock.toNat (s.rd (Reg.LNK_LANE_CFG_THRESH l)) symbols) :
    exec (.equalizeDone l lock symbols) s = .next
      (((s.wr (Reg.LNK_STATUS_LANE_BAD l)
        (if (s.lk l).full then bad else bad ||| s.rd (Reg.LNK_STATUS_LANE_BAD l))).propose l).setTraining l 3) := by
  have harm : exec (.equalizeDone l lock symbols) s = execEqualizeDone l lock symbols s := rfl
  rw [harm, execEqualizeDone, if_neg (not_not.2 hstate), hbad]

theorem State.negotiated_of_width {u : State} {p : PeerFields} (hwidth : min (s.lk l).propWidth p.width ≠ 0)
    (hu : u = (s.setLk l { s.lk l with
          propGroup := (lowGroup (s.rd (Reg.LNK_STATUS_LANE_BAD l)) (max 1 (min (s.lk l).propWidth p.width))).getD 0,
          peer := { serial := p.serial, link := p.link, seat := p.seat, width := p.width, group := p.group,
                    expS := p.expS, expL := p.expL, fresh := p.fresh } })) :
    s.negotiated l p = (if p.fresh then (u.wrb (Reg.LNK_STATUS_ROLE l) (u.leads l p.serial p.link)).takeFresh l
      else u.wrb (Reg.LNK_STATUS_ROLE l) (u.leads l p.serial p.link)).setTraining l 4 := by
  rw [State.negotiated, if_neg hwidth, hu]

theorem execNegotiateDone_of_negotiate {u : State} {frame : BitVec 192} {p : PeerFields} (hstate : s.lstate l = 3)
    (hok : lcwOk frame.toNat = true) (hp : p = peerOf frame.toNat) (hwidth : min (s.lk l).propWidth p.width ≠ 0)
    (hu : u = (s.setLk l { s.lk l with
          propGroup := (lowGroup (s.rd (Reg.LNK_STATUS_LANE_BAD l)) (max 1 (min (s.lk l).propWidth p.width))).getD 0,
          peer := { serial := p.serial, link := p.link, seat := p.seat, width := p.width, group := p.group,
                    expS := p.expS, expL := p.expL, fresh := p.fresh } })) :
    exec (.negotiateDone l frame) s = .next
      ((if p.fresh then (u.wrb (Reg.LNK_STATUS_ROLE l) (u.leads l p.serial p.link)).takeFresh l
        else u.wrb (Reg.LNK_STATUS_ROLE l) (u.leads l p.serial p.link)).setTraining l 4) := by
  have harm : exec (.negotiateDone l frame) s = execNegotiateDone l frame s := rfl
  have hgo : ¬ (s.lstate l ≠ 3 ∨ (!lcwOk frame.toNat) = true) := by
    rw [hstate, hok]
    decide
  rw [harm, execNegotiateDone, if_neg hgo, ← hp, State.negotiated_of_width hwidth hu]

theorem execAlignDone_of_align {u : State} {group : Fin 8} {ms : List (BitVec 64)} (hstate : s.lstate l = 4)
    (hok : markersOk (min (s.lk l).propWidth (s.lk l).peer.width) (s.lk l).peer.link (ms.map BitVec.toNat) = true)
    (hu : u = s.setLk l { s.lk l with peer := { (s.lk l).peer with group := group },
                                      laneOrder := ms.map fun m => nbits m.toNat 55 53 }) :
    exec (.alignDone l group ms) s = .next ((u.setTraining l 5).wr (Reg.LNK_STATUS_RX_LOCK l) 1) := by
  have harm : exec (.alignDone l group ms) s = execAlignDone l group ms s := rfl
  rw [harm, execAlignDone]
  dsimp only
  rw [hstate, hok, if_neg (by decide), List.map_map, hu]
  rfl

/-- What MEASURE does: its link's registers as it comes UP, and what it fits, finds and resumes. -/
theorem execMeasureDone_of_measure {u v w t : State} {a b : Fin 4096} {n : Nat} (hstate : s.lstate l = 5)
    (hn : n = min (s.lk l).propWidth (s.lk l).peer.width)
    (hu : u = (s.wr (Reg.LNK_SCHED_STATUS_FLIGHT l) (max a.val b.val)).setTraining l 6)
    (hv : v = u.wr (Reg.LNK_STATUS_WIDTH l) n)
    (hw : w = (((v.wr (Reg.LNK_STATUS_RX_GROUP l) ((lowGroup (s.rd (Reg.LNK_STATUS_LANE_BAD l)) n).getD 0)).wr
      (Reg.LNK_STATUS_TX_GROUP l) (s.lk l).peer.group).wr (Reg.LNK_TRAIN_INFO_DURATION l)
        (min 0xFFFFFFFF (v.cyc - (s.lk l).trainAt))))
    (ht : t = ((w.setLk l { w.lk l with
      lost := false, fresh := false, mayWiden := false, identAt := none, identVar := none, ident := none, prevWidth := n,
      full := true }).updFit l).discover l) :
    exec (.measureDone l a b) s = .next ((if (s.lk l).fresh || (s.lk l).peer.fresh then t
      else (t.resumeClass l 0 (s.lk l).peer.expS).resumeClass l 1 (s.lk l).peer.expL).laneDegrade l (s.lk l).prevWidth n) := by
  have harm : exec (.measureDone l a b) s = execMeasureDone l a b s := rfl
  rw [harm, execMeasureDone, if_neg (not_not.2 hstate)]
  dsimp only
  rw [← hn, ← hu, ← hv, State.wr_cyc, State.wr_cyc, ← hw, ← ht]

theorem execTrainingTimeout_of_due {t : Nat} (hlimit : trainLimit (s.lstate l) (s.lk l).full = some t)
    (hdue : (s.lk l).stateAt + t ≤ s.cyc) :
    exec (.trainingTimeout l) s = .next
      (if (s.lk l).full then s.trainFailed l else (s.setLk l { s.lk l with full := true }).setTraining l 2) := by
  have harm : exec (.trainingTimeout l) s = execTrainingTimeout l s := rfl
  rw [harm, execTrainingTimeout]
  dsimp only
  rw [hlimit]
  dsimp only
  rw [if_neg (Nat.not_lt.2 hdue), apply_ite Host.Outcome.next]

theorem execFailedWaitEnd_of_due (hstate : s.lstate l = 7) (hdue : (s.lk l).stateAt + 10000000 ≤ s.cyc) :
    exec (.failedWaitEnd l) s = .next ((s.setLk l { s.lk l with full := true }).setTraining l 1) := by
  have harm : exec (.failedWaitEnd l) s = execFailedWaitEnd l s := rfl
  rw [harm, execFailedWaitEnd, if_neg (by omega)]

end

/-- Settles O21: training moves on when its state's condition holds. -/
theorem trainingCommandsComplete : Obligations.TrainingCommandsComplete := by
  unfold Obligations.TrainingCommandsComplete
  exact ⟨fun _ _ _ => execLinkEnable_of_disabled, fun _ _ _ => execLinkDisable_of_on, fun _ _ => execLinkRetrain_of_up,
    fun _ _ => execSignalDetect_of_detect,
    fun s l lock symbols bad hstate hbad =>
      ⟨fun i hi => hbad ▸ nbit_badLanes lock _ symbols hi, execEqualizeDone_of_equalize hstate hbad⟩,
    fun _ _ _ _ _ => execNegotiateDone_of_negotiate, fun _ _ _ _ _ => execAlignDone_of_align, 
    fun _ _ _ _ hstate =>
      ⟨_, rfl, _, rfl, _, _, rfl, rfl, execMeasureDone_of_measure hstate rfl rfl rfl rfl rfl⟩,
    fun _ _ _ => execTrainingTimeout_of_due, fun _ _ => execFailedWaitEnd_of_due⟩

/-! ### Leaving UP -/

section
variable {s : State} {l : Fin 24}

theorem execRxLockLost_of_up (hup : s.isUp l = true) :
    exec (.rxLockLost l) s = .next ((s.wr (Reg.LNK_STATUS_RX_LOCK l) 0).dropLink l false 3 true) := by
  have harm : exec (.rxLockLost l) s = execRxLockLost l s := rfl
  rw [harm, execRxLockLost, hup]
  rfl

theorem execTrainingFrameRx_of_up (hup : s.isUp l = true) : exec (.trainingFrameRx l) s = .next (s.dropLink l false 4 true) := by
  have harm : exec (.trainingFrameRx l) s = execTrainingFrameRx l s := rfl
  rw [harm, execTrainingFrameRx, hup]
  rfl

theorem execLaneError_of_bad {u v : State} {lane : Fin 8} {lost : Bool} {n : Nat}
    (hu : u = s.count (Reg.LNK_LANE_CORR_CNT l lane) n) (hup : u.isUp l = true) (hfull : u.rd (Reg.LNK_STATUS_WIDTH l) = 8)
    (hbad : lost = true ∨ u.rd (Reg.LNK_LANE_CFG_THRESH l) < n)
    (hv : v = (u.wr (Reg.LNK_STATUS_LANE_BAD l) (u.rd (Reg.LNK_STATUS_LANE_BAD l) ||| 2 ^ lane.val)).propose l) :
    exec (.laneError l lane lost n) s = .next
      (match v.freeSpare l with
       | some y => v.failover l y
       | none => v.setLk l { v.lk l with pendTrain := some 3, reqCause := 6 }) := by
  have harm : exec (.laneError l lane lost n) s = execLaneError l lane lost n s := rfl
  have hgo : ¬ ((!u.isUp l) = true ∨ u.rd (Reg.LNK_STATUS_WIDTH l) ≠ 8 ∨
      (lost = false ∧ n ≤ u.rd (Reg.LNK_LANE_CFG_THRESH l))) := by
    rw [hup, hfull]
    rintro (h | h | ⟨hheld, hfew⟩)
    · cases h
    · exact h rfl
    · obtain hlost | hmany := hbad
      · rw [hlost] at hheld
        cases hheld
      · exact Nat.not_le.2 hmany hfew
  rw [harm, execLaneError]
  dsimp only
  rw [← hu, if_neg hgo, ← hv]
  cases v.freeSpare l
  · rfl
  · rfl

theorem execMemberAckTimeout_of_late {t : Nat} (hlcw : (s.lk l).lcwAt = some t) (hrecent : s.now ≤ t + 32) (hup : s.isUp l = true)
    (hhears : s.mute l = false) (hlate : s.ackLate l 0 = true ∨ s.ackLate l 1 = true) :
    exec (.memberAckTimeout l) s = .next (s.declare l) := by
  have harm : exec (.memberAckTimeout l) s = execMemberAckTimeout l s := rfl
  rw [harm, execMemberAckTimeout, hlcw, hhears]
  exact if_pos ⟨hup, rfl, decide_eq_true hrecent, hlate⟩

theorem execRxDownPeriodEnd_of_due {t : Nat} (hdown : (s.lk l).rxDownUntil = some t) (hdue : t ≤ s.cyc) :
    ∃ u, u = s.setLk l { s.lk l with rxDownUntil := none } ∧
      exec (.rxDownPeriodEnd l) s = .next (if u.isUp l then u.leaveUp l 2 true 8 else u) := by
  have harm : exec (.rxDownPeriodEnd l) s = execRxDownPeriodEnd l s := rfl
  refine ⟨_, rfl, ?_⟩
  rw [harm, execRxDownPeriodEnd, hdown]
  exact if_neg (Nat.not_lt.2 hdue)

end

/-- Settles O22: each cause takes its link out of UP as its rule says. -/
theorem linkLossCommandsComplete : Obligations.LinkLossCommandsComplete := by
  unfold Obligations.LinkLossCommandsComplete
  exact ⟨fun _ _ => execRxLockLost_of_up, fun _ _ => execTrainingFrameRx_of_up, fun _ _ _ _ _ _ _ => execLaneError_of_bad,
    fun _ _ _ => execMemberAckTimeout_of_late, fun _ _ _ => execRxDownPeriodEnd_of_due⟩

end Sys2Proof.Machine
end

section
/-! PROOFS. Loose traffic (R155 to R183): packets injected and assigned, the routing tables and their epochs. -/
namespace Sys2Proof.Machine

section
variable {s : State}

theorem execLatticeAssign_of_first (hloose : s.looseStitch s.stitch = true) (hfirst : s.route.latAt ≠ some s.stitch) :
    exec .latticeAssign s = .next (s.retryWait.assignLattice s.stitch) := by
  have harm : exec .latticeAssign s = execLatticeAssign s := rfl
  have hgo : ¬ ((!s.looseStitch s.stitch) = true ∨ s.route.latAt = some s.stitch) := by
    rw [hloose]
    exact fun h => h.elim (fun h => by cases h) hfirst
  rw [harm, execLatticeAssign, if_neg hgo]

theorem execBusyInject_of_waiting {u : State} {f : Flit} {rest : List Flit} (hbusy : s.route.busy = f :: rest)
    (hu : u = { s with route := { s.route with busy := rest } }) (hvc : u.vcOn 3 = true) :
    exec .busyInject s = .next
      (u.stamp { vc := 3, flit := { f with mitten := u.rd Reg.CUF_MITTEN_MITTEN }, replyN := 0,
                 rtag := rwRtag { f with mitten := u.rd Reg.CUF_MITTEN_MITTEN } }) := by
  have harm : exec .busyInject s = execBusyInject s := rfl
  have hnext : exec .busyInject s =
      if (!u.vcOn 3) = true then .next (u.dropVc 31 { f with mitten := u.rd Reg.CUF_MITTEN_MITTEN })
      else .next (u.stamp { vc := 3, flit := { f with mitten := u.rd Reg.CUF_MITTEN_MITTEN }, replyN := 0,
                            rtag := rwRtag { f with mitten := u.rd Reg.CUF_MITTEN_MITTEN } }) := by
    rw [harm, execBusyInject, hbusy, hu]
  rw [hnext, hvc]
  rfl

theorem execOppSuppressEnd_of_over {l : Fin 24} (hover : (s.lk l).oppUntil ≤ s.stitch) :
    exec (.oppSuppressEnd l) s = .next (s.setLk l { s.lk l with oppUntil := 0 }) := by
  have harm : exec (.oppSuppressEnd l) s = execOppSuppressEnd l s := rfl
  rw [harm, execOppSuppressEnd, if_pos hover]

theorem execRankTableWrite_of_idle {r : Fin 4096} {v : Word} (hlive : s.live = true) (hon : s.domOn 28 = true)
    (hidle : s.run = false) :
    exec (.rankTableWrite r v) s =
      .next ((s.setTab (0x2000000 + 8 * r.val) (fset v 62 12 0)).dropUpsets .rank 0 0 (r.val / 4)) := by
  have harm : exec (.rankTableWrite r v) s = execRankTableWrite r v s := rfl
  rw [harm, execRankTableWrite, State.bar2Write_of_on hlive hon, if_neg (Bool.eq_false_iff.1 hidle)]

theorem State.routeWrite_of_free {e m : Nat} {v : Word} (hother : s.rd Reg.RTE_EPOCH_INJECT ≠ e) (hfree : s.routeFree = true)
    (hok : s.routeOk m v = true) :
    s.routeWrite e m v = (s.setTab (0x2010000 + 0x8000 * e + 8 * m) (fset v 52 0 0)).dropUpsets .route e 0 (m / 4) := by
  have hgo : ¬ (s.rd Reg.RTE_EPOCH_INJECT = e ∨ (!s.routeFree) = true) := by
    rw [hfree]
    exact fun h => h.elim hother fun h => by cases h
  rw [State.routeWrite, if_neg hgo, hok]
  rfl

/-- A driver's write of a routing table meets the writes that a management write made in the same cycle (R22). -/
theorem execRouteTableWrite_of_free {e : Fin 2} {m : Fin 4096} {v : Word} (hlive : s.live = true) (hon : s.domOn 28 = true)
    (hother : s.rd Reg.RTE_EPOCH_INJECT ≠ e.val) (hfree : s.routeFree = true) (hok : s.routeOk m v = true) :
    (SMap.get (fun _ => 0) s.same.mgmt (2 ^ 40 + 0x2010000 + 0x8000 * e.val + 8 * m.val) = 0 →
      exec (.routeTableWrite e m v) s = .next
        ((s.setTab (0x2010000 + 0x8000 * e.val + 8 * m.val) (fset v 52 0 0)).dropUpsets .route e.val 0 (m.val / 4))) ∧
    (SMap.get (fun _ => 0) s.same.mgmt (2 ^ 40 + 0x2010000 + 0x8000 * e.val + 8 * m.val) ≠ 0 →
      exec (.routeTableWrite e m v) s = .next s) := by
  have harm : exec (.routeTableWrite e m v) s = execRouteTableWrite e m v s := rfl
  have hkey : 2 ^ 40 + 0x2010000 + 0x8000 * e.val + 8 * m.val = routeKey (0x2010000 + 0x8000 * e.val + 8 * m.val) := by
    rw [routeKey]
    omega
  rw [harm, execRouteTableWrite, State.bar2Write_of_on hlive hon, hkey]
  refine ⟨fun h => ?_, fun h => ?_⟩
  · rw [if_pos h, State.routeWrite_of_free hother hfree hok]
  · rw [if_neg h]

theorem execEpochArm_of_early (hlive : s.live = true) (hon : s.powered Reg.RTE_EPOCH = true) (hcrown : s.rd Reg.CRN_STATUS_STATE ≠ 0)
    (hfree : s.routeFree = true) (htick : s.now + 1024 ≤ s.rd Reg.RTE_EPOCH_TICK_TICK) :
    exec .epochArm s = .next (s.wr Reg.RTE_EPOCH_ARMED 1) := by
  have harm : exec .epochArm s = execEpochArm s := rfl
  rw [harm, execEpochArm, State.busWrite_of_on _ hlive hon, State.epochArm, if_neg hcrown, hfree, if_neg (by decide),
    if_neg (Nat.not_lt.2 htick)]

theorem execEpochSwitch_of_due (harmed : s.rdb Reg.RTE_EPOCH_ARMED = true) (hdue : s.now = s.rd Reg.RTE_EPOCH_TICK_TICK)
    (hclear : s.seamClear = true) :
    exec .epochSwitch s = .next
      (((s.wr Reg.RTE_EPOCH_INJECT (1 - s.rd Reg.RTE_EPOCH_INJECT)).wr Reg.RTE_LAST_SWITCH_TICK
        (s.rd Reg.RTE_EPOCH_TICK_TICK)).wr Reg.RTE_EPOCH_ARMED 0) := by
  have harm : exec .epochSwitch s = execEpochSwitch s := rfl
  have hepoch : s.epochDue = true := by
    rw [State.epochDue, harmed, hdue, beq_self_eq_true (s.rd _)]
    rfl
  rw [harm, execEpochSwitch, if_pos ⟨hepoch, hclear⟩]

end

/-- Settles O23: a loose packet's command, or a table's, whose condition holds takes the branch of its rule. -/
theorem looseCommandsComplete : Obligations.LooseCommandsComplete := by
  unfold Obligations.LooseCommandsComplete
  exact ⟨fun _ _ _ _ _ _ _ _ _ => rfl, fun _ => execLatticeAssign_of_first, fun _ _ _ _ => execBusyInject_of_waiting, fun _ _ => rfl,
    fun _ _ => execOppSuppressEnd_of_over, fun _ _ _ => execRankTableWrite_of_idle, fun _ _ _ _ => execRouteTableWrite_of_free,
    fun _ => execEpochArm_of_early, fun _ => execEpochSwitch_of_due⟩

end Sys2Proof.Machine
end

section
/-! PROOFS. The Palm controller (R205 to R272): descriptors fetched and staged, operations launched and completed. -/
namespace Sys2Proof.Machine

section
variable {s : State}

/-! ### Operations -/

/-- The command of an operation is the launch of its OPCODE. -/
theorem exec_palmCommand (s : State) : ∀ p ∈ palmCommands, exec p.1 s = .next (s.opEvent p.2) := by
  intro p hp
  fin_cases hp <;> rfl

theorem State.checkHead_of_good {d : Desc} {rest : List Desc} (hqueue : s.palm.queue = d :: rest) (hfield : d.field = 0) :
    s.checkHead = s := by
  rw [State.checkHead, hqueue]
  exact if_pos (.inr (.inl hfield))

theorem State.launchChecks_of_passed {d : Desc} {rest : List Desc} {t : Nat}
    (hgrade : s.tokenSum d.op ≤ s.rd Reg.PLM_BUDGET_GRADE) (hclass : s.classFail d.op = none) (hbounds : s.launchBounds d.op = none)
    (hbudget : s.tokenSum d.op ≤ s.rd Reg.PLM_BUDGET_EFFECTIVE) :
    s.launchChecks d rest t = s.launch d rest t (s.tokenSum d.op) := by
  rw [State.launchChecks, if_neg (Nat.not_lt.2 hgrade), hclass, hbounds]
  exact if_neg (Nat.not_lt.2 hbudget)

theorem State.opEvent_of_ready {d : Desc} {rest : List Desc} {t code : Nat} (hruns : s.rdb Reg.CRN_STATUS_RUNNING = true)
    (hgo : s.rdb Reg.PLM_STATUS_HALTED = false) (hfree : s.rdb Reg.PLM_STATUS_RUNNING = false) (hclear : s.seamClear = true)
    (hepoch : s.epochDue = false) (hldr : s.ldr ≠ 10) (hheld : d.lost = false) (hqueue : s.palm.queue = d :: rest)
    (hfield : d.field = 0) (hcode : d.op.opcode = code) (htick : d.tick = some t) (hdue : t ≤ s.now)
    (hstaged : s.stagedOk d.op = true) : s.opEvent code = s.launchChecks d rest t := by
  have hwait : ¬ (d.lost = true ∨ d.field ≠ 0 ∨ d.op.opcode ≠ code ∨ s.now < t ∨ s.rdb Reg.PLM_STATUS_RUNNING = true ∨
      (!s.stagedOk d.op) = true) := by
    rw [hheld, hfield, hcode, hfree, hstaged]
    rintro (h | h | h | h | h | h)
    · cases h
    · exact h rfl
    · exact h rfl
    · exact Nat.not_lt.2 hdue h
    · cases h
    · cases h
  rw [State.opEvent, hruns, hgo, hclear, hepoch, beq_false_of_ne hldr, if_neg (by decide), State.checkHead_of_good hqueue hfield]
  dsimp only
  rw [hqueue]
  dsimp only
  rw [htick]
  exact if_neg hwait

theorem State.palmTry_of_full {d : Desc} {u : State} (hu : u = s.palmDrain) (hrun : u.palm.running = some d)
    (hfirst : u.palm.effect = false) (hfull : ∀ w ∈ u.palm.want, w.2.2 = 0) :
    s.palmTry = { u.opData d.op with palm := { (u.opData d.op).palm with effect := true, want := [], inbox := [] } } := by
  have hthere : (u.palm.want.any fun w => w.2.2 != 0) = false := List.any_eq_false.2 fun w hw => by
    rw [hfull w hw]
    decide
  have hgo : ¬ (u.palm.effect || u.palm.want.any fun w => w.2.2 != 0) = true := by
    rw [hfirst, hthere]
    decide
  rw [State.palmTry, ← hu]
  dsimp only
  rw [hrun]
  exact if_neg hgo

end

/-- Settles O24: an operation that nothing holds back passes each check in turn. -/
theorem operationCommandsLaunch : Obligations.OperationCommandsLaunch := by
  unfold Obligations.OperationCommandsLaunch
  intro p hp s d rest t hruns hgo hfree hclear hepoch hldr hheld hqueue hfield hcode htick hdue hstaged hgrade hclass hbounds hbudget
  rw [exec_palmCommand s p hp,
    State.opEvent_of_ready hruns hgo hfree hclear hepoch hldr hheld hqueue hfield hcode htick hdue hstaged,
    State.launchChecks_of_passed hgrade hclass hbounds hbudget]

/-- Settles O25: the model's meaning of each OPCODE. -/
theorem operationResultsByOpcode : Obligations.OperationResultsByOpcode := by
  unfold Obligations.OperationResultsByOpcode
  refine ⟨fun s d => State.palmTry_of_full rfl, fun s o => ?_⟩
  refine ⟨?_, ?_, ?_, ?_, ?_, ?_, ?_, ?_, ?_, ?_, ?_, ?_, ?_, ?_, ?_, ?_, ?_⟩
  all_goals
    intro hcode
    simp only [State.opData, hcode]

/-! ### The controller's other commands -/

section
variable {s : State}

/-- The place in the stream of the next descriptor to fetch, while there is one and the queue has room. -/
structure State.Fetching (s : State) (w : Nat) : Prop where
  started : s.cuff.started = true
  running : s.ldr = 8
  room : s.palm.queue.length < 8
  more : s.palm.nextFetch < s.fetchEnd
  place : w = s.placeOf 0x11 / 32 + s.palm.nextFetch

theorem State.Fetching.not_idle {w : Nat} (h : s.Fetching w) :
    ¬ ((!s.cuff.started) = true ∨ s.ldr ≠ 8 ∨ 8 ≤ s.palm.queue.length ∨ s.fetchEnd ≤ s.palm.nextFetch) := by
  rw [h.started]
  rintro (hstarted | hldr | hroom | hmore)
  · cases hstarted
  · exact hldr h.running
  · exact Nat.not_le.2 h.room hroom
  · exact Nat.not_le.2 h.more hmore

theorem descriptorFetch_of_up {w : Nat} {r : State × List RWord} (h : s.Fetching w) (hup : s.stackUp (w / stackWords) = true)
    (hr : r = s.hbmReadN 13 w 1) :
    (r.2.headD none = none → exec .descriptorFetch s = .next (r.1.enqueue none none)) ∧
    (∀ bits aw : Nat, r.2.headD none = some bits → aw = s.placeOf 0x12 / 32 + nbits bits 68 45 →
      (nbits bits 223 219 = 0x11 ∨ s.lengthOf 0x12 / 32 ≤ nbits bits 68 45 →
        exec .descriptorFetch s = .next (r.1.enqueue (some bits) none)) ∧
      (nbits bits 223 219 ≠ 0x11 → nbits bits 68 45 < s.lengthOf 0x12 / 32 → s.stackUp (aw / stackWords) = true →
        exec .descriptorFetch s = .next
          ((r.1.hbmReadN 13 aw 1).1.enqueue (some bits) (some ((r.1.hbmReadN 13 aw 1).2.headD none)))) ∧
      (nbits bits 223 219 ≠ 0x11 → nbits bits 68 45 < s.lengthOf 0x12 / 32 → s.stackUp (aw / stackWords) = false →
        exec .descriptorFetch s = .next (r.1.stackLost aw))) := by
  have harm : exec .descriptorFetch s = execDescriptorFetch s := rfl
  rw [harm, execDescriptorFetch, if_neg h.not_idle]
  dsimp only
  rw [← h.place, hup, if_neg (by decide), ← hr]
  refine ⟨fun hbad => ?_, ?_⟩
  · rw [hbad]
  · rintro bits aw hbits rfl
    rw [hbits]
    dsimp only
    refine ⟨fun hplain => if_pos hplain, fun hcode hin hup' => ?_, fun hcode hin hdown => ?_⟩
    · rw [if_neg (not_or.2 ⟨hcode, Nat.not_le.2 hin⟩), hup', if_neg (by decide)]
    · rw [if_neg (not_or.2 ⟨hcode, Nat.not_le.2 hin⟩), hdown, if_pos (by decide)]

theorem descriptorFetch_of_down {w : Nat} (h : s.Fetching w) (hdown : s.stackUp (w / stackWords) = false) :
    exec .descriptorFetch s = .next (s.stackLost w) := by
  have harm : exec .descriptorFetch s = execDescriptorFetch s := rfl
  rw [harm, execDescriptorFetch, if_neg h.not_idle]
  dsimp only
  rw [← h.place, hdown, if_pos (by decide)]

theorem execStagingDone_of_staging {u : State} {d : Desc} {rest : List Desc} {r : State × SMap (List RWord)}
    (hqueue : s.palm.queue = d :: rest) (hstaging : s.palm.staging = some d.op.opx) (hr : r = s.hbmExtentsRead d.op)
    (hu : u = (r.1.forEach d.op.tiles fun x t => x.sramWriteN t d.op.stg (SMap.get (fun _ => []) r.2 (d.op.hbmStart t)))) :
    exec .stagingDone s = .next { u.wr Reg.PLM_STATUS_STAGING 0 with
      palm := { u.palm with staging := none, staged := some d.op.opx,
                            stagedBad := d.op.tiles.any fun t => !s.stacksUp (d.op.hbmStart t) d.op.hbmLen } } := by
  have harm : exec .stagingDone s = execStagingDone s := rfl
  rw [harm, execStagingDone, hqueue]
  dsimp only
  rw [if_neg (not_not.2 hstaging), ← hr, ← hu]

theorem execOpComplete_of_finished {u : State} {d : Desc} (hu : u = s.palmTry.spillSend s.palmTry.palm.spill)
    (hrun : u.palm.running = some d) (hdone : u.opFinished d = true) :
    exec .opComplete s = .next { ((u.wr Reg.PLM_OP_INDEX_DONE d.op.opx).wr Reg.PLM_STATUS_RUNNING 0).crossEnd with
      palm := { u.palm with running := none, effect := false } } := by
  have harm : exec .opComplete s = execOpComplete s := rfl
  rw [harm, execOpComplete]
  dsimp only
  rw [← hu, hrun]
  dsimp only
  rw [if_pos hdone]
  rfl

theorem execPalmStop_of_on (hlive : s.live = true) (hon : s.powered Reg.PLM_CTRL = true) :
    exec .palmStop s = .next s.palmHalt := by
  have harm : exec .palmStop s = execPalmStop s := rfl
  rw [harm, execPalmStop, State.busWrite_of_on _ hlive hon]

theorem execLinerLoad_of_idle (hlive : s.live = true) (hon : s.powered Reg.PLM_CTRL = true) (hidle : s.run = false)
    (hfree : s.rdb Reg.PLM_STATUS_LINER_BUSY = false) (hmap : s.linerMappable = true) :
    exec .linerLoad s = .next
      { s.wr Reg.PLM_STATUS_LINER_BUSY 1 with palm := { s.palm with linerUntil := some (s.cyc + 2048) } } := by
  have harm : exec .linerLoad s = execLinerLoad s := rfl
  rw [harm, execLinerLoad, State.busWrite_of_on _ hlive hon, hidle, hfree, hmap]
  rfl

theorem execLinerLoadDone_of_due {u v : State} {x : Nat} (huntil : s.palm.linerUntil = some x) (hdue : x ≤ s.cyc)
    (hu : u = (if s.palm.linerForce then s.wr Reg.PLM_STATUS_LINER_BUSY 0
      else (s.wr Reg.PLM_STATUS_LINER_BUSY 0).copyLiner.wr Reg.PLM_STATUS_LINER_OK 1))
    (hv : v = { u with palm := { u.palm with linerUntil := none, linerForce := false }, boot := { u.boot with reset := none } }) :
    exec .linerLoadDone s = .next ((if v.ldr = 6 then v.wr Reg.LDR_STATUS_STATE 5 else v).endPhase 6) := by
  have harm : exec .linerLoadDone s = execLinerLoadDone s := rfl
  rw [harm, execLinerLoadDone, huntil]
  dsimp only
  rw [if_neg (Nat.not_lt.2 hdue), hv, hu]
  rfl

/-- R217: a worn word fences its tile; a watchdog or a parity error fences one that takes part in the operation. -/
theorem execTileWatchdog_of_active {t : Fin 4096} {c : Fin 3} (hin : s.fenced (s.physOf t) = false) :
    (c.val = 2 → (∃ w ∈ s.mem.sramDefect, w / 12288 = s.physOf t) → exec (.tileWatchdog t c) s = .next (s.tileFail t 3)) ∧
    (c.val ≠ 2 → ∀ d : Desc, s.palm.running = some d → d.op.tiles.contains t.val = true →
      exec (.tileWatchdog t c) s = .next (s.tileFail t (c.val + 1))) := by
  have harm : exec (.tileWatchdog t c) s = execTileWatchdog t c s := rfl
  refine ⟨fun hc hworn => ?_, fun hc d hrun htile => ?_⟩
  · obtain ⟨w, hw, htile⟩ := hworn
    have hany : (s.mem.sramDefect.any fun w => w / 12288 == s.physOf t) = true :=
      List.any_eq_true.2 ⟨w, hw, beq_iff_eq.2 htile⟩
    rw [harm, execTileWatchdog, hany, hin, hc]
    rfl
  · rw [harm, execTileWatchdog, hrun, hin]
    dsimp only
    rw [if_neg hc, htile]
    rfl

end

/-- Settles O26: a command of the controller whose condition holds takes the branch of its rule. -/
theorem palmControlCommandsComplete : Obligations.PalmControlCommandsComplete := by
  unfold Obligations.PalmControlCommandsComplete
  exact ⟨fun s w r hstarted hldr hroom hmore hw hup hr => descriptorFetch_of_up ⟨hstarted, hldr, hroom, hmore, hw⟩ hup hr,
    fun s w hstarted hldr hroom hmore hw hdown => descriptorFetch_of_down ⟨hstarted, hldr, hroom, hmore, hw⟩ hdown,
    fun _ _ _ _ _ => execStagingDone_of_staging, fun _ _ _ => execOpComplete_of_finished, fun _ => execPalmStop_of_on,
    fun _ => execLinerLoad_of_idle, fun _ _ _ _ => execLinerLoadDone_of_due, fun _ _ _ => execTileWatchdog_of_active⟩

end Sys2Proof.Machine
end

section
/-! PROOFS. HBM (R281 to R292): write-back, scrub, refresh, retrains and the caps. -/
namespace Sys2Proof.Machine

section
variable {s : State} {k : Fin 8}

theorem execHbmWriteBack_of_corrected {u v : State} {w i : Nat} {st : List Byte} (hw : w ∈ s.mem.writeBack)
    (hup : s.stackUp (w / stackWords) = true) (hu : u = s.capUse (w / stackWords) 1 (burstWords w 1))
    (hv : v = { u with mem := { u.mem with writeBack := u.mem.writeBack.filter (· != w) } })
    (hst : decodeWord (v.hbmStored w) = .corrected i st) : exec (.hbmWriteBack w) s = .next (v.hbmStore w st) := by
  have harm : exec (.hbmWriteBack w) s = execHbmWriteBack w s := rfl
  rw [harm, execHbmWriteBack, if_pos ⟨hw, hup⟩]
  dsimp only
  rw [← hu, ← hv, hst]

theorem execScrubBurst_of_due {u v x : State} {up : List (Nat × BitVec 8)} {de : List Nat} {st : List Upset}
    (hu : u = (s.upset k up de).forEach st State.storeUpset) (hen : u.rdb (Reg.HBM_CTRL_SCRUB_EN k) = true)
    (hup : u.stackUp k = true) (hdue : u.scrubDue k = true)
    (hv : v = { u with mem := { u.mem with scrubAt := SMap.set (fun _ => 0) u.mem.scrubAt k (u.cyc + 1) } })
    (hx : x = (v.forEach (List.range 256) fun x i =>
      (x.hbmRead (stackWords * k.val + (8 * u.rd (Reg.HBM_SCRUB_POSITION k) + i) % stackWords) 1).1)) :
    ∃ t, exec (.scrubBurst k up de st) s = .next t ∧
      t = (if stackBursts ≤ u.rd (Reg.HBM_SCRUB_POSITION k) + 32
           then (x.wr (Reg.HBM_SCRUB_POSITION k) ((u.rd (Reg.HBM_SCRUB_POSITION k) + 32) % stackBursts)).count
             (Reg.HBM_SCRUB_PASS_CNT k) 1
           else x.wr (Reg.HBM_SCRUB_POSITION k) ((u.rd (Reg.HBM_SCRUB_POSITION k) + 32) % stackBursts)) := by
  have harm : exec (.scrubBurst k up de st) s = execScrubBurst k up de st s := rfl
  have hpos : v.rd (Reg.HBM_SCRUB_POSITION k) = u.rd (Reg.HBM_SCRUB_POSITION k) := by
    rw [hv]
    rfl
  refine ⟨_, ?_, rfl⟩
  rw [harm, execScrubBurst]
  dsimp only
  rw [← hu, if_pos ⟨hen, hup, hdue⟩, ← hv, hpos, ← hx]

theorem execRefresh_of_up {c : Fin 32} (hup : s.stackUp k = true) :
    exec (.refresh k c) s = .next
      (s.wr (Reg.HBM_STATUS_REFRESH_2X k) (if 85 ≤ toSigned 8 (s.rd (Reg.HBM_STATUS_TEMP k)) then 1 else 0)) := by
  have harm : exec (.refresh k c) s = execRefresh k c s := rfl
  rw [harm, execRefresh, if_pos hup, State.wrb]
  by_cases hhot : 85 ≤ toSigned 8 (s.rd (Reg.HBM_STATUS_TEMP k))
  · rw [decide_eq_true hhot, if_pos hhot]
    rfl
  · rw [decide_eq_false hhot, if_neg hhot]
    rfl

theorem execPeriodicTraining_of_up {c : Fin 32} (hup : s.stackUp k = true) :
    exec (.periodicTraining k c true) s = .next (s.retrainDue k 0) ∧ exec (.periodicTraining k c false) s = .next s := by
  have harm : ∀ below, exec (.periodicTraining k c below) s = execPeriodicTraining k c below s := fun _ => rfl
  rw [harm, harm, execPeriodicTraining, execPeriodicTraining, hup]
  exact ⟨rfl, rfl⟩

theorem execHbmRetrainRequest_of_on {full seam scrub : Bool} (hlive : s.live = true) (hon : s.powered (Reg.HBM_CTRL k) = true) :
    exec (.hbmRetrainRequest k full seam scrub) s = .next (s.hbmCtrl k full seam scrub true) := by
  have harm : exec (.hbmRetrainRequest k full seam scrub) s = execHbmRetrainRequest k full seam scrub s := rfl
  rw [harm, execHbmRetrainRequest, State.busWrite_of_on _ hlive hon]

/-- The fields of HBM_STATUS that a retrain moves stand apart. -/
theorem apart_stateField : ∀ k : Fin 8,
    Fld.apart (Reg.HBM_STATUS_STATE k) (Reg.HBM_STATUS_DUE_KIND k) = true ∧
    Fld.apart (Reg.HBM_STATUS_RETRAIN_DUE k) (Reg.HBM_STATUS_STATE k) = true ∧
    Fld.apart (Reg.HBM_STATUS_DUE_KIND k) (Reg.HBM_STATUS_STATE k) = true ∧
    Fld.apart (Reg.HBM_STATUS_DUE_KIND k) (Reg.HBM_STATUS_RETRAIN_DUE k) = true := by decide

theorem hbmRetrainDone_of_in_time {kind t : Nat} (hkind : SMap.get (fun _ => (0, 0)) s.mem.retrain k = (kind, t))
    (hstate : s.rd (Reg.HBM_STATUS_STATE k) = 2) (htime : s.cyc ≤ t + retrainLimit (kind - 1)) :
    ∃ u, exec (.hbmRetrainDone k) s = .next u ∧ u.rd (Reg.HBM_STATUS_STATE k) = 1 ∧
      (s.rd (Reg.HBM_STATUS_DUE_KIND k) ≤ kind - 1 → u.rd (Reg.HBM_STATUS_RETRAIN_DUE k) = 0) ∧
      (∀ a, a ≠ Reg.HBM_STATUS k → u.reg a = s.reg a) := by
  have harm : exec (.hbmRetrainDone k) s = execHbmRetrainDone k s := rfl
  have hin : s.cyc ≤ (SMap.get (fun _ => (0, 0)) s.mem.retrain k).2 +
      retrainLimit ((SMap.get (fun _ => (0, 0)) s.mem.retrain k).1 - 1) := by
    rw [hkind]
    exact htime
  rw [harm, execHbmRetrainDone, if_pos ⟨hstate, hin⟩, hkind]
  dsimp only
  refine ⟨_, rfl, ?_⟩
  rw [State.rd_wr_apart _ 1 rfl rfl (apart_stateField k).1]
  refine ⟨?_, fun hdue => ?_, fun a ha => ?_⟩
  · rw [State.rd_mk]
    split
    · rw [State.rd_wr_apart _ 0 rfl rfl (apart_stateField k).2.2.1, State.rd_wr_apart _ 0 rfl rfl (apart_stateField k).2.1,
        State.rd_wr_same _ 1 rfl]
      rfl
    · rw [State.rd_wr_same _ 1 rfl]
      rfl
  · rw [State.rd_mk, if_pos hdue, State.rd_wr_apart _ 0 rfl rfl (apart_stateField k).2.2.2, State.rd_wr_same _ 0 rfl]
    rfl
  · rw [State.reg_mk]
    split
    · rw [State.reg_wr_ne _ _ ha, State.reg_wr_ne _ _ ha, State.reg_wr_ne _ _ ha]
    · rw [State.reg_wr_ne _ _ ha]

theorem execHbmRetrainTimeout_of_retraining (hstate : s.rd (Reg.HBM_STATUS_STATE k) = 2) :
    exec (.hbmRetrainTimeout k) s = .next
      ({ s.wr (Reg.HBM_STATUS_STATE k) 3 with
          mem := { s.mem with retrain := SMap.set (fun _ => (0, 0)) s.mem.retrain k (0, 0) } }.eccFault (0x900 + k.val)
        { code := 0x0305, block := 10, cause := 9, sub := 3, a := 1, stack := k }) := by
  have harm : exec (.hbmRetrainTimeout k) s = execHbmRetrainTimeout k s := rfl
  rw [harm, execHbmRetrainTimeout, if_pos hstate]

theorem execHbmCapWrite_of_idle {other bonnet : Fin 256} (hlive : s.live = true) (hon : s.powered (Reg.HBM_CAP k) = true)
    (hidle : s.run = false) :
    exec (.hbmCapWrite k other bonnet) s = .next
      (if bonnet.val + other.val ≤ 40 then (s.wr (Reg.HBM_CAP_OTHER k) other).wr (Reg.HBM_CAP_BONNET k) bonnet
       else s.flag (Reg.HBM_STATUS_CFG_ERR k)) := by
  have harm : exec (.hbmCapWrite k other bonnet) s = execHbmCapWrite k other bonnet s := rfl
  rw [harm, execHbmCapWrite, State.busWrite_of_on _ hlive hon, State.runLocked_of_idle _ hidle]
  by_cases hcap : bonnet.val + other.val ≤ 40
  · rw [if_pos hcap, if_neg (Nat.not_lt.2 hcap)]
  · rw [if_neg hcap, if_pos (Nat.lt_of_not_le hcap)]

end

/-- Settles O27: a stack's command whose condition holds takes the branch of its rule. -/
theorem hbmCommandsComplete : Obligations.HbmCommandsComplete := by
  unfold Obligations.HbmCommandsComplete
  exact ⟨fun _ _ _ _ _ _ => execHbmWriteBack_of_corrected, fun _ _ _ _ _ _ _ _ => execScrubBurst_of_due,
    fun _ _ _ => execRefresh_of_up, fun _ _ _ => execPeriodicTraining_of_up, fun _ _ _ _ _ => execHbmRetrainRequest_of_on,
    fun _ _ _ _ => hbmRetrainDone_of_in_time, fun _ _ => execHbmRetrainTimeout_of_retraining, fun _ _ _ _ => execHbmCapWrite_of_idle⟩

end Sys2Proof.Machine
end

section
/-! PROOFS. The load states (R310 to R317, R367): from OPEN to the start of an image. -/
namespace Sys2Proof.Machine

section
variable {s : State}

theorem execLoadOpen_of_closed {u : State} (hclosed : s.ldr = 0) (hidle : s.run = false)
    (hu : u = ((((s.clearLoad.wr Reg.LDR_SEG_VALID 0).wr Reg.LDR_STATUS_STATE 1).setReg Reg.LDR_REFUSE0 0).setReg
      Reg.LDR_REFUSE1 0).setReg Reg.LDR_REFUSE2 0) :
    exec .loadOpen s = .next ({ u with ldrs := { u.ldrs with refused := false } }.showLoad) := by
  have harm : exec .loadOpen s = execLoadOpen s := rfl
  have hgo : ¬ (s.ldr ≠ 0 ∨ s.run = true) := by
    rw [hclosed, hidle]
    decide
  rw [harm, execLoadOpen, if_neg hgo, hu]

theorem execLoadClose_of_not_running (hidle : s.run = false) (h8 : s.ldr ≠ 8) (h9 : s.ldr ≠ 9) (h10 : s.ldr ≠ 10) :
    exec .loadClose s = .next (s.clearLoad.wr Reg.LDR_STATUS_STATE 0) := by
  have harm : exec .loadClose s = execLoadClose s := rfl
  have hgo : ¬ (s.run = true ∨ s.ldr = 8 ∨ s.ldr = 9 ∨ s.ldr = 10) := by
    rw [hidle]
    rintro (h | h | h | h)
    · cases h
    · exact h8 h
    · exact h9 h
    · exact h10 h
  rw [harm, execLoadClose, if_neg hgo]

theorem execLoadVerify_of_loaded (hstate : s.ldr = 3) : exec .loadVerify s = .next (s.wr Reg.LDR_STATUS_STATE 4) := by
  have harm : exec .loadVerify s = execLoadVerify s := rfl
  rw [harm, execLoadVerify, if_neg (not_not.2 hstate)]

theorem execLoadVerifyDone_of_verifying {u : State} (hstate : s.ldr = 4) (hu : u = s.forEach s.imgSections State.readSection) :
    (s.imageChecks = none → exec .loadVerifyDone s = .next (u.wr Reg.LDR_STATUS_STATE 5)) ∧
      ∀ r, s.imageChecks = some r → exec .loadVerifyDone s = .next (u.refuseImage r) := by
  have harm : exec .loadVerifyDone s = execLoadVerifyDone s := rfl
  rw [harm, execLoadVerifyDone, if_neg (not_not.2 hstate), ← hu]
  refine ⟨fun h => ?_, fun r h => ?_⟩
  · rw [h]
  · rw [h]

theorem execAdmit_of_verified (hstate : s.ldr = 5) (hidle : s.run = false) (hkind : s.imgKind ≠ 1) :
    exec .admitLoad s = .next (s.wr Reg.LDR_STATUS_STATE 6).readDecl := by
  have harm : exec .admitLoad s = execAdmit s := rfl
  have hgo : ¬ (s.ldr ≠ 5 ∨ s.run = true ∨ s.imgKind = 1) := by
    rw [hstate, hidle]
    rintro (h | h | h)
    · exact h rfl
    · cases h
    · exact hkind h
  rw [harm, execAdmit, if_neg hgo]

/-- R314: ARM with its margin, RUN, liner, segment and bank set in order. -/
theorem execImageArm_of_admitted {u : State} {j : Nat} (hj : j = s.rd Reg.LDR_START_SEG_SEGMENT) (hstate : s.ldr = 6)
    (hruns : s.rdb Reg.CRN_STATUS_RUNNING = true) (hmul : s.rd Reg.LDR_START_TICK_TICK % 64 = 0)
    (hmargin : s.now + (1024 + (if s.rdb Reg.CUF_CTRL_FILL_AUTO then 9 * segN (s.segEntry j) / 4 else 0)) ≤
      s.rd Reg.LDR_START_TICK_TICK)
    (hrun : s.run = true) (hliner : s.rdb Reg.PLM_STATUS_LINER_OK = true) (hpos : 1 ≤ j) (hlast : j ≤ s.segments)
    (hresume : j = 1 ∨ segResume (s.segEntry j) = true)
    (hbank : s.rdb Reg.CUF_CTRL_FILL_AUTO = true ∨ s.rdb Reg.CUF_STATUS_ARMED = true)
    (hu : u = ({ s.wr Reg.LDR_STATUS_STATE 7 with ldrs := { s.ldrs with startSeg := j } }.fetchSeg j).fetchSeg (j + 1)) :
    exec .imageArm s = .next
      (if s.rdb Reg.CUF_CTRL_FILL_AUTO then (u.wr Reg.CUF_STATUS_ARMED 0).startFill j else u) := by
  have harm : exec .imageArm s = execImageArm s := rfl
  have hontime : ¬ ((!s.rdb Reg.CRN_STATUS_RUNNING) = true ∨ s.rd Reg.LDR_START_TICK_TICK % 64 ≠ 0 ∨
      s.rd Reg.LDR_START_TICK_TICK < s.now + (1024 + (if s.rdb Reg.CUF_CTRL_FILL_AUTO then 9 * segN (s.segEntry j) / 4 else 0))) := by
    rw [hruns]
    rintro (h | h | h)
    · cases h
    · exact h hmul
    · exact Nat.not_lt.2 hmargin h
  have hok : ¬ ((!s.run) = true ∨ (!s.rdb Reg.PLM_STATUS_LINER_OK) = true ∨ j = 0 ∨ s.segments < j ∨
      (j ≠ 1 ∧ (!segResume (s.segEntry j)) = true) ∨
      ((!s.rdb Reg.CUF_CTRL_FILL_AUTO) = true ∧ (!s.rdb Reg.CUF_STATUS_ARMED) = true)) := by
    rw [hrun, hliner]
    rintro (h | h | h | h | ⟨hne, hnot⟩ | ⟨hmanual, hdisarmed⟩)
    · cases h
    · cases h
    · omega
    · omega
    · rw [hresume.resolve_left hne] at hnot
      cases hnot
    · obtain h | h := hbank
      · rw [h] at hmanual
        cases hmanual
      · rw [h] at hdisarmed
        cases hdisarmed
  rw [harm, execImageArm]
  dsimp only
  rw [← hj, if_neg (not_not.2 hstate), if_neg hontime, if_neg hok, hu]
  rfl

theorem execConvertStartTime_of_locked {u : State} {d : Bool} {t : Nat} (hu : u = s.wrb Reg.LDR_CTRL_DOMAIN d) (h7 : u.ldr ≠ 7)
    (h8 : u.ldr ≠ 8) (hlocked : u.domLocked (if d then 1 else 0) = true) (hruns : u.rdb Reg.CRN_STATUS_RUNNING = true)
    (ht : u.toCrown (if d then 1 else 0) (65536 * u.rd Reg.LDR_START_PTP_TIME) = some t) :
    exec (.convertStartTime d) s = .next (u.wr Reg.LDR_START_TICK_TICK (ceil64 t)) := by
  have harm : exec (.convertStartTime d) s = execConvertStartTime d s := rfl
  have hd : (if d = true then 1 else 0) = b2n d := by cases d <;> rfl
  rw [hd] at hlocked ht
  have hcrown : u.toCrown (b2n d) (65536 * u.rd Reg.LDR_START_PTP_TIME) = some (t : Int) := ht
  have hgo : ¬ ((!u.domLocked (b2n d)) = true ∨ (!u.rdb Reg.CRN_STATUS_RUNNING) = true) := by
    rw [hlocked, hruns]
    decide
  rw [harm, execConvertStartTime, ← hu, if_neg (not_or.2 ⟨h7, h8⟩), if_neg hgo, hcrown]

theorem execRefuse_of_open {obj x : Nat} (hlow : 3 ≤ s.ldr) (hhigh : s.ldr ≤ 7) (hobj : obj = s.rd Reg.LDR_REFUSE0_OBJ)
    (hx : x = s.rd Reg.LDR_REFUSE1_INDEX) :
    exec .refuse s = .next ({ s.wr Reg.LDR_STATUS_STATE 11 with ldrs := { s.ldrs with refused := true } }.fault
      { code := 0x0701, block := 13, cause := s.rd Reg.LDR_REFUSE0_REASON, sub := s.rd Reg.LDR_REFUSE0_SUB,
        a := 2 ^ 12 * obj + s.rd Reg.LDR_REFUSE0_MODULE, b := x, c := (s.reg Reg.LDR_REFUSE2).toNat,
        link := if obj = 1 then x % 256 else 0xFF, stack := if obj = 3 then x % 256 else 0xFF,
        region := if obj = 6 then x % 256 else 0xFF, op := if obj = 2 then x else 0xFFFFFFFF }) := by
  have harm : exec .refuse s = execRefuse s := rfl
  have hgo : ¬ (s.ldr < 3 ∨ 7 < s.ldr) := by omega
  generalize hv : ({ s.wr Reg.LDR_STATUS_STATE 11 with ldrs := { s.ldrs with refused := true } } : State) = v
  have hrd : ∀ {g : Fld}, g.addr ≠ Reg.LDR_STATUS → v.rd g = s.rd g := fun h => by
    rw [← hv]
    exact State.rd_wr_ne s 11 h
  have hreg : v.reg Reg.LDR_REFUSE2 = s.reg Reg.LDR_REFUSE2 := by
    rw [← hv]
    exact State.reg_wr_ne s 11 (by decide)
  rw [harm, execRefuse, if_neg hgo]
  dsimp only
  rw [← hobj, ← hx, hv, hreg, hrd (by decide), hrd (by decide), hrd (by decide)]

theorem execImageStart_of_due {fetched : Bool} (hstate : s.ldr = 7) (hnow : s.now = s.rd Reg.LDR_START_TICK_TICK)
    (hlocked : s.startLocked = true) :
    exec (.imageStart fetched) s = .next
      (if s.flt.alarmPend then (s.wr Reg.LDR_STATUS_STATE 8).endScheduled else s.startImage s.ldrs.startSeg fetched) := by
  have harm : exec (.imageStart fetched) s = execImageStart fetched s := rfl
  have hgo : ¬ (s.ldr ≠ 7 ∨ s.now ≠ s.rd Reg.LDR_START_TICK_TICK) := not_or.2 ⟨not_not.2 hstate, not_not.2 hnow⟩
  rw [harm, execImageStart, if_neg hgo, hlocked, if_neg (by decide), apply_ite Host.Outcome.next]

end

/-- Settles O28: a load command whose condition holds takes the branch of its rule. -/
theorem loadCommandsComplete : Obligations.LoadCommandsComplete := by
  unfold Obligations.LoadCommandsComplete
  refine ⟨fun _ _ => execLoadOpen_of_closed, fun _ => execLoadClose_of_not_running, fun _ => execLoadVerify_of_loaded,
    fun s u hstate hu => ?_, fun _ => execAdmit_of_verified, fun _ _ _ => execImageArm_of_admitted,
    fun _ _ _ _ => execConvertStartTime_of_locked, fun _ _ _ => execRefuse_of_open, fun s f hstate hnow hlocked hquiet => ?_,
    fun s f hstate hnow hlocked hpend => ?_⟩
  · obtain ⟨hnone, hsome⟩ := execLoadVerifyDone_of_verifying hstate hu
    cases hchecks : s.imageChecks with
    | none => exact hnone hchecks
    | some r => exact hsome r hchecks
  · rw [execImageStart_of_due hstate hnow hlocked, if_neg (Bool.eq_false_iff.1 hquiet)]
  · rw [execImageStart_of_due hstate hnow hlocked, if_pos hpend]

end Sys2Proof.Machine
end

section
/-! PROOFS. Chunks, the broadcast and firmware (R320 to R325, R386): what is held, relayed, reported and sent. -/
namespace Sys2Proof.Machine

section
variable {s : State}

/-! ### Chunks and rounds -/

theorem execChunkPart_of_taken {u : State} {l : Nat} {f : Flit} (h : s.niTake 6 (fun _ => true) = some (u, l, f)) :
    exec .chunkPart s = .next (u.takePart f).ldrPump := by
  have harm : exec .chunkPart s = execChunkPart s := rfl
  rw [harm, execChunkPart, h]

theorem execChunkSubmit_of_open {c : Fin 16777216} {crc : BitVec 32} (hopen : s.ldr = 1) :
    exec (.chunkSubmit c crc) s = .next (s.takeChunk c s.chunkWindow crc.toNat) := by
  have harm : exec (.chunkSubmit c crc) s = execChunkSubmit c crc s := rfl
  rw [harm, execChunkSubmit, if_neg (not_not.2 hopen)]

theorem execBcast_of_source {u : State} (hsource : s.isSource = true) (hlow : 3 ≤ s.ldr) (hne : s.ldr ≠ 11)
    (hidle : s.rdb Reg.LDR_BCAST_STATUS_BUSY = false) (hcomplete : s.loadComplete = true)
    (hu : u = (((s.wr Reg.LDR_BCAST_STATUS_BUSY 1).wr Reg.LDR_BCAST_STATUS_DONE 0).wr Reg.LDR_BCAST_STATUS_ROUND 0).wr
      Reg.LDR_BCAST_STATUS_REPORTS 0) : exec .bcast s = .next (u.sendAll 0).settle.ldrPump := by
  have harm : exec .bcast s = execBcast s := rfl
  have hgo : ¬ ((!s.isSource) = true ∨ s.ldr < 3 ∨ s.ldr = 11 ∨ s.rdb Reg.LDR_BCAST_STATUS_BUSY = true ∨ (!s.loadComplete) = true) := by
    rw [hsource, hidle, hcomplete]
    rintro (h | h | h | h | h)
    · cases h
    · exact Nat.not_lt.2 hlow h
    · exact hne h
    · cases h
    · cases h
  rw [harm, execBcast, if_neg hgo, hu]

theorem execBcastSettleEnd_of_due {u : State} (hphase : s.ldrs.phase = 2) (hdue : s.ldrs.phaseEnd ≤ s.cyc)
    (hu : u = (s.ldrSendTo s.children 1 (1 * 2 ^ 136 + 2 ^ 104 * (s.rd Reg.LDR_IMAGE_ID_ID % 2 ^ 32)
      + 2 ^ 100 * s.rd Reg.LDR_BCAST_STATUS_ROUND) 0).wr Reg.LDR_BCAST_STATUS_REPORTS 0) :
    exec .bcastSettleEnd s = .next ({ u with ldrs := { u.ldrs with
      phase := 3, phaseEnd := u.cyc + u.rd Reg.LDR_BCAST_TIME_REPORT_WAIT, reports := [] } }.ldrPump) := by
  have harm : exec .bcastSettleEnd s = execBcastSettleEnd s := rfl
  have hgo : ¬ (s.ldrs.phase ≠ 2 ∨ s.cyc < s.ldrs.phaseEnd) := not_or.2 ⟨not_not.2 hphase, Nat.not_lt.2 hdue⟩
  rw [harm, execBcastSettleEnd, if_neg hgo, hu]

theorem not_before_phaseEnd (hphase : s.ldrs.phase = 3) (hdue : s.ldrs.phaseEnd ≤ s.cyc) :
    ¬ (s.ldrs.phase ≠ 3 ∨ s.cyc < s.ldrs.phaseEnd) := not_or.2 ⟨not_not.2 hphase, Nat.not_lt.2 hdue⟩

theorem execReportWaitEnd_of_all (hphase : s.ldrs.phase = 3) (hdue : s.ldrs.phaseEnd ≤ s.cyc)
    (hall : s.rd Reg.LDR_BCAST_CFG_EXPECT ≤ (s.ldrs.reports.filter fun x => x.2.2).length)
    (hnone : (s.ldrs.reports.filter fun x => !x.2.1.isEmpty) = []) : exec .reportWaitEnd s = .next s.bcastDone := by
  have harm : exec .reportWaitEnd s = execReportWaitEnd s := rfl
  rw [harm, execReportWaitEnd, if_neg (not_before_phaseEnd hphase hdue)]
  dsimp only
  rw [hnone, decide_eq_false (Nat.not_lt.2 hall)]
  rfl

theorem execReportWaitEnd_of_short (hphase : s.ldrs.phase = 3) (hdue : s.ldrs.phaseEnd ≤ s.cyc)
    (hround : s.rd Reg.LDR_BCAST_STATUS_ROUND < 8)
    (hshort : (s.ldrs.reports.filter fun x => x.2.2).length < s.rd Reg.LDR_BCAST_CFG_EXPECT) {n : Nat}
    (hn : n = s.rd Reg.LDR_BCAST_STATUS_ROUND + 1) :
    exec .reportWaitEnd s = .next (((s.wr Reg.LDR_BCAST_STATUS_ROUND n).sendAll n).count Reg.LDR_REPAIR_TX_CNT
      (s.wr Reg.LDR_BCAST_STATUS_ROUND n).imgChunks).settle.ldrPump := by
  have harm : exec .reportWaitEnd s = execReportWaitEnd s := rfl
  rw [harm, execReportWaitEnd, if_neg (not_before_phaseEnd hphase hdue)]
  dsimp only
  rw [decide_eq_true hshort, if_neg (fun h => by cases h.1), if_neg (by omega), if_pos rfl, hn]

theorem execRoundEnd_of_loaded {u v w : State} {l : Nat} {f : Flit} (htake : s.niTake 1 (isLdrMsg 1) = some (u, l, f))
    (hv : v = u.ldrSendTo u.children 1 (rwHdr f) 0) (himage : nbits (rwHdr f) 135 104 = v.rd Reg.LDR_IMAGE_ID_ID % 2 ^ 32)
    (hstate : v.ldr = 3) (hround : v.rd Reg.LDR_STATUS_ROUND ≤ nbits (rwHdr f) 103 100)
    (hw : w = (v.seeRound (nbits (rwHdr f) 103 100)).sendReport (nbits (rwHdr f) 103 100) v.reportRanges) (hheld : w.ldr ≠ 1) :
    exec .roundEnd s = .next w.ldrPump := by
  have harm : exec .roundEnd s = execRoundEnd s := rfl
  have hgo : ¬ (nbits (rwHdr f) 135 104 ≠ v.rd Reg.LDR_IMAGE_ID_ID % 2 ^ 32 ∨ (v.ldr ≠ 1 ∧ v.ldr ≠ 3) ∨
      nbits (rwHdr f) 103 100 < v.rd Reg.LDR_STATUS_ROUND) := by
    rintro (h | h | h)
    · exact h himage
    · exact h.2 hstate
    · exact Nat.not_lt.2 hround h
  rw [harm, execRoundEnd, htake]
  dsimp only
  rw [← hv, if_neg hgo, ← hw, if_neg fun h => hheld h.2]

theorem execReport_of_first {u : State} {l : Nat} {f : Flit} {rs : List (Nat × List (Nat × Nat) × Bool)}
    (htake : s.niTake 1 (isLdrMsg 2) = some (u, l, f)) (hphase : u.ldrs.phase = 3)
    (himage : nbits (rwHdr f) 135 104 = u.rd Reg.LDR_IMAGE_ID_ID % 2 ^ 32)
    (hround : nbits (rwHdr f) 103 100 = u.rd Reg.LDR_BCAST_STATUS_ROUND) (hfirst : u.ldrs.reports = [])
    (hrs : rs = [(rwSrc f, dataRanges (rwData f), nbit (rwHdr f) 99)]) :
    exec .report s = .next ({ u with ldrs := { u.ldrs with reports := rs } }.wr Reg.LDR_BCAST_STATUS_REPORTS
      (if nbit (rwHdr f) 99 then 1 else 0)) := by
  have harm : exec .report s = execReport s := rfl
  have hgo : ¬ (u.ldrs.phase ≠ 3 ∨ nbits (rwHdr f) 135 104 ≠ u.rd Reg.LDR_IMAGE_ID_ID % 2 ^ 32 ∨
      nbits (rwHdr f) 103 100 ≠ u.rd Reg.LDR_BCAST_STATUS_ROUND) :=
    not_or.2 ⟨not_not.2 hphase, not_or.2 ⟨not_not.2 himage, not_not.2 hround⟩⟩
  have hlength : (rs.filter fun (r : Nat × List (Nat × Nat) × Bool) => r.2.2).length = if nbit (rwHdr f) 99 then 1 else 0 := by
    rw [hrs]
    cases nbit (rwHdr f) 99 <;> rfl
  rw [harm, execReport, htake]
  dsimp only
  rw [if_neg hgo, hfirst, ← hlength, hrs]
  rfl

/-! ### Firmware -/

theorem execFwStart_of_verified {u v : State} (hstate : s.ldr = 5) (hkind : s.imgKind = 1)
    (hidle : s.rdb Reg.LDR_FW_STATUS_BUSY = false) (hu : u = (s.wr Reg.LDR_FW_STATUS_BUSY 1).wr Reg.LDR_FW_STATUS_REPAIRS 0)
    (hv : v = { u with ldrs := { u.ldrs with fw := u.ldrs.fw.filter fun e => nbit e.2 256, fwNext := some 0, fwLast := u.cyc } }) :
    exec .fwStart s = .next (if v.fwSections.isEmpty || v.fwLacking.isEmpty then v.fwCollect else v.showWaits) := by
  have harm : exec .fwStart s = execFwStart s := rfl
  have hgo : ¬ (s.ldr ≠ 5 ∨ s.imgKind ≠ 1 ∨ s.rdb Reg.LDR_FW_STATUS_BUSY = true) := by
    rw [hstate, hkind, hidle]
    decide
  rw [harm, execFwStart, if_neg hgo]
  dsimp only
  rw [← hu, ← hv]

theorem execFwChunkSend_of_due {u v : State} {lost : List Nat} {i c : Nat} {rs : List Nat} (hnext : s.ldrs.fwNext = some i)
    (hdue : s.ldrs.fwLast + 256 ≤ s.cyc) (hitem : s.fwItem i = some (rs, c))
    (hu : u = s.forEach (rs.filter fun r => !lost.contains r) (fun x r => x.fwTake r c))
    (hv : v = { u with ldrs := { u.ldrs with fwNext := some (i + 1), fwLast := u.cyc } }) :
    exec (.fwChunkSend lost) s = .next (if (v.fwItem (i + 1)).isNone then v.fwCollect else v) := by
  have harm : exec (.fwChunkSend lost) s = execFwChunkSend lost s := rfl
  rw [harm, execFwChunkSend, hnext]
  dsimp only
  rw [if_neg (Nat.not_lt.2 hdue), hitem]
  dsimp only
  rw [← hu, ← hv]

theorem execFwRepair_of_round {u v : State} {lost : List (Nat × Nat)} {n : Nat} (hn : n = s.rd Reg.LDR_FW_STATUS_REPAIRS)
    (hstate : s.ldr = 5) (hkind : s.imgKind = 1) (hidle : s.rdb Reg.LDR_FW_STATUS_BUSY = false) (hfew : n < 8)
    (hu : u = s.forEach s.fwLacking (fun x r =>
      x.forEach ((List.range (x.fwChunks r)).filter fun i => !lost.contains (r, i)) fun x i => x.fwTake r i))
    (hv : v = (u.wr Reg.LDR_FW_STATUS_REPAIRS (n + 1)).fwCollect) :
    exec (.fwRepair lost) s = .next (if n + 1 = 8 ∧ v.fwLacking ≠ [] then v.fwGiveUp else v) := by
  have harm : exec (.fwRepair lost) s = execFwRepair lost s := rfl
  have hgo : ¬ (s.ldr ≠ 5 ∨ s.imgKind ≠ 1 ∨ s.rdb Reg.LDR_FW_STATUS_BUSY = true ∨ 8 ≤ n) := by
    rw [hstate, hkind, hidle]
    rintro (h | h | h | h)
    · exact h rfl
    · exact h rfl
    · cases h
    · exact Nat.not_le.2 hfew h
  rw [harm, execFwRepair]
  dsimp only
  rw [← hn, if_neg hgo, ← hu, ← hv]

end

/-- Settles O29: a chunk's command, or firmware's, whose condition holds takes the branch of its rule. -/
theorem chunkCommandsComplete : Obligations.ChunkCommandsComplete := by
  unfold Obligations.ChunkCommandsComplete
  exact ⟨fun _ _ _ _ => execChunkPart_of_taken, fun _ _ _ => execChunkSubmit_of_open, fun _ _ => execBcast_of_source,
    fun _ _ => execBcastSettleEnd_of_due, fun _ => execReportWaitEnd_of_all,
    fun _ hphase hdue hround hshort => execReportWaitEnd_of_short hphase hdue hround hshort rfl,
    fun _ _ _ _ _ htake hv himage hstate hround =>
      ⟨_, rfl, fun hheld => execRoundEnd_of_loaded htake hv himage hstate hround rfl hheld⟩,
    fun _ _ _ _ _ => execReport_of_first, fun _ _ _ => execFwStart_of_verified, fun _ _ _ _ _ _ _ => execFwChunkSend_of_due,
    fun _ _ _ _ _ => execFwRepair_of_round⟩

end Sys2Proof.Machine
end

section
/-! PROOFS. Frames and datagrams (R328 to R352): what a port hears is checked, and what passes reaches the unit it is for. -/
namespace Sys2Proof.Machine

section
variable {s t : State} {f : EthFrame} {d : Dgram}

theorem execFrameDropped_of_dropped (hhears : s.hears f = true) (hcheck : s.checkFrame f = .dropped t) :
    exec (.frameDropped f) s = .next t := by
  have harm : exec (.frameDropped f) s = execFrameDropped f s := rfl
  rw [harm, execFrameDropped, hhears, if_neg (by decide), hcheck]

theorem execFrameDropped_of_datagram (hhears : s.hears f = true) (hcheck : s.checkFrame f = .dgram t d) :
    (t.takes d = false → exec (.frameDropped f) s = .next t.stranger) ∧
    (t.takes d = true → t.sentOn d = true → exec (.frameDropped f) s = .next (t.forwardDgram d)) := by
  have harm : exec (.frameDropped f) s = execFrameDropped f s := rfl
  rw [harm, execFrameDropped, hhears, if_neg (by decide), hcheck]
  dsimp only
  refine ⟨fun hother => ?_, fun htakes hsent => ?_⟩
  · rw [hother]
    rfl
  · rw [htakes, hsent]
    rfl

theorem execArpNdRequest_of_neighbour (hhears : s.hears f = true) (hcheck : s.checkFrame f = .neighbour t) :
    exec (.arpNdRequest f) s = .next (t.answer f.port.val) := by
  have harm : exec (.arpNdRequest f) s = execArpNdRequest f s := rfl
  rw [harm, execArpNdRequest, hhears, if_neg (by decide), hcheck]

/-- A datagram of the expected type whose session lives here goes to its unit. -/
theorem State.deliverBrp_of_home {typ : Nat} (act : State → Dgram → State) (hhears : s.hears f = true)
    (hcheck : s.checkFrame f = .dgram t d) (htype : d.typ = typ) (hhome : seHome (t.session d.sess) = t.rd Reg.RTE_SELF_ID)
    (htakes : t.takes d = true) : s.deliverBrp f typ act = act t d := by
  rw [State.deliverBrp, hhears, if_neg (by decide), hcheck]
  dsimp only
  rw [if_neg (not_not.2 htype), if_neg (not_not.2 hhome), if_pos htakes]

/-- A datagram of the expected type whose session lives elsewhere goes there. -/
theorem State.deliverBrp_of_away {typ : Nat} (act : State → Dgram → State) (hhears : s.hears f = true)
    (hcheck : s.checkFrame f = .dgram t d) (htype : d.typ = typ) (haway : seHome (t.session d.sess) ≠ t.rd Reg.RTE_SELF_ID) :
    s.deliverBrp f typ act = t.forwardDgram d := by
  rw [State.deliverBrp, hhears, if_neg (by decide), hcheck]
  dsimp only
  rw [if_neg (not_not.2 htype), if_pos haway]

/-- What a forwarded datagram of a live session does at its home, by its type. -/
theorem execForwardedDatagram_of_home {u : State} {i : Fin 4096} {x : List Byte} {num : Nat → Nat → Nat} (hup : s.bonUp = true)
    (htake : s.takeForwarded x = (u, true)) (hnum : num = (fun o n => ofBeBytes ((x.drop o).take n)))
    (hd : d = { sess := i.val, typ := num 1 1, flags := num 2 2, id := num 20 4, a := num 24 4, b := num 28 4, ofs := num 32 4,
                data := x.drop 40, nonce := num 8 12 })
    (hopen : seState (u.session i) = 1) (hid : seId (u.session i) = num 4 4) (hhome : seHome (u.session i) = u.rd Reg.RTE_SELF_ID)
    (hsvc : u.rdb Reg.BON_CTRL_SVC_EN = true) (htakes : u.takes d = true) :
    exec (.forwardedDatagram i x) s = .next
      (if d.typ = 1 then u.takeRequest d else if d.typ = 5 then u.takeResend d else if d.typ = 6 then u.takeCancel d
       else u.takeBulkAck d) := by
  have harm : exec (.forwardedDatagram i x) s = execForwardedDatagram i x s := rfl
  have hgo : ¬ (seState (u.session i) ≠ 1 ∨ seId (u.session i) ≠ num 4 4 ∨ seHome (u.session i) ≠ u.rd Reg.RTE_SELF_ID ∨
      (!u.rdb Reg.BON_CTRL_SVC_EN) = true ∨ (!u.takes d) = true) := by
    rw [hsvc, htakes]
    exact not_or.2 ⟨not_not.2 hopen, not_or.2 ⟨not_not.2 hid, not_or.2 ⟨not_not.2 hhome, by decide⟩⟩⟩
  rw [harm, execForwardedDatagram, hup, if_neg (by decide), htake]
  subst hnum
  dsimp only at hd hgo ⊢
  have htyp : d.typ = ofBeBytes ((x.drop 1).take 1) := by rw [hd]
  rw [if_neg (by decide), ← hd, if_neg hgo, htyp]
  generalize ofBeBytes ((x.drop 1).take 1) = typ
  split
  · rfl
  · rfl
  · rfl
  · next h1 h5 h6 => rw [if_neg h1, if_neg h5, if_neg h6]

theorem execAsmTimeout_of_due {slot : Fin 256} {r : Req} (hreq : s.reqAt slot = some r) (hpart : r.complete = false)
    (hdue : r.timer + s.rd Reg.BON_INTAKE_CFG_ASM_TIMEOUT ≤ s.cyc) (hopen : s.closeDue = false) (hup : s.bonUp = true) :
    exec (.asmTimeout slot) s = .next (((s.dropReq r).count Reg.BON_ASM_TIMEOUT_CNT 1).nak 1 r.sess r.id 5) := by
  have harm : exec (.asmTimeout slot) s = execAsmTimeout slot s := rfl
  have hgo : ¬ (r.complete = true ∨ s.cyc < r.timer + s.rd Reg.BON_INTAKE_CFG_ASM_TIMEOUT ∨ s.closeDue = true ∨
      (!s.bonUp) = true) := by
    rw [hpart, hopen, hup]
    rintro (h | h | h | h)
    · cases h
    · exact Nat.not_lt.2 hdue h
    · cases h
    · cases h
  rw [harm, execAsmTimeout, hreq]
  exact if_neg hgo

end

/-- Settles O30: an arrival that the port hears goes where its check says. -/
theorem datagramCommandsComplete : Obligations.DatagramCommandsComplete := by
  unfold Obligations.DatagramCommandsComplete
  refine ⟨fun _ _ _ => execFrameDropped_of_dropped, fun _ _ _ _ => execFrameDropped_of_datagram,
    fun _ _ _ => execArpNdRequest_of_neighbour, fun s t f d hhears hcheck hhome htakes => ?_, fun s t f d hhears hcheck haway => ?_,
    fun _ _ _ _ _ _ => execForwardedDatagram_of_home, fun _ _ _ => execAsmTimeout_of_due⟩
  · have hnext : ∀ {typ : Nat} (act : State → Dgram → State), d.typ = typ → s.deliverBrp f typ act = act t d :=
      fun act htype => State.deliverBrp_of_home act hhears hcheck htype hhome htakes
    exact ⟨fun h => congrArg _ (hnext State.takeRequest h), fun h => congrArg _ (hnext State.takeCancel h),
      fun h => congrArg _ (hnext State.takeResend h), fun h => congrArg _ (hnext State.takeBulkAck h)⟩
  · have hnext : ∀ {typ : Nat} (act : State → Dgram → State), d.typ = typ → s.deliverBrp f typ act = t.forwardDgram d :=
      fun act htype => State.deliverBrp_of_away act hhears hcheck htype haway
    exact ⟨fun h => congrArg _ (hnext State.takeRequest h), fun h => congrArg _ (hnext State.takeCancel h),
      fun h => congrArg _ (hnext State.takeResend h), fun h => congrArg _ (hnext State.takeBulkAck h)⟩

end Sys2Proof.Machine
end

section
/-! PROOFS. Token windows (R338 to R347): a window's record, its mirror, its deadline and its output. -/
namespace Sys2Proof.Machine

section
variable {s : State}

theorem execWindowClose_of_due {u v x : State} {w : Nat} {sts : List Nat} (hw : s.windowAt 0 = some w) (hnew : s.bon.nextWin ≤ w)
    (hu : u = { (s.wr Reg.BON_WINDOW_INDEX w).wr Reg.BON_WINDOW_DONE 0 with bon := { s.bon with nextWin := w + 1 } })
    (hrole : u.role 0 = true) (hsts : sts = (List.range (u.svc 0x02 2)).map (fun i => slotState u.cyc (u.reqAt i)))
    (hv : v = (u.wr Reg.BON_WINDOW_ACTIVE (sts.filter fun y => 2 ≤ y && y ≤ 4).length).wr Reg.BON_WINDOW_VOID
      (sts.length - (sts.filter fun y => 2 ≤ y && y ≤ 4).length))
    (hx : x = v.count Reg.BON_VOID_SLOT_CNT (sts.length - (sts.filter fun y => 2 ≤ y && y ≤ 4).length)) :
    exec .windowClose s = .next { x with bon := { x.bon with
      record := some (x.windowRecord w), reqs := x.bon.reqs.map x.afterWindow } } := by
  have harm : exec .windowClose s = execWindowClose s := rfl
  have hwritten : u = { (s.wr Reg.BON_WINDOW_INDEX w).wr Reg.BON_WINDOW_DONE 0 with
      bon := { ((s.wr Reg.BON_WINDOW_INDEX w).wr Reg.BON_WINDOW_DONE 0).bon with nextWin := w + 1 } } := hu
  have hcyc : ((s.wr Reg.BON_WINDOW_INDEX w).wr Reg.BON_WINDOW_DONE 0).cyc = u.cyc := (congrArg State.cyc hu).symm
  have hgo : ¬ (!u.role 0) = true := by
    rw [hrole]
    decide
  rw [harm, execWindowClose, hw]
  dsimp only
  rw [if_neg (Nat.not_lt.2 hnew), ← hwritten, if_neg hgo, hcyc, ← hsts, ← hv, ← hx]

theorem execWindowRecordDone_of_room {u : State} {rec : List Byte} {a : Nat} {gone : List Req} (hrec : s.bon.record = some rec)
    (hup : s.bonUp = true) (ha : a = bufferAt (s.svc 0x30 8) s.recordBytes (s.bon.nextWin - 1))
    (hgood : s.rangeUp a s.recordBytes = true)
    (hgone : gone = s.bon.reqs.filter (fun r => (rec.getD (64 + 64 * r.slot) 0).toNat == 5))
    (hu : u = { s.hbmWriteCap 0 (a / 32) (byteWords rec) with bon := { s.bon with record := none } }) :
    exec .windowRecordDone s = .next ((u.forEach gone State.dropReq).wr Reg.BON_WINDOW_DONE 1) := by
  have harm : exec .windowRecordDone s = execWindowRecordDone s := rfl
  rw [harm, execWindowRecordDone, hrec]
  dsimp only
  rw [hup, if_neg (by decide), ← ha, hgood, if_pos rfl, ← hgone, hu]

theorem execMirrorRead_of_due {u v : State} {w : Nat} {r : State × List RWord} (hw : s.windowAt (s.svc 0x18 4) = some w)
    (hnew : s.bon.nextMirror ≤ w) (hrole : s.role 1 = true)
    (hr : r = s.hbmReadN 14 (bufferAt (s.svc 0x30 8) s.recordBytes w / 32) (s.recordBytes / 32))
    (hu : u = { r.1 with bon := { r.1.bon with nextMirror := w + 1 } })
    (hv : v = (if u.role 0 then u else u.forEach (List.range (u.svc 0x02 2)) fun x i => x.mirrorPages r.2 i)) :
    exec .mirrorRead s = .next
      (if v.role 1 then v.forEach (List.range (u.svc 0x02 2)) fun x i => x.mirrorSlot r.2 i else v) := by
  have harm : exec .mirrorRead s = execMirrorRead s := rfl
  have hgo : ¬ (w < s.bon.nextMirror ∨ (!s.role 1) = true ∧ (!s.role 2) = true) := by
    rw [hrole]
    exact not_or.2 ⟨Nat.not_lt.2 hnew, fun h => by cases h.1⟩
  rw [harm, execMirrorRead, hw]
  dsimp only
  rw [if_neg hgo, ← hr, ← hu, ← hv]

theorem execRecordDeadlineCheck_of_due {u : State} {d first w : Nat} (hd : d = s.ldrs.decl)
    (hfirst : first = s.ldrs.start + field d 0x08 8 + field d 0x10 4) (hw : w = (s.now - first) / field d 0x04 4)
    (hdecl : s.ldrs.declared = true) (hserved : nbit (field d 0 1) 0 = true) (hrun : s.ldr = 8) (hlen : field d 0x04 4 ≠ 0)
    (hnow : s.now = first + w * field d 0x04 4) (hnew : s.ldrs.nextCheck ≤ w)
    (hu : u = { s with ldrs := { s.ldrs with nextCheck := w + 1 } }) :
    exec .recordDeadlineCheck s = .next
      (if u.rdb Reg.BON_WINDOW_DONE then u
       else u.refuseAt { reason := 21, sub := 1, index := w, value := w } (u.rd Reg.CUF_SEAM_SEGMENT + 1)) := by
  have harm : exec .recordDeadlineCheck s = execRecordDeadlineCheck s := rfl
  have hgo : ¬ ((!s.ldrs.declared) = true ∨ (!nbit (field d 0 1) 0) = true ∨ s.ldr ≠ 8 ∨ field d 0x04 4 = 0 ∨
      s.now ≠ first + w * field d 0x04 4 ∨ w < s.ldrs.nextCheck) := by
    rw [hdecl, hserved]
    rintro (h | h | h | h | h | h)
    · cases h
    · cases h
    · exact h hrun
    · exact hlen h
    · exact h hnow
    · exact Nat.not_lt.2 hnew h
  subst hd hfirst hw hu
  rw [harm, execRecordDeadlineCheck, if_neg hgo, apply_ite Host.Outcome.next]

theorem execTokenOutput_of_due {u v : State} {w a : Nat} {r : State × List RWord} {ws : List RWord}
    (hw : s.windowAt (s.svc 0x1C 4) = some w) (hnew : s.bon.nextOut ≤ w) (hrole : s.role 1 = true)
    (ha : a = bufferAt (s.svc 0x38 8) s.outBytes w) (hr : r = s.hbmReadN 14 (a / 32) ((a % 32 + s.outBytes + 31) / 32))
    (hws : ws = (if a % 32 = 0 then r.2 else byteWords ((r.2.flatMap fun x => bytesOf x).drop (a % 32))))
    (hu : u = { r.1 with bon := { r.1.bon with
      nextOut := w + 1, kept := r.1.bon.kept.filter (fun t => decide (w < t.win + s.svc 0x2C 2)),
      waiting := r.1.bon.waiting.filter (fun t => decide (w < t.win + s.svc 0x2C 2)) } })
    (hv : v = (if u.role 1 then u.forEach (List.range (u.svc 0x02 2)) fun x i => x.slotOutput w ws i else u)) :
    exec .tokenOutput s = .next
      (if v.role 0 then v.forEach (List.range (u.svc 0x02 2)) fun x i => x.slotEnd ws i else v) := by
  have harm : exec .tokenOutput s = execTokenOutput s := rfl
  have hgo : ¬ (w < s.bon.nextOut ∨ (!s.role 0) = true ∧ (!s.role 1) = true) := by
    rw [hrole]
    exact not_or.2 ⟨Nat.not_lt.2 hnew, fun h => by cases h.2⟩
  subst ha hr hws hu hv
  rw [harm, execTokenOutput, hw]
  exact if_neg hgo

end

/-- Settles O31: a window's command whose condition holds takes the branch of its rule. -/
theorem windowCommandsComplete : Obligations.WindowCommandsComplete := by
  unfold Obligations.WindowCommandsComplete
  exact ⟨fun _ _ _ _ _ _ => execWindowClose_of_due, fun _ _ _ _ _ => execWindowRecordDone_of_room,
    fun _ _ _ _ _ => execMirrorRead_of_due, fun _ _ _ _ _ => execRecordDeadlineCheck_of_due,
    fun _ _ _ _ _ _ _ => execTokenOutput_of_due⟩

end Sys2Proof.Machine
end

section
/-! PROOFS. Sessions, bulk transfers and ports (R331 to R352). -/
namespace Sys2Proof.Machine

section
variable {s : State}

/-! ### Sessions -/

theorem execSessionTableWrite_of_closed {i : Fin 4096} {w : Fin 8} {v : Word} (hlive : s.live = true) (hon : s.domOn 29 = true)
    (hclosed : s.sessOpen i = false) :
    exec (.sessionTableWrite i w v) s = .next (s.setTab (0x4000000 + 64 * i.val + 8 * w.val)
      (sessionWrite (s.tab (0x4000000 + 64 * i.val + 8 * w.val)) v w)) := by
  have harm : exec (.sessionTableWrite i w v) s = execSessionTableWrite i w v s := rfl
  rw [harm, execSessionTableWrite, State.bar2Write_of_on hlive hon, if_neg (Bool.eq_false_iff.1 hclosed)]

theorem execSessionOpen_of_valid {u v : State} {i : Fin 4096} (hlive : s.live = true) (hon : s.powered Reg.BON_SESS_CMD = true)
    (hu : u = s.wr Reg.BON_SESS_CMD_INDEX i) (hup : u.bonUp = true) (hclosed : u.sessOpen i = false)
    (hresult : u.openResult (u.session i) = 1)
    (hv : v = (u.clearKeys.wr Reg.BON_SESS_CMD_RESULT 1).setSession i
      (nset (nset (nset (u.session i) 511 510 1) 261 198 0) 197 134 1)) :
    exec (.sessionOpen i) s = .next { v with bon := { v.bon with
      keys := SMap.set (fun _ => 0) v.bon.keys i u.keyRegs, bitmap := SMap.set (fun _ => 0) v.bon.bitmap i 0,
      startedId := SMap.set (fun _ => 0) v.bon.startedId i 0,
      sessLim := SMap.set (fun _ => (0, 0)) v.bon.sessLim i (0, 0) } } := by
  have harm : exec (.sessionOpen i) s = execSessionOpen i s := rfl
  have hgo : ¬ (!u.bonUp || u.sessOpen i) = true := by
    rw [hup, hclosed]
    decide
  rw [harm, execSessionOpen, State.busWrite_of_on _ hlive hon]
  dsimp only
  rw [← hu, if_neg hgo, hresult, if_neg (by decide), if_neg (by decide), ← hv]

theorem execSessionClose_of_open {u : State} {i : Fin 4096} (hlive : s.live = true) (hon : s.powered Reg.BON_SESS_CMD = true)
    (hu : u = s.wr Reg.BON_SESS_CMD_INDEX i) (hopen : u.sessOpen i = true) :
    exec (.sessionClose i) s = .next ((u.closeSession i).wr Reg.BON_SESS_CMD_RESULT 1) := by
  have harm : exec (.sessionClose i) s = execSessionClose i s := rfl
  rw [harm, execSessionClose, State.busWrite_of_on _ hlive hon, ← hu, if_pos hopen]

/-! ### Bulk transfers and ports -/

theorem execBulkStart_of_idle {u v w : State} {i : Fin 4096} {rate : Fin 65536} (hlive : s.live = true)
    (hon : s.powered Reg.BON_BULK_CTRL = true)
    (hu : u = (s.wr Reg.BON_BULK_CTRL_RATE rate.val).wr Reg.BON_BULK_CTRL_SESSION i.val) (hidle : u.bulkRuns = false)
    (hv : v = ((u.wr Reg.BON_BULK_STATUS_STATE 1).wr Reg.BON_BULK_STATUS_CAUSE 0).wr Reg.BON_BULK_STATUS_ACKED 0)
    (hw : w = { v with bon := { v.bon with bulk :=
      { num := v.bon.bulk.num + 1, sess := i, next := 0, since := v.cyc, tries := 0, due := v.cyc } } })
    (hopen : seState (u.session i) = 1) (hkind : seKind (u.session i) = 1) (hlen : w.bulkLen ≠ 0) :
    exec (.bulkStart i rate) s = .next w.bulkGo := by
  have harm : exec (.bulkStart i rate) s = execBulkStart i rate s := rfl
  rw [harm, execBulkStart, State.busWrite_of_on _ hlive hon]
  dsimp only
  rw [← hu, if_neg (Bool.eq_false_iff.1 hidle), if_neg (not_or.2 ⟨not_not.2 hopen, not_not.2 hkind⟩), ← hv, ← hw, if_neg hlen]

theorem execBulkAbort_of_running (hlive : s.live = true) (hon : s.powered Reg.BON_BULK_CTRL = true) (hrun : s.bulkRuns = true) :
    exec .bulkAbort s = .next (s.bulkEnd 3) := by
  have harm : exec .bulkAbort s = execBulkAbort s := rfl
  rw [harm, execBulkAbort, State.busWrite_of_on _ hlive hon, if_pos hrun]

theorem execBulkTimeout_of_due (hrun : s.bulkRuns = true) (hdue : s.bon.bulk.since + 1000000 ≤ s.cyc) :
    exec .bulkTimeout s = .next
      (if 8 ≤ s.bon.bulk.tries then s.bulkEnd 1
       else { s with bon := { s.bon with bulk := { s.bon.bulk with
         next := s.rd Reg.BON_BULK_STATUS_ACKED, since := s.cyc, tries := s.bon.bulk.tries + 1, due := s.cyc } } }.bulkGo) := by
  have harm : exec .bulkTimeout s = execBulkTimeout s := rfl
  rw [harm, execBulkTimeout, hrun]
  dsimp only
  rw [decide_eq_false (Nat.not_lt.2 hdue), if_neg (by decide), apply_ite Host.Outcome.next]

theorem execEthPortUp_of_enabled {u v : State} {p : Fin 2} {mine : List Tok} (hon : s.domOn 29 = true)
    (hen : nbit (s.rd Reg.BON_CTRL_PORT_EN) p = true) (hu : u = s.setBit Reg.BON_STATUS_PORT_UP p true)
    (hmine : mine = u.bon.waiting.filter (fun t => sePort (u.session t.sess) == p.val))
    (hv : v = { u with bon := { u.bon with waiting := u.bon.waiting.filter fun t => sePort (u.session t.sess) != p.val } }) :
    exec (.ethPortUp p) s = .next (v.forEach mine State.tokensOut).bulkGo := by
  have harm : exec (.ethPortUp p) s = execEthPortUp p s := rfl
  rw [harm, execEthPortUp, hon, hen, if_neg (by decide)]
  dsimp only
  rw [← hu, ← hmine, ← hv]

end

/-- Settles O32: a session's command, a transfer's or a port's, whose condition holds takes the branch of its rule. -/
theorem sessionCommandsComplete : Obligations.SessionCommandsComplete := by
  unfold Obligations.SessionCommandsComplete
  exact ⟨fun _ _ _ _ => execSessionTableWrite_of_closed, fun _ _ _ _ => execSessionOpen_of_valid,
    fun _ _ _ => execSessionClose_of_open, fun _ _ _ _ _ _ => execBulkStart_of_idle, fun _ => execBulkAbort_of_running,
    fun _ => execBulkTimeout_of_due, fun _ _ _ _ _ => execEthPortUp_of_enabled⟩

end Sys2Proof.Machine
end

section
/-! PROOFS. PTP (R346 to R362): each message by its domains, and the domains' own commands. -/
namespace Sys2Proof.Machine

section
variable {s u : State} {m : PtpMsg} {d : Nat}

/-! ### Messages -/

/-- A message of its kind that one domain takes is handled by that domain. -/
theorem State.ptpArrive_of_one {kind : Nat} (act : State → Nat → State) (hup : s.portUp m.port = true)
    (htake : s.ptpTake m (s.ptpOk m) = (u, [d])) (hkind : m.kind = kind) : s.ptpArrive m kind act = act u d := by
  have hgo : ¬ (m.kind ≠ kind ∨ (!s.portUp m.port) = true) := by
    rw [hup]
    exact not_or.2 ⟨not_not.2 hkind, by decide⟩
  rw [State.ptpArrive, if_neg hgo, htake]
  rfl

section
variable (hup : s.portUp m.port = true) (htake : s.ptpTake m (s.ptpOk m) = (u, [d]))
include hup htake

theorem execSync_of_taken (hkind : m.kind = 0) (hlow : -7 ≤ m.log) (hhigh : m.log ≤ 4) {v : State}
    (hv : v = u.setDom d { u.dom d with logSync := m.log }) :
    exec (.sync m) s = .next
      (if m.twoStep then v.setDom d { v.dom d with pend := some (m.seq, u.rxStamp m.port m.stamp, m.corr) }
       else v.syncDone d m.time (u.rxStamp m.port m.stamp) m.corr) := by
  have harm : exec (.sync m) s = execSync m s := rfl
  rw [harm, execSync, State.ptpArrive_of_one _ hup htake hkind, if_neg (by omega), hv]

theorem execSync_of_rate (hkind : m.kind = 0) (hrate : m.log < -7 ∨ 4 < m.log) :
    exec (.sync m) s = .next (u.disqualify d m.source) := by
  have harm : exec (.sync m) s = execSync m s := rfl
  rw [harm, execSync, State.ptpArrive_of_one _ hup htake hkind, if_pos hrate]

theorem execFollowUp_of_taken {t : Nat} {c : Int} (hkind : m.kind = 8) (hpend : (u.dom d).pend = some (m.seq, t, c)) :
    exec (.followUp m) s = .next (u.syncDone d m.time t (c + m.corr)) := by
  have harm : exec (.followUp m) s = execFollowUp m s := rfl
  rw [harm, execFollowUp, State.ptpArrive_of_one _ hup htake hkind, hpend]
  exact congrArg _ (if_pos rfl)

theorem execDelayResp_of_taken {q : Nat × Nat} {y : Nat × Nat × Int} {path : Int} (hkind : m.kind = 9)
    (hreq : (u.dom d).req = some q) (hsync : (u.dom d).sync = some y) (hend : u.rdb (Reg.TIME_DOM_CFG_DELAY d) = false)
    (hseq : q.1 = m.seq) (hme : u.toMe m = true)
    (hpath : path = ((m.time : Int) - y.1 - (u.domTime d q.2 - u.domTime d y.2.1) - y.2.2 - m.corr) / 8192) :
    exec (.delayResp m) s = .next
      ((u.setDom d { u.dom d with req := none, path := some path }).exchange d y.1 y.2.1 y.2.2 path) := by
  have harm : exec (.delayResp m) s = execDelayResp m s := rfl
  have hgo : ¬ (u.rdb (Reg.TIME_DOM_CFG_DELAY d) = true ∨ q.1 ≠ m.seq ∨ (!u.toMe m) = true) := by
    rw [hend, hme]
    exact not_or.2 ⟨by decide, not_or.2 ⟨not_not.2 hseq, by decide⟩⟩
  rw [harm, execDelayResp, State.ptpArrive_of_one _ hup htake hkind]
  dsimp only
  rw [hreq, hsync]
  subst hpath
  exact congrArg _ (if_neg hgo)

theorem execPdelayResp_of_taken {q : Nat × Nat} (hkind : m.kind = 3) (hreq : (u.dom d).req = some q) (hseq : q.1 = m.seq)
    (hme : u.toMe m = true) :
    exec (.pdelayResp m) s = .next
      (if m.twoStep then u.setDom d { u.dom d with peer := some (m.seq, m.time, u.rxStamp m.port m.stamp, m.corr) }
       else u.peerPath d q.2 0 0 (u.rxStamp m.port m.stamp) m.corr) := by
  have harm : exec (.pdelayResp m) s = execPdelayResp m s := rfl
  have hgo : ¬ (q.1 ≠ m.seq ∨ (!u.toMe m) = true) := by
    rw [hme]
    exact not_or.2 ⟨not_not.2 hseq, by decide⟩
  rw [harm, execPdelayResp, State.ptpArrive_of_one _ hup htake hkind, hreq]
  exact congrArg _ (if_neg hgo)

theorem execPdelayRespFollowUp_of_taken {q : Nat × Nat} {p : Nat × Nat × Nat × Int} (hkind : m.kind = 10)
    (hreq : (u.dom d).req = some q) (hpeer : (u.dom d).peer = some p) (hseq : p.1 = m.seq) (hseq' : q.1 = m.seq)
    (hme : u.toMe m = true) :
    exec (.pdelayRespFollowUp m) s = .next (u.peerPath d q.2 p.2.1 m.time p.2.2.1 (p.2.2.2 + m.corr)) := by
  have harm : exec (.pdelayRespFollowUp m) s = execPdelayRespFollowUp m s := rfl
  have hgo : ¬ (p.1 ≠ m.seq ∨ q.1 ≠ m.seq ∨ (!u.toMe m) = true) := by
    rw [hme]
    exact not_or.2 ⟨not_not.2 hseq, not_or.2 ⟨not_not.2 hseq', by decide⟩⟩
  rw [harm, execPdelayRespFollowUp, State.ptpArrive_of_one _ hup htake hkind, hreq, hpeer]
  exact congrArg _ (if_neg hgo)

theorem execAnnounce_of_taken {v : State} (hkind : m.kind = 11)
    (hv : v = u.setDom d { u.dom d with masters := noteMaster (u.dom d).masters m u.cyc }) :
    exec (.announce m) s = .next
      ((if v.domFollows d m.source then (v.wr (Reg.TIME_DOM_UTC_OFFSET d) m.utc).wrb (Reg.TIME_DOM_UTC_VALID d) m.utcValid
        else v).domSelect d) := by
  have harm : exec (.announce m) s = execAnnounce m s := rfl
  rw [harm, execAnnounce, State.ptpArrive_of_one _ hup htake hkind, hv]

end

theorem execPdelayReq_of_taken {sent : Nat} {ds : List Nat} (hkind : m.kind = 2) (hup : s.portUp m.port = true)
    (htake : s.ptpTake m (s.ptpOk m) = (u, d :: ds)) :
    exec (.pdelayReq m sent) s = .next
      (if u.rdb (Reg.TIME_DOM_CFG_ONE_STEP d) then
        (u.count Reg.TIME_PTP_TX_CNT 1).emit (.ptp m.port 3 m.domain m.seq
          (m.corr + ((u.txStamp m.port sent : Int) - u.rxStamp m.port m.stamp)) 0)
       else ((u.count Reg.TIME_PTP_TX_CNT 2).emit (.ptp m.port 3 m.domain m.seq m.corr (u.rxStamp m.port m.stamp))).emit
        (.ptp m.port 10 m.domain m.seq 0 (u.txStamp m.port sent))) := by
  have harm : exec (.pdelayReq m sent) s = execPdelayReq m sent s := rfl
  have hgo : ¬ (m.kind ≠ 2 ∨ (!s.portUp m.port) = true) := by
    rw [hup]
    exact not_or.2 ⟨not_not.2 hkind, by decide⟩
  rw [harm, execPdelayReq, if_neg hgo, htake, apply_ite Host.Outcome.next]

theorem execPtpFrameDrop_of_none (hup : s.portUp m.port = true) (htake : s.ptpTake m (s.ptpOk m) = (u, [])) :
    exec (.ptpFrameDrop m) s = .next u := by
  have harm : exec (.ptpFrameDrop m) s = execPtpFrameDrop m s := rfl
  rw [harm, execPtpFrameDrop, hup, if_neg (by decide), htake]
  exact if_pos rfl

end

/-- Settles O33: a message that a domain takes does there what its kind says. -/
theorem ptpMessageCommandsComplete : Obligations.PtpMessageCommandsComplete := by
  unfold Obligations.PtpMessageCommandsComplete
  refine ⟨fun s u m d hup htake => ?_, fun _ _ _ _ _ _ => execPdelayReq_of_taken, fun _ _ _ => execPtpFrameDrop_of_none⟩
  exact ⟨fun hkind hlow hhigh => execSync_of_taken hup htake hkind hlow hhigh rfl, execSync_of_rate hup htake,
    fun _ _ => execFollowUp_of_taken hup htake, fun _ _ _ => execDelayResp_of_taken hup htake,
    fun _ => execPdelayResp_of_taken hup htake, fun _ _ => execPdelayRespFollowUp_of_taken hup htake,
    fun _ => execAnnounce_of_taken hup htake⟩

/-! ### Domains -/

section
variable {s u : State} {d : Fin 2}

theorem execDomainEnable_of_one {v : Word} (hone : fget v 0 0 = 1) :
    exec (.domainEnable d v) s = .next
      (if s.domState d = 0 then ((s.writeDomCfg d v).wr (domFld d) 1).setDom d {} else s.writeDomCfg d v) := by
  have harm : exec (.domainEnable d v) s = execDomainEnable d v s := rfl
  rw [harm, execDomainEnable, hone, if_neg (by decide)]
  by_cases hoff : s.domState d = 0
  · rw [if_pos hoff]
    exact if_neg (not_not.2 hoff)
  · rw [if_neg hoff]
    exact if_pos hoff

theorem execDomainDisable_of_zero {v : Word} (hzero : fget v 0 0 = 0)
    (hu : u = ((s.writeDomCfg d v).wr (domFld d) 0).setReg (Reg.TIME_DOM_MASTER d) 0) :
    exec (.domainDisable d v) s = .next ((if s.domState d = 3 then u.leftLocked d false else u).setDom d {}) := by
  have harm : exec (.domainDisable d v) s = execDomainDisable d v s := rfl
  rw [harm, execDomainDisable, if_neg (not_not.2 hzero), hu]

theorem execSyncTimeout_of_due (hstate : 2 ≤ s.domState d) (hdue : (s.dom d).syncAt + 4 * interval (s.dom d).logSync ≤ s.cyc) :
    exec (.syncTimeout d) s = .next (s.domListen d) := by
  have harm : exec (.syncTimeout d) s = execSyncTimeout d s := rfl
  rw [harm, execSyncTimeout, if_neg (not_or.2 ⟨Nat.not_lt.2 hstate, Nat.not_lt.2 hdue⟩)]

theorem execAnnounceTimeout_of_due {m : Master} (hm : ((s.dom d).masters.find? fun m => s.domFollows d m.source) = some m)
    (hdue : m.seenAt + Config.announceReceiptTimeout * interval m.logAnnounce ≤ s.cyc) :
    exec (.announceTimeout d) s = .next
      ((s.setDom d { s.dom d with masters := (s.dom d).masters.filter fun x => x.source != m.source }).domListen d) := by
  have harm : exec (.announceTimeout d) s = execAnnounceTimeout d s := rfl
  rw [harm, execAnnounceTimeout, hm]
  exact if_neg (Nat.not_lt.2 hdue)

theorem execPortDown_eq {p : Fin 2} (hu : u = (if s.domOn 29 then s.setBit Reg.BON_STATUS_PORT_UP p false else s)) :
    exec (.portDown p) s = .next (u.domsListen ((List.range 2).filter fun d => u.domPort d = p.val ∧ 2 ≤ u.domState d)) := by
  have harm : exec (.portDown p) s = execPortDown p s := rfl
  rw [harm, execPortDown, ← hu]

theorem execDelayReq_of_listening {sent : Nat} (hup : s.portUp (s.domPort d) = true)
    (hstate : s.domState d ≠ 0 ∧ (s.rdb (Reg.TIME_DOM_CFG_DELAY d) = true ∨ 2 ≤ s.domState d))
    (hu : u = (s.setDom d { s.dom d with
      req := some ((s.dom d).seq, s.txStamp (s.domPort d) sent), seq := ((s.dom d).seq + 1) % 2 ^ 16 }).count
        Reg.TIME_PTP_TX_CNT 1) :
    ∃ shown, exec (.delayReq d sent) s = .next (u.emit (.ptp (s.domPort d) (if s.rdb (Reg.TIME_DOM_CFG_DELAY d) then 2 else 1)
      (u.rd (Reg.TIME_DOM_CFG_DOMAIN d)) (s.dom d).seq 0 shown)) ∧
      (s.rdb (Reg.TIME_DOM_CFG_DELAY d) = true → shown = 0) := by
  have harm : exec (.delayReq d sent) s = execDelayReq d sent s := rfl
  have hgo : ¬ ((!s.portUp (s.domPort d)) = true ∨ s.domState d = 0 ∨
      ((!s.rdb (Reg.TIME_DOM_CFG_DELAY d)) = true ∧ s.domState d < 2)) := by
    rw [hup]
    rintro (h | h | ⟨hend, hlow⟩)
    · cases h
    · exact hstate.1 h
    · obtain hpeer | hlocked := hstate.2
      · rw [hpeer] at hend
        cases hend
      · omega
  refine ⟨if s.rdb (Reg.TIME_DOM_CFG_DELAY d) then 0
    else if u.rdb (Reg.TIME_DOM_CFG_ONE_STEP d) then s.txStamp (s.domPort d) sent
    else 65536 * ((s.txStamp (s.domPort d) sent + 32768) / 65536), ?_, fun hpeer => ?_⟩
  · rw [harm, execDelayReq]
    dsimp only
    rw [if_neg hgo, ← hu]
  · exact if_pos hpeer

end

/-- Settles O34: a domain's command whose condition holds takes the branch of its rule. -/
theorem ptpDomainCommandsComplete : Obligations.PtpDomainCommandsComplete := by
  unfold Obligations.PtpDomainCommandsComplete
  exact ⟨fun _ _ _ => execDomainEnable_of_one, fun _ _ _ _ => execDomainDisable_of_zero, fun _ _ => execSyncTimeout_of_due,
    fun _ _ _ => execAnnounceTimeout_of_due, fun _ _ _ => execPortDown_eq, fun _ _ _ _ => execDelayReq_of_listening⟩

end Sys2Proof.Machine
end

section
/-! PROOFS. Output time, captures, the bridge and the tick pulses (R60, R363 to R375). -/
namespace Sys2Proof.Machine

section
variable {s u v : State}

/-! ### Captures -/

section
variable (w : Word)

theorem State.bridgeRho_captureCrown : (s.setReg Reg.TIME_CAP_CROWN w).bridgeRho = s.bridgeRho := by
  simp (disch := decide) only [State.bridgeRho, State.rd_setReg_ne]

theorem State.bridgeNow_captureCrown : (s.setReg Reg.TIME_CAP_CROWN w).bridgeNow = s.bridgeNow := by
  simp (disch := decide) only [State.bridgeNow, State.now, State.rd_setReg_ne, State.bridgeRho_captureCrown]
  rfl

theorem State.sourceOf_captureCrown (on : Nat) : (s.setReg Reg.TIME_CAP_CROWN w).sourceOf on = s.sourceOf on := by
  simp only [State.sourceOf, State.bridgeNow_captureCrown]
  rfl

theorem State.dNow_captureCrown : (s.setReg Reg.TIME_CAP_CROWN w).dNow = s.dNow := by
  simp (disch := decide) only [State.dNow, State.slew, State.rd_setReg_ne]
  rfl

theorem State.outStamp_captureCrown : (s.setReg Reg.TIME_CAP_CROWN w).outStamp = s.outStamp := by
  simp (disch := decide) only [State.outStamp, State.outNow, State.rd_setReg_ne, State.sourceOf_captureCrown,
    State.dNow_captureCrown]
  rfl

end

/-- A capture holds the crown while it runs, the output time and the monotonic time; the registers
beside its own five keep their words. -/
theorem execTimeCapture_captures : ∃ t, exec .timeCapture s = .next t ∧
    t.reg Reg.TIME_CAP_CROWN = BitVec.ofNat 64 (if s.rdb Reg.CRN_STATUS_RUNNING then s.now else 0) ∧
    t.reg Reg.TIME_CAP_OUT = BitVec.ofNat 64 s.outStamp ∧
    t.reg Reg.TIME_CAP_MONO = wholeNs (some s.time.mono) ∧
    (∀ a, a ≠ Reg.TIME_CAP_CROWN → a ≠ Reg.TIME_CAP_OUT → a ≠ Reg.TIME_CAP_A → a ≠ Reg.TIME_CAP_B →
      a ≠ Reg.TIME_CAP_MONO → t.reg a = s.reg a) := by
  refine ⟨_, rfl, ?_, ?_, ?_, fun a hcrown hout ha hb hmono => ?_⟩
  · simp (disch := decide) only [State.reg_setReg_ne, State.reg_setReg_same]
  · simp (disch := decide) only [State.reg_setReg_ne, State.reg_setReg_same, State.outStamp_captureCrown]
  · exact State.reg_setReg_same _ _ _
  · rw [State.reg_setReg_ne _ _ hmono, State.reg_setReg_ne _ _ hb, State.reg_setReg_ne _ _ ha,
      State.reg_setReg_ne _ _ hout, State.reg_setReg_ne _ _ hcrown]

/-! ### The bridge -/

/-- A sample taken for the bridge leaves open which words the bridge accepts. -/
theorem State.bridgeOk_bridgeSample (w : Nat) : s.bridgeSample.bridgeOk w = s.bridgeOk w := by
  have hsample : ∃ x, s.bridgeSample = { s with time := { s.time with samples := x } } := by
    unfold State.bridgeSample
    dsimp only
    split_ifs
    · exact ⟨s.time.samples, rfl⟩
    · exact ⟨_, rfl⟩
  obtain ⟨x, hx⟩ := hsample
  rw [hx]
  simp only [State.bridgeOk, State.now, State.rd_mk]
  rfl

theorem execBridgeSend_of_due (htx : s.rdb Reg.TIME_CTRL_BRIDGE_TX = true) (hrunning : s.rdb Reg.CRN_STATUS_RUNNING = true)
    (hnow : s.now % 2 ^ 20 = 0) (hu : u = s.bridgeSample) :
    exec .bridgeSend s = .next ({ u with time := { u.time with bridgeSeq := (u.time.bridgeSeq + 1) % 2 ^ 16 } }.bridgeTo
      (u.bridgeWord (u.time.samples.headD u.sampleNow))) := by
  have harm : exec .bridgeSend s = execBridgeSend s := rfl
  have hgo : ¬ ((!s.rdb Reg.TIME_CTRL_BRIDGE_TX) = true ∨ (!s.rdb Reg.CRN_STATUS_RUNNING) = true ∨ s.now % 2 ^ 20 ≠ 0) := by
    rw [htx, hrunning]
    exact not_or.2 ⟨by decide, not_or.2 ⟨by decide, not_not.2 hnow⟩⟩
  rw [harm, execBridgeSend, if_neg hgo, hu]

section
variable {l : Nat} {f : Flit} (htake : s.niTake 1 (fun f => rwDstQ f == 0xF0) = some (u, l, f))
include htake

theorem execBridgeMessage_of_ok (hok : u.bridgeOk (rwData f % 2 ^ 256) = true)
    (hv : v = (u.bridgeSample.count Reg.TIME_BRIDGE_RX_CNT 1).takeBridge (rwData f % 2 ^ 256)) :
    exec .bridgeMessage s = .next (if v.rdb Reg.TIME_CTRL_BRIDGE_RELAY then v.bridgeTo (rwData f % 2 ^ 256) else v) := by
  have harm : exec .bridgeMessage s = execBridgeMessage s := rfl
  have hgo : ¬ (!u.bridgeSample.bridgeOk (rwData f % 2 ^ 256)) = true := by
    rw [State.bridgeOk_bridgeSample, hok]
    decide
  rw [harm, execBridgeMessage, htake, hv]
  exact if_neg hgo

theorem execBridgeMessage_of_refused (hok : u.bridgeOk (rwData f % 2 ^ 256) = false) :
    exec .bridgeMessage s = .next (u.bridgeSample.count Reg.TIME_BRIDGE_DROP_CNT 1) := by
  have harm : exec .bridgeMessage s = execBridgeMessage s := rfl
  have hgo : (!u.bridgeSample.bridgeOk (rwData f % 2 ^ 256)) = true := by
    rw [State.bridgeOk_bridgeSample, hok]
    rfl
  rw [harm, execBridgeMessage, htake]
  exact if_pos hgo

end

theorem execBridgeStale_of_stale (hsome : s.time.bridge.isSome = true) (hfresh : s.bridgeFresh = false)
    (hraised : s.time.staleRaised = false) (hu : u = { s with time := { s.time with staleRaised := true } }) :
    exec .bridgeStale s = .next ((if u.rdb Reg.TIME_CTRL_OUT_SRC then u.ptpLoss 3 0 else u).outFollow) := by
  have harm : exec .bridgeStale s = execBridgeStale s := rfl
  have hgo : ¬ (s.time.bridge.isNone = true ∨ s.bridgeFresh = true ∨ s.time.staleRaised = true) := by
    rw [hfresh, hraised, Option.isNone_iff_eq_none]
    exact not_or.2 ⟨Option.isSome_iff_ne_none.1 hsome, by decide⟩
  rw [harm, execBridgeStale, if_neg hgo, hu]

/-! ### Tick pulses -/

section
variable {i : Fin 4}

theorem execTpArm_of_ok {w : Word} (harm : fget w 0 0 = 1) (hu : u = s.writeTpCtrl i w)
    (hbase : u.rd (Reg.TIME_TP_CTRL_BASE i) ≤ 4)
    (hperiod : u.rd (Reg.TIME_TP_PERIOD_PERIOD i) = 0 ∨ u.tpWidth i < u.rd (Reg.TIME_TP_PERIOD_PERIOD i))
    (hv : v = ((u.wr (Reg.TIME_TP_STATUS_FIRED i) 0).wr (Reg.TIME_TP_STATUS_WAIT_BASE i) 0)) :
    ∃ x : TpSt, exec (.tpArm i w) s = .next
      (if (v.setTp i x).tpValid (u.rd (Reg.TIME_TP_CTRL_BASE i)) then (v.setTp i x).tpStart i
       else ((v.setTp i x).wr (Reg.TIME_TP_STATUS_ARMED i) 1).wr (Reg.TIME_TP_STATUS_WAIT_BASE i) 1) ∧
      x.edge = 0 ∧ x.done = 0 := by
  have hexec : exec (.tpArm i w) s = execTpArm i w s := rfl
  have hgo : ¬ (4 < u.rd (Reg.TIME_TP_CTRL_BASE i) ∨
      (u.rd (Reg.TIME_TP_PERIOD_PERIOD i) ≠ 0 ∧ u.rd (Reg.TIME_TP_PERIOD_PERIOD i) ≤ u.tpWidth i)) := by omega
  refine ⟨{ edge := 0, done := 0, pulse := (u.tp i).pulse, fresh := !u.tpValid (u.rd (Reg.TIME_TP_CTRL_BASE i)) }, ?_,
    rfl, rfl⟩
  rw [hexec, execTpArm, if_neg (by rw [harm]; decide)]
  dsimp only
  rw [← hu, if_neg hgo, ← hv, apply_ite Host.Outcome.next]

theorem execTpEdge_of_due (hclear : s.seamClear = true) (hepoch : s.epochDue = false)
    (harmed : s.rdb (Reg.TIME_TP_STATUS_ARMED i) = true) (hwait : s.rdb (Reg.TIME_TP_STATUS_WAIT_BASE i) = false)
    (hvalid : s.tpValid (s.rd (Reg.TIME_TP_CTRL_BASE i)) = true)
    (hdue : (s.rd (Reg.TIME_TP_START_START i) : Int) + (s.tp i).edge * s.rd (Reg.TIME_TP_PERIOD_PERIOD i)
      < s.tpDue (s.rd (Reg.TIME_TP_CTRL_BASE i)) (s.now + 1))
    (hu : u = s.wr (Reg.TIME_TP_STATUS_FIRED i) (min 0xFFFFFFFF (s.rd (Reg.TIME_TP_STATUS_FIRED i) + 1))) :
    exec (.tpEdge i) s = .next ((u.setTp i { s.tp i with
      edge := (s.tp i).edge + 1, done := (s.tp i).done + 1, pulse := some (u.cyc + u.tpWidth i) }).tpCount i) := by
  have harm : exec (.tpEdge i) s = execTpEdge i s := rfl
  have hgo : ¬ ((!s.seamClear) = true ∨ s.epochDue = true ∨ (!s.rdb (Reg.TIME_TP_STATUS_ARMED i)) = true ∨
      s.rdb (Reg.TIME_TP_STATUS_WAIT_BASE i) = true ∨ (!s.tpValid (s.rd (Reg.TIME_TP_CTRL_BASE i))) = true ∨
      s.tpDue (s.rd (Reg.TIME_TP_CTRL_BASE i)) (s.now + 1) ≤
        (s.rd (Reg.TIME_TP_START_START i) : Int) + (s.tp i).edge * s.rd (Reg.TIME_TP_PERIOD_PERIOD i)) := by
    rw [hclear, hepoch, harmed, hwait, hvalid]
    simpa using hdue
  rw [harm, execTpEdge]
  dsimp only
  rw [if_neg hgo, ← hu]

theorem execTpPulseEnd_of_over {t : Nat} (hpulse : (s.tp i).pulse = some t) (hover : t ≤ s.cyc) :
    exec (.tpPulseEnd i) s = .next (s.setTp i { s.tp i with pulse := none }) := by
  have harm : exec (.tpPulseEnd i) s = execTpPulseEnd i s := rfl
  rw [harm, execTpPulseEnd, hpulse]
  exact if_neg (Nat.not_lt.2 hover)

theorem execTpBaseStep_of_armed (harmed : s.rdb (Reg.TIME_TP_STATUS_ARMED i) = true)
    (hu : u = (s.wr (Reg.TIME_TP_STATUS_WAIT_BASE i) 0).setTp i
      { (s.wr (Reg.TIME_TP_STATUS_WAIT_BASE i) 0).tp i with fresh := false }) :
    exec (.tpBaseStep i) s = .next
      (if s.tpValid (s.rd (Reg.TIME_TP_CTRL_BASE i)) then (if (s.tp i).fresh then u.tpStart i else u.tpMiss i)
       else s.wr (Reg.TIME_TP_STATUS_WAIT_BASE i) 1) := by
  have harm : exec (.tpBaseStep i) s = execTpBaseStep i s := rfl
  have hkept : (s.wr (Reg.TIME_TP_STATUS_WAIT_BASE i) 0).setTp i { s.tp i with fresh := false } = u := hu.symm
  rw [harm, execTpBaseStep, harmed, if_neg (by decide)]
  dsimp only
  rw [hkept]
  cases s.tpValid (s.rd (Reg.TIME_TP_CTRL_BASE i)) <;> rfl

end

end

/-- Settles O35: a clause per command, each by its own condition. -/
theorem timeCommandsComplete : Obligations.TimeCommandsComplete :=
  ⟨fun _ => rfl, fun _ _ => rfl, fun _ => execTimeCapture_captures, fun _ => rfl, fun _ _ => execBridgeSend_of_due,
    fun _ _ _ _ _ => execBridgeMessage_of_ok, fun _ _ _ _ => execBridgeMessage_of_refused,
    fun _ _ => execBridgeStale_of_stale, fun _ _ _ _ _ => execTpArm_of_ok, fun _ _ => rfl,
    fun _ _ _ => execTpEdge_of_due, fun _ _ _ => execTpPulseEnd_of_over, fun _ _ _ => execTpBaseStep_of_armed⟩

end Sys2Proof.Machine
end

section
/-! PROOFS. Management packets (R21, R452 to R454). -/
namespace Sys2Proof.Machine

section
variable {s u v : State} {l o st : Nat} {f : Flit}

theorem State.mgmtTake_of_kind {kind : Flit → Bool} (htake : s.niTake 1 isMgmt = some (u, l, f)) (hkind : kind f = true) :
    s.mgmtTake kind = some (u, l, f) := by
  rw [State.mgmtTake, htake]
  exact if_pos hkind

/-! ### What a write's checks say -/

theorem State.mgStatus_of_shape (hshape : mgShape f ≠ 0) : u.mgStatus f = mgShape f := by
  rw [State.mgStatus, if_pos hshape]

theorem State.mgStatus_of_off (hshape : mgShape f = 0) (hoff : (mgTargets f).any (u.mgOff f) = true) : u.mgStatus f = 3 := by
  rw [State.mgStatus, if_neg (not_not.2 hshape), if_pos hoff]

/-- A target that no management write may reach gives the status of the first check that fails. -/
theorem State.mgStatus_of_not_writable (hfind : ((mgTargets f).find? fun o => !mgWritable f o) = some o) :
    u.mgStatus f = if mgShape f ≠ 0 then mgShape f else if (mgTargets f).any (u.mgOff f) then 3 else 1 := by
  have hany : ((mgTargets f).any fun o => !mgWritable f o) = true :=
    List.any_eq_true.2 ⟨o, List.mem_of_find?_eq_some hfind, List.find?_some (p := fun o => !mgWritable f o) hfind⟩
  rw [State.mgStatus, if_pos hany]

theorem State.mgStatus_of_ok (hshape : mgShape f = 0) (hok : ∀ o ∈ mgTargets f, u.mgOff f o = false ∧ mgWritable f o = true) :
    u.mgStatus f = 0 := by
  have hoff : ¬ (mgTargets f).any (u.mgOff f) = true := by
    rw [Bool.not_eq_true]
    exact List.any_eq_false.2 fun o ho => Bool.eq_false_iff.1 (hok o ho).1
  have hwritable : ¬ ((mgTargets f).any fun o => !mgWritable f o) = true := by
    rw [Bool.not_eq_true]
    exact List.any_eq_false.2 fun o ho => by simp [(hok o ho).2]
  rw [State.mgStatus, if_neg (not_not.2 hshape), if_neg hoff, if_neg hwritable]

theorem find?_not_writable_eq_none (hwritable : ∀ o ∈ mgTargets f, mgWritable f o = true) :
    ((mgTargets f).find? fun o => !mgWritable f o) = none :=
  List.find?_eq_none.2 fun o ho => by simp [hwritable o ho]

/-! ### The commands -/

section
variable (htake : s.niTake 1 isMgmt = some (u, l, f))
include htake

theorem execMgmtRead_of_own (hmine : f.mitten = 0) (hread : mgMsg f = 0x20) :
    exec .mgmtRead s = .next (if mgShape f = 0 then u.mgRead f else u.mgRefuse f (mgShape f)) := by
  have harm : exec .mgmtRead s = execMgmtRead s := rfl
  rw [harm, execMgmtRead, State.mgmtTake_of_kind htake (by rw [hmine, hread]; rfl)]
  exact congrArg _ (ite_not _ _ _)

section
variable (hmine : f.mitten = 0) (hwrite : mgMsg f = 0x21)
include hmine hwrite

theorem execMgmtWrite_of_own :
    exec .mgmtWrite s = .next (if u.mgStatus f ≠ 0 then u.mgWriteRefused l f (u.mgStatus f) else u.mgWrite f) := by
  have harm : exec .mgmtWrite s = execMgmtWrite s := rfl
  rw [harm, execMgmtWrite, State.mgmtTake_of_kind htake (by rw [hmine, hwrite]; rfl), apply_ite Host.Outcome.next]

theorem execMgmtWrite_of_not_writable (hfind : ((mgTargets f).find? fun o => !mgWritable f o) = some o)
    (hst : st = (if mgShape f ≠ 0 then mgShape f else if (mgTargets f).any (u.mgOff f) then 3 else 1)) :
    exec .mgmtWrite s = .next (((u.accErr 3 3 true o).mgViolation l f).mgRefuse f st) := by
  have hstatus : u.mgStatus f = st := (State.mgStatus_of_not_writable hfind).trans hst.symm
  have hne : st ≠ 0 := by
    rw [hst]
    split_ifs with hshape
    · exact hshape
    · decide
    · decide
  rw [execMgmtWrite_of_own htake hmine hwrite, hstatus, if_pos hne, State.mgWriteRefused, hfind]

theorem execMgmtWrite_of_writable (hwritable : ∀ o ∈ mgTargets f, mgWritable f o = true) :
    (mgShape f ≠ 0 → exec .mgmtWrite s = .next (u.mgRefuse f (mgShape f))) ∧
    (∀ o, mgShape f = 0 → (mgTargets f).find? (u.mgOff f) = some o →
      exec .mgmtWrite s = .next ((u.accErr 3 2 true o).mgRefuse f 3)) := by
  have hnone := find?_not_writable_eq_none hwritable
  rw [execMgmtWrite_of_own htake hmine hwrite]
  refine ⟨fun hshape => ?_, fun o hshape hfind => ?_⟩
  · have hkept : ¬ mgShape f = 3 := by
      unfold mgShape
      split_ifs <;> decide
    rw [State.mgStatus_of_shape hshape, if_pos hshape, State.mgWriteRefused, hnone]
    dsimp only
    cases (mgTargets f).find? (u.mgOff f) with
    | none => rfl
    | some o =>
      dsimp only
      rw [if_neg hkept]
  · have hany : (mgTargets f).any (u.mgOff f) = true :=
      List.any_eq_true.2 ⟨o, List.mem_of_find?_eq_some hfind, List.find?_some hfind⟩
    rw [State.mgStatus_of_off hshape hany, if_pos (by decide), State.mgWriteRefused, hnone, hfind]
    dsimp only
    rw [if_pos rfl]

theorem execMgmtWrite_of_ok (hshape : mgShape f = 0)
    (hok : ∀ o ∈ mgTargets f, u.mgOff f o = false ∧ mgWritable f o = true) :
    exec .mgmtWrite s = .next (u.mgWrite f) := by
  rw [execMgmtWrite_of_own htake hmine hwrite, State.mgStatus_of_ok hshape hok, if_neg (by decide)]

end

theorem execMgmtDiscard_of_other (hother : f.mitten ≠ 0) (hv : v = u.count Reg.RTE_MGMT_REFUSE_CNT 1) :
    exec .mgmtDiscard s = .next (if mgMsg f = 0x21 then v.mgViolation l f else v) := by
  have harm : exec .mgmtDiscard s = execMgmtDiscard s := rfl
  rw [harm, execMgmtDiscard, State.mgmtTake_of_kind (kind := fun f => f.mitten != 0) htake (bne_iff_ne.2 hother), hv]

end

end

/-- Settles O36: a clause per outcome of the checks, which say a request's STATUS in their order. -/
theorem managementCommandsComplete : Obligations.ManagementCommandsComplete :=
  ⟨fun _ _ _ _ => execMgmtRead_of_own, fun _ _ _ _ _ _ => execMgmtWrite_of_not_writable,
    fun _ _ _ _ => execMgmtWrite_of_writable, fun _ _ _ _ => execMgmtWrite_of_ok,
    fun _ _ _ _ _ => execMgmtDiscard_of_other⟩

end Sys2Proof.Machine
end

section
/-! PROOFS. Bring-up (R376 to R391): each phase's command with the phase's effect. -/
namespace Sys2Proof.Machine

section
variable {s u v : State}

/-! ### Power good and GO -/

section
variable (haon : s.pwr.aonHeld = false) (hclosed : s.pwr.closed = true) (hrunning : s.boot.running = [])
  (hended : s.boot.ended = [])
include haon hclosed hrunning hended

theorem State.atPowerGood :
    ¬ (s.pwr.aonHeld = true ∨ (!s.pwr.closed) = true ∨ s.boot.running ≠ [] ∨ s.boot.ended ≠ []) := by
  rw [haon, hclosed, hrunning, hended]
  decide

theorem execAonPowerGood_of_good (hu : u = ((s.startPhase 1).forEach (List.range 5) fun x k => x.choose k (x.pickCopy k)))
    (hv : v = (((u.wr Reg.NVM_LOG_NEXT u.nvm.logNext).wr Reg.NVM_LOG_ENTRIES u.nvm.logCount).wr Reg.NVM_STATUS_WEAR_MAX
      ((u.nvm.wear.map Prod.snd).foldl max 0))) :
    exec (.aonPowerGood true) s = .next
      (if (v.chosen 0).isNone then v.stopBoot 2
       else (if (v.loadSections.endPhase 1).autoGo then (v.loadSections.endPhase 1).startBringUp
         else v.loadSections.endPhase 1).updFaultN) := by
  have harm : exec (.aonPowerGood true) s = execAonPowerGood true s := rfl
  have hwritten : (((u.wr Reg.NVM_LOG_NEXT u.nvm.logNext).wr Reg.NVM_LOG_ENTRIES u.nvm.logCount).wr Reg.NVM_STATUS_WEAR_MAX
      ((((u.wr Reg.NVM_LOG_NEXT u.nvm.logNext).wr Reg.NVM_LOG_ENTRIES u.nvm.logCount).nvm.wear.map Prod.snd).foldl max 0)) = v :=
    hv.symm
  rw [harm, execAonPowerGood, if_neg (State.atPowerGood haon hclosed hrunning hended)]
  dsimp only
  rw [if_neg (by decide), ← hu, hwritten, apply_ite Host.Outcome.next]

theorem execAonPowerGood_of_no_lock : exec (.aonPowerGood false) s = .next ((s.startPhase 1).stopBoot 1) := by
  have harm : exec (.aonPowerGood false) s = execAonPowerGood false s := rfl
  rw [harm, execAonPowerGood, if_neg (State.atPowerGood haon hclosed hrunning hended), if_pos (by decide)]

end

section
variable {mode allow : Bool}
  (hu : u = (s.drvWr Reg.GEN_BOOT_CTRL_MODE (b2n mode)).drvWr Reg.GEN_BOOT_CTRL_ALLOW_DEGRADED (b2n allow))
include hu

theorem State.rd_bootCtrl_ne {g : Fld} (hg : g.addr ≠ Reg.GEN_BOOT_CTRL_MODE.addr) : u.rd g = s.rd g := by
  have hg' : g.addr ≠ Reg.GEN_BOOT_CTRL_ALLOW_DEGRADED.addr := hg
  rw [hu, State.rd_drvWr, State.rd_wr_ne _ _ hg', State.rd_drvWr, State.rd_wr_ne _ _ hg]

theorem State.boot_bootCtrl : u.boot = s.boot := by rw [hu, State.drvWr_boot, State.drvWr_boot]

theorem execBootGo_of_ready (hphase : s.rd Reg.GEN_BOOT_STATUS_PHASE = 0) (hended : s.boot.ended.contains 1 = true)
    (hreset : s.same.reset = false) :
    exec (.bootGo mode allow) s = .next { u with same := { u.same with go := true } } := by
  have harm : exec (.bootGo mode allow) s = execBootGo mode allow s := rfl
  have hreset' : u.same.reset = false := hu ▸ hreset
  have hgo : ¬ (u.rd Reg.GEN_BOOT_STATUS_PHASE ≠ 0 ∨ (!u.boot.ended.contains 1) = true ∨ u.same.reset = true) := by
    rw [State.rd_bootCtrl_ne hu (by decide), State.boot_bootCtrl hu, hphase, hended, hreset']
    decide
  rw [harm, execBootGo, ← hu, if_neg hgo]

theorem execRediscover_of_idle (hrun : s.run = false) (hphase : s.rd Reg.GEN_BOOT_STATUS_PHASE = 0)
    (hreported : s.boot.reported = true) : exec (.rediscover mode allow) s = .next (u.startPhase 8) := by
  have harm : exec (.rediscover mode allow) s = execRediscover mode allow s := rfl
  have hrun' : u.run = false := by
    rw [State.run, State.rdb_eq, State.rd_bootCtrl_ne hu (by decide), ← State.rdb_eq]
    exact hrun
  have hgo : ¬ (u.run = true ∨ u.rd Reg.GEN_BOOT_STATUS_PHASE ≠ 0 ∨ (!u.boot.reported) = true) := by
    rw [hrun', State.rd_bootCtrl_ne hu (by decide), State.boot_bootCtrl hu, hphase, hreported]
    decide
  rw [harm, execRediscover, ← hu, if_neg hgo]

end

/-! ### Power domains -/

theorem execDomainPowerGood_of_due {g t : Nat} {rest : List Nat} (hgroups : s.boot.groups = g :: rest)
    (hat : s.boot.groupAt = some t) (hdue : t ≤ s.cyc)
    (hu : u = (s.forEach (s.wanted g) fun x d => x.setBit Reg.PWR_DOMAIN_PGOOD d true).supplyCause) :
    exec .domainPowerGood s = .next
      ({ u with boot := { u.boot with groups := rest, groupAt := none } }.domainsDone.powerNext
        (if 3 ≤ g then t + 1000000
         else ({ u with boot := { u.boot with groups := rest, groupAt := none } }.domainsDone).cyc)) := by
  have harm : exec .domainPowerGood s = execDomainPowerGood s := rfl
  rw [harm, execDomainPowerGood, hgroups, hat]
  dsimp only
  rw [if_neg (Nat.not_lt.2 hdue), hu]

theorem execDomainPowerGood_of_none (hgroups : s.boot.groups = []) : exec .domainPowerGood s = .next s.domainsDone := by
  have harm : exec .domainPowerGood s = execDomainPowerGood s := rfl
  rw [harm, execDomainPowerGood, hgroups]

theorem execDomainPowerTimeout_of_late {t : Nat} (hgroups : s.boot.groups ≠ []) (hat : s.boot.groupAt = some t)
    (hlate : t + 10000000 ≤ s.cyc) (hu : u = { s with boot := { s.boot with groups := [], groupAt := none } }) :
    exec .domainPowerTimeout s = .next (if s.boot.inPhase then u.stopBoot 3 else u) := by
  have harm : exec .domainPowerTimeout s = execDomainPowerTimeout s := rfl
  obtain ⟨g, rest, hcons⟩ := List.exists_cons_of_ne_nil hgroups
  subst hu
  rw [harm, execDomainPowerTimeout, hcons, hat]
  exact if_neg (Nat.not_lt.2 hlate)

/-! ### Self-test, memory training and the liner -/

theorem execBistDone_of_running {failed : List Nat} (hrunning : s.boot.running.contains 3 = true)
    (hu : u = (s.forEach (List.range 68) fun x k => x.setReg (Reg.PLM_BIST k)
      (BitVec.ofNat 64 (((failed.filter fun p => p / 64 == k).dedup).map fun p => 2 ^ (p % 64)).sum))) :
    exec (.bistDone failed) s = .next ({ u with sram := [] }.endPhase 3) := by
  have harm : exec (.bistDone failed) s = execBistDone failed s := rfl
  rw [harm, execBistDone, if_neg (by rw [hrunning]; decide), hu]

/-- What the training of stack `k` leaves, by its result in `failed`. -/
def State.trained (failed : BitVec 8) (x : State) (k : Nat) : State :=
  if !x.domOn (16 + k) then x
  else
    have y := x.wr (Reg.HBM_STATUS_STATE k) (if nbit failed.toNat k then 3 else 1)
    if y.boot.warm then y
    else { y with mem := { y.mem with
      trainTemp := SMap.set (fun _ => 0) y.mem.trainTemp k (y.rd (Reg.HBM_STATUS_TEMP k)) } }

theorem State.trained_of_off {failed : BitVec 8} {k : Nat} (hoff : s.domOn (16 + k) = false) : s.trained failed k = s := by
  rw [State.trained, hoff]
  rfl

theorem State.rd_trained_of_on {failed : BitVec 8} {k : Nat} (hon : s.domOn (16 + k) = true) (g : Fld) :
    (s.trained failed k).rd g = (s.wr (Reg.HBM_STATUS_STATE k) (if nbit failed.toNat k then 3 else 1)).rd g := by
  rw [State.trained, hon, if_neg (by decide)]
  generalize s.wr (Reg.HBM_STATUS_STATE k) (if nbit failed.toNat k then 3 else 1) = y
  dsimp only
  split_ifs
  · rfl
  · exact State.rd_mk _ _

theorem State.rd_trained_ne {failed : BitVec 8} {k : Nat} {g : Fld} (hg : g.addr ≠ (Reg.HBM_STATUS_STATE k).addr) :
    (s.trained failed k).rd g = s.rd g := by
  cases hon : s.domOn (16 + k) with
  | false => rw [State.trained_of_off hon]
  | true => rw [State.rd_trained_of_on hon, State.rd_wr_ne _ _ hg]

theorem State.domOn_trained {failed : BitVec 8} {k : Nat} (hk : k < 8) (d : Nat) : (s.trained failed k).domOn d = s.domOn d := by
  have hon : Reg.PWR_DOMAIN_ON.addr ≠ (Reg.HBM_STATUS_STATE k).addr := by revert k; decide
  have hgood : Reg.PWR_DOMAIN_PGOOD.addr ≠ (Reg.HBM_STATUS_STATE k).addr := hon
  rw [State.domOn, State.domOn, State.rd_trained_ne hon, State.rd_trained_ne hgood]

/-- The training of one stack: its state is its result, where it has power. -/
theorem State.rd_trained_same {failed : BitVec 8} (k : Nat) : (s.trained failed k).rd (Reg.HBM_STATUS_STATE k) =
    if s.domOn (16 + k) then (if nbit failed.toNat k then 3 else 1) else s.rd (Reg.HBM_STATUS_STATE k) := by
  cases hon : s.domOn (16 + k) with
  | false => rw [State.trained_of_off hon, if_neg (by decide)]
  | true =>
    rw [State.rd_trained_of_on hon, State.rd_wr_same _ _ rfl, if_pos rfl]
    exact Nat.mod_eq_of_lt (show _ < 4 by split <;> decide)

/-- Training a list of stacks gives each stack in it its result and leaves every other as it was. -/
theorem State.rd_forEach_trained {failed : BitVec 8} {l : List Nat} (hl : l.Nodup) (hlt : ∀ k ∈ l, k < 8) (s : State) (k : Nat) :
    (s.forEach l (State.trained failed)).rd (Reg.HBM_STATUS_STATE k) =
      if k ∈ l ∧ s.domOn (16 + k) = true then (if nbit failed.toNat k then 3 else 1) else s.rd (Reg.HBM_STATUS_STATE k) := by
  induction l generalizing s with
  | nil => simp [State.forEach]
  | cons x l ih =>
    obtain ⟨hx, hl⟩ := List.nodup_cons.1 hl
    have hdom : (s.trained failed x).domOn (16 + k) = s.domOn (16 + k) :=
      State.domOn_trained (hlt x List.mem_cons_self) _
    have hstep : s.forEach (x :: l) (State.trained failed) = (s.trained failed x).forEach l (State.trained failed) := rfl
    rw [hstep, ih hl (fun k hk => hlt k (List.mem_cons_of_mem x hk)), hdom]
    by_cases hk : k = x
    · rw [hk, State.rd_trained_same]
      simp [hx]
    · have hapart : (Reg.HBM_STATUS_STATE k).addr ≠ (Reg.HBM_STATUS_STATE x).addr := fun h => hk (by
        simp only [Reg.HBM_STATUS_STATE, Reg.HBM_STATUS] at h
        omega)
      rw [State.rd_trained_ne hapart]
      simp [hk]

theorem execHbmTrainingDone_of_running {failed : BitVec 8} (hrunning : s.boot.running.contains 4 = true)
    (hu : u = s.forEach (List.range 8) (State.trained failed)) :
    exec (.hbmTrainingDone failed) s = .next (u.endPhase 4) ∧
    ∀ k < 8, u.rd (Reg.HBM_STATUS_STATE k) =
      if s.domOn (16 + k) then (if nbit failed.toNat k then 3 else 1) else s.rd (Reg.HBM_STATUS_STATE k) := by
  have harm : exec (.hbmTrainingDone failed) s = execHbmTrainingDone failed s := rfl
  have hdone : (execHbmTrainingDone failed s) = if !s.boot.running.contains 4 then .next s
    else .next ((s.forEach (List.range 8) (State.trained failed)).endPhase 4) := rfl
  refine ⟨?_, fun k hk => ?_⟩
  · rw [harm, hdone, if_neg (by rw [hrunning]; decide), hu]
  · rw [hu, State.rd_forEach_trained List.nodup_range (fun k hk => List.mem_range.1 hk)]
    simp only [List.mem_range, hk, true_and]

theorem execLinerBuild_of_running (hrunning : s.boot.running.contains 6 = true)
    (hidle : s.rdb Reg.PLM_STATUS_LINER_BUSY = false)
    (hu : u = (if s.boot.warm then s else s.linerFromNvm.forEach s.bistFailed State.markBad)) :
    exec .linerBuild s = .next (if u.loadLiner.2 then u.loadLiner.1 else u.loadLiner.1.endPhase 6) := by
  have harm : exec .linerBuild s = execLinerBuild s := rfl
  have hgo : ¬ ((!s.boot.running.contains 6) = true ∨ s.rdb Reg.PLM_STATUS_LINER_BUSY = true) := by
    rw [hrunning, hidle]
    decide
  rw [harm, execLinerBuild, if_neg hgo, hu]

/-! ### Discovery and the report -/

theorem execDiscoveryEnd_of_known (hrunning : s.boot.running.contains 8 = true)
    (hknown : ∀ l < 24, s.rd (Reg.LNK_PLAN_EXPECT l) = 1 → s.rd (Reg.LNK_DISC_RESULT l) ≠ 7) :
    exec .discoveryEnd s = .next ((s.endPhase 8).forEach
      (allLinks.filter fun l => (s.endPhase 8).rd (Reg.LNK_DISC_RESULT l) == 7) State.evalLink) := by
  have harm : exec .discoveryEnd s = execDiscoveryEnd s := rfl
  have hclosed : (allLinks.any fun l => s.rd (Reg.LNK_PLAN_EXPECT l) == 1 && s.rd (Reg.LNK_DISC_RESULT l) == 7) = false :=
    List.any_eq_false.2 fun l hl => by
      rw [Bool.and_eq_true, beq_iff_eq, beq_iff_eq]
      exact fun ⟨hexpect, hresult⟩ => hknown l (List.mem_range.1 hl) hexpect hresult
  rw [harm, execDiscoveryEnd]
  dsimp only
  rw [if_neg (by rw [hrunning, hclosed]; simp)]

theorem execReadinessReport_of_running {r : Nat} (hrunning : s.boot.running.contains 9 = true)
    (hr : r = readiness s.shortfalls (s.rdb Reg.GEN_BOOT_CTRL_ALLOW_DEGRADED))
    (hu : u = (if r = 3 then (s.wr Reg.GEN_BOOT_STATUS_SHORT s.shortfalls).wr Reg.GEN_BOOT_STATUS_READY r
      else ((s.wr Reg.GEN_BOOT_STATUS_SHORT s.shortfalls).wr Reg.GEN_BOOT_STATUS_READY r).wr
        Reg.GEN_BOOT_STATUS_FAULT_SINCE_READY 0)) :
    exec .readinessReport s = .next
      ({ u with boot := { u.boot with lastReady := r, reported := true } }.endPhase 9).updFaultN := by
  have harm : exec .readinessReport s = execReadinessReport s := rfl
  rw [harm, execReadinessReport, if_neg (by rw [hrunning]; decide)]
  dsimp only
  rw [← hr, ← hu]

end

/-- Settles O37: a clause per command, GO's effect standing over to the end of its cycle (log entry 6). -/
theorem bringUpCommandsComplete : Obligations.BringUpCommandsComplete :=
  ⟨fun _ _ _ => execAonPowerGood_of_good, fun _ => execAonPowerGood_of_no_lock, fun _ _ _ _ => execBootGo_of_ready,
    fun _ _ _ _ _ => execDomainPowerGood_of_due, fun _ => execDomainPowerGood_of_none,
    fun _ _ _ => execDomainPowerTimeout_of_late, fun _ _ _ => execBistDone_of_running,
    fun _ _ _ => execHbmTrainingDone_of_running, fun _ _ => execLinerBuild_of_running, fun _ _ => rfl,
    fun _ => execDiscoveryEnd_of_known, fun _ _ _ => execReadinessReport_of_running,
    fun _ _ _ _ => execRediscover_of_idle⟩

end Sys2Proof.Machine
end

section
/-! PROOFS. NVM commands (R382): each starts, or is refused with its RESULT. -/
namespace Sys2Proof.Machine

section
variable {s : State} {sect : Fin 16} {i : Fin 65536}

theorem execNvmRead_starts {copy : Fin 2} :
    exec (.nvmRead sect copy i) s = .next (s.nvmStart
      { cmd := 1, sect := sect, copy := if sect.val = 5 then 0 else copy, index := i, length := 0 }
      (if 5 < sect.val ∨ (sect.val = 0 ∧ copy.val = 1) ∨ (nvmBase sect 0).2 ≤ i.val then some 5 else none)) := by
  have harm : exec (.nvmRead sect copy i) s = execNvmRead sect copy i s := rfl
  rw [harm, execNvmRead]
  simp only [Bool.or_eq_true, Bool.and_eq_true, decide_eq_true_eq, beq_iff_eq, or_assoc]

/-- A copy opens unless one is open already (log entry 47). -/
theorem execNvmOpen_of_fits {n : BitVec 32} (hlow : 1 ≤ sect.val) (hhigh : sect.val ≤ 4) (hroom : n.toNat ≤ nvmRoom sect) :
    exec (.nvmOpen sect n) s = .next (s.nvmStart
      { cmd := 2, sect := sect, copy := s.otherCopy sect, index := 0, length := n.toNat }
      (if s.nvm.opened.isSome then some 4 else none)) := by
  have harm : exec (.nvmOpen sect n) s = execNvmOpen sect n s := rfl
  have hfits : ¬ (4 < sect.val ∨ nvmRoom sect < n.toNat) := not_or.2 ⟨Nat.not_lt.2 hhigh, Nat.not_lt.2 hroom⟩
  rw [harm, execNvmOpen, if_neg (Nat.pos_iff_ne_zero.1 hlow), if_neg hfits]

section
variable {o : Nat × Nat × Nat × List Nat} (hopen : s.openOf sect = some o)
include hopen

theorem execNvmWrite_of_open (hlow : 1 ≤ i.val) (hhigh : i.val < (nvmBase sect 0).2) :
    exec (.nvmWrite sect i) s = .next (s.nvmStart { cmd := 3, sect := sect, copy := 0, index := i, length := 0 }
      (if s.worn ((nvmBase sect o.2.1).1 + i) then some 3 else none)) := by
  have harm : exec (.nvmWrite sect i) s = execNvmWrite sect i s := rfl
  have hinside : ¬ (i.val = 0 ∨ (nvmBase sect 0).2 ≤ i.val) :=
    not_or.2 ⟨Nat.pos_iff_ne_zero.1 hlow, Nat.not_le.2 hhigh⟩
  rw [harm, execNvmWrite, hopen]
  dsimp only
  rw [if_neg hinside]

theorem execNvmCommit_of_written (hwritten : allWritten o = true) :
    exec (.nvmCommit sect) s = .next (s.nvmStart { cmd := 4, sect := sect, copy := 0, index := 0, length := 0 }
      (if s.worn (nvmBase sect o.2.1).1 then some 3 else none)) := by
  have harm : exec (.nvmCommit sect) s = execNvmCommit sect s := rfl
  rw [harm, execNvmCommit, hopen]
  dsimp only
  rw [if_neg (by rw [hwritten]; decide)]

end

theorem execNvmAppend_of_log (hlog : sect.val = 5) :
    exec (.nvmAppend sect) s = .next (s.nvmStart { cmd := 6, sect := sect, copy := 0, index := 0, length := 0 }
      (if s.logErases ∧ s.worn (512 + s.nvm.logNext / 64) then some 3 else none)) := by
  have harm : exec (.nvmAppend sect) s = execNvmAppend sect s := rfl
  rw [harm, execNvmAppend, if_neg (by rw [hlog]; decide), if_neg (not_not.2 hlog)]

theorem execStoreLive_of_closed (hlow : 1 ≤ sect.val) (hhigh : sect.val ≤ 3) (hclosed : s.nvm.opened = none) :
    exec (.storeLive sect) s = .next (s.nvmStart
      { cmd := 7, sect := sect, copy := s.otherCopy sect, index := 0, length := 0 }
      (if (List.range (((s.liveData sect).length + 4095) / 4096 + 1)).any fun i =>
        s.worn ((nvmBase sect (s.otherCopy sect)).1 + i) then some 3 else none)) := by
  have harm : exec (.storeLive sect) s = execStoreLive sect s := rfl
  rw [harm, execStoreLive, if_neg (Nat.pos_iff_ne_zero.1 hlow), if_neg (Nat.not_lt.2 hhigh),
    if_neg (by rw [hclosed]; decide)]

theorem execNvmCommandDone_of_running {c : NvmCmd} {good : Bool} (hrunning : s.nvm.running = some c) :
    exec (.nvmCommandDone good) s = .next
      ({ (s.wr Reg.NVM_STATUS_BUSY 0).nvmResult 1 with nvm := { s.nvm with running := none } }.nvmDo c good) := by
  have harm : exec (.nvmCommandDone good) s = execNvmCommandDone good s := rfl
  rw [harm, execNvmCommandDone, hrunning]

end

/-- Settles O38: a clause per command; past a command's checks only a worn sector refuses it. -/
theorem nvmCommandsComplete : Obligations.NvmCommandsComplete :=
  ⟨fun _ _ _ _ => execNvmRead_starts, fun _ _ _ => execNvmOpen_of_fits, fun _ _ _ _ => execNvmWrite_of_open,
    fun _ _ _ => execNvmCommit_of_written, fun _ _ => rfl, fun _ _ => execNvmAppend_of_log,
    fun _ _ => execStoreLive_of_closed, fun _ _ _ => execNvmCommandDone_of_running⟩

end Sys2Proof.Machine
end

section
/-! PROOFS. Resets (R393 to R396). -/
namespace Sys2Proof.Machine

section
variable {s u v w x : State}

/-- A reset that no reset of an equal or wider class forbids acts, and says which it was. -/
theorem State.resetBy_of_wider {k : Nat} (act : State → State) (hwider : ∀ j ∈ s.boot.reset, j < k)
    (hu : u = { s.wr Reg.GEN_RESET_KIND k with boot := { s.boot with reset := none } }) :
    s.resetBy k act =
      ((((act u).wr Reg.GEN_RESET_STATUS_LAST k).wr Reg.GEN_RESET_STATUS_SOURCE 1).refuseGo s.same.go).updFaultN := by
  subst hu
  have hboot : (s.wr Reg.GEN_RESET_KIND k).boot.reset = s.boot.reset := rfl
  rw [State.resetBy]
  dsimp only
  rw [hboot]
  cases hreset : s.boot.reset with
  | none => exact if_neg Bool.false_ne_true
  | some j =>
    have hidle : decide (k ≤ j) = false := decide_eq_false (Nat.not_le.2 (hwider j hreset))
    exact if_neg (Bool.eq_false_iff.1 hidle)

theorem execPalmReset_of_wider (hidle : s.boot.reset = none)
    (hu : u = { s.wr Reg.GEN_RESET_KIND 1 with boot := { s.boot with reset := none } }) (hv : v = u.clearPalm.reloadLiner) :
    exec .palmReset s = .next
      (((({ v with boot := { v.boot with reset := some 1 } } : State).wr Reg.GEN_RESET_STATUS_LAST 1).wr
        Reg.GEN_RESET_STATUS_SOURCE 1).refuseGo s.same.go).updFaultN := by
  have harm : exec .palmReset s = execPalmReset s := rfl
  have hwider : ∀ j ∈ s.boot.reset, j < 1 := by
    rw [hidle]
    exact fun j hj => absurd hj (Option.not_mem_none j)
  rw [harm, execPalmReset, State.resetBy_of_wider _ hwider hu, hv]

theorem execServiceReset_of_wider (hwider : ∀ j ∈ s.boot.reset, j < 2)
    (hu : u = { s.wr Reg.GEN_RESET_KIND 2 with boot := { s.boot with reset := none } }) :
    exec .serviceReset s = .next
      (((u.loseBonnet.portsStop.wr Reg.GEN_RESET_STATUS_LAST 2).wr Reg.GEN_RESET_STATUS_SOURCE 1).refuseGo
        s.same.go).updFaultN := by
  have harm : exec .serviceReset s = execServiceReset s := rfl
  rw [harm, execServiceReset, State.resetBy_of_wider _ hwider hu]

/-- Bring-up goes on from phase 5, and to phase 8 where phase 7 had ended (log entry 48). -/
theorem execCuffReset_of_wider (hwider : ∀ j ∈ s.boot.reset, j < 3)
    (hu : u = { s.wr Reg.GEN_RESET_KIND 3 with boot := { s.boot with reset := none } }.loseCuff)
    (hv : v = (if u.domOn 28 then
      (if u.boot.ended.contains 7 then ((u.startPhase 5).stopPhase 5).startPhase 8 else u.startPhase 5) else u)) :
    exec .cuffReset s = .next
      (((v.wr Reg.GEN_RESET_STATUS_LAST 3).wr Reg.GEN_RESET_STATUS_SOURCE 1).refuseGo s.same.go).updFaultN := by
  have harm : exec .cuffReset s = execCuffReset s := rfl
  rw [harm, execCuffReset, State.resetBy_of_wider _ hwider rfl]
  dsimp only
  rw [← hu, hv]
  cases u.domOn 28 with
  | false => rw [if_pos (by decide), if_neg Bool.false_ne_true]
  | true =>
    rw [if_neg (by decide), if_pos rfl]
    cases u.boot.ended.contains 7 with
    | false => rw [if_pos (by decide), if_neg Bool.false_ne_true]
    | true => rw [if_neg (by decide), if_pos rfl]

theorem execModuleWarmReset_of_wider (hwider : ∀ j ∈ s.boot.reset, j < 4)
    (hu : u = { s.wr Reg.GEN_RESET_KIND 4 with boot := { s.boot with reset := none } }.loseModule)
    (hw : w = (if u.rd Reg.GEN_BOOT_STATUS_STOP_CAUSE = 3 then u.wr Reg.GEN_BOOT_STATUS_STOP_CAUSE 0 else u))
    (hx : x = { w with boot := { w.boot with
      running := w.boot.running.filter (· == 1), ended := if w.boot.ended.contains 1 then [1] else [], groups := [],
      groupAt := none, inPhase := false, reported := false } })
    (hv : v = ((if x.domOn 28 then x.devWr Reg.RTE_SELF_ID (x.rd Reg.GEN_PLAN_SEAT_SEAT) else x).wr
      Reg.GEN_RESET_STATUS_LAST 4).showPhase.showWaits) :
    exec .moduleWarmReset s = .next (((((if v.autoGo && w.boot.ended.contains 1 then v.startBringUp else v).wr
      Reg.GEN_RESET_STATUS_LAST 4).wr Reg.GEN_RESET_STATUS_SOURCE 1).refuseGo s.same.go).updFaultN) := by
  have harm : exec .moduleWarmReset s = execModuleWarmReset s := rfl
  rw [harm, execModuleWarmReset, State.resetBy_of_wider _ hwider rfl]
  simp only [beq_iff_eq]
  rw [← hu, ← hw, ← hx, ← hv]

theorem execPowerOnReset_of_wider (hwider : ∀ j ∈ s.boot.reset, j < 5)
    (hu : u = { s.wr Reg.GEN_RESET_KIND 5 with boot := { s.boot with reset := none } }) :
    exec .powerOnReset s = .next
      ((((u.powerOn 1).wr Reg.GEN_RESET_STATUS_LAST 5).wr Reg.GEN_RESET_STATUS_SOURCE 1).refuseGo s.same.go).updFaultN := by
  have harm : exec .powerOnReset s = execPowerOnReset s := rfl
  rw [harm, execPowerOnReset, State.resetBy_of_wider _ hwider hu]

end

/-- Settles O39: a clause per class, each by `State.resetBy_of_wider`. -/
theorem resetCommandsComplete : Obligations.ResetCommandsComplete :=
  ⟨fun _ _ _ => execPalmReset_of_wider, fun _ _ => execServiceReset_of_wider, fun _ _ _ => execCuffReset_of_wider,
    fun _ _ _ _ _ => execModuleWarmReset_of_wider, fun _ _ => execPowerOnReset_of_wider, fun _ => rfl⟩

end Sys2Proof.Machine
end

section
/-! PROOFS. Alarms, the fault queue's head, snapshots and telemetry (R403 to R415, R430). -/
namespace Sys2Proof.Machine

section
variable {s u : State} {l : Nat} {f : Flit}

theorem execAlarmReceived_of_taken (htake : s.niTake 0 (fun f => rwDstQ f == 0xF3) = some (u, l, f)) :
    exec .alarmReceived s = .next (u.takeAlarmPacket l f).updFaultN := by
  have harm : exec .alarmReceived s = execAlarmReceived s := rfl
  rw [harm, execAlarmReceived, htake]

theorem execTelemetrySink_of_taken (htake : s.niTake 7 (fun f => rwDstQ f == 0xF1) = some (u, l, f)) :
    exec .telemetrySink s = .next (u.sinkTake l f) := by
  have harm : exec .telemetrySink s = execTelemetrySink s := rfl
  rw [harm, execTelemetrySink, htake]

theorem execTelemetryReport_of_due (hdue : s.telDue = true) : exec .telemetryReport s = .next s.telDrop.telReport := by
  have harm : exec .telemetryReport s = execTelemetryReport s := rfl
  rw [harm, execTelemetryReport, if_pos hdue]

/-- The head moves on over records held, and the cycle's remembered records follow it (log entry 6). -/
theorem execFltHeadWrite_of_held {i : Fin 2048} {held adv : Nat} (hlive : s.live = true)
    (hon : s.powered Reg.FLT_HEAD = true) (hheld : held = (s.rd Reg.FLT_TAIL_IDX + 2048 - s.rd Reg.FLT_HEAD_IDX) % 2048)
    (hadv : adv = (i.val + 2048 - s.rd Reg.FLT_HEAD_IDX) % 2048) (hle : adv ≤ held) :
    exec (.fltHeadWrite i) s = .next { (s.wr Reg.FLT_HEAD_IDX i).wr Reg.FLT_STATUS_COUNT (held - adv) with
      same := { s.same with recs := s.same.recs.drop (s.same.recs.length - (held - adv)) } } := by
  have harm : exec (.fltHeadWrite i) s = execFltHeadWrite i s := rfl
  rw [harm, execFltHeadWrite, s.busWrite_of_on hlive hon]
  dsimp only
  rw [← hheld, ← hadv, if_neg (Nat.not_lt.2 hle)]

section
variable {b i : Fin 256} (hlive : s.live = true)
include hlive

theorem execFaultMaxClr_of_live :
    exec .faultMaxClr s = .next ((s.wr Reg.FLT_STATUS_ANY 0).wr Reg.FLT_STATUS_MAX_CLASS 0).updFaultN := by
  have harm : exec .faultMaxClr s = execFaultMaxClr s := rfl
  rw [harm, execFaultMaxClr, s.busWrite_of_on hlive rfl]

theorem execSnapshot_of_live : exec (.snapshot b i) s = .next
    { ((s.wr Reg.FLT_SNAP_BLOCK b).wr Reg.FLT_SNAP_INSTANCE i).wr Reg.FLT_SNAP_DONE 0 with
      same := { s.same with snap := true } } := by
  have harm : exec (.snapshot b i) s = execSnapshot b i s := rfl
  rw [harm, execSnapshot, s.busWrite_of_on hlive rfl]
  rfl

end

end

/-- Settles O40: a clause per command; a snapshot and the fault queue's remembered records wait for the end of the
cycle (log entry 6). -/
theorem telemetryCommandsComplete : Obligations.TelemetryCommandsComplete :=
  ⟨fun _ _ _ _ => execAlarmReceived_of_taken, fun _ _ _ _ => execFltHeadWrite_of_held,
    fun _ => execFaultMaxClr_of_live, fun _ _ _ => execSnapshot_of_live, fun _ => execTelemetryReport_of_due,
    fun _ _ _ _ => execTelemetrySink_of_taken⟩

end Sys2Proof.Machine
end

section
/-! PROOFS. The input, the switch and AON (R417 to R426, R439). -/
namespace Sys2Proof.Machine

section
variable {s u : State} {t : Nat}

/-! ### The switch -/

theorem execInArmBreak_of_closed (hclosed : s.pwr.closed = true) :
    exec .inArmBreak s = .next ((s.wr Reg.PWR_STATUS_IN_ARM 0).aonLost false false 4) := by
  have harm : exec .inArmBreak s = execInArmBreak s := rfl
  have hwritten : (s.wr Reg.PWR_STATUS_IN_ARM 0).pwr.closed = true := hclosed
  rw [harm, execInArmBreak]
  dsimp only
  rw [if_pos hwritten]

theorem execInArmBreak_of_open (hopen : s.pwr.closed = false) :
    exec .inArmBreak s = .next { s.wr Reg.PWR_STATUS_IN_ARM 0 with pwr := { s.pwr with charge := none } } := by
  have harm : exec .inArmBreak s = execInArmBreak s := rfl
  have hwritten : ¬ (s.wr Reg.PWR_STATUS_IN_ARM 0).pwr.closed = true := Bool.eq_false_iff.1 hopen
  rw [harm, execInArmBreak]
  exact if_neg hwritten

theorem execInputStart_of_open (hopen : s.pwr.closed = false) (hcharge : s.pwr.charge = none)
    (hretry : s.pwr.retryAt ≤ s.cyc) (hended : s.tripEnded = true) :
    exec .inputStart s = .next { (s.wr Reg.PWR_STATUS_IN_ARM 1).wr Reg.PWR_STATUS_PWR_EN 1 with
      pwr := { s.pwr with charge := some s.cyc, tripped := false, lowAt := none } } := by
  have harm : exec .inputStart s = execInputStart s := rfl
  have hgo : ¬ (((s.pwr.closed && !s.pwr.aonHeld) || s.pwr.charge.isSome || decide (s.cyc < s.pwr.retryAt) ||
      !s.tripEnded) = true) := by
    rw [hopen, hcharge, hended, decide_eq_false (Nat.not_lt.2 hretry)]
    exact Bool.false_ne_true
  rw [harm, execInputStart]
  exact if_neg hgo

theorem execPrechargeDone_of_charged (hcharge : s.pwr.charge = some t) (hdue : s.cyc ≤ t + 200000000) :
    exec .prechargeDone s = .next (s.powerOn s.pwr.source) := by
  have harm : exec .prechargeDone s = execPrechargeDone s := rfl
  rw [harm, execPrechargeDone, hcharge]
  exact if_pos hdue

theorem execPrechargeTimeout_of_late (hcharge : s.pwr.charge = some t) (hlate : t + 200000000 ≤ s.cyc) :
    exec .prechargeTimeout s = .next ({ s with pwr := { s.pwr with
      charge := none, closed := false, aonHeld := false, retryAt := s.cyc + 1000000000 } }.updFaultN) := by
  have harm : exec .prechargeTimeout s = execPrechargeTimeout s := rfl
  rw [harm, execPrechargeTimeout, hcharge]
  exact if_pos hlate

/-! ### The input's voltage and the Palm's budget -/

/-- The record of an input that has fallen leaves the budget's grade as it was. -/
theorem State.rd_grade_supplyFault (v : Nat) :
    ((s.count Reg.PWR_WARN_CNT 1).fault { code := 0x0501, block := 1, cause := 1, a := v }).rd Reg.PLM_BUDGET_GRADE =
      s.rd Reg.PLM_BUDGET_GRADE := by
  have hclass : ∀ x : State, faultClass x { code := 0x0501, block := 1, cause := 1, a := v } = 2 := fun _ => rfl
  rw [State.rd_fault_of_lt_four _ (by rw [hclass]; decide) (by decide) (by decide) (by decide)
    (.inl (by rw [hclass]; decide)), State.rd_count_ne _ _ (by decide)]

theorem execSupplyWarn_of_live {v : Fin 65536} (hlive : s.live = true) (hinput : s.rd Reg.PWR_STATUS_INPUT ≠ 1)
    (hu : u = (((s.count Reg.PWR_WARN_CNT 1).fault { code := 0x0501, block := 1, cause := 1, a := v }).wr
      Reg.PLM_BUDGET_EFFECTIVE (s.rd Reg.PLM_BUDGET_GRADE / 2)).wr Reg.PWR_STATUS_INPUT 1) :
    exec (.supplyWarn v) s = .next
      (({ u with pwr := { u.pwr with recoverAt := none } } : State).forEach ((List.range 16).filter u.domOn) fun x g =>
        (x.wr (Reg.RGN_STATUS_STEP_SUPPLY g) 1).stepIfSlower g) := by
  have harm : exec (.supplyWarn v) s = execSupplyWarn v s := rfl
  have hgo : ¬ ((!s.live) = true ∨ s.rd Reg.PWR_STATUS_INPUT = 1) := by
    rw [hlive]
    exact not_or.2 ⟨by decide, hinput⟩
  rw [harm, execSupplyWarn, if_neg hgo]
  dsimp only
  rw [State.rd_grade_supplyFault, ← hu]
  rfl

theorem execSupplyWarnClear_of_low (hinput : s.rd Reg.PWR_STATUS_INPUT = 1)
    (hu : u = { s.wr Reg.PWR_STATUS_INPUT 2 with pwr := { s.pwr with recoverAt := some (s.cyc + 10000) } }) :
    exec .supplyWarnClear s = .next (u.forEach ((List.range 16).filter u.domOn) fun x g =>
      (x.wr (Reg.RGN_STATUS_STEP_SUPPLY g) 0).setRg g { x.rg g with restoreAt := x.cyc }) := by
  have harm : exec .supplyWarnClear s = execSupplyWarnClear s := rfl
  subst hu
  rw [harm, execSupplyWarnClear]
  exact if_neg (not_not.2 hinput)

theorem execBudgetRecoveryStep_of_due {g e : Nat} (hrecover : s.pwr.recoverAt = some t) (hdue : t ≤ s.cyc)
    (hg : g = s.rd Reg.PLM_BUDGET_GRADE) (he : e = min g (s.rd Reg.PLM_BUDGET_EFFECTIVE + (g + 19) / 20))
    (hu : u = s.wr Reg.PLM_BUDGET_EFFECTIVE e) :
    exec .budgetRecoveryStep s = .next
      (if e = g then { u.wr Reg.PWR_STATUS_INPUT 0 with pwr := { s.pwr with recoverAt := none } }
       else { u with pwr := { s.pwr with recoverAt := some (t + 10000) } }) := by
  have harm : exec .budgetRecoveryStep s = execBudgetRecoveryStep s := rfl
  rw [harm, execBudgetRecoveryStep, hrecover]
  dsimp only
  rw [if_neg (Nat.not_lt.2 hdue), ← hg, ← he, ← hu, apply_ite Host.Outcome.next, hu]
  rfl

/-! ### The input's loss and PWR_EN -/

theorem execPowerFail_of_live (hlive : s.live = true) : exec .powerFail s = .next (s.aonLost true false 2) := by
  have harm : exec .powerFail s = execPowerFail s := rfl
  rw [harm, execPowerFail, if_pos hlive]

theorem execOvervoltage_of_closed (hclosed : s.pwr.closed = true) : exec .overvoltage s = .next (s.aonLost false false 4) := by
  have harm : exec .overvoltage s = execOvervoltage s := rfl
  rw [harm, execOvervoltage, if_pos hclosed]

theorem execOvercurrent_of_closed (hclosed : s.pwr.closed = true) : exec .overcurrent s = .next (s.aonLost false true 4) := by
  have harm : exec .overcurrent s = execOvercurrent s := rfl
  rw [harm, execOvercurrent, if_pos hclosed]

theorem execPwrEnLow_of_closed (hclosed : s.pwr.closed = true) (haon : s.pwr.aonHeld = false) (hshut : s.pwr.shut = none) :
    exec .pwrEnLow s = .next (s.wr Reg.PWR_STATUS_PWR_EN 0).beginShutdown := by
  have harm : exec .pwrEnLow s = execPwrEnLow s := rfl
  have hpwr : (s.wr Reg.PWR_STATUS_PWR_EN 0).pwr = s.pwr := rfl
  rw [harm, execPwrEnLow]
  dsimp only
  rw [hpwr, hclosed, haon, hshut, if_neg (by decide), if_neg (by decide)]

theorem execPwrEnLow_of_open (hopen : s.pwr.closed = false) :
    exec .pwrEnLow s = .next { s.wr Reg.PWR_STATUS_PWR_EN 0 with
      pwr := { s.pwr with charge := none, lowAt := if s.pwr.tripped then some s.cyc else none } } := by
  have harm : exec .pwrEnLow s = execPwrEnLow s := rfl
  have hwritten : (!(s.wr Reg.PWR_STATUS_PWR_EN 0).pwr.closed) = true := by
    rw [State.wr_pwr, hopen]
    rfl
  rw [harm, execPwrEnLow]
  exact if_pos hwritten

end

/-- Settles O41: a clause per event. -/
theorem supplyCommandsComplete : Obligations.SupplyCommandsComplete :=
  ⟨fun _ => execInArmBreak_of_closed, fun _ => execInArmBreak_of_open, fun _ => execInputStart_of_open,
    fun _ _ => execPrechargeDone_of_charged, fun _ _ => execPrechargeTimeout_of_late,
    fun _ _ _ => execSupplyWarn_of_live, fun _ _ => execSupplyWarnClear_of_low,
    fun _ _ _ _ _ => execBudgetRecoveryStep_of_due, fun _ => execPowerFail_of_live, fun _ => execOvervoltage_of_closed,
    fun _ => execOvercurrent_of_closed, fun _ => execPwrEnLow_of_closed, fun _ => execPwrEnLow_of_open⟩

end Sys2Proof.Machine
end

section
/-! PROOFS. Domains, cooling and sensors (R398, R423 to R429, R439, R440). -/
namespace Sys2Proof.Machine

/-! ### What a sample of the sensors leaves -/

/-- The fields of a sample's coolant temperatures and input voltage. -/
def sampleFields : List Fld := [Reg.PWR_COOL_INLET, Reg.PWR_COOL_OUTLET, Reg.PWR_INPUT_VOLTAGE]

section
variable {s : State} {g : Fld} (hg : g ∈ sampleFields)
include hg

/-- A sample's fields lie below the registers of the temperatures, the regions and the stacks. -/
theorem ne_of_sampleField {a : Nat} (ha : 0x100030 < a) : g.addr ≠ a := by
  have hlow : ∀ g ∈ sampleFields, g.addr ≤ 0x100030 := by decide
  exact ((hlow g hg).trans_lt ha).ne

theorem State.rd_thermal_sample (cause : Nat) (temp : Int) (f : FaultArgs) : (s.thermal cause temp f).rd g = s.rd g := by
  have hactions : ∀ g ∈ sampleFields, besideActions g = true := by decide
  have hrecord : ∀ g ∈ sampleFields, besideRecord g = true := by decide
  rw [State.thermal, State.rd_count_ne _ _ (ne_of_sampleField hg (by decide)), State.rd_fault_beside (hactions g hg),
    State.rd_makeRecord_beside _ _ (hrecord g hg)]

theorem State.rd_limits_sample (src : Nat) (temp lim1 lim2 : Int) (cause : Nat) (f : FaultArgs) :
    (s.limits src temp lim1 lim2 cause f).rd g = s.rd g := by
  unfold State.limits
  dsimp only
  split_ifs <;> simp only [State.rd_thermal_sample hg, State.rd_pwr]

theorem State.rd_tempMark_sample {temp hwm : Fld} (htemp : 0x100030 < temp.addr) (hhwm : 0x100030 < hwm.addr) (x : Int) :
    (s.tempMark temp hwm x).rd g = s.rd g := by
  unfold State.tempMark
  dsimp only
  split
  · rw [State.rd_wr_ne _ _ (ne_of_sampleField hg hhwm), State.rd_wr_ne _ _ (ne_of_sampleField hg htemp)]
  · exact State.rd_wr_ne _ _ (ne_of_sampleField hg htemp)

theorem State.rd_startStep_sample (k : Nat) : (s.startStep k).rd g = s.rd g := by
  unfold State.startStep State.orderStop
  have hcount : g.addr ≠ Reg.RGN_STEP_CNT k := ne_of_sampleField hg (by unfold Reg.RGN_STEP_CNT; omega)
  split_ifs
  · rfl
  · rw [State.rd_count_ne _ _ hcount, State.rd_setRg]
  · rw [State.rd_count_ne _ _ hcount, State.rd_setRg]

theorem State.rd_thermStep_sample (k : Nat) : (s.thermStep k).rd g = s.rd g := by
  have hstatus : g.addr ≠ (Reg.RGN_STATUS_STEP_THERM k).addr :=
    ne_of_sampleField hg (show _ < Reg.RGN_STATUS k by unfold Reg.RGN_STATUS; omega)
  unfold State.thermStep
  dsimp only
  split_ifs
  · rw [State.rd_startStep_sample hg, State.rd_setRg, State.rd_wr_ne _ _ hstatus]
  · rw [State.rd_setRg, State.rd_wr_ne _ _ hstatus]

theorem State.rd_regionTemp_sample (k : Nat) (x : Int) : (s.regionTemp k x).rd g = s.rd g := by
  have hmark : 0x100030 < Reg.PWR_TEMP_RGN k := by unfold Reg.PWR_TEMP_RGN; omega
  have hlimits : ∀ f, ((s.tempMark (Reg.PWR_TEMP_RGN_TEMP k) (Reg.PWR_TEMP_RGN_HWM k) x).limits k x 105 115 1 f).rd g =
      s.rd g := fun f => by
    rw [State.rd_limits_sample hg, State.rd_tempMark_sample hg hmark hmark]
  unfold State.regionTemp
  dsimp only
  split_ifs <;> simp only [State.rd_thermStep_sample hg, State.rd_setRg, hlimits]

theorem State.rd_dieTemp_sample (k : Nat) (x : Int) : (s.dieTemp k x).rd g = s.rd g := by
  have hdie : g.addr ≠ (⟨Reg.PWR_TEMP_DIE, 8 * k + 7, 8 * k⟩ : Fld).addr :=
    ne_of_sampleField hg (show _ < Reg.PWR_TEMP_DIE by decide)
  rw [State.dieTemp, State.rd_limits_sample hg, State.rd_wr_ne _ _ hdie]

theorem State.rd_engineTemp_sample (k : Nat) (x : Int) : (s.engineTemp k x).rd g = s.rd g := by
  have hmark : 0x100030 < Reg.PWR_TEMP_OE k := by unfold Reg.PWR_TEMP_OE; omega
  rw [State.engineTemp, State.rd_limits_sample hg, State.rd_tempMark_sample hg hmark hmark]

theorem State.rd_retrainDue_sample (k kind : Nat) : (s.retrainDue k kind).rd g = s.rd g := by
  have hstatus : g.addr ≠ Reg.HBM_STATUS k := ne_of_sampleField hg (by unfold Reg.HBM_STATUS; omega)
  unfold State.retrainDue
  dsimp only
  rw [State.rd_wr_ne _ _ hstatus, State.rd_wr_ne _ _ hstatus]

theorem State.rd_stackTemp_sample (k : Nat) (x : Int) : (s.stackTemp k x).rd g = s.rd g := by
  have hstatus : g.addr ≠ (Reg.HBM_STATUS_TEMP k).addr :=
    ne_of_sampleField hg (show _ < Reg.HBM_STATUS k by unfold Reg.HBM_STATUS; omega)
  have hlimits : ∀ f, ((s.wr (Reg.HBM_STATUS_TEMP k) (ofSigned 8 x)).limits (32 + k) x 95 105 3 f).rd g = s.rd g := fun f => by
    rw [State.rd_limits_sample hg, State.rd_wr_ne _ _ hstatus]
  unfold State.stackTemp
  dsimp only
  split_ifs
  · rfl
  · rw [State.rd_retrainDue_sample hg, hlimits]
  · exact hlimits _

end

section
variable {s u : State}

theorem State.rd_lower_ne {f g : Fld} (v : Nat) (h : g.addr ≠ f.addr) : (s.lower f v).rd g = s.rd g := by
  rw [State.rd_eq, State.rd_eq, s.reg_lower_ne v h]

/-- The readings that a sample writes before the marks and the temperatures. -/
def State.sampled (s : State) (x : Sensors) : State :=
  ((((s.wr Reg.PWR_COOL_INLET (ofSigned 8 x.inlet)).wr Reg.PWR_COOL_OUTLET (ofSigned 8 x.outlet)).wr
    Reg.PWR_INPUT_VOLTAGE x.voltage).wr Reg.PWR_INPUT_CURRENT x.current).wr Reg.PWR_INPUT_POWER x.power

/-- What follows a sample's readings writes none of its fields again. -/
theorem execSensorSample_keeps {x : Sensors} (hlive : s.live = true) :
    ∃ t, exec (.sensorSample x) s = .next t ∧ ∀ g ∈ sampleFields, t.rd g = (s.sampled x).rd g := by
  have harm : exec (.sensorSample x) s = execSensorSample x s := rfl
  rw [harm, execSensorSample, if_neg (by rw [hlive]; decide)]
  refine ⟨_, rfl, fun g hg => ?_⟩
  have hmarks : ∀ g ∈ sampleFields, g.addr ≠ Reg.PWR_INPUT_HWM := by decide
  have hmark := hmarks g hg
  have hmax : 0x100030 < Reg.PWR_TEMP_MAX := by decide
  dsimp only
  rw [State.rd_tempMark_sample hg hmax hmax, State.rd_wr_ne _ _ (ne_of_sampleField hg hmax),
    State.rd_forEach fun s k => State.rd_stackTemp_sample hg k _,
    State.rd_forEach fun s k => State.rd_engineTemp_sample hg k _,
    State.rd_forEach fun s k => State.rd_dieTemp_sample hg k _,
    State.rd_forEach fun s k => State.rd_regionTemp_sample hg k _,
    State.rd_lower_ne _ hmark, State.rd_raise_ne _ _ hmark, State.rd_raise_ne _ _ hmark, State.sampled]

/-- A sample of the sensors shows the coolant's temperatures and the input's voltage. -/
theorem execSensorSample_shows {x : Sensors} (hlive : s.live = true) : ∃ t, exec (.sensorSample x) s = .next t ∧
    t.rd Reg.PWR_COOL_INLET = ofSigned 8 x.inlet % 256 ∧ t.rd Reg.PWR_COOL_OUTLET = ofSigned 8 x.outlet % 256 ∧
    t.rd Reg.PWR_INPUT_VOLTAGE = x.voltage % 2 ^ 16 := by
  obtain ⟨t, hexec, hkept⟩ := execSensorSample_keeps (s := s) (x := x) hlive
  refine ⟨t, hexec, (hkept _ (by decide)).trans ?_, (hkept _ (by decide)).trans ?_, (hkept _ (by decide)).trans ?_⟩
  · rw [State.sampled]
    simp (disch := decide) only [State.rd_wr_ne, State.rd_wr_apart, State.rd_wr_same]
    rfl
  · rw [State.sampled]
    simp (disch := decide) only [State.rd_wr_ne, State.rd_wr_same]
    rfl
  · rw [State.sampled]
    simp (disch := decide) only [State.rd_wr_apart, State.rd_wr_same]
    rfl

/-! ### Shutdown -/

section
variable {k t : Nat} (hdue : s.shutDue = false) (hshut : s.pwr.shut = some (k, t)) (ht : t ≤ s.cyc)
  (hu : u = (if s.rdb Reg.FLT_STATUS_MODULE_FATAL then s.wr Reg.PWR_STATUS_SHUTDOWN 1 else s).forEach (shutGroups k)
    State.groupOff)
include hdue hshut ht hu

theorem execDomainShutdown_of_due : exec .domainShutdown s = .next
    (if k < 3 then { u with pwr := { u.pwr with shut := some (k + 1, t + 1000) } }
     else if u.rdb Reg.PWR_STATUS_PWR_EN then { u with pwr := { u.pwr with shut := none } } else u.aonLost true false 3) := by
  have harm : exec .domainShutdown s = execDomainShutdown s := rfl
  rw [harm, execDomainShutdown, hdue, if_neg Bool.false_ne_true]
  dsimp only
  rw [hshut]
  dsimp only
  rw [if_neg (Nat.not_lt.2 ht), ← hu, apply_ite Host.Outcome.next, apply_ite Host.Outcome.next]

theorem execDomainShutdown_of_group (hk : k < 3) :
    exec .domainShutdown s = .next { u with pwr := { u.pwr with shut := some (k + 1, t + 1000) } } := by
  rw [execDomainShutdown_of_due hdue hshut ht hu, if_pos hk]

theorem execDomainShutdown_of_last (hk : 3 ≤ k) : exec .domainShutdown s = .next
    (if u.rdb Reg.PWR_STATUS_PWR_EN then { u with pwr := { u.pwr with shut := none } } else u.aonLost true false 3) := by
  rw [execDomainShutdown_of_due hdue hshut ht hu, if_neg (Nat.not_lt.2 hk)]

end

/-! ### The driver's switches and COOL_OK -/

section
variable (hlive : s.live = true)
include hlive

theorem execPalmOff_of_live (off : Bool) (m : BitVec 8) : exec (.palmOff off m) s = .next (s.pwrCtrl off m.toNat) := by
  have harm : exec (.palmOff off m) s = execPalmOff off m s := rfl
  rw [harm, execPalmOff, s.busWrite_of_on hlive rfl]

theorem execStackOff_of_live (off : Bool) (m : BitVec 8) : exec (.stackOff m off) s = .next (s.pwrCtrl off m.toNat) := by
  have harm : exec (.stackOff m off) s = execStackOff m off s := rfl
  rw [harm, execStackOff, s.busWrite_of_on hlive rfl]

theorem execCoolOkHigh_of_live :
    exec .coolOkHigh s = .next (((s.wr Reg.PWR_STATUS_COOL_OK 1).wr Reg.PWR_STATUS_COOL_FILT 1).powerNext s.cyc) := by
  have harm : exec .coolOkHigh s = execCoolOkHigh s := rfl
  rw [harm, execCoolOkHigh, if_neg (by rw [hlive]; decide)]

theorem execCoolOkLow_of_live (hu : u = ((s.wr Reg.PWR_STATUS_COOL_OK 0).wr Reg.PWR_STATUS_COOL_FILT 0).holdPalmGroup.showWaits) :
    exec .coolOkLow s = .next
      (if s.rdb Reg.PWR_STATUS_COOL_FILT && (List.range 16).any fun d => nbit (u.rd Reg.PWR_DOMAIN_ON) d then
        u.fault { code := 0x0503, block := 1, cause := 1 } else u) := by
  have harm : exec .coolOkLow s = execCoolOkLow s := rfl
  rw [harm, execCoolOkLow, if_neg (by rw [hlive]; decide)]
  dsimp only
  rw [← hu, apply_ite Host.Outcome.next]

theorem execCoolOkGlitch_of_high (hhigh : s.rdb Reg.PWR_STATUS_COOL_FILT = true) :
    exec .coolOkGlitch s = .next (s.count Reg.PWR_COOL_GLITCH_CNT 1) := by
  have harm : exec .coolOkGlitch s = execCoolOkGlitch s := rfl
  rw [harm, execCoolOkGlitch, if_pos (by rw [hlive, hhigh]; rfl)]

end

end

/-- Settles O42: a clause per command; what follows a sample's readings writes none of its fields again. -/
theorem domainCommandsComplete : Obligations.DomainCommandsComplete :=
  ⟨fun _ _ _ _ hdue hshut ht hk hu => execDomainShutdown_of_group hdue hshut ht hu hk,
    fun _ _ _ _ hdue hshut ht hk hu => execDomainShutdown_of_last hdue hshut ht hu hk,
    fun _ off m hlive => execPalmOff_of_live hlive off m, fun _ off m hlive => execStackOff_of_live hlive off m,
    fun _ => execCoolOkHigh_of_live, fun _ _ => execCoolOkLow_of_live, fun _ => execCoolOkGlitch_of_high,
    fun _ _ => execSensorSample_shows⟩

end Sys2Proof.Machine
end
